-- ==== Sys2Proof/Word.lean ====
section
/-!
DEFINITION. The word types of the model: bytes, 16-bit, 32-bit and 64-bit words, byte strings, and tables that are
sparse in their key (registers, key slots, queues, classification entries ...), kept in one canonical form.
-/
namespace Sys2Proof

/-- One byte (R7). -/
abbrev Byte := BitVec 8
/-- A 32-bit register or index (R12, R264). -/
abbrev W32 := BitVec 32
/-- A 64-bit count or word. -/
abbrev W64 := BitVec 64
/-- A byte string, byte 0 first (R7). -/
abbrev Bytes := List Byte

/-- A table that is sparse in its key: keys strictly rising, and no entry equal to what an unlisted key reads as. -/
abbrev Sparse (α : Type) := List (Nat × α)

end Sys2Proof
end

