-- ==== Sys2Proof/Syntax.lean ====
section
/-!
DEFINITION. The commands of the block: one constructor per row of the table of operations and events, with the operands
that the outside world supplies. A work-entry command names the completion-tracker slot that holds its entry (log entry 1).
-/
namespace Sys2Proof

/-- What reads of a queue's memory return: PROD_IDX of its QCB, and the 64-byte slots from the fetch index on. -/
structure QueueView where
  prod : W32
  slots : List Bytes
  deriving DecidableEq, Repr

/-- A fragment-list entry as read (R268): 16 bytes; and the input bytes that its fragments hold, joined. -/
structure GatherView where
  frags : List Bytes
  data : Bytes
  deriving DecidableEq, Repr

/-- Why a transfer failed: CAUSE of DMA.CHAN_STATUS (Table 11.7). -/
inductive FailCause where
  | timeout | unsupported | completerAbort | poisoned | linkDown | integrity | flushing
  deriving DecidableEq, Repr

/-- What kind of transfer failed: KIND of DMA.CHAN_STATUS (Table 11.7). -/
inductive XferKind where
  | entryRead | qcbRead | listRead | inputRead | outputWrite | statusWrite | device
  deriving DecidableEq, Repr

/-- An uncorrectable HBM read that a step meets (R478): its PA, and whether the stack reported uncorrectable too. -/
structure HbmUe where
  pa : Nat
  inner : Bool
  deriving DecidableEq, Repr

/-- What an HBM access of a step meets (R478): a clean line, a line corrected by the outer or by the inner code, or an uncorrectable one. -/
inductive HbmRead where
  | clean
  | corrected (outer : Bool)
  | uncorrectable (ue : HbmUe)
  deriving DecidableEq, Repr

/-- A trunk frame whose effect reads HBM, with what that read meets. -/
structure StoredFrame where
  frame : Bytes
  read : HbmRead
  deriving DecidableEq, Repr

/-- How a line frame comes from its port (R316, R438): sound, with an FCS error, or failing the integrity code of the interconnect. -/
inductive FrameCheck where
  | sound | fcsError | integrityError
  deriving DecidableEq, Repr

/-- The slacks of one period of the AVS loop, in ps: those of the Comb's monitors, two to a cell group, and the least of all others of powered
blocks (R511). -/
structure Slacks where
  comb : List Int
  others : Int
  deriving DecidableEq, Repr

/-- The uncorrectable read, if it is one. -/
def HbmRead.failed : HbmRead → Option HbmUe
  | .uncorrectable u => some u
  | _ => none

/-- How a class C body fares (R161, R175): sound, its invariant fails, a register or memory check value mismatches, or a
result point is off its curve. -/
inductive BodyCheck where
  | sound | invariant | integrity | curvePoint
  deriving DecidableEq, Repr

/-- What interrupts an instruction (R84), preemption apart. -/
inductive Interrupt where
  | underrun | corrected
  deriving DecidableEq, Repr


/-- What a tamper tick samples (Table 17.1): the main-power tick of 1 µs, the 1 ms tick of source 5, or the understorey tick. -/
inductive TamperTick where
  /-- a mesh mismatch; the light detectors' readings; VDD in codes of 0.5 mV, and whether its fast comparators tripped; the REFCLK offset
  in ppm, and whether a period was out of range or the root PLL unlocked -/
  | main (mesh : Bool) (light : List Nat) (vdd : Nat) (vddFast : Bool) (clock : Int) (clockFast : Bool)
  | burst
  /-- levels of TMP_IN0 to TMP_IN3; die temperature below −55 °C, above 130 °C; no crystal edge for 128 µs; VBAT below 2.3 V; crystal
  edges since the last tick -/
  | understorey (inputs : Nat) (tempLow tempHigh xtalStop vbatLow : Bool) (edges : Nat)
  deriving DecidableEq, Repr

/-- One bank of the flash: its directory's images, as stored (R60 to R62). -/
structure FlashBank where
  fw : Bytes := []
  layout : Bytes := []
  mcode : Bytes := []
  patches : List Bytes := []
  deriving DecidableEq, Repr

/-- The external flash: its directory, its two banks and the bank the directory names as active (R60). -/
structure Flash where
  directory : Bytes := []
  bankA : FlashBank := {}
  bankB : FlashBank := {}
  activeB : Bool := false
  deriving DecidableEq, Repr

/-- What the factory burns into OTP before a device is BLANK's: serial, vendor image key hash and vendor image secret (R56, R57). -/
structure Factory where
  serial : BitVec 64
  vendorKeyHash : Bytes
  vendorImageSecret : Bytes
  deriving DecidableEq, Repr

/-- What a boot finds outside the logic: the flash, if it was written outside the device since the last boot; the factory's OTP content,
which takes effect while that is blank; the straps (R540); and whether the check values of the battery SRAM hold: of any of it, of the BVR,
of the anchor (R452). -/
structure Board where
  flash : Option Flash := none
  factory : Option Factory := none
  straps : Nat := 0
  sram : Bool := false
  bvr : Bool := false
  anchor : Bool := false
  deriving DecidableEq, Repr

/-- The commands, in the order of the table. -/
inductive Instr where
  /-- R14: A write to a register that has no row of its own takes effect as its access type states. -/
  | registerWrite (key : Nat) (value : W32)
  /-- R12: A BAR0 access that is not a naturally aligned 32-bit access: a read completes with Unsupported Request, a write is discarded, and the access is logged. -/
  | wrongSizeAccess (func : Nat) (offset : Nat) (size : Nat) (isWrite : Bool)
  /-- R20: An access to a block that the power state has powered down: a read returns zero, a write is discarded, and the access is logged. -/
  | poweredDownAccess (offset : Nat) (isWrite : Bool)
  /-- R22: A write of GCTL.CTRL.LINE_EN enables line forwarding, or drops all line frames from the next frame start. -/
  | lineEnWrite (value : W32)
  /-- R21: A line frame received on a port group is screened, classified, given its SA and MAU processing, and queued towards its paired port. -/
  | frameReceive (group : Nat) (port : Nat) (frame : Bytes) (check : FrameCheck) (began : Bool)
  /-- R330: A frame that missed the SA cache resumes once its context has been fetched from HBM. -/
  | saContextFetchDone (sa : Nat) (read : HbmRead)
  /-- R374: A held one-step PTP message is launched at ingress stamp plus TC_LAUNCH, or dropped if late. -/
  | tcLaunch (frame : Nat) (onTime : Bool)
  /-- R372: A held two-step residence entry lapses after 1 s. -/
  | tcEntryLapse (pair : Nat) (fromLine : Bool)
  /-- R391: A frame's last byte leaves, or it is dropped, and its journal record is completed. -/
  | frameEgressEnd (frame : Nat)
  /-- R396: A checkpoint is taken when 65,536 records have been chained since the previous one. -/
  | checkpointCount
  /-- R396: A checkpoint is taken when 100 ms have passed since the previous checkpoint or exit from P3. -/
  | checkpointTimer
  /-- R399: A neighbour that has not countersigned within CSIG_TMO is marked TIMEOUT. -/
  | csigTimeout (cp : Nat) (west : Bool)
  /-- R402: The EVJ copies the next record or checkpoint entry to its PF0 export ring once there is room. -/
  | exportCopy (cp : Bool) (read : HbmRead)
  /-- R402: A write of 1 to REC_EN or CP_EN sets that ring's PROD and CONS to 0 and resumes copying. -/
  | expCtrlWrite (value : W32)
  /-- R63: PORST_N rises and boot runs through the steps of Table 2.7. -/
  | porstRise (board : Board)
  /-- R481: HBM training of the stacks ends, or a stack fails twice and boot stops. -/
  | hbmTrainingDone (first : BitVec 4) (second : BitVec 4)
  /-- R488: A rail of groups 1 to 3 falls below its valid threshold and the device holds itself in cold reset. -/
  | supplyMonitorReset (valid : W32)
  /-- R492: PORST_N goes low and the device enters cold reset. -/
  | porstFall
  /-- R541: TESTMODE high holds the device in cold reset. -/
  | testmodeAssert
  /-- R451: VDD_UST falls below 1.62 V and the understorey switches to VBAT. -/
  | mainPowerLoss
  /-- R451: After VDD_UST has been at least 1.68 V for 1 ms the understorey returns to it. -/
  | vddUstReturn
  /-- R493: A write of PWR.RESET_CTRL.WARM runs a warm reset. -/
  | warm (value : W32)
  /-- R494: PERST_N goes low: the link goes down and every function is reset. -/
  | perstAssert
  /-- R494: PERST_N rises and the link trains again. -/
  | perstDeassert
  /-- R491: Loss of the PCIe reference takes the link down and clears PCIE_REF_OK. -/
  | pcieRefLoss
  /-- R507: Every 1 ms the die sensors are sampled and the thermal limit is entered or cleared. -/
  | thermalSample (groups : List Int) (others : Int)
  /-- R502: Changes the power state to P0 to P4 or applies a new P1 selection. -/
  | setPowerState (slot : Nat)
  /-- R500: Returns the power state, target, selection and thermal state. -/
  | powerQuery (slot : Nat)
  /-- R502: DRAIN_MS passes during a MODE 0 change and what still runs on units going off is aborted. -/
  | drainTimeout
  /-- R503: A power-state change completes once the new state is in force. -/
  | powerStateChangeDone
  /-- R69: Returns the life-cycle state, raw codes, marks and boot status. -/
  | lcsQuery (slot : Nat)
  /-- R42: Runs a permitted life-cycle transition with its progress mark and steps. -/
  | lcsTransition (slot : Nat) (good : Bool)
  /-- R54: Returns a fresh 64-byte LCS challenge. -/
  | lcsChallenge (slot : Nat)
  /-- R54: An LCS challenge lapses 60 s after issue. -/
  | challengeLapse
  /-- R42: The one-shot RETURN authorisation lapses 60 s after its ceremony. -/
  | returnAuthLapse
  /-- R55: On valid signatures, aborts work, erases keys, substitutes the test root and opens debug. -/
  | debugUnlock (slot : Nat)
  /-- R55: Closes the debug TAP instructions at once. -/
  | debugLock (slot : Nat)
  /-- R60: Checks an image and writes it into the inactive flash bank. -/
  | imageStage (slot : Nat)
  /-- R60: Makes the inactive bank active from the next cold reset. -/
  | imageActivate (slot : Nat)
  /-- R59: Raises the OTP minimum SVN of a type to the loaded image's SVN. -/
  | svnAdvance (slot : Nat)
  /-- R67: A write of RECOVERY_CTRL.START begins a recovery load, or sets ERROR for a bad length. -/
  | recoveryStart (value : W32)
  /-- R67: A write of RECOVERY_DATA stores the next image word. -/
  | recoveryDataWrite (value : W32)
  /-- R67: A write of RECOVERY_CTRL.DONE checks the loaded image and runs it, or sets ERROR. -/
  | recoveryDone (value : W32)
  /-- R88: The forager admits the next waiting operation and places it on an eligible engine. -/
  | operationPlace
  /-- R86: An operation that has waited AGE_US at one priority rises by one. -/
  | priorityAging (op : Nat)
  /-- R92: A priority-3 operation that has waited PREEMPT_WAIT preempts the longest-running lower class P operation. -/
  | preemption
  /-- R94: At a grid tick waiting class C operations start and a pending grid change takes effect. -/
  | gridTick
  /-- R96: A class P program ends, its result is written and the engine marks its memory. -/
  | classPEnd (op : Nat) (read : HbmRead)
  /-- R161: A class C body ends and checks its invariant before commit; its result waits for release. -/
  | classCBodyEnd (op : Nat) (check : BodyCheck) (read : HbmRead)
  /-- R96: At start plus D(op) a class C result is handed to DMA and written. -/
  | classCRelease (op : Nat)
  /-- R99: An engine's 2,048-cycle wipe ends and it can take new work. -/
  | engineWipeEnd (engine : Nat)
  /-- R84: A mask underrun, corrected operand error or preemption restarts the current instruction within its restart limits. -/
  | instructionInterrupt (engine : Nat) (cause : Interrupt) (committed : Bool)
  /-- R85: An uncorrectable operand-memory read ends the operation with FAULT_DETECTED and wipes the engine. -/
  | operandMemoryUe (engine : Nat)
  /-- R114: An uncorrectable control-store word ends the operation, withdraws the engine and reloads its stores. -/
  | controlStoreUe (engine : Nat) (master : Bool)
  /-- R123: A class P instruction that runs 2^24 cycles without END ends with FAULT_DETECTED. -/
  | watchdog (engine : Nat)
  /-- R121: An iteration segment starting its ITER_MAX+1-th pass ends the operation with FAULT_DETECTED. -/
  | iterLimit (engine : Nat)
  /-- R98: A write of FGS.RELEASE_GRID sets GRID_PENDING and stops class C starts until the change applies. -/
  | releaseGridWrite (value : W32)
  /-- R104: A write of FGS.ST_PERIOD cancels the running interval and restarts it. -/
  | stPeriodWrite (value : W32)
  /-- R104: Every ST_PERIOD seconds the forager withdraws the next engine for a known-answer test. -/
  | periodicSelftest
  /-- R106: An engine's known-answer test ends: it is wiped and returned, or fenced with ENGINE_FAULT. -/
  | selftestDone (engine : Nat) (pass : Bool)
  /-- R108: Tests one engine, one kind or every engine and reports failures. -/
  | selftestRun (slot : Nat)
  /-- R109: Fences an engine once its running operation ends. -/
  | engineFence (slot : Nat)
  /-- R109: Runs the known-answer test on a FENCED engine and returns it to READY if it passes. -/
  | engineUnfence (slot : Nat)
  /-- R141: Generates an ML-KEM key into a slot and writes the encapsulation key. -/
  | mlkemKeygen (slot : Nat)
  /-- R142: Encapsulates to an ML-KEM key and returns ciphertext and shared secret. -/
  | mlkemEncaps (slot : Nat)
  /-- R143: Decapsulates an ML-KEM ciphertext with implicit rejection. -/
  | mlkemDecaps (slot : Nat)
  /-- R144: Generates an ML-DSA seed into a slot and writes the public key. -/
  | mldsaKeygen (slot : Nat)
  /-- R145: Signs a message or digest with ML-DSA, iterating the rejection loop. -/
  | mldsaSign (slot : Nat)
  /-- R147: Verifies an ML-DSA signature. -/
  | mldsaVerify (slot : Nat)
  /-- R148: Generates an SLH-DSA key into a slot. -/
  | slhdsaKeygen (slot : Nat)
  /-- R149: Signs with SLH-DSA over d hypertree layers. -/
  | slhdsaSign (slot : Nat)
  /-- R150: Verifies an SLH-DSA signature. -/
  | slhdsaVerify (slot : Nat)
  /-- R151: Generates an LMS private key with TREE_STATE 0. -/
  | lmsKeygen (slot : Nat)
  /-- R152: Builds one block of an LMS tree cache and, for the last block, the root and public key. -/
  | lmsTreeBuild (slot : Nat)
  /-- R154: Assigns the next confirmed LMS leaf and signs with it. -/
  | lmsSign (slot : Nat)
  /-- R155: An LMS reservation block is confirmed once its record write is flushed and, with a ring, mirrored. -/
  | lmsBlockConfirm (keySlot : Nat)
  /-- R155: An LMS_SIGN that waited 1 ms for a confirmed leaf completes with MIRROR_UNCONFIRMED. -/
  | lmsLeafWaitTimeout (slot : Nat)
  /-- R158: Verifies an LMS signature. -/
  | lmsVerify (slot : Nat)
  /-- R158: Verifies an HSS signature. -/
  | hssVerify (slot : Nat)
  /-- R159: Generates an HQC key into a slot. -/
  | hqcKeygen (slot : Nat)
  /-- R159: Encapsulates to an HQC key. -/
  | hqcEncaps (slot : Nat)
  /-- R159: Decapsulates an HQC ciphertext with implicit rejection. -/
  | hqcDecaps (slot : Nat)
  /-- R172: Generates a P-curve key into a slot. -/
  | ecKeygen (slot : Nat)
  /-- R172: Signs a digest with ECDSA. -/
  | ecdsaSign (slot : Nat)
  /-- R172: Verifies an ECDSA signature. -/
  | ecdsaVerify (slot : Nat)
  /-- R172: Computes an ECDH shared secret with a slot key. -/
  | ecdh (slot : Nat)
  /-- R172: Generates an EdDSA key into a slot. -/
  | edKeygen (slot : Nat)
  /-- R172: Signs with Ed25519 or Ed448. -/
  | edSign (slot : Nat)
  /-- R172: Verifies an EdDSA signature. -/
  | edVerify (slot : Nat)
  /-- R172: Generates an X25519 or X448 key into a slot. -/
  | xdhKeygen (slot : Nat)
  /-- R172: Runs the X25519 or X448 ladder against a peer u. -/
  | xdh (slot : Nat)
  /-- R172: Signs a digest with an RSA key under PSS or PKCS#1 v1.5. -/
  | rsaSign (slot : Nat)
  /-- R172: Verifies an RSA signature. -/
  | rsaVerify (slot : Nat)
  /-- R173: Decrypts an RSA-OAEP ciphertext with one status for every decoding failure. -/
  | rsaOaepDecrypt (slot : Nat)
  /-- R172: Encrypts a message under RSA-OAEP. -/
  | rsaOaepEncrypt (slot : Nat)
  /-- R181: Every 1 µs each jitter pair yields a raw bit that passes the health tests. -/
  | pairSample (pair : Nat) (bit : Bool)
  /-- R183: After 1,024 raw bits the conditioner outputs a block and allocates it to the first requester. -/
  | blockConditioned
  /-- R185: At a mask-channel reseed point the channel takes a queued seed, or enters HOLD or stops. -/
  | channelReseed (channel : Nat)
  /-- R189: After 2^20 calls or 1 s a DRBG instance asks for a reseed. -/
  | drbgReseedDue (inst : Nat)
  /-- R189: After 2^24 calls or 60 s without reseed a DRBG instance stops serving. -/
  | drbgStop (inst : Nat)
  /-- R196: A held operation or DRBG user whose STALL_TMO runs out completes with ENTROPY_UNAVAILABLE. -/
  | stallTimeout (slot : Nat)
  /-- R191: A pair's start-up test ends and the pair enters service or stays out. -/
  | startupTestEnd (pair : Nat)
  /-- R194: A write of RNG.CTRL.MIN_PAIRS can bring ENTROPY_FAULT into force or end it at once. -/
  | minPairsWrite (value : W32)
  /-- R198: Instance 3 delivers four words to the next function FIFO with room. -/
  | rngFifoRefill
  /-- R198: A read of RNG.DATA consumes a random word, or underruns. -/
  | rngDataRead
  /-- R198: A read of VF.RNG_DATA consumes a random word of the VF FIFO, or underruns. -/
  | vfRngDataRead (func : Nat)
  /-- R200: Returns LEN random bytes from DRBG instance 2. -/
  | rngGenerate (slot : Nat)
  /-- R200: Returns raw health-tested samples of one pair. -/
  | rngRawRead (slot : Nat)
  /-- R201: Runs the start-up test on a pair to bring it back into service. -/
  | rngPairRestore (slot : Nat)
  /-- R231: Sets the template of an empty, unclaimed, unlocked slot. -/
  | keyPrepare (slot : Nat)
  /-- R217: Generates an AES or SECRET key into a prepared slot. -/
  | keyGenerate (slot : Nat)
  /-- R224: Imports key content in plain form into a prepared slot. -/
  | keyImport (slot : Nat)
  /-- R219: Derives a key into a destination slot with an SP 800-108 KDF. -/
  | keyDerive (slot : Nat)
  /-- R220: Wraps a slot key with AES-KWP under a wrapping key. -/
  | keyWrap (slot : Nat)
  /-- R221: Unwraps a blob into a prepared destination slot. -/
  | keyUnwrap (slot : Nat)
  /-- R231: Clears a slot's content and optionally its template. -/
  | keyDelete (slot : Nat)
  /-- R231: Clears usage bits of a slot and optionally locks it. -/
  | keyRestrict (slot : Nat)
  /-- R231: Returns a slot's attribute word and check value. -/
  | keyQuery (slot : Nat)
  /-- R211: Sets a function's key-slot range and PLAIN_IMPORT. -/
  | keyRangeSet (slot : Nat)
  /-- R215: Draws a new BVR and so a new owner root. -/
  | keyBvrInit (slot : Nat)
  /-- R227: A device slot that failed its integrity check is derived again within 1 ms. -/
  | deviceSlotRederive (keySlot : Nat)
  /-- R237: Hashes a stream to host memory or a measurement register. -/
  | hash (slot : Nat)
  /-- R240: Computes an HMAC with a slot key to memory, a register or a slot. -/
  | hmac (slot : Nat)
  /-- R241: Computes and compares an HMAC tag in constant time. -/
  | hmacVerify (slot : Nat)
  /-- R242: Computes KMAC or KMACXOF with a slot key. -/
  | kmac (slot : Nat)
  /-- R244: Extends a host measurement register with a 48-byte value. -/
  | mrgExtend (slot : Nat)
  /-- R254: Streams data through a check-value unit and optionally compares the result. -/
  | cvuRun (slot : Nat)
  /-- R244: A write of DGE.MRG_CTRL.LOCK fixes MRG_ALG until cold reset. -/
  | mrgLock (value : W32)
  /-- R252: A write of CVU CTRL.START loads VALUE from INIT. -/
  | cvuStart (unit : Nat) (value : W32)
  /-- R253: A write of CVU CTRL.CHECK compares RESULT with EXPECT and may interrupt. -/
  | cvuCheck (unit : Nat) (value : W32)
  /-- R252: A write of DATA8 advances VALUE by one byte. -/
  | cvuData8Write (unit : Nat) (value : W32)
  /-- R252: A write of DATA32 advances VALUE by four bytes. -/
  | cvuData32Write (unit : Nat) (value : W32)
  /-- R272: A doorbell write reads PROD_IDX and scans the queue, fetching current entries. -/
  | doorbell (func : Nat) (qid : Nat) (view : QueueView)
  /-- R273: Every 1 µs the QEN rereads a slot whose PHASE was not current, up to 16 times. -/
  | phaseRetry (func : Nat) (qid : Nat) (view : QueueView)
  /-- R276: A scan that waited for a tracker slot resumes when one frees within quota. -/
  | scanResume (func : Nat) (qid : Nat) (view : QueueView)
  /-- R296: DMA completes gathering an entry's input and the operation proceeds. -/
  | dmaReadComplete (slot : Nat) (view : GatherView)
  /-- R278: The flushing read of a BARRIER entry returns and the entry may retire. -/
  | flushingReadReturn (func : Nat) (qid : Nat) (index : W32)
  /-- R277: The G4320 writes an advanced HEAD_IDX to the QCB and signals IRQ entries. -/
  | headIdxWrite (func : Nat) (qid : Nat)
  /-- R282: A write of ADMQ_CTRL.ENABLE = 1 enables the admin queue or sets CFG_ERR. -/
  | admqEnable (func : Nat) (value : W32)
  /-- R282: A write of ADMQ_CTRL.ENABLE = 0 disables the admin queue with the ABORT_MODE written. -/
  | admqDisable (func : Nat) (value : W32) (view : QueueView)
  /-- R284: Does nothing and completes at fetch. -/
  | nop (slot : Nat)
  /-- R285: Makes an ABSENT queue ENABLED with its ring and QCB. -/
  | queueCreate (slot : Nat)
  /-- R286: Moves a queue to DRAINING, finishing or aborting fetched entries. -/
  | queueDisable (slot : Nat) (view : QueueView)
  /-- R287: Makes an IDLE queue ENABLED again. -/
  | queueEnable (slot : Nat)
  /-- R287: Makes an IDLE queue ABSENT and returns its quota. -/
  | queueDestroy (slot : Nat)
  /-- R288: Aborts fetched entries and marks unfetched ones in a range of indices. -/
  | entryAbort (slot : Nat)
  /-- R284: Returns a queue's addresses, indices and state. -/
  | queueQuery (slot : Nat)
  /-- R260: A change of a function's Bus Master Enable holds or releases its requests and writes. -/
  | busMasterEnableChange (func : Nat) (enable : Bool)
  /-- R260: A function placed in D3hot with work outstanding is reset as by a function-level reset. -/
  | d3hotEntry (func : Nat)
  /-- R306: A function-level reset of a VF clears its queues, slots and channel as Table 11.4 gives. -/
  | vfFlr (func : Nat)
  /-- R307: A function-level reset of PF0 resets every function and the shared host settings. -/
  | pf0Flr
  /-- R307: Clearing VF Enable resets every VF. -/
  | vfEnableClear
  /-- R306: A function-level reset's work ends and FLR_ACTIVE returns to 0. -/
  | flrComplete (func : Nat)
  /-- R299: A transfer fails on error, timeout, link down or a failed flushing read and is scheduled for retry. -/
  | dmaTransferFail (func : Nat) (kind : XferKind) (cause : FailCause) (addr : Nat) (qid : Nat) (tag : Nat)
  /-- R300: After its wait a failed transfer is reissued, or the channel halts after the last retry. -/
  | dmaRetry (func : Nat) (landed : Bool)
  /-- R302: A write of DMA.CHAN_CTRL.CLEAR resumes a halted channel. -/
  | chanClear (value : W32)
  /-- R310: A write of DIRTY_CTRL.SYNC issues outstanding marks and a flushing read. -/
  | sync (value : W32)
  /-- R310: The sync flushing read returns and SYNC_DONE is set, or LOST on failure. -/
  | syncReadReturn (func : Nat) (ok : Bool)
  /-- R304: A write of VFC.SA_BASE stages a base without changing any range. -/
  | saBaseWrite (value : W32)
  /-- R304: A write of VFC.SA_COUNT applies the staged base and count to the selected function, or is refused. -/
  | saCountWrite (value : W32)
  /-- R317: A write of GROUP_CTRL.APPLY takes the group's links down and applies MODE, FEC25 and MEDIA. -/
  | applyGroup (group : Nat) (value : W32)
  /-- R317: The group's PCS are configured and APPLYING clears. -/
  | applyDone (group : Nat)
  /-- R333: A write of PORT_CFG.CLEAR zeroes the selected port's counters. -/
  | portCounterClear (group : Nat) (value : W32)
  /-- R333: A read of a 64-bit counter's LO word latches its HI word. -/
  | counterLoRead (key : Nat)
  /-- R318: A port or trunk link comes up once PCS, FEC and fault conditions hold. -/
  | linkUp (group : Nat) (port : Nat) (remoteFault : Bool)
  /-- R318: A port or trunk link falls and is counted in LINK_DOWNS. -/
  | linkDown (group : Nat) (port : Nat) (pcsLock : Bool) (fecLock : Bool) (localFault : Bool) (remoteFault : Bool)
  /-- R339: Installs an SA context from a descriptor and a key slot. -/
  | saInstall (slot : Nat)
  /-- R331: Unpins and removes an SA. -/
  | saRemove (slot : Nat)
  /-- R331: Pins or unpins an SA in the on-die cache. -/
  | saPin (slot : Nat)
  /-- R331: Returns an SA's installed, pinned and cached state. -/
  | saQuery (slot : Nat)
  /-- R332: Writes classification entries. -/
  | clsWrite (slot : Nat)
  /-- R331: Returns classification entries. -/
  | clsRead (slot : Nat)
  /-- R331: Sets VALID = 0 in a range of classification entries. -/
  | clsClear (slot : Nat)
  /-- R331: Returns counts of valid entries and of pinned and installed SAs. -/
  | clsInfo (slot : Nat)
  /-- R352: The next ratchet generation's key is derived and installed at its AN index. -/
  | ratchetDeriveDone (sa : Nat)
  /-- R354: OVERLAP_US after adoption the old generation's receive SA is removed. -/
  | ratchetOverlapEnd (sa : Nat)
  /-- R359: Every ST_PERIOD a pipeline runs its known-answer test in an idle slot, or defers it. -/
  | pipelineSelftest (pipe : Nat) (result : Option Bool)
  /-- R360: A write of LCE.PIPE_UNFENCE retests a pipeline and returns it if the test passes. -/
  | pipeUnfence (value : W32) (passes : W32)
  /-- R361: Encrypts with AES-GCM and appends the tag. -/
  | aesGcmEncrypt (slot : Nat)
  /-- R363: Decrypts with AES-GCM and writes plaintext only if the tag holds. -/
  | aesGcmDecrypt (slot : Nat)
  /-- R361: Computes an AES-GMAC tag. -/
  | aesGmacGen (slot : Nat)
  /-- R362: Verifies an AES-GMAC tag. -/
  | aesGmacVerify (slot : Nat)
  /-- R361: Applies AES-CTR to data. -/
  | aesCtr (slot : Nat)
  /-- R361: Encrypts with AES-CBC. -/
  | aesCbcEncrypt (slot : Nat)
  /-- R361: Decrypts with AES-CBC. -/
  | aesCbcDecrypt (slot : Nat)
  /-- R361: Encrypts one data unit with AES-XTS. -/
  | aesXtsEncrypt (slot : Nat)
  /-- R361: Decrypts one data unit with AES-XTS. -/
  | aesXtsDecrypt (slot : Nat)
  /-- R361: Wraps data with AES-KW. -/
  | aesKwWrap (slot : Nat)
  /-- R363: Unwraps data with AES-KW after its integrity check. -/
  | aesKwUnwrap (slot : Nat)
  /-- R361: Wraps data with AES-KWP. -/
  | aesKwpWrap (slot : Nat)
  /-- R363: Unwraps data with AES-KWP after its integrity check. -/
  | aesKwpUnwrap (slot : Nat)
  /-- R366: A write of TSU.RATE changes the counter increment from the next CLK_CTL edge. -/
  | rateWrite (value : W32)
  /-- R369: A write of TSU.SERVO_OFFSET reports the servo offset that sets the quality code. -/
  | servoOffsetWrite (value : W32)
  /-- R369: LOCK_TMO after the last SERVO_OFFSET write the quality code leaves 0x00 for holdover. -/
  | lockTimeout
  /-- R389: A read of TSU.TOD_NS latches the other time registers from the same edge. -/
  | todNsRead
  /-- R389: A write of CAP_CTRL.EN = 1 applies the depth and sets CAP_PROD and CAP_CONS to 0. -/
  | capCtrlEnable (value : W32)
  /-- R387: Returns the time of day, free-running count and witness state. -/
  | timeRead (slot : Nat)
  /-- R378: Steps the time of day relatively or absolutely at one CLK_CTL edge. -/
  | timeStep (slot : Nat)
  /-- R385: Starts calibration of the phase-witness converters against the internal reference. -/
  | phwCalibrate (slot : Nat)
  /-- R385: After 200 ms the witness adopts new coefficients, or fails, and returns to ACQUIRING. -/
  | phwCalibrationEnd (reading : Int) (offset : Int) (gain : Int)
  /-- R381: Each 100 ms window the witness computes magnitude, frequency and phase, changes state and judges the residual. -/
  | phwWindow (magA : Nat) (magB : Nat) (freq : Nat) (residual : Int)
  /-- R454: At each TSU second boundary with quality 0x00 the real-time clock loads the TSU seconds. -/
  | rtcSync
  /-- R404: Returns the journal public key, serial and TEST flag. -/
  | jrnPubkey (slot : Nat)
  /-- R404: Returns held journal records from FIRST_SEQ. -/
  | jrnRead (slot : Nat) (read : HbmRead)
  /-- R404: Takes a checkpoint and completes at its commit. -/
  | jrnCheckpoint (slot : Nat)
  /-- R404: Returns a checkpoint entry. -/
  | jrnReadCp (slot : Nat) (read : HbmRead)
  /-- R407: A write of TRK.CTRL.EN = 1 applies MODE and brings the trunk ports up. -/
  | trkEnable (value : W32)
  /-- R421: A write of TRK.CTRL.SOLO = 1 lets blocks be confirmed on reservation. -/
  | soloWrite (value : W32)
  /-- R413: Every 10 ms an unkeyed trunk link under a map sends HELLO. -/
  | helloSend (west : Bool)
  /-- R413: A received HELLO is checked and the lower position answers with HELLO_ACK. -/
  | hello (west : Bool) (frame : Bytes)
  /-- R413: A received HELLO_ACK is decapsulated and the link is keyed. -/
  | helloAck (west : Bool) (frame : Bytes)
  /-- R414: The keeper retries an uncommitted key epoch every 10 ms. -/
  | epochRetry
  /-- R415: Every 1 µs a keyed link sends a HEARTBEAT. -/
  | heartbeatSend (west : Bool)
  /-- R415: A received HEARTBEAT yields a link-delay sample. -/
  | heartbeat (west : Bool) (frame : Bytes)
  /-- R420: A received MIRROR message updates partner state and is acknowledged. -/
  | mirror (west : Bool) (arrival : StoredFrame)
  /-- R418: A received MIRROR_ACK confirms the blocks of every MIRROR up to its LSEQ. -/
  | mirrorAck (west : Bool) (frame : Bytes)
  /-- R418: An unacknowledged MIRROR is sent again after 4 µs, and after three retries the target is lost. -/
  | mirrorAckTimeout
  /-- R419: Under format 2 every 1 ms RX_STATE is sent for each mirrored receive SA. -/
  | rxStateSend
  /-- R422: A received PROBE is answered or relayed. -/
  | probe (west : Bool) (frame : Bytes)
  /-- R422: A received PROBE_REPLY marks a link fault and keeps the neighbour in service. -/
  | probeReply (west : Bool) (frame : Bytes)
  /-- R422: After SILENCE_US without a heartbeat a PROBE is sent the long way. -/
  | heartbeatSilence (west : Bool)
  /-- R422: No PROBE_REPLY within 24 µs declares the neighbour lost. -/
  | probeTimeout (west : Bool)
  /-- R423: Takeover installation completes and TAKEOVER_DONE and TOOK_OVER are set. -/
  | takeoverDone (bad : List Nat) (read : HbmRead)
  /-- R423: A received TAKEOVER_NOTICE is relayed round the ring. -/
  | takeoverNotice (west : Bool) (frame : Bytes)
  /-- R422: A received LEAVE declares the sender lost at once. -/
  | leave (west : Bool) (frame : Bytes)
  /-- R427: A received EPOCH_PREPARE is acted on per its kind and passed east. -/
  | epochPrepare (west : Bool) (frame : Bytes)
  /-- R427: A received EPOCH_COMMIT commits the epoch and is passed east. -/
  | epochCommit (west : Bool) (frame : Bytes)
  /-- R429: An epoch pass not returned within 3 × T_round is resent, and on a second failure the epoch fails. -/
  | epochPassTimeout
  /-- R427: 100 µs after a key epoch commits the old ring key is no longer accepted. -/
  | oldRingKeyExpire
  /-- R399: A received CSIG_REQ starts a countersignature Comb job. -/
  | csigReq (west : Bool) (frame : Bytes)
  /-- R400: A received CSIG_RESP stores the countersignature in its checkpoint entry. -/
  | csigResp (west : Bool) (frame : Bytes)
  /-- R412: Puts a ring map in force. -/
  | ringMapSet (slot : Nat)
  /-- R412: Sends LEAVE and discards the map, partner state and ring keys. -/
  | ringMapClear (slot : Nat)
  /-- R433: Returns the ring state. -/
  | ringStatus (slot : Nat)
  /-- R427: Starts a KEY, TIME or VERSION_COMMIT epoch from the keeper. -/
  | ringEpoch (slot : Nat)
  /-- R439: At each tick every source's detector is sampled, adaptive baselines updated and qualification judged. -/
  | tamperTick (tick : TamperTick)
  /-- R449: A tally bit burn completes and the latch count is decremented. -/
  | tallyBurnDone (group : Nat)
  /-- R444: A write of TEM.RESP_CLEAR.DEGRADE ends a DEGRADE response. -/
  | respClearDegrade (value : W32)
  /-- R445: A write of TEM.LOCK freezes source and threshold settings until cold reset. -/
  | temLock (value : W32)
  /-- R454: A write of UST.RTC_CTRL.SET loads the real-time clock and sets RTC_VALID. -/
  | rtcSet (value : W32)
  /-- R457: A read of UST.RTC_SUB latches the seconds. -/
  | rtcSubRead
  /-- R457: A read of UST.LOG_DATA0 latches LOG_DATA1 to LOG_DATA3. -/
  | logData0Read
  /-- R463: After 10 ms of debounce an inserted card sets PRESENT and INSERTED. -/
  | cardInsert (classB : Bool)
  /-- R463: CRD_PRES_N rising deactivates the card and ends the command with CARD_REMOVED. -/
  | cardRemove
  /-- R461: A T=1 block or ATR from the card is received and checked. -/
  | t1BlockReceive (block : Bytes) (parityOk : Bool)
  /-- R461: A BWT, CWT or WTX limit runs out on the card exchange. -/
  | t1WaitTimeout (ms : Nat)
  /-- R459: Powers and resets the card, takes its ATR and negotiates PPS. -/
  | cardActivate (slot : Nat)
  /-- R463: Deactivates the card. -/
  | cardDeactivate (slot : Nat)
  /-- R470: Sends a command APDU and returns the response. -/
  | cardApdu (slot : Nat)
  /-- R467: Opens a ceremony and draws the ceremony key into slot 9. -/
  | ceremonyBegin (slot : Nat)
  /-- R467: Writes or reads one card's share record in the open ceremony. -/
  | ceremonyCard (slot : Nat)
  /-- R467: Closes or abandons the ceremony and applies its result. -/
  | ceremonyEnd (slot : Nat)
  /-- R467: A ceremony with no CEREMONY_CARD for 600 s lapses. -/
  | ceremonyLapse
  /-- R470: Reads a sealed block and the counter from the card. -/
  | sealedRead (slot : Nat)
  /-- R468: Writes a sealed block with the next counter. -/
  | sealedWrite (slot : Nat)
  /-- R470: Reads the card's write counter. -/
  | sealedCounter (slot : Nat)
  /-- R472: A read of CRD.RX_DATA consumes a received byte, or underruns. -/
  | crdRxDataRead
  /-- R480: The scrubber reads and corrects the next HBM line at its rate. -/
  | patrolScrub (flips : Bytes) (severity : Nat)
  /-- R511: Every PERIOD_US the AVS loop reads slack and writes a new VDD target over AVSBus. -/
  | avsStep (slacks : Slacks) (answered : Bool)
  /-- R515: VDD below v − DROOP_MV stretches CLK_LINE and CLK_COMB. -/
  | droopEpisodeBegin
  /-- R515: After 8 recovered cycles or 64 stretched cycles the clocks return to their own dividers. -/
  | droopEpisodeEnd
  /-- R516: Every 1 ms each receive lane takes at most one equalisation step within its bounds. -/
  | serdesAdaptStep (lane : Nat) (move : Option (Nat × Bool)) (eye : Nat)
  /-- R519: Recalibrates the critical-path monitors one at a time. -/
  | avsCalibrate (slot : Nat)
  /-- R519: The CPM calibration ends and the command completes. -/
  | avsCalibrationEnd (monitors : List Nat) (offsets : List Int)
  /-- R519: Re-adapts named lanes in the background or restarts the link. -/
  | serdesRecal (slot : Nat)
  /-- R519: A lane recalibration ends and the command completes. -/
  | serdesRecalEnd (results : List (Nat × Int × Nat))
  /-- R531: A held MSI-X message is sent once its vector, function mask or Bus Master Enable permits. -/
  | msixPendingSend (func : Nat) (vec : Nat)
  /-- R488: Once every rail of groups 1 to 3 is valid again, the supply monitor stops holding cold reset, straps are sampled and boot begins. -/
  | supplyMonitorRelease (board : Board)
  /-- R541: TESTMODE going low ends the cold-reset hold it imposed. -/
  | testmodeDeassert (board : Board)
  /-- R491: The 100 MHz PCIe reference returns, PCIE_REF_OK becomes 1 and the link may train again. -/
  | pcieRefReturn
  /-- R299: The PCIe link goes down for a cause other than PERST_N or reference loss, so writes to be sent count as failed. -/
  | pcieLinkDown
  /-- R64: PCIe link training ends and the device answers configuration requests and resumes link traffic. -/
  | pcieLinkUp
  /-- R369: The holdover estimate E reaches 1,000 ns and the quality code moves from 0x10 to 0x20. -/
  | holdoverLimit
  /-- R481: A stack's reported temperature crosses 85 °C, and its refresh rate and STACK_STATUS.HOT_REFRESH change. -/
  | hotRefreshChange (stack : Nat) (temp : Int)
  /-- R250: A DGE lane or CVU_RUN finishes its stream and commits its result, extension or slot write. -/
  | digestCommit (slot : Nat) (sound : Bool)
  /-- R363: A symmetric lookaside command finishes on the pipelines, its check passes or fails, and output writing begins. -/
  | lookasideCipherEnd (slot : Nat) (read : HbmRead)
  /-- R459: No ATR has begun 40,000 clock cycles after RST rises, so the card is deactivated and CARD_ACTIVATE completes with CARD_PROTOCOL. -/
  | atrWaitTimeout
  deriving DecidableEq, Repr

end Sys2Proof
end

