-- ==== Sys2Proof/Decode.lean ====
section
/-!
DEFINITION. The command that a word spells by the bits of the opcode table. The table gives the bits of no row, so no word spells a command.
-/
namespace Sys2Proof

/-- The command of a word: none, since no row of the table has bits. -/
def decodeTableWord (_nbits _w : Nat) : Option Instr := none

end Sys2Proof
end

