-- ==== Sys2Proof/Config.lean ====
section
/-!
DEFINITION. What the spec leaves to a standard or to nature: the functions of the standards it names (FIPS 203, FIPS 204,
SP 800-38D ...) and the free values. Each is a constant without a body, so that nothing proved of the model rests on a
value of it (log entries 3 and 4).
-/
namespace Sys2Proof

/-- The functions that the spec takes from a standard by name, and the few that it names and leaves open; the standard, or nothing, says what
each computes. -/
inductive StdFn where
  | mlkemKeyGen | mlkemEncaps | mlkemDecaps
  | mldsaKeyGen | mldsaSign | mldsaVerify
  | slhdsaKeyGen | slhdsaSign | slhdsaVerify
  | lmsRoot | lmsSign | lmsVerify
  | hssVerify
  | hqcKeyGen | hqcEncaps | hqcDecaps
  | hash | hmac | kmac
  | aesGcmEnc | aesGcmDec | aesGcmTag | aesCtr | aesCbcEnc | aesCbcDec | aesXtsEnc | aesXtsDec
  | aesKwWrap | aesKwUnwrap | aesKwOk | aesKwpWrap | aesKwpUnwrap | aesKwpOk
  | drbgNew | drbgReseed | drbgNext | drbgOut
  | t1Crc | cardAttest | bootRom | flashDirectory | lcsSignature | engineWork | strideEnd | stageLast | counterBelowZero | wordFeeds
  | checkBits | unitLatch | butterflyScale | clmulLength | keccakUnit | shaUnit | maskUnit | dataFlags | secondDest | beyondMemory
  | mauValue | mauBuild | mauHasExt | mauKeyIdOk | mauAlgOk | mauValueOk
  | portDelay | apduLenOk | prpTrailerOk | session905 | sessionAppid
  deriving DecidableEq, Repr

/-- The output of a standard's function for a parameter set (or algorithm code) and its inputs. -/
opaque Config.std : StdFn → Nat → List Bytes → Bytes
/-- Whether a standard's check holds. -/
opaque Config.stdHolds : StdFn → Nat → List Bytes → Bool
/-- A count that a standard's procedure yields on its inputs (a length, a number of passes). -/
opaque Config.stdCount : StdFn → Nat → List Bytes → Nat
/-- The free values: the n-th value that the spec leaves open or that nature supplies (measurements). -/
opaque Config.free : Nat → Nat

end Sys2Proof
end

