-- ==== Sys2Proof/Machine/Bits.lean ====
section
/-!
DEFINITION. Bit fields, byte order (R17), saturating counts, and the operations of a sparse table.
-/
namespace Sys2Proof.Machine
open Sys2Proof

/-- A number lies in a range. -/
def within (op lo hi : Nat) : Bool := decide (lo ≤ op) && decide (op ≤ hi)

/-- Bits [hi:lo] of a number (R7). -/
def bitsOf (w hi lo : Nat) : Nat := (w / 2 ^ lo) % 2 ^ (hi - lo + 1)

/-- Bit n of a number (R7). -/
def bitOf (w n : Nat) : Bool := (w / 2 ^ n) % 2 == 1

/-- Field [hi:lo] of a register. -/
def field (w : W32) (hi lo : Nat) : Nat := bitsOf w.toNat hi lo

/-- Bit n of a register. -/
def flag (w : W32) (n : Nat) : Bool := bitOf w.toNat n

/-- 1 for true, 0 for false. -/
def b2n (b : Bool) : Nat := if b then 1 else 0

/-- A register with the bits of `mask` set. -/
def setBits (w mask : W32) : W32 := w ||| mask

/-- A register with the bits of `mask` cleared. -/
def clearBits (w mask : W32) : W32 := w &&& ~~~mask

/-- The register with bit n alone set. -/
def bit32 (n : Nat) : W32 := BitVec.ofNat 32 (2 ^ n)

/-- Field [hi:lo] of a register replaced by a value. -/
def setField (w : W32) (hi lo v : Nat) : W32 :=
  clearBits w (BitVec.ofNat 32 ((2 ^ (hi - lo + 1) - 1) * 2 ^ lo)) |||
    BitVec.ofNat 32 ((v % 2 ^ (hi - lo + 1)) * 2 ^ lo)

/-- The little-endian number that bytes spell (R17). -/
def leNat : Bytes → Nat
  | [] => 0
  | b :: bs => b.toNat + 256 * leNat bs

/-- The big-endian number that bytes spell (the byte strings of standards, R17). -/
def beNat (bs : Bytes) : Nat := leNat bs.reverse

/-- n little-endian bytes of a number. -/
def toLE : Nat → Nat → Bytes
  | 0, _ => []
  | n + 1, v => BitVec.ofNat 8 v :: toLE n (v / 256)

/-- n big-endian bytes of a number. -/
def toBE (n v : Nat) : Bytes := (toLE n v).reverse

/-- Byte i of a string; 0 past its end. -/
def byteAt (bs : Bytes) (i : Nat) : Byte := bs.getD i 0

/-- Byte i of a string as a number. -/
def natAt (bs : Bytes) (i : Nat) : Nat := (byteAt bs i).toNat

/-- n bytes from offset i. -/
def slice (bs : Bytes) (i n : Nat) : Bytes := (bs.drop i).take n

/-- The little-endian field of n bytes at offset i. -/
def leAt (bs : Bytes) (i n : Nat) : Nat := leNat (slice bs i n)

/-- The big-endian field of n bytes at offset i. -/
def beAt (bs : Bytes) (i n : Nat) : Nat := beNat (slice bs i n)

/-- n zero bytes. -/
def zeros (n : Nat) : Bytes := List.replicate n 0

/-- Exactly n bytes: cut, or filled with zeros. -/
def fit (n : Nat) (bs : Bytes) : Bytes := (bs ++ zeros n).take n

/-- A string with the bytes from offset i replaced. -/
def putAt (bs : Bytes) (i : Nat) (new : Bytes) : Bytes := bs.take i ++ new ++ bs.drop (i + new.length)

/-- All bytes zero. -/
def allZero (bs : Bytes) : Bool := bs.all (· == 0)

/-- Bytewise XOR. -/
def xorBytes (a b : Bytes) : Bytes := List.zipWith (· ^^^ ·) a b

/-- The bytes of a text in ASCII. -/
def ascii (t : String) : Bytes := t.toList.map fun c => BitVec.ofNat 8 c.toNat

/-- A count that saturates at `max`. -/
def satAdd (max a b : Nat) : Nat := min max (a + b)

/-- One more, saturating at 0xFFFF_FFFF (the counters that the register tables call saturating). -/
def satInc (w : W32) : W32 := if w = 0xFFFFFFFF then w else w + 1

/-- A value held to a range. -/
def clamp (lo hi v : Nat) : Nat := max lo (min hi v)

/-- The smallest multiple of m that is at least a. -/
def roundUp (a m : Nat) : Nat := (a + m - 1) / m * m

/-- The output of a standard's function, of the length the spec gives it. -/
def stdOut (n : Nat) (f : StdFn) (p : Nat) (args : List Bytes) : Bytes := fit n (Config.std f p args)

/-- What key k holds in a sparse table whose unlisted keys hold `d k`. -/
def Sparse.get {α : Type} (d : Nat → α) : Sparse α → Nat → α
  | [], k => d k
  | (j, v) :: m, k => if j = k then v else Sparse.get d m k

/-- The table without key k. -/
def Sparse.erase {α : Type} : Sparse α → Nat → Sparse α
  | [], _ => []
  | (j, v) :: m, k => if j = k then m else if k < j then (j, v) :: m else (j, v) :: Sparse.erase m k

/-- The table with (k, v) put in its place. -/
def Sparse.insert {α : Type} : Sparse α → Nat → α → Sparse α
  | [], k, v => [(k, v)]
  | (j, w) :: m, k, v =>
    if j = k then (k, v) :: m else if k < j then (k, v) :: (j, w) :: m else (j, w) :: Sparse.insert m k v

/-- The table with key k holding v: listed only when v is not what an unlisted key holds. -/
def Sparse.set {α : Type} [DecidableEq α] (d : Nat → α) (m : Sparse α) (k : Nat) (v : α) : Sparse α :=
  if v = d k then Sparse.erase m k else Sparse.insert m k v

/-- The canonical form: keys strictly rising and no entry that an unlisted key would hold anyway. -/
def Sparse.wf {α : Type} [DecidableEq α] (d : Nat → α) : Sparse α → Bool
  | [] => true
  | [(j, v)] => decide (v ≠ d j)
  | (j, v) :: (k, w) :: m => decide (v ≠ d j) && decide (j < k) && Sparse.wf d ((k, w) :: m)

/-- The table with every key of [lo, lo + n) unlisted. -/
def Sparse.eraseRange {α : Type} (m : Sparse α) (lo n : Nat) : Sparse α :=
  m.filter fun (k, _) => !(decide (lo ≤ k) && decide (k < lo + n))

end Sys2Proof.Machine
end

