-- ==== Sys2Proof/Machine/RegMap.lean ====
section
/-!
DEFINITION. The register map of PF0 BAR0 and of a VF's BAR0, as the register and field tables of the spec give it: each register's
BAR0 offset (block base of Table 1.1 plus register offset, R11), its reset value, and which of its bits are RW, RW1C and W1S (R14).
Page n of PRT repeats page 0's registers at 0x1_0000 × n (Table 1.1); CVU unit n repeats unit 0's at 0x100 × n. A VF's BAR0 is laid after PF0's: VF n's offset o has the key 0x800_0000 + 0x1_0000 × n + o.
-/
namespace Sys2Proof.Machine
open Sys2Proof

/-- One row of a register table: `count` registers `stride` bytes apart, from BAR0 offset `off`. -/
structure RegRow where
  off : Nat
  count : Nat := 1
  stride : Nat := 4
  reset : W32 := 0
  rw : W32 := 0
  w1c : W32 := 0
  w1s : W32 := 0
  /-- ROS, or a row or rule that keeps the value across a warm reset (R15). -/
  kept : Bool := false
  deriving DecidableEq, Repr

/-- GCTL.IDENT (Table 1.6). -/
abbrev Reg.gctlIdent : Nat := 0x0
/-- GCTL.SERIAL_LO (Table 1.6). -/
abbrev Reg.gctlSerialLo : Nat := 0x4
/-- GCTL.SERIAL_HI (Table 1.6). -/
abbrev Reg.gctlSerialHi : Nat := 0x8
/-- GCTL.FW_VERSION (Table 1.6). -/
abbrev Reg.gctlFwVersion : Nat := 0xC
/-- GCTL.LAYOUT_ID (Table 1.6). -/
abbrev Reg.gctlLayoutId : Nat := 0x10
/-- GCTL.CTRL (Table 1.6). -/
abbrev Reg.gctlCtrl : Nat := 0x20
/-- GCTL.STATUS (Table 1.6). -/
abbrev Reg.gctlStatus : Nat := 0x24
/-- GCTL.SCRATCH (Table 1.6). -/
abbrev Reg.gctlScratch : Nat := 0x30

/-- LCS.STATE (Table 2.9). -/
abbrev Reg.lcsState : Nat := 0x10000
/-- LCS.LC_CODE0 (Table 2.9). -/
abbrev Reg.lcsLcCode0 : Nat := 0x10004
/-- LCS.LC_CODE1 (Table 2.9). -/
abbrev Reg.lcsLcCode1 : Nat := 0x10008
/-- LCS.LC_CODE2 (Table 2.9). -/
abbrev Reg.lcsLcCode2 : Nat := 0x1000C
/-- LCS.PROGRESS (Table 2.9). -/
abbrev Reg.lcsProgress : Nat := 0x10010
/-- LCS.BOOT_STATUS (Table 2.9). -/
abbrev Reg.lcsBootStatus : Nat := 0x10014
/-- LCS.SVN_MIN (Table 2.9). -/
abbrev Reg.lcsSvnMin : Nat := 0x10018
/-- LCS.RECOVERY_CTRL (Table 2.9). -/
abbrev Reg.lcsRecoveryCtrl : Nat := 0x10040
/-- LCS.RECOVERY_LEN (Table 2.9). -/
abbrev Reg.lcsRecoveryLen : Nat := 0x10044
/-- LCS.RECOVERY_DATA (Table 2.9). -/
abbrev Reg.lcsRecoveryData : Nat := 0x10048

/-- PWR.STATUS (Table 20.9). -/
abbrev Reg.pwrStatus : Nat := 0x20000
/-- PWR.CELL_ON (Table 20.9). -/
abbrev Reg.pwrCellOn : Nat := 0x20004
/-- PWR.PORT_ON (Table 20.9). -/
abbrev Reg.pwrPortOn : Nat := 0x20008
/-- PWR.CFG (Table 20.9). -/
abbrev Reg.pwrCfg : Nat := 0x20010
/-- PWR.THERM_CFG (Table 20.9). -/
abbrev Reg.pwrThermCfg : Nat := 0x20014
/-- PWR.TJ (Table 20.9). -/
abbrev Reg.pwrTj : Nat := 0x20018
/-- PWR.THERM_COUNT (Table 20.9). -/
abbrev Reg.pwrThermCount : Nat := 0x2001C
/-- PWR.RESET_CTRL (Table 20.9). -/
abbrev Reg.pwrResetCtrl : Nat := 0x20020
/-- PWR.RESET_CAUSE (Table 20.9). -/
abbrev Reg.pwrResetCause : Nat := 0x20024
/-- PWR.WARM_COUNT (Table 20.9). -/
abbrev Reg.pwrWarmCount : Nat := 0x20028
/-- PWR.PERST_COUNT (Table 20.9). -/
abbrev Reg.pwrPerstCount : Nat := 0x2002C
/-- PWR.TRANS_US (Table 20.9). -/
abbrev Reg.pwrTransUs : Nat := 0x20030
/-- PWR.SUPPLY (Table 20.9). -/
abbrev Reg.pwrSupply : Nat := 0x20034
/-- PWR.EVENT (Table 20.9). -/
abbrev Reg.pwrEvent : Nat := 0x20040
/-- PWR.EVENT_EN (Table 20.9). -/
abbrev Reg.pwrEventEn : Nat := 0x20044

/-- ADL.STATUS (Table 21.2). -/
abbrev Reg.adlStatus : Nat := 0x30000
/-- ADL.AVS_CTRL (Table 21.2). -/
abbrev Reg.adlAvsCtrl : Nat := 0x30004
/-- ADL.AVS_BOUNDS (Table 21.2). -/
abbrev Reg.adlAvsBounds : Nat := 0x30008
/-- ADL.AVS_SLACK (Table 21.2). -/
abbrev Reg.adlAvsSlack : Nat := 0x3000C
/-- ADL.AVS_VOUT (Table 21.2). -/
abbrev Reg.adlAvsVout : Nat := 0x30010
/-- ADL.AVS_MIN_SLACK (Table 21.2). -/
abbrev Reg.adlAvsMinSlack : Nat := 0x30014
/-- ADL.DROOP_CFG (Table 21.2). -/
abbrev Reg.adlDroopCfg : Nat := 0x30018
/-- ADL.DROOP_COUNT (Table 21.2). -/
abbrev Reg.adlDroopCount : Nat := 0x3001C
/-- ADL.AVS_FAILS (Table 21.2). -/
abbrev Reg.adlAvsFails : Nat := 0x30020
/-- ADL.LANE_SEL (Table 21.2). -/
abbrev Reg.adlLaneSel : Nat := 0x30030
/-- ADL.LANE_CFG (Table 21.2). -/
abbrev Reg.adlLaneCfg : Nat := 0x30034
/-- ADL.LANE_STATUS (Table 21.2). -/
abbrev Reg.adlLaneStatus : Nat := 0x30038
/-- ADL.EYE_MIN (Table 21.2). -/
abbrev Reg.adlEyeMin : Nat := 0x3003C
/-- ADL.EVENT (Table 21.2). -/
abbrev Reg.adlEvent : Nat := 0x30040
/-- ADL.EVENT_EN (Table 21.2). -/
abbrev Reg.adlEventEn : Nat := 0x30044

/-- UST.STATUS (Table 17.9). -/
abbrev Reg.ustStatus : Nat := 0x40000
/-- UST.RTC_SUB (Table 17.9). -/
abbrev Reg.ustRtcSub : Nat := 0x40010
/-- UST.RTC_SEC_LO (Table 17.9). -/
abbrev Reg.ustRtcSecLo : Nat := 0x40014
/-- UST.RTC_SEC_HI (Table 17.9). -/
abbrev Reg.ustRtcSecHi : Nat := 0x40018
/-- UST.RTC_SET_LO (Table 17.9). -/
abbrev Reg.ustRtcSetLo : Nat := 0x40020
/-- UST.RTC_SET_HI (Table 17.9). -/
abbrev Reg.ustRtcSetHi : Nat := 0x40024
/-- UST.RTC_CTRL (Table 17.9). -/
abbrev Reg.ustRtcCtrl : Nat := 0x40028
/-- UST.TMP_CFG (Table 17.9). -/
abbrev Reg.ustTmpCfg : Nat := 0x40030
/-- UST.LOG_HEAD (Table 17.9). -/
abbrev Reg.ustLogHead : Nat := 0x40040
/-- UST.LOG_SEL (Table 17.9). -/
abbrev Reg.ustLogSel : Nat := 0x40044
/-- UST.LOG_DATA0… (Table 17.9). -/
abbrev Reg.ustLogData0 : Nat := 0x40048
/-- UST.LATCH_SEEN (Table 17.9). -/
abbrev Reg.ustLatchSeen : Nat := 0x40060

/-- TEM.STATUS (Table 17.7). -/
abbrev Reg.temStatus : Nat := 0x50000
/-- TEM.RESP_CLEAR (Table 17.7). -/
abbrev Reg.temRespClear : Nat := 0x50004
/-- TEM.LOCK (Table 17.7). -/
abbrev Reg.temLock : Nat := 0x50008
/-- TEM.SRC_SEL (Table 17.7). -/
abbrev Reg.temSrcSel : Nat := 0x50010
/-- TEM.SRC_CFG (Table 17.7). -/
abbrev Reg.temSrcCfg : Nat := 0x50014
/-- TEM.SRC_STATUS (Table 17.7). -/
abbrev Reg.temSrcStatus : Nat := 0x50018
/-- TEM.THR_MARGIN (Table 17.7). -/
abbrev Reg.temThrMargin : Nat := 0x50020
/-- TEM.THR_HARD (Table 17.7). -/
abbrev Reg.temThrHard : Nat := 0x50024
/-- TEM.THR_BASE_LIM (Table 17.7). -/
abbrev Reg.temThrBaseLim : Nat := 0x50028
/-- TEM.THR_BASE (Table 17.7). -/
abbrev Reg.temThrBase : Nat := 0x5002C
/-- TEM.EVENT (Table 17.7). -/
abbrev Reg.temEvent : Nat := 0x50030
/-- TEM.EVENT_EN (Table 17.7). -/
abbrev Reg.temEventEn : Nat := 0x50034
/-- TEM.TALLY_SEL (Table 17.7). -/
abbrev Reg.temTallySel : Nat := 0x50040
/-- TEM.TALLY (Table 17.7). -/
abbrev Reg.temTally : Nat := 0x50044

/-- RNG.CTRL (Table 7.6). -/
abbrev Reg.rngCtrl : Nat := 0x60000
/-- RNG.STATUS (Table 7.6). -/
abbrev Reg.rngStatus : Nat := 0x60004
/-- RNG.PAIR_STATE (Table 7.6). -/
abbrev Reg.rngPairState : Nat := 0x60008
/-- RNG.STALL_TMO (Table 7.6). -/
abbrev Reg.rngStallTmo : Nat := 0x6000C
/-- RNG.DATA (Table 7.6). -/
abbrev Reg.rngData : Nat := 0x60010
/-- RNG.DATA_STATUS (Table 7.6). -/
abbrev Reg.rngDataStatus : Nat := 0x60014
/-- RNG.BLOCK_COUNT (Table 7.6). -/
abbrev Reg.rngBlockCount : Nat := 0x60020
/-- RNG.RESEED_COUNT (Table 7.6). -/
abbrev Reg.rngReseedCount : Nat := 0x60024
/-- RNG.HOLD_COUNT (Table 7.6). -/
abbrev Reg.rngHoldCount : Nat := 0x60028
/-- RNG.STOP_COUNT (Table 7.6). -/
abbrev Reg.rngStopCount : Nat := 0x6002C
/-- RNG.HEALTH_FAILS (Table 7.6). -/
abbrev Reg.rngHealthFails : Nat := 0x60030

/-- KST.STATUS (Table 8.10). -/
abbrev Reg.kstStatus : Nat := 0x70000
/-- KST.ROOT_STATUS (Table 8.10). -/
abbrev Reg.kstRootStatus : Nat := 0x70004
/-- KST.RANGE_SEL (Table 8.10). -/
abbrev Reg.kstRangeSel : Nat := 0x70008
/-- KST.RANGE (Table 8.10). -/
abbrev Reg.kstRange : Nat := 0x7000C
/-- KST.SLOT_SEL (Table 8.10). -/
abbrev Reg.kstSlotSel : Nat := 0x70010
/-- KST.ATTR_LO (Table 8.10). -/
abbrev Reg.kstAttrLo : Nat := 0x70014
/-- KST.ATTR_HI (Table 8.10). -/
abbrev Reg.kstAttrHi : Nat := 0x70018
/-- KST.ERR_STATUS (Table 8.10). -/
abbrev Reg.kstErrStatus : Nat := 0x70020
/-- KST.INTEGRITY_COUNT (Table 8.10). -/
abbrev Reg.kstIntegrityCount : Nat := 0x70024

/-- CMB.LAYOUT (Table 3.9). -/
abbrev Reg.cmbLayout : Nat := 0x80000
/-- CMB.FEATURES (Table 3.9). -/
abbrev Reg.cmbFeatures : Nat := 0x80004
/-- CMB.GROUP_POWER (Table 3.9). -/
abbrev Reg.cmbGroupPower : Nat := 0x80008
/-- CMB.GROUP_SEL (Table 3.9). -/
abbrev Reg.cmbGroupSel : Nat := 0x80010
/-- CMB.GROUP_STATUS (Table 3.9). -/
abbrev Reg.cmbGroupStatus : Nat := 0x80014
/-- CMB.ENG_SEL (Table 3.9). -/
abbrev Reg.cmbEngSel : Nat := 0x80020
/-- CMB.ENG_INFO (Table 3.9). -/
abbrev Reg.cmbEngInfo : Nat := 0x80024
/-- CMB.ENG_ERR (Table 3.9). -/
abbrev Reg.cmbEngErr : Nat := 0x80028
/-- CMB.ERR_STATUS (Table 3.9). -/
abbrev Reg.cmbErrStatus : Nat := 0x80030

/-- MCS.STATUS (Table 4.10). -/
abbrev Reg.mcsStatus : Nat := 0x90000
/-- MCS.IMAGE_VER (Table 4.10). -/
abbrev Reg.mcsImageVer : Nat := 0x90004
/-- MCS.KIND_SEL (Table 4.10). -/
abbrev Reg.mcsKindSel : Nat := 0x90008
/-- MCS.KIND_INFO (Table 4.10). -/
abbrev Reg.mcsKindInfo : Nat := 0x9000C
/-- MCS.PROG_SEL (Table 4.10). -/
abbrev Reg.mcsProgSel : Nat := 0x90010
/-- MCS.PROG_INFO (Table 4.10). -/
abbrev Reg.mcsProgInfo : Nat := 0x90014
/-- MCS.PROG_CYCLES (Table 4.10). -/
abbrev Reg.mcsProgCycles : Nat := 0x90018
/-- MCS.PROG_LMAX (Table 4.10). -/
abbrev Reg.mcsProgLmax : Nat := 0x9001C
/-- MCS.ITER_CYCLES (Table 4.10). -/
abbrev Reg.mcsIterCycles : Nat := 0x90020
/-- MCS.ITER_LMAX (Table 4.10). -/
abbrev Reg.mcsIterLmax : Nat := 0x90024
/-- MCS.CS_ERR (Table 4.10). -/
abbrev Reg.mcsCsErr : Nat := 0x90030
/-- MCS.ERR_STATUS (Table 4.10). -/
abbrev Reg.mcsErrStatus : Nat := 0x90034
/-- MCS.LOAD_DIAG (Table 4.10). -/
abbrev Reg.mcsLoadDiag : Nat := 0x90038

/-- FGS.CTRL (Table 3.11). -/
abbrev Reg.fgsCtrl : Nat := 0xA0000
/-- FGS.STATUS (Table 3.11). -/
abbrev Reg.fgsStatus : Nat := 0xA0004
/-- FGS.RELEASE_GRID (Table 3.11). -/
abbrev Reg.fgsReleaseGrid : Nat := 0xA0008
/-- FGS.WEIGHTS (Table 3.11). -/
abbrev Reg.fgsWeights : Nat := 0xA000C
/-- FGS.BOUNDS (Table 3.11). -/
abbrev Reg.fgsBounds : Nat := 0xA0010
/-- FGS.AGING (Table 3.11). -/
abbrev Reg.fgsAging : Nat := 0xA0014
/-- FGS.ST_PERIOD (Table 3.11). -/
abbrev Reg.fgsStPeriod : Nat := 0xA0018
/-- FGS.ST_STATUS (Table 3.11). -/
abbrev Reg.fgsStStatus : Nat := 0xA001C
/-- FGS.DOP_SEL (Table 3.11). -/
abbrev Reg.fgsDopSel : Nat := 0xA0020
/-- FGS.DOP_NS (Table 3.11). -/
abbrev Reg.fgsDopNs : Nat := 0xA0024
/-- FGS.DOP_ITER_NS (Table 3.11). -/
abbrev Reg.fgsDopIterNs : Nat := 0xA0028
/-- FGS.FENCE0 (Table 3.11). -/
abbrev Reg.fgsFence0 : Nat := 0xA0030
/-- FGS.FENCE1 (Table 3.11). -/
abbrev Reg.fgsFence1 : Nat := 0xA0034
/-- FGS.FENCE2 (Table 3.11). -/
abbrev Reg.fgsFence2 : Nat := 0xA0038
/-- FGS.OVERRUN_COUNT (Table 3.11). -/
abbrev Reg.fgsOverrunCount : Nat := 0xA0040
/-- FGS.PREEMPT_COUNT (Table 3.11). -/
abbrev Reg.fgsPreemptCount : Nat := 0xA0044

/-- QEN.STATUS (Table 10.9). -/
abbrev Reg.qenStatus : Nat := 0xB0000
/-- QEN.TRACK_QUOTA (Table 10.9). -/
abbrev Reg.qenTrackQuota : Nat := 0xB0004
/-- QEN.ADMQ_RING_LO (Table 10.9). -/
abbrev Reg.qenAdmqRingLo : Nat := 0xB0010
/-- QEN.ADMQ_RING_HI (Table 10.9). -/
abbrev Reg.qenAdmqRingHi : Nat := 0xB0014
/-- QEN.ADMQ_QCB_LO (Table 10.9). -/
abbrev Reg.qenAdmqQcbLo : Nat := 0xB0018
/-- QEN.ADMQ_QCB_HI (Table 10.9). -/
abbrev Reg.qenAdmqQcbHi : Nat := 0xB001C
/-- QEN.ADMQ_CTRL (Table 10.9). -/
abbrev Reg.qenAdmqCtrl : Nat := 0xB0020
/-- QEN.ADMQ_STATUS (Table 10.9). -/
abbrev Reg.qenAdmqStatus : Nat := 0xB0024
/-- QEN.QSEL (Table 10.9). -/
abbrev Reg.qenQsel : Nat := 0xB0030
/-- QEN.QSTATE (Table 10.9). -/
abbrev Reg.qenQstate : Nat := 0xB0034
/-- QEN.QFETCH (Table 10.9). -/
abbrev Reg.qenQfetch : Nat := 0xB0038
/-- QEN.QHEAD (Table 10.9). -/
abbrev Reg.qenQhead : Nat := 0xB003C
/-- QEN.PHASE_STALLS (Table 10.9). -/
abbrev Reg.qenPhaseStalls : Nat := 0xB0040
/-- QEN.DB_DROPS (Table 10.9). -/
abbrev Reg.qenDbDrops : Nat := 0xB0044
/-- QEN.OVERRUNS (Table 10.9). -/
abbrev Reg.qenOverruns : Nat := 0xB0048
/-- QEN.DOORBELL0… (Table 10.9). -/
abbrev Reg.qenDoorbell0 : Nat := 0xB1000

/-- DMA.CTRL (Table 11.6). -/
abbrev Reg.dmaCtrl : Nat := 0xC0000
/-- DMA.STATUS (Table 11.6). -/
abbrev Reg.dmaStatus : Nat := 0xC0004
/-- DMA.CHAN_SEL (Table 11.6). -/
abbrev Reg.dmaChanSel : Nat := 0xC0008
/-- DMA.CHAN_STATUS (Table 11.6). -/
abbrev Reg.dmaChanStatus : Nat := 0xC000C
/-- DMA.CHAN_CTRL (Table 11.6). -/
abbrev Reg.dmaChanCtrl : Nat := 0xC0010
/-- DMA.FAIL_ADDR_LO (Table 11.6). -/
abbrev Reg.dmaFailAddrLo : Nat := 0xC0014
/-- DMA.FAIL_ADDR_HI (Table 11.6). -/
abbrev Reg.dmaFailAddrHi : Nat := 0xC0018
/-- DMA.RETRIES (Table 11.6). -/
abbrev Reg.dmaRetries : Nat := 0xC0020
/-- DMA.HALTS (Table 11.6). -/
abbrev Reg.dmaHalts : Nat := 0xC0024
/-- DMA.ALIGN_ERRORS (Table 11.6). -/
abbrev Reg.dmaAlignErrors : Nat := 0xC0028
/-- DMA.LENGTH_ERRORS (Table 11.6). -/
abbrev Reg.dmaLengthErrors : Nat := 0xC002C
/-- DMA.HALT0… (Table 11.6). -/
abbrev Reg.dmaHalt0 : Nat := 0xC0040

/-- DGE.STATUS (Table 9.5). -/
abbrev Reg.dgeStatus : Nat := 0xD0000
/-- DGE.MRG_ALG (Table 9.5). -/
abbrev Reg.dgeMrgAlg : Nat := 0xD0004
/-- DGE.MRG_CTRL (Table 9.5). -/
abbrev Reg.dgeMrgCtrl : Nat := 0xD0008
/-- DGE.ERR_STATUS (Table 9.5). -/
abbrev Reg.dgeErrStatus : Nat := 0xD0010
/-- DGE.CMD_COUNT (Table 9.5). -/
abbrev Reg.dgeCmdCount : Nat := 0xD0014
/-- DGE.MRG… (Table 9.5). -/
abbrev Reg.dgeMrg : Nat := 0xD1000

/-- CVU.CTRL (Table 9.7). -/
abbrev Reg.cvuCtrl : Nat := 0xE0000
/-- CVU.STATUS (Table 9.7). -/
abbrev Reg.cvuStatus : Nat := 0xE0004
/-- CVU.POLY_LO (Table 9.7). -/
abbrev Reg.cvuPolyLo : Nat := 0xE0008
/-- CVU.POLY_HI (Table 9.7). -/
abbrev Reg.cvuPolyHi : Nat := 0xE000C
/-- CVU.INIT_LO (Table 9.7). -/
abbrev Reg.cvuInitLo : Nat := 0xE0010
/-- CVU.INIT_HI (Table 9.7). -/
abbrev Reg.cvuInitHi : Nat := 0xE0014
/-- CVU.XOROUT_LO (Table 9.7). -/
abbrev Reg.cvuXoroutLo : Nat := 0xE0018
/-- CVU.XOROUT_HI (Table 9.7). -/
abbrev Reg.cvuXoroutHi : Nat := 0xE001C
/-- CVU.VALUE_LO (Table 9.7). -/
abbrev Reg.cvuValueLo : Nat := 0xE0020
/-- CVU.VALUE_HI (Table 9.7). -/
abbrev Reg.cvuValueHi : Nat := 0xE0024
/-- CVU.EXPECT_LO (Table 9.7). -/
abbrev Reg.cvuExpectLo : Nat := 0xE0028
/-- CVU.EXPECT_HI (Table 9.7). -/
abbrev Reg.cvuExpectHi : Nat := 0xE002C
/-- CVU.RESULT_LO (Table 9.7). -/
abbrev Reg.cvuResultLo : Nat := 0xE0030
/-- CVU.RESULT_HI (Table 9.7). -/
abbrev Reg.cvuResultHi : Nat := 0xE0034
/-- CVU.DATA8 (Table 9.7). -/
abbrev Reg.cvuData8 : Nat := 0xE0038
/-- CVU.DATA32 (Table 9.7). -/
abbrev Reg.cvuData32 : Nat := 0xE003C
/-- CVU.IRQ_STATUS (Table 9.7). -/
abbrev Reg.cvuIrqStatus : Nat := 0xE0800
/-- CVU.IRQ_EN (Table 9.7). -/
abbrev Reg.cvuIrqEn : Nat := 0xE0804

/-- PRT.GROUP_CTRL (Table 12.6). -/
abbrev Reg.prtGroupCtrl : Nat := 0x100000
/-- PRT.GROUP_STATUS (Table 12.6). -/
abbrev Reg.prtGroupStatus : Nat := 0x100004
/-- PRT.PORT_SEL (Table 12.6). -/
abbrev Reg.prtPortSel : Nat := 0x100008
/-- PRT.PORT_CFG (Table 12.6). -/
abbrev Reg.prtPortCfg : Nat := 0x10000C
/-- PRT.PORT_STATUS (Table 12.6). -/
abbrev Reg.prtPortStatus : Nat := 0x100010
/-- PRT.RX_FRAMES_LO (Table 12.6). -/
abbrev Reg.prtRxFramesLo : Nat := 0x100020
/-- PRT.RX_FRAMES_HI (Table 12.6). -/
abbrev Reg.prtRxFramesHi : Nat := 0x100024
/-- PRT.RX_BYTES_LO (Table 12.6). -/
abbrev Reg.prtRxBytesLo : Nat := 0x100028
/-- PRT.RX_BYTES_HI (Table 12.6). -/
abbrev Reg.prtRxBytesHi : Nat := 0x10002C
/-- PRT.RX_DROP_LO (Table 12.6). -/
abbrev Reg.prtRxDropLo : Nat := 0x100030
/-- PRT.RX_DROP_HI (Table 12.6). -/
abbrev Reg.prtRxDropHi : Nat := 0x100034
/-- PRT.RX_FCS_ERR_LO (Table 12.6). -/
abbrev Reg.prtRxFcsErrLo : Nat := 0x100038
/-- PRT.RX_FCS_ERR_HI (Table 12.6). -/
abbrev Reg.prtRxFcsErrHi : Nat := 0x10003C
/-- PRT.FEC_CORR_LO (Table 12.6). -/
abbrev Reg.prtFecCorrLo : Nat := 0x100040
/-- PRT.FEC_CORR_HI (Table 12.6). -/
abbrev Reg.prtFecCorrHi : Nat := 0x100044
/-- PRT.FEC_UNCORR_LO (Table 12.6). -/
abbrev Reg.prtFecUncorrLo : Nat := 0x100048
/-- PRT.FEC_UNCORR_HI (Table 12.6). -/
abbrev Reg.prtFecUncorrHi : Nat := 0x10004C
/-- PRT.CLS_MISS_LO (Table 12.6). -/
abbrev Reg.prtClsMissLo : Nat := 0x100050
/-- PRT.CLS_MISS_HI (Table 12.6). -/
abbrev Reg.prtClsMissHi : Nat := 0x100054
/-- PRT.NO_SA_LO (Table 12.6). -/
abbrev Reg.prtNoSaLo : Nat := 0x100058
/-- PRT.NO_SA_HI (Table 12.6). -/
abbrev Reg.prtNoSaHi : Nat := 0x10005C
/-- PRT.LEN_MISMATCH_LO (Table 12.6). -/
abbrev Reg.prtLenMismatchLo : Nat := 0x100060
/-- PRT.LEN_MISMATCH_HI (Table 12.6). -/
abbrev Reg.prtLenMismatchHi : Nat := 0x100064
/-- PRT.TX_FRAMES_LO (Table 12.6). -/
abbrev Reg.prtTxFramesLo : Nat := 0x100068
/-- PRT.TX_FRAMES_HI (Table 12.6). -/
abbrev Reg.prtTxFramesHi : Nat := 0x10006C
/-- PRT.TX_BYTES_LO (Table 12.6). -/
abbrev Reg.prtTxBytesLo : Nat := 0x100070
/-- PRT.TX_BYTES_HI (Table 12.6). -/
abbrev Reg.prtTxBytesHi : Nat := 0x100074
/-- PRT.TX_DROP_LO (Table 12.6). -/
abbrev Reg.prtTxDropLo : Nat := 0x100078
/-- PRT.TX_DROP_HI (Table 12.6). -/
abbrev Reg.prtTxDropHi : Nat := 0x10007C
/-- PRT.TX_DROP_PROT_LO (Table 12.6). -/
abbrev Reg.prtTxDropProtLo : Nat := 0x100080
/-- PRT.TX_DROP_PROT_HI (Table 12.6). -/
abbrev Reg.prtTxDropProtHi : Nat := 0x100084
/-- PRT.TX_STOMPED_LO (Table 12.6). -/
abbrev Reg.prtTxStompedLo : Nat := 0x100088
/-- PRT.TX_STOMPED_HI (Table 12.6). -/
abbrev Reg.prtTxStompedHi : Nat := 0x10008C
/-- PRT.LINK_DOWNS (Table 12.6). -/
abbrev Reg.prtLinkDowns : Nat := 0x100090

/-- LCE.STATUS (Table 13.9). -/
abbrev Reg.lceStatus : Nat := 0x200000
/-- LCE.PIPE_FENCE (Table 13.9). -/
abbrev Reg.lcePipeFence : Nat := 0x200004
/-- LCE.PIPE_UNFENCE (Table 13.9). -/
abbrev Reg.lcePipeUnfence : Nat := 0x200008
/-- LCE.ST_PERIOD (Table 13.9). -/
abbrev Reg.lceStPeriod : Nat := 0x20000C
/-- LCE.PN_WARN (Table 13.9). -/
abbrev Reg.lcePnWarn : Nat := 0x200010
/-- LCE.RATCHET_CFG (Table 13.9). -/
abbrev Reg.lceRatchetCfg : Nat := 0x200014
/-- LCE.EVENT (Table 13.9). -/
abbrev Reg.lceEvent : Nat := 0x200018
/-- LCE.EVENT_EN (Table 13.9). -/
abbrev Reg.lceEventEn : Nat := 0x20001C
/-- LCE.SA_SEL (Table 13.9). -/
abbrev Reg.lceSaSel : Nat := 0x200020
/-- LCE.SA_STATE (Table 13.9). -/
abbrev Reg.lceSaState : Nat := 0x200024
/-- LCE.SA_PN_LO (Table 13.9). -/
abbrev Reg.lceSaPnLo : Nat := 0x200028
/-- LCE.SA_PN_HI (Table 13.9). -/
abbrev Reg.lceSaPnHi : Nat := 0x20002C
/-- LCE.SA_GEN (Table 13.9). -/
abbrev Reg.lceSaGen : Nat := 0x200030
/-- LCE.ICV_FAIL_LO (Table 13.9). -/
abbrev Reg.lceIcvFailLo : Nat := 0x200100
/-- LCE.ICV_FAIL_HI (Table 13.9). -/
abbrev Reg.lceIcvFailHi : Nat := 0x200104
/-- LCE.REPLAY_LO (Table 13.9). -/
abbrev Reg.lceReplayLo : Nat := 0x200108
/-- LCE.REPLAY_HI (Table 13.9). -/
abbrev Reg.lceReplayHi : Nat := 0x20010C
/-- LCE.INVALID_LO (Table 13.9). -/
abbrev Reg.lceInvalidLo : Nat := 0x200110
/-- LCE.INVALID_HI (Table 13.9). -/
abbrev Reg.lceInvalidHi : Nat := 0x200114
/-- LCE.PN_HOLD_DROP_LO (Table 13.9). -/
abbrev Reg.lcePnHoldDropLo : Nat := 0x200118
/-- LCE.PN_HOLD_DROP_HI (Table 13.9). -/
abbrev Reg.lcePnHoldDropHi : Nat := 0x20011C
/-- LCE.PN_EXH_DROP_LO (Table 13.9). -/
abbrev Reg.lcePnExhDropLo : Nat := 0x200120
/-- LCE.PN_EXH_DROP_HI (Table 13.9). -/
abbrev Reg.lcePnExhDropHi : Nat := 0x200124
/-- LCE.MAU_FAIL_LO (Table 13.9). -/
abbrev Reg.lceMauFailLo : Nat := 0x200128
/-- LCE.MAU_FAIL_HI (Table 13.9). -/
abbrev Reg.lceMauFailHi : Nat := 0x20012C
/-- LCE.MAU_MISSING_LO (Table 13.9). -/
abbrev Reg.lceMauMissingLo : Nat := 0x200130
/-- LCE.MAU_MISSING_HI (Table 13.9). -/
abbrev Reg.lceMauMissingHi : Nat := 0x200134
/-- LCE.MAU_PRESENT_LO (Table 13.9). -/
abbrev Reg.lceMauPresentLo : Nat := 0x200138
/-- LCE.MAU_PRESENT_HI (Table 13.9). -/
abbrev Reg.lceMauPresentHi : Nat := 0x20013C
/-- LCE.RATCHETS_LO (Table 13.9). -/
abbrev Reg.lceRatchetsLo : Nat := 0x200140
/-- LCE.RATCHETS_HI (Table 13.9). -/
abbrev Reg.lceRatchetsHi : Nat := 0x200144
/-- LCE.ST_DEFERRED_LO (Table 13.9). -/
abbrev Reg.lceStDeferredLo : Nat := 0x200148
/-- LCE.ST_DEFERRED_HI (Table 13.9). -/
abbrev Reg.lceStDeferredHi : Nat := 0x20014C
/-- LCE.LKA_BYTES_LO (Table 13.9). -/
abbrev Reg.lceLkaBytesLo : Nat := 0x200150
/-- LCE.LKA_BYTES_HI (Table 13.9). -/
abbrev Reg.lceLkaBytesHi : Nat := 0x200154

/-- TSU.CTRL (Table 14.8). -/
abbrev Reg.tsuCtrl : Nat := 0x300000
/-- TSU.STATUS (Table 14.8). -/
abbrev Reg.tsuStatus : Nat := 0x300004
/-- TSU.RATE (Table 14.8). -/
abbrev Reg.tsuRate : Nat := 0x300008
/-- TSU.SERVO_OFFSET (Table 14.8). -/
abbrev Reg.tsuServoOffset : Nat := 0x30000C
/-- TSU.LOCK_CFG (Table 14.8). -/
abbrev Reg.tsuLockCfg : Nat := 0x300010
/-- TSU.TOD_NS (Table 14.8). -/
abbrev Reg.tsuTodNs : Nat := 0x300020
/-- TSU.TOD_SEC_LO (Table 14.8). -/
abbrev Reg.tsuTodSecLo : Nat := 0x300024
/-- TSU.TOD_SEC_HI (Table 14.8). -/
abbrev Reg.tsuTodSecHi : Nat := 0x300028
/-- TSU.TOD_AUX (Table 14.8). -/
abbrev Reg.tsuTodAux : Nat := 0x30002C
/-- TSU.FREE_LO (Table 14.8). -/
abbrev Reg.tsuFreeLo : Nat := 0x300030
/-- TSU.FREE_HI (Table 14.8). -/
abbrev Reg.tsuFreeHi : Nat := 0x300034
/-- TSU.TC_DOMAIN (Table 14.8). -/
abbrev Reg.tsuTcDomain : Nat := 0x300040
/-- TSU.TC_LAUNCH (Table 14.8). -/
abbrev Reg.tsuTcLaunch : Nat := 0x300044
/-- TSU.CAP_RING_LO (Table 14.8). -/
abbrev Reg.tsuCapRingLo : Nat := 0x300050
/-- TSU.CAP_RING_HI (Table 14.8). -/
abbrev Reg.tsuCapRingHi : Nat := 0x300054
/-- TSU.CAP_CTRL (Table 14.8). -/
abbrev Reg.tsuCapCtrl : Nat := 0x300058
/-- TSU.CAP_PROD (Table 14.8). -/
abbrev Reg.tsuCapProd : Nat := 0x30005C
/-- TSU.CAP_CONS (Table 14.8). -/
abbrev Reg.tsuCapCons : Nat := 0x300060
/-- TSU.TC_CORRECTED (Table 14.8). -/
abbrev Reg.tsuTcCorrected : Nat := 0x300070
/-- TSU.TC_LATE (Table 14.8). -/
abbrev Reg.tsuTcLate : Nat := 0x300074
/-- TSU.TC_FU_UNMATCHED (Table 14.8). -/
abbrev Reg.tsuTcFuUnmatched : Nat := 0x300078
/-- TSU.CAP_OVERFLOW (Table 14.8). -/
abbrev Reg.tsuCapOverflow : Nat := 0x30007C
/-- TSU.RX_DELAY… (Table 14.8). -/
abbrev Reg.tsuRxDelay : Nat := 0x300100
/-- TSU.TX_DELAY… (Table 14.8). -/
abbrev Reg.tsuTxDelay : Nat := 0x300104

/-- PHW.CTRL (Table 14.10). -/
abbrev Reg.phwCtrl : Nat := 0x380000
/-- PHW.STATUS (Table 14.10). -/
abbrev Reg.phwStatus : Nat := 0x380004
/-- PHW.NOMINAL_MV (Table 14.10). -/
abbrev Reg.phwNominalMv : Nat := 0x380008
/-- PHW.FAULT_CFG (Table 14.10). -/
abbrev Reg.phwFaultCfg : Nat := 0x38000C
/-- PHW.BOUND_CFG (Table 14.10). -/
abbrev Reg.phwBoundCfg : Nat := 0x380010
/-- PHW.FREQ (Table 14.10). -/
abbrev Reg.phwFreq : Nat := 0x380014
/-- PHW.MAG (Table 14.10). -/
abbrev Reg.phwMag : Nat := 0x380018
/-- PHW.RESIDUAL (Table 14.10). -/
abbrev Reg.phwResidual : Nat := 0x38001C
/-- PHW.BOUND_NS (Table 14.10). -/
abbrev Reg.phwBoundNs : Nat := 0x380020
/-- PHW.SIGMA_NS (Table 14.10). -/
abbrev Reg.phwSigmaNs : Nat := 0x380024
/-- PHW.SUSPECT (Table 14.10). -/
abbrev Reg.phwSuspect : Nat := 0x380028
/-- PHW.SUSPECT_COUNT (Table 14.10). -/
abbrev Reg.phwSuspectCount : Nat := 0x38002C

/-- EVJ.STATUS (Table 15.6). -/
abbrev Reg.evjStatus : Nat := 0x400000
/-- EVJ.ANCHOR (Table 15.6). -/
abbrev Reg.evjAnchor : Nat := 0x400004
/-- EVJ.CSIG_TMO (Table 15.6). -/
abbrev Reg.evjCsigTmo : Nat := 0x400008
/-- EVJ.NEXT_SEQ_LO (Table 15.6). -/
abbrev Reg.evjNextSeqLo : Nat := 0x400010
/-- EVJ.NEXT_SEQ_HI (Table 15.6). -/
abbrev Reg.evjNextSeqHi : Nat := 0x400014
/-- EVJ.CP_NUM_LO (Table 15.6). -/
abbrev Reg.evjCpNumLo : Nat := 0x400018
/-- EVJ.CP_NUM_HI (Table 15.6). -/
abbrev Reg.evjCpNumHi : Nat := 0x40001C
/-- EVJ.RING_CAP (Table 15.6). -/
abbrev Reg.evjRingCap : Nat := 0x400020
/-- EVJ.RING_HELD (Table 15.6). -/
abbrev Reg.evjRingHeld : Nat := 0x400024
/-- EVJ.EXP_CTRL (Table 15.6). -/
abbrev Reg.evjExpCtrl : Nat := 0x400030
/-- EVJ.EXP_REC_LO (Table 15.6). -/
abbrev Reg.evjExpRecLo : Nat := 0x400034
/-- EVJ.EXP_REC_HI (Table 15.6). -/
abbrev Reg.evjExpRecHi : Nat := 0x400038
/-- EVJ.EXP_CP_LO (Table 15.6). -/
abbrev Reg.evjExpCpLo : Nat := 0x40003C
/-- EVJ.EXP_CP_HI (Table 15.6). -/
abbrev Reg.evjExpCpHi : Nat := 0x400040
/-- EVJ.EXP_REC_PROD (Table 15.6). -/
abbrev Reg.evjExpRecProd : Nat := 0x400044
/-- EVJ.EXP_REC_CONS (Table 15.6). -/
abbrev Reg.evjExpRecCons : Nat := 0x400048
/-- EVJ.EXP_CP_PROD (Table 15.6). -/
abbrev Reg.evjExpCpProd : Nat := 0x40004C
/-- EVJ.EXP_CP_CONS (Table 15.6). -/
abbrev Reg.evjExpCpCons : Nat := 0x400050
/-- EVJ.OVERWRITTEN (Table 15.6). -/
abbrev Reg.evjOverwritten : Nat := 0x400060
/-- EVJ.NOREC_DROP (Table 15.6). -/
abbrev Reg.evjNorecDrop : Nat := 0x400064
/-- EVJ.UNSIGNED_CP (Table 15.6). -/
abbrev Reg.evjUnsignedCp : Nat := 0x400068
/-- EVJ.CSIG_TIMEOUTS (Table 15.6). -/
abbrev Reg.evjCsigTimeouts : Nat := 0x40006C
/-- EVJ.EVENT (Table 15.6). -/
abbrev Reg.evjEvent : Nat := 0x400070

/-- TRK.CTRL (Table 16.10). -/
abbrev Reg.trkCtrl : Nat := 0x480000
/-- TRK.STATUS (Table 16.10). -/
abbrev Reg.trkStatus : Nat := 0x480004
/-- TRK.FORMAT (Table 16.10). -/
abbrev Reg.trkFormat : Nat := 0x480008
/-- TRK.BLOCK_CFG (Table 16.10). -/
abbrev Reg.trkBlockCfg : Nat := 0x48000C
/-- TRK.HB_CFG (Table 16.10). -/
abbrev Reg.trkHbCfg : Nat := 0x480010
/-- TRK.MIRROR_SA_BASE (Table 16.10). -/
abbrev Reg.trkMirrorSaBase : Nat := 0x480014
/-- TRK.MIRROR_SA_COUNT (Table 16.10). -/
abbrev Reg.trkMirrorSaCount : Nat := 0x480018
/-- TRK.LINK_DELAY (Table 16.10). -/
abbrev Reg.trkLinkDelay : Nat := 0x48001C
/-- TRK.TIME_TOL (Table 16.10). -/
abbrev Reg.trkTimeTol : Nat := 0x480020
/-- TRK.EVENT (Table 16.10). -/
abbrev Reg.trkEvent : Nat := 0x480024
/-- TRK.EVENT_EN (Table 16.10). -/
abbrev Reg.trkEventEn : Nat := 0x480028
/-- TRK.MIRROR_PENDING (Table 16.10). -/
abbrev Reg.trkMirrorPending : Nat := 0x480030
/-- TRK.MIRROR_RETX (Table 16.10). -/
abbrev Reg.trkMirrorRetx : Nat := 0x480034
/-- TRK.LEN_DROP (Table 16.10). -/
abbrev Reg.trkLenDrop : Nat := 0x480038
/-- TRK.AUTH_DROP (Table 16.10). -/
abbrev Reg.trkAuthDrop : Nat := 0x48003C
/-- TRK.FMT_DROP (Table 16.10). -/
abbrev Reg.trkFmtDrop : Nat := 0x480040
/-- TRK.TAKEOVERS (Table 16.10). -/
abbrev Reg.trkTakeovers : Nat := 0x480044
/-- TRK.TAKEOVER_SKIPPED (Table 16.10). -/
abbrev Reg.trkTakeoverSkipped : Nat := 0x480048

/-- MEM.STATUS (Table 19.3). -/
abbrev Reg.memStatus : Nat := 0x500000
/-- MEM.PART_SA (Table 19.3). -/
abbrev Reg.memPartSa : Nat := 0x500004
/-- MEM.PART_JRN (Table 19.3). -/
abbrev Reg.memPartJrn : Nat := 0x500008
/-- MEM.PART_SPILL (Table 19.3). -/
abbrev Reg.memPartSpill : Nat := 0x50000C
/-- MEM.PART_OWN (Table 19.3). -/
abbrev Reg.memPartOwn : Nat := 0x500010
/-- MEM.SCRUB_CFG (Table 19.3). -/
abbrev Reg.memScrubCfg : Nat := 0x500020
/-- MEM.SCRUB_POS (Table 19.3). -/
abbrev Reg.memScrubPos : Nat := 0x500024
/-- MEM.SCRUB_PASSES (Table 19.3). -/
abbrev Reg.memScrubPasses : Nat := 0x500028
/-- MEM.STACK_SEL (Table 19.3). -/
abbrev Reg.memStackSel : Nat := 0x500030
/-- MEM.STACK_STATUS (Table 19.3). -/
abbrev Reg.memStackStatus : Nat := 0x500034
/-- MEM.CE_INNER (Table 19.3). -/
abbrev Reg.memCeInner : Nat := 0x500040
/-- MEM.CE_OUTER (Table 19.3). -/
abbrev Reg.memCeOuter : Nat := 0x500044
/-- MEM.UE_COUNT (Table 19.3). -/
abbrev Reg.memUeCount : Nat := 0x500048
/-- MEM.SA_UE_DROP (Table 19.3). -/
abbrev Reg.memSaUeDrop : Nat := 0x50004C
/-- MEM.FAIL_ADDR_LO (Table 19.3). -/
abbrev Reg.memFailAddrLo : Nat := 0x500050
/-- MEM.FAIL_ADDR_HI (Table 19.3). -/
abbrev Reg.memFailAddrHi : Nat := 0x500054
/-- MEM.FAIL_INFO (Table 19.3). -/
abbrev Reg.memFailInfo : Nat := 0x500058
/-- MEM.EVENT (Table 19.3). -/
abbrev Reg.memEvent : Nat := 0x500060
/-- MEM.EVENT_EN (Table 19.3). -/
abbrev Reg.memEventEn : Nat := 0x500064

/-- CRD.CTRL (Table 18.6). -/
abbrev Reg.crdCtrl : Nat := 0x580000
/-- CRD.STATUS (Table 18.6). -/
abbrev Reg.crdStatus : Nat := 0x580004
/-- CRD.CLK_DIV (Table 18.6). -/
abbrev Reg.crdClkDiv : Nat := 0x580008
/-- CRD.WTX_LIMIT (Table 18.6). -/
abbrev Reg.crdWtxLimit : Nat := 0x58000C
/-- CRD.EVENT (Table 18.6). -/
abbrev Reg.crdEvent : Nat := 0x580010
/-- CRD.EVENT_EN (Table 18.6). -/
abbrev Reg.crdEventEn : Nat := 0x580014
/-- CRD.RX_DATA (Table 18.6). -/
abbrev Reg.crdRxData : Nat := 0x580020
/-- CRD.RX_STATUS (Table 18.6). -/
abbrev Reg.crdRxStatus : Nat := 0x580024
/-- CRD.REMOVALS (Table 18.6). -/
abbrev Reg.crdRemovals : Nat := 0x580030
/-- CRD.RETRIES (Table 18.6). -/
abbrev Reg.crdRetries : Nat := 0x580034

/-- VFC.STATUS (Table 11.8). -/
abbrev Reg.vfcStatus : Nat := 0x600000
/-- VFC.FUNC_SEL (Table 11.8). -/
abbrev Reg.vfcFuncSel : Nat := 0x600004
/-- VFC.FUNC_STATE (Table 11.8). -/
abbrev Reg.vfcFuncState : Nat := 0x600008
/-- VFC.QUEUE_QUOTA (Table 11.8). -/
abbrev Reg.vfcQueueQuota : Nat := 0x60000C
/-- VFC.SA_BASE (Table 11.8). -/
abbrev Reg.vfcSaBase : Nat := 0x600010
/-- VFC.SA_COUNT (Table 11.8). -/
abbrev Reg.vfcSaCount : Nat := 0x600014
/-- VFC.DIRTY_CTRL (Table 11.8). -/
abbrev Reg.vfcDirtyCtrl : Nat := 0x600018
/-- VFC.DIRTY_STATUS (Table 11.8). -/
abbrev Reg.vfcDirtyStatus : Nat := 0x60001C
/-- VFC.DIRTY_MAP_LO (Table 11.8). -/
abbrev Reg.vfcDirtyMapLo : Nat := 0x600020
/-- VFC.DIRTY_MAP_HI (Table 11.8). -/
abbrev Reg.vfcDirtyMapHi : Nat := 0x600024
/-- VFC.DIRTY_IOVA_LO (Table 11.8). -/
abbrev Reg.vfcDirtyIovaLo : Nat := 0x600028
/-- VFC.DIRTY_IOVA_HI (Table 11.8). -/
abbrev Reg.vfcDirtyIovaHi : Nat := 0x60002C
/-- VFC.DIRTY_PAGES (Table 11.8). -/
abbrev Reg.vfcDirtyPages : Nat := 0x600030
/-- VFC.MARK_COUNT (Table 11.8). -/
abbrev Reg.vfcMarkCount : Nat := 0x600034
/-- VFC.ERR_STATUS (Table 11.8). -/
abbrev Reg.vfcErrStatus : Nat := 0x600040

/-- ERC.LOG_PROD (Table 22.9). -/
abbrev Reg.ercLogProd : Nat := 0x700000
/-- ERC.LOG_CONS (Table 22.9). -/
abbrev Reg.ercLogCons : Nat := 0x700004
/-- ERC.LOG_LOST (Table 22.9). -/
abbrev Reg.ercLogLost : Nat := 0x700008
/-- ERC.SUM_STATUS (Table 22.9). -/
abbrev Reg.ercSumStatus : Nat := 0x700010
/-- ERC.SUM_EN (Table 22.9). -/
abbrev Reg.ercSumEn : Nat := 0x700014
/-- ERC.VEC (Table 22.9). -/
abbrev Reg.ercVec : Nat := 0x700018
/-- ERC.LOG… (Table 22.9). -/
abbrev Reg.ercLog : Nat := 0x740000

/-- VF.DOORBELL0… (Table 10.3). -/
abbrev Reg.vfDoorbell0 : Nat := 0x8000000
/-- VF.ADMQ_RING_LO (Table 10.3). -/
abbrev Reg.vfAdmqRingLo : Nat := 0x8001000
/-- VF.ADMQ_RING_HI (Table 10.3). -/
abbrev Reg.vfAdmqRingHi : Nat := 0x8001004
/-- VF.ADMQ_QCB_LO (Table 10.3). -/
abbrev Reg.vfAdmqQcbLo : Nat := 0x8001008
/-- VF.ADMQ_QCB_HI (Table 10.3). -/
abbrev Reg.vfAdmqQcbHi : Nat := 0x800100C
/-- VF.ADMQ_CTRL (Table 10.3). -/
abbrev Reg.vfAdmqCtrl : Nat := 0x8001010
/-- VF.ADMQ_STATUS (Table 10.3). -/
abbrev Reg.vfAdmqStatus : Nat := 0x8001014
/-- VF.STATUS (Table 10.3). -/
abbrev Reg.vfStatus : Nat := 0x8002000
/-- VF.RNG_DATA (Table 10.3). -/
abbrev Reg.vfRngData : Nat := 0x8003000
/-- VF.RNG_STATUS (Table 10.3). -/
abbrev Reg.vfRngStatus : Nat := 0x8003004

/-- The registers of block GCTL. -/
def gctlRows : List RegRow := [
  { off := Reg.gctlIdent, reset := 0x43203110 },
  { off := Reg.gctlSerialLo },
  { off := Reg.gctlSerialHi },
  { off := Reg.gctlFwVersion },
  { off := Reg.gctlLayoutId, reset := 0xFF },
  { off := Reg.gctlCtrl, rw := 0x1 },
  { off := Reg.gctlStatus },
  { off := Reg.gctlScratch, rw := 0xFFFFFFFF } ]

/-- The registers of block LCS. -/
def lcsRows : List RegRow := [
  { off := Reg.lcsState, reset := 0x75 },
  { off := Reg.lcsLcCode0 },
  { off := Reg.lcsLcCode1 },
  { off := Reg.lcsLcCode2 },
  { off := Reg.lcsProgress },
  { off := Reg.lcsBootStatus },
  { off := Reg.lcsSvnMin },
  { off := Reg.lcsRecoveryCtrl, w1c := 0x4, w1s := 0x3 },
  { off := Reg.lcsRecoveryLen, rw := 0xFFFFFFFF },
  { off := Reg.lcsRecoveryData } ]

/-- The registers of block PWR. -/
def pwrRows : List RegRow := [
  { off := Reg.pwrStatus, reset := 0x470 },
  { off := Reg.pwrCellOn },
  { off := Reg.pwrPortOn, reset := 0x1FF },
  { off := Reg.pwrCfg, reset := 0x64, rw := 0xFFFF },
  { off := Reg.pwrThermCfg, reset := 0x56E, rw := 0xFFFF },
  { off := Reg.pwrTj },
  { off := Reg.pwrThermCount, kept := true },
  { off := Reg.pwrResetCtrl, w1s := 0x1 },
  { off := Reg.pwrResetCause, reset := 0x1, kept := true },
  { off := Reg.pwrWarmCount, kept := true },
  { off := Reg.pwrPerstCount, kept := true },
  { off := Reg.pwrTransUs },
  { off := Reg.pwrSupply, reset := 0x7FF },
  { off := Reg.pwrEvent, w1c := 0xF },
  { off := Reg.pwrEventEn, rw := 0xF } ]

/-- The registers of block ADL. -/
def adlRows : List RegRow := [
  { off := Reg.adlStatus },
  { off := Reg.adlAvsCtrl, reset := 0x50064, rw := 0xF03FF },
  { off := Reg.adlAvsBounds, reset := 0x35C02A8, rw := 0x3FF03FF },
  { off := Reg.adlAvsSlack, reset := 0x1428, rw := 0xFFFF },
  { off := Reg.adlAvsVout, reset := 0x320 },
  { off := Reg.adlAvsMinSlack },
  { off := Reg.adlDroopCfg, reset := 0x828, rw := 0xFF3F },
  { off := Reg.adlDroopCount, kept := true },
  { off := Reg.adlAvsFails },
  { off := Reg.adlLaneSel, rw := 0x3F },
  { off := Reg.adlLaneCfg, reset := 0x3FF0, rw := 0x13FFF },
  { off := Reg.adlLaneStatus },
  { off := Reg.adlEyeMin, reset := 0x14, rw := 0xFFFF },
  { off := Reg.adlEvent, w1c := 0xF },
  { off := Reg.adlEventEn, rw := 0xF } ]

/-- The registers of block UST. DESIGN CHOICE (log entry 83): RTC_SET_HI stores and reads back all its 32 bits; Table 17.9 gives [15:0] their
meaning and has no row for the rest. -/
def ustRows : List RegRow := [
  { off := Reg.ustStatus, reset := 0x10 },
  { off := Reg.ustRtcSub },
  { off := Reg.ustRtcSecLo },
  { off := Reg.ustRtcSecHi },
  { off := Reg.ustRtcSetLo, rw := 0xFFFFFFFF },
  { off := Reg.ustRtcSetHi, rw := 0xFFFFFFFF },
  { off := Reg.ustRtcCtrl, reset := 0x2, rw := 0x2, w1s := 0x1 },
  { off := Reg.ustTmpCfg, rw := 0xF },
  { off := Reg.ustLogHead },
  { off := Reg.ustLogSel, rw := 0x3F },
  { off := Reg.ustLogData0, count := 4 },
  { off := Reg.ustLatchSeen } ]

/-- The registers of block TEM. -/
def temRows : List RegRow := [
  { off := Reg.temStatus },
  { off := Reg.temRespClear, w1s := 0x1 },
  { off := Reg.temLock, w1s := 0x1 },
  { off := Reg.temSrcSel, rw := 0xF },
  { off := Reg.temSrcCfg, reset := 0x40203, rw := 0xFFFFFF03 },
  { off := Reg.temSrcStatus, reset := 0xC },
  { off := Reg.temThrMargin, rw := 0xFF1FFFFF },
  { off := Reg.temThrHard, rw := 0xFFFFFFFF },
  { off := Reg.temThrBaseLim, rw := 0xFFFFFFFF },
  { off := Reg.temThrBase },
  { off := Reg.temEvent, w1c := 0x7FFF },
  { off := Reg.temEventEn, rw := 0x7FFF },
  { off := Reg.temTallySel, rw := 0x7 },
  { off := Reg.temTally } ]

/-- The registers of block RNG. -/
def rngRows : List RegRow := [
  { off := Reg.rngCtrl, reset := 0x4, rw := 0xF },
  { off := Reg.rngStatus },
  { off := Reg.rngPairState },
  { off := Reg.rngStallTmo, reset := 0xA, rw := 0x3FF },
  { off := Reg.rngData },
  { off := Reg.rngDataStatus, w1c := 0x3 },
  { off := Reg.rngBlockCount, kept := true },
  { off := Reg.rngReseedCount, kept := true },
  { off := Reg.rngHoldCount },
  { off := Reg.rngStopCount },
  { off := Reg.rngHealthFails, kept := true } ]

/-- The registers of block KST. -/
def kstRows : List RegRow := [
  { off := Reg.kstStatus },
  { off := Reg.kstRootStatus },
  { off := Reg.kstRangeSel, rw := 0xFF },
  { off := Reg.kstRange, reset := 0xFF00010 },
  { off := Reg.kstSlotSel, rw := 0xFFF },
  { off := Reg.kstAttrLo },
  { off := Reg.kstAttrHi },
  { off := Reg.kstErrStatus, w1c := 0x3 },
  { off := Reg.kstIntegrityCount, kept := true } ]

/-- The registers of block CMB. -/
def cmbRows : List RegRow := [
  { off := Reg.cmbLayout },
  { off := Reg.cmbFeatures },
  { off := Reg.cmbGroupPower, reset := 0xFFF },
  { off := Reg.cmbGroupSel, rw := 0xF },
  { off := Reg.cmbGroupStatus },
  { off := Reg.cmbEngSel, rw := 0x7F },
  { off := Reg.cmbEngInfo },
  { off := Reg.cmbEngErr },
  { off := Reg.cmbErrStatus, w1c := 0xF } ]

/-- The registers of block MCS. -/
def mcsRows : List RegRow := [
  { off := Reg.mcsStatus },
  { off := Reg.mcsImageVer },
  { off := Reg.mcsKindSel, rw := 0x3 },
  { off := Reg.mcsKindInfo },
  { off := Reg.mcsProgSel, rw := 0xFF },
  { off := Reg.mcsProgInfo },
  { off := Reg.mcsProgCycles },
  { off := Reg.mcsProgLmax },
  { off := Reg.mcsIterCycles },
  { off := Reg.mcsIterLmax },
  { off := Reg.mcsCsErr },
  { off := Reg.mcsErrStatus, w1c := 0xF },
  { off := Reg.mcsLoadDiag, kept := true } ]

/-- The registers of block FGS. -/
def fgsRows : List RegRow := [
  { off := Reg.fgsCtrl, rw := 0x1 },
  { off := Reg.fgsStatus },
  { off := Reg.fgsReleaseGrid, reset := 0x3, rw := 0x3F },
  { off := Reg.fgsWeights, reset := 0x24, rw := 0xFF },
  { off := Reg.fgsBounds, reset := 0x4406455, rw := 0xFFFFFFF },
  { off := Reg.fgsAging, reset := 0x6403E8, rw := 0xFFFFFFFF },
  { off := Reg.fgsStPeriod, reset := 0xA, rw := 0xFFF },
  { off := Reg.fgsStStatus, reset := 0xFFFF },
  { off := Reg.fgsDopSel, rw := 0xFFFF },
  { off := Reg.fgsDopNs },
  { off := Reg.fgsDopIterNs },
  { off := Reg.fgsFence0 },
  { off := Reg.fgsFence1 },
  { off := Reg.fgsFence2 },
  { off := Reg.fgsOverrunCount },
  { off := Reg.fgsPreemptCount } ]

/-- The registers of block QEN. -/
def qenRows : List RegRow := [
  { off := Reg.qenStatus },
  { off := Reg.qenTrackQuota, reset := 0x2000, rw := 0x3FFF },
  { off := Reg.qenAdmqRingLo, rw := 0xFFFFFFFF },
  { off := Reg.qenAdmqRingHi, rw := 0xFFFFFFFF },
  { off := Reg.qenAdmqQcbLo, rw := 0xFFFFFFFF },
  { off := Reg.qenAdmqQcbHi, rw := 0xFFFFFFFF },
  { off := Reg.qenAdmqCtrl, reset := 0x6, rw := 0xFFFF031F },
  { off := Reg.qenAdmqStatus, reset := 0x2 },
  { off := Reg.qenQsel, rw := 0xFFFF },
  { off := Reg.qenQstate },
  { off := Reg.qenQfetch },
  { off := Reg.qenQhead },
  { off := Reg.qenPhaseStalls },
  { off := Reg.qenDbDrops },
  { off := Reg.qenOverruns },
  { off := Reg.qenDoorbell0, count := 256 } ]

/-- The registers of block DMA. -/
def dmaRows : List RegRow := [
  { off := Reg.dmaCtrl, reset := 0x3, rw := 0x7 },
  { off := Reg.dmaStatus },
  { off := Reg.dmaChanSel, rw := 0xFF },
  { off := Reg.dmaChanStatus },
  { off := Reg.dmaChanCtrl, w1s := 0x1 },
  { off := Reg.dmaFailAddrLo },
  { off := Reg.dmaFailAddrHi },
  { off := Reg.dmaRetries },
  { off := Reg.dmaHalts, kept := true },
  { off := Reg.dmaAlignErrors },
  { off := Reg.dmaLengthErrors },
  { off := Reg.dmaHalt0, count := 8 } ]

/-- The registers of block DGE. -/
def dgeRows : List RegRow := [
  { off := Reg.dgeStatus },
  { off := Reg.dgeMrgAlg, reset := 0x40000000, rw := 0xFFFFFFFF, kept := true },
  { off := Reg.dgeMrgCtrl, w1s := 0x1, kept := true },
  { off := Reg.dgeErrStatus, w1c := 0x1 },
  { off := Reg.dgeCmdCount, kept := true },
  { off := Reg.dgeMrg, count := 384, kept := true } ]

/-- The registers of block CVU. -/
def cvuRows : List RegRow := [
  { off := Reg.cvuCtrl, reset := 0x20, rw := 0x1FF, w1s := 0x600 },
  { off := Reg.cvuStatus, w1c := 0xB },
  { off := Reg.cvuPolyLo, rw := 0xFFFFFFFF },
  { off := Reg.cvuPolyHi, rw := 0xFFFFFFFF },
  { off := Reg.cvuInitLo, rw := 0xFFFFFFFF },
  { off := Reg.cvuInitHi, rw := 0xFFFFFFFF },
  { off := Reg.cvuXoroutLo, rw := 0xFFFFFFFF },
  { off := Reg.cvuXoroutHi, rw := 0xFFFFFFFF },
  { off := Reg.cvuValueLo, rw := 0xFFFFFFFF },
  { off := Reg.cvuValueHi, rw := 0xFFFFFFFF },
  { off := Reg.cvuExpectLo, rw := 0xFFFFFFFF },
  { off := Reg.cvuExpectHi, rw := 0xFFFFFFFF },
  { off := Reg.cvuResultLo },
  { off := Reg.cvuResultHi },
  { off := Reg.cvuData8 },
  { off := Reg.cvuData32 },
  { off := Reg.cvuIrqStatus, w1c := 0xFF },
  { off := Reg.cvuIrqEn, rw := 0xFF } ]

/-- The registers of block PRT. -/
def prtRows : List RegRow := [
  { off := Reg.prtGroupCtrl, reset := 0x10, rw := 0x13F, w1s := 0x200 },
  { off := Reg.prtGroupStatus },
  { off := Reg.prtPortSel, rw := 0x3 },
  { off := Reg.prtPortCfg, reset := 0x2580, rw := 0x3FFF, w1s := 0x10000 },
  { off := Reg.prtPortStatus },
  { off := Reg.prtRxFramesLo },
  { off := Reg.prtRxFramesHi },
  { off := Reg.prtRxBytesLo },
  { off := Reg.prtRxBytesHi },
  { off := Reg.prtRxDropLo },
  { off := Reg.prtRxDropHi },
  { off := Reg.prtRxFcsErrLo },
  { off := Reg.prtRxFcsErrHi },
  { off := Reg.prtFecCorrLo },
  { off := Reg.prtFecCorrHi },
  { off := Reg.prtFecUncorrLo },
  { off := Reg.prtFecUncorrHi },
  { off := Reg.prtClsMissLo },
  { off := Reg.prtClsMissHi },
  { off := Reg.prtNoSaLo },
  { off := Reg.prtNoSaHi },
  { off := Reg.prtLenMismatchLo },
  { off := Reg.prtLenMismatchHi },
  { off := Reg.prtTxFramesLo },
  { off := Reg.prtTxFramesHi },
  { off := Reg.prtTxBytesLo },
  { off := Reg.prtTxBytesHi },
  { off := Reg.prtTxDropLo },
  { off := Reg.prtTxDropHi },
  { off := Reg.prtTxDropProtLo },
  { off := Reg.prtTxDropProtHi },
  { off := Reg.prtTxStompedLo },
  { off := Reg.prtTxStompedHi },
  { off := Reg.prtLinkDowns } ]

/-- The registers of block LCE. -/
def lceRows : List RegRow := [
  { off := Reg.lceStatus },
  { off := Reg.lcePipeFence },
  { off := Reg.lcePipeUnfence, w1s := 0xFFFF },
  { off := Reg.lceStPeriod, reset := 0x3E8, rw := 0xFFFF },
  { off := Reg.lcePnWarn, reset := 0x1C, rw := 0x3F },
  { off := Reg.lceRatchetCfg, reset := 0x64, rw := 0xFFFF },
  { off := Reg.lceEvent, w1c := 0x3F },
  { off := Reg.lceEventEn, rw := 0x3F },
  { off := Reg.lceSaSel, rw := 0xFFFFFF },
  { off := Reg.lceSaState },
  { off := Reg.lceSaPnLo },
  { off := Reg.lceSaPnHi },
  { off := Reg.lceSaGen },
  { off := Reg.lceIcvFailLo },
  { off := Reg.lceIcvFailHi },
  { off := Reg.lceReplayLo },
  { off := Reg.lceReplayHi },
  { off := Reg.lceInvalidLo },
  { off := Reg.lceInvalidHi },
  { off := Reg.lcePnHoldDropLo },
  { off := Reg.lcePnHoldDropHi },
  { off := Reg.lcePnExhDropLo },
  { off := Reg.lcePnExhDropHi },
  { off := Reg.lceMauFailLo },
  { off := Reg.lceMauFailHi },
  { off := Reg.lceMauMissingLo },
  { off := Reg.lceMauMissingHi },
  { off := Reg.lceMauPresentLo },
  { off := Reg.lceMauPresentHi },
  { off := Reg.lceRatchetsLo },
  { off := Reg.lceRatchetsHi },
  { off := Reg.lceStDeferredLo },
  { off := Reg.lceStDeferredHi },
  { off := Reg.lceLkaBytesLo },
  { off := Reg.lceLkaBytesHi } ]

/-- The registers of block TSU. -/
def tsuRows : List RegRow := [
  { off := Reg.tsuCtrl, rw := 0x1F },
  { off := Reg.tsuStatus, reset := 0x40 },
  { off := Reg.tsuRate, rw := 0xFFFFFFFF, kept := true },
  { off := Reg.tsuServoOffset, rw := 0xFFFFFFFF, kept := true },
  { off := Reg.tsuLockCfg, reset := 0x320014, rw := 0xFFFF00FF, kept := true },
  { off := Reg.tsuTodNs },
  { off := Reg.tsuTodSecLo },
  { off := Reg.tsuTodSecHi },
  { off := Reg.tsuTodAux },
  { off := Reg.tsuFreeLo },
  { off := Reg.tsuFreeHi },
  { off := Reg.tsuTcDomain, rw := 0xFFFFFFFF },
  { off := Reg.tsuTcLaunch, reset := 0x14, rw := 0x3FF },
  { off := Reg.tsuCapRingLo, rw := 0xFFFFFFFF },
  { off := Reg.tsuCapRingHi, rw := 0xFFFFFFFF },
  { off := Reg.tsuCapCtrl, reset := 0x6, rw := 0x11F },
  { off := Reg.tsuCapProd },
  { off := Reg.tsuCapCons, rw := 0xFFFFFFFF },
  { off := Reg.tsuTcCorrected },
  { off := Reg.tsuTcLate },
  { off := Reg.tsuTcFuUnmatched },
  { off := Reg.tsuCapOverflow },
  { off := Reg.tsuRxDelay, count := 10, stride := 8, rw := 0xFFFFFFFF },
  { off := Reg.tsuTxDelay, count := 10, stride := 8, rw := 0xFFFFFFFF } ]

/-- The registers of block PHW. -/
def phwRows : List RegRow := [
  { off := Reg.phwCtrl, rw := 0xF },
  { off := Reg.phwStatus },
  { off := Reg.phwNominalMv, rw := 0xFFFFFFFF },
  { off := Reg.phwFaultCfg, reset := 0x1026, rw := 0xFFFF },
  { off := Reg.phwBoundCfg, reset := 0x3080014, rw := 0xFFFFFFF },
  { off := Reg.phwFreq },
  { off := Reg.phwMag },
  { off := Reg.phwResidual },
  { off := Reg.phwBoundNs },
  { off := Reg.phwSigmaNs },
  { off := Reg.phwSuspect, w1c := 0x1 },
  { off := Reg.phwSuspectCount, kept := true } ]

/-- The registers of block EVJ. -/
def evjRows : List RegRow := [
  { off := Reg.evjStatus },
  { off := Reg.evjAnchor, reset := 0x3 },
  { off := Reg.evjCsigTmo, reset := 0xA, rw := 0xFF },
  { off := Reg.evjNextSeqLo },
  { off := Reg.evjNextSeqHi },
  { off := Reg.evjCpNumLo },
  { off := Reg.evjCpNumHi },
  { off := Reg.evjRingCap },
  { off := Reg.evjRingHeld },
  { off := Reg.evjExpCtrl, reset := 0x40A00, rw := 0xF1F03 },
  { off := Reg.evjExpRecLo, rw := 0xFFFFFFFF },
  { off := Reg.evjExpRecHi, rw := 0xFFFFFFFF },
  { off := Reg.evjExpCpLo, rw := 0xFFFFFFFF },
  { off := Reg.evjExpCpHi, rw := 0xFFFFFFFF },
  { off := Reg.evjExpRecProd },
  { off := Reg.evjExpRecCons, rw := 0xFFFFFFFF },
  { off := Reg.evjExpCpProd },
  { off := Reg.evjExpCpCons, rw := 0xFFFFFFFF },
  { off := Reg.evjOverwritten },
  { off := Reg.evjNorecDrop },
  { off := Reg.evjUnsignedCp },
  { off := Reg.evjCsigTimeouts },
  { off := Reg.evjEvent, w1c := 0xF } ]

/-- The registers of block TRK. -/
def trkRows : List RegRow := [
  { off := Reg.trkCtrl, reset := 0x2, rw := 0xF },
  { off := Reg.trkStatus },
  { off := Reg.trkFormat, reset := 0x201 },
  { off := Reg.trkBlockCfg, reset := 0x100614, rw := 0x1F0F1F },
  { off := Reg.trkHbCfg, reset := 0x14, rw := 0x7F },
  { off := Reg.trkMirrorSaBase, rw := 0xFFFFFF },
  { off := Reg.trkMirrorSaCount, rw := 0x7FFF },
  { off := Reg.trkLinkDelay },
  { off := Reg.trkTimeTol, reset := 0x3E8, rw := 0xFFFF },
  { off := Reg.trkEvent, w1c := 0x1FF },
  { off := Reg.trkEventEn, rw := 0x1FF },
  { off := Reg.trkMirrorPending },
  { off := Reg.trkMirrorRetx },
  { off := Reg.trkLenDrop },
  { off := Reg.trkAuthDrop },
  { off := Reg.trkFmtDrop },
  { off := Reg.trkTakeovers },
  { off := Reg.trkTakeoverSkipped } ]

/-- The registers of block MEM. -/
def memRows : List RegRow := [
  { off := Reg.memStatus },
  { off := Reg.memPartSa },
  { off := Reg.memPartJrn },
  { off := Reg.memPartSpill },
  { off := Reg.memPartOwn },
  { off := Reg.memScrubCfg, reset := 0x4, rw := 0x1F },
  { off := Reg.memScrubPos },
  { off := Reg.memScrubPasses },
  { off := Reg.memStackSel, rw := 0x3 },
  { off := Reg.memStackStatus },
  { off := Reg.memCeInner },
  { off := Reg.memCeOuter },
  { off := Reg.memUeCount },
  { off := Reg.memSaUeDrop },
  { off := Reg.memFailAddrLo },
  { off := Reg.memFailAddrHi },
  { off := Reg.memFailInfo },
  { off := Reg.memEvent, w1c := 0xF },
  { off := Reg.memEventEn, rw := 0xF } ]

/-- The registers of block CRD. -/
def crdRows : List RegRow := [
  { off := Reg.crdCtrl, rw := 0x1 },
  { off := Reg.crdStatus },
  { off := Reg.crdClkDiv, reset := 0x32 },
  { off := Reg.crdWtxLimit, reset := 0x2710, rw := 0xFFFF },
  { off := Reg.crdEvent, w1c := 0xF },
  { off := Reg.crdEventEn, rw := 0xF },
  { off := Reg.crdRxData },
  { off := Reg.crdRxStatus, w1c := 0x1 },
  { off := Reg.crdRemovals, kept := true },
  { off := Reg.crdRetries } ]

/-- The registers of block VFC. -/
def vfcRows : List RegRow := [
  { off := Reg.vfcStatus },
  { off := Reg.vfcFuncSel, rw := 0xFF },
  { off := Reg.vfcFuncState },
  { off := Reg.vfcQueueQuota, reset := 0x10, rw := 0x1FF },
  { off := Reg.vfcSaBase, rw := 0xFFFFFF },
  { off := Reg.vfcSaCount, reset := 0x1000000, rw := 0x1FFFFFF },
  { off := Reg.vfcDirtyCtrl, rw := 0x1, w1s := 0x2 },
  { off := Reg.vfcDirtyStatus, w1c := 0x7 },
  { off := Reg.vfcDirtyMapLo, rw := 0xFFFFFFFF },
  { off := Reg.vfcDirtyMapHi, rw := 0xFFFFFFFF },
  { off := Reg.vfcDirtyIovaLo, rw := 0xFFFFFFFF },
  { off := Reg.vfcDirtyIovaHi, rw := 0xFFFFFFFF },
  { off := Reg.vfcDirtyPages, rw := 0xFFFFFFFF },
  { off := Reg.vfcMarkCount },
  { off := Reg.vfcErrStatus, w1c := 0x1 } ]

/-- The registers of block ERC. -/
def ercRows : List RegRow := [
  { off := Reg.ercLogProd, kept := true },
  { off := Reg.ercLogCons, rw := 0xFFFFFFFF, kept := true },
  { off := Reg.ercLogLost, kept := true },
  { off := Reg.ercSumStatus, kept := true },
  { off := Reg.ercSumEn, rw := 0x1FFFF, kept := true },
  { off := Reg.ercVec, rw := 0x7FF07FF, kept := true },
  { off := Reg.ercLog, count := 4096, kept := true } ]

/-- The registers of block VF. -/
def vfRows : List RegRow := [
  { off := Reg.vfDoorbell0, count := 256 },
  { off := Reg.vfAdmqRingLo, rw := 0xFFFFFFFF },
  { off := Reg.vfAdmqRingHi, rw := 0xFFFFFFFF },
  { off := Reg.vfAdmqQcbLo, rw := 0xFFFFFFFF },
  { off := Reg.vfAdmqQcbHi, rw := 0xFFFFFFFF },
  { off := Reg.vfAdmqCtrl, reset := 0x6, rw := 0xFFFF031F },
  { off := Reg.vfAdmqStatus, reset := 0x2 },
  { off := Reg.vfStatus },
  { off := Reg.vfRngData },
  { off := Reg.vfRngStatus, w1c := 0x3 } ]

/-- The rows of the block that an offset lies in (R19, Table 1.1); none outside the spans. -/
def blockRows (key : Nat) : List RegRow :=
  if key < 0x100000 then
    match key / 0x10000 with
    | 0 => gctlRows
    | 1 => lcsRows
    | 2 => pwrRows
    | 3 => adlRows
    | 4 => ustRows
    | 5 => temRows
    | 6 => rngRows
    | 7 => kstRows
    | 8 => cmbRows
    | 9 => mcsRows
    | 10 => fgsRows
    | 11 => qenRows
    | 12 => dmaRows
    | 13 => dgeRows
    | 14 => cvuRows
    | _ => []
  else if key < 0x180000 then prtRows
  else if key < 0x200000 then []
  else if key < 0x300000 then lceRows
  else if key < 0x380000 then tsuRows
  else if key < 0x400000 then phwRows
  else if key < 0x480000 then evjRows
  else if key < 0x500000 then trkRows
  else if key < 0x580000 then memRows
  else if key < 0x600000 then crdRows
  else if key < 0x700000 then vfcRows
  else if key < 0x800000 then ercRows
  else if key < 0x8000000 then []
  else vfRows

/-- The offset in the tables that a register's key stands for: PRT pages and CVU units fold onto the first (Table 1.1, R256). -/
def tableOffset (key : Nat) : Nat :=
  if 0x100000 ≤ key ∧ key < 0x180000 then 0x100000 + key % 0x10000
  else if 0xE0000 ≤ key ∧ key < 0xE0800 then 0xE0000 + key % 0x100
  else if 0x8000000 ≤ key then 0x8000000 + key % 0x10000
  else key

/-- Whether a row covers a table offset. -/
def RegRow.covers (r : RegRow) (o : Nat) : Bool :=
  decide (r.off ≤ o) && decide (o < r.off + r.count * r.stride) && (o - r.off) % r.stride == 0

/-- The row of a register, none at an offset where no register is implemented (R13). -/
def regRow (key : Nat) : Option RegRow := (blockRows key).find? fun r => r.covers (tableOffset key)

/-- What a register holds after cold reset (R15); 0 at an offset without a register (R13). -/
def regReset (key : Nat) : W32 := match regRow key with
  | some r => r.reset
  | none => 0

/-- The value a write leaves in a register by its access type alone (R14): RW bits take the value written, a 1 clears an RW1C bit and sets
a W1S bit, every other bit stays. -/
def RegRow.write (r : RegRow) (old v : W32) : W32 :=
  (clearBits (clearBits old (r.rw)) (r.w1c &&& v)) ||| (v &&& (r.rw ||| r.w1s))

end Sys2Proof.Machine
end

