-- ==== Sys2Proof/Machine/State.lean ====
section
/-!
DEFINITION. The state of the machine, as plain data: every register, queue, slot, counter and mode that the spec gives the
block, the queue of waiting commands, and the state after reset. Faults and refusals.
-/
namespace Sys2Proof.Machine
open Sys2Proof

/-! ### Queues and entries (chapter 10) -/

/-- A work entry as fetched: the fields of Table 10.6 (R266, R267). -/
structure WorkEntry where
  opcode : Nat := 0
  flags : Byte := 0
  byte3 : Byte := 0
  tag : Nat := 0
  /-- bytes 8–15: LIST_ADDR or the first inline bytes -/
  w8 : Bytes := []
  msgLen : Nat := 0
  fragCount : Nat := 0
  rsvd22 : Nat := 0
  outAddr : Nat := 0
  outCap : Nat := 0
  keySlot : Nat := 0
  /-- bytes 40–55 -/
  params : Bytes := []
  /-- bytes 56–63 as the host wrote them -/
  tail : Bytes := []
  deriving DecidableEq, Repr

/-- One write that the device makes in a function's memory (R293). -/
structure HostWrite where
  func : Nat
  addr : Nat
  bytes : Bytes
  deriving DecidableEq, Repr

/-- A write on its way: the write, its KIND (Table 11.7), and the queue and TAG of the entry that it serves (R299, R301). -/
structure ChanWrite where
  write : HostWrite
  kind : XferKind
  qid : Nat
  tag : Nat
  deriving DecidableEq, Repr

/-- How far a fetched entry has come: its input is being gathered; it is ready for its unit; its unit holds it;
or it has ended and its writes are held (R260). -/
inductive TrackPhase where
  | gather | ready | busy | held
  deriving DecidableEq, Repr

/-- A slot of the completion tracker: the entry that holds it (R276). -/
structure Track where
  func : Nat
  qid : Nat
  index : W32
  entry : WorkEntry
  phase : TrackPhase := .ready
  /-- the gathered input stream (R296) -/
  input : Bytes := []
  /-- the first failing check of Table 11.1, as STATUS and EXT_STATUS -/
  dmaFail : Option (Nat × Nat) := none
  /-- order of fetch (R86) -/
  order : Nat := 0
  /-- it has passed its earlier checks, holds its claims, and waits for entropy at its step 7 or 8 (R138, R189) -/
  step8 : Bool := false
  deriving DecidableEq, Repr

/-- Queue states, coded as QEN.QSTATE.STATE (Table 10.10). -/
inductive QState where
  | absent | enabled | draining | idle
  deriving DecidableEq, Repr

/-- What a disabled queue still has to do with its unfetched entries (R286): nothing; read PROD_IDX; end the entries up to it. -/
inductive DrainStage where
  | none | prod | upTo (prod : W32)
  deriving DecidableEq, Repr

/-- One queue (R263 to R288). -/
structure Queue where
  state : QState := .absent
  ring : Nat := 0
  qcb : Nat := 0
  log2 : Nat := 0
  vector : Nat := 0
  fetch : W32 := 0
  /-- HEAD_IDX as last formed (R277) -/
  head : W32 := 0
  /-- HEAD_IDX as last written to the QCB -/
  headWritten : W32 := 0
  target : W32 := 0
  error : Bool := false
  errCode : Nat := 0
  /-- indices marked by ENTRY_ABORT before their fetch (R288) -/
  marks : List W32 := []
  /-- indices at or above `head` whose status area is written and whose flushing read, if any, has returned -/
  retired : List W32 := []
  /-- BARRIER indices whose flushing read is outstanding (R278) -/
  flushing : List W32 := []
  /-- IRQ indices not yet signalled (R280) -/
  irq : List W32 := []
  /-- rereads of a slot whose PHASE was not current (R273); none while no retry runs -/
  retries : Option Nat := none
  /-- the scan waits for its turn or for a tracker slot (R275, R276) -/
  waiting : Bool := false
  /-- a doorbell whose read of PROD_IDX waits for Bus Master Enable, or for the end of the scan that runs (R260, R271) -/
  rung : Bool := false
  /-- its unfetched entries are still to end (R286) -/
  drain : DrainStage := .none
  deriving DecidableEq, Repr

/-- A failed transfer that waits for its retry (R300). -/
structure FailedXfer where
  kind : XferKind
  cause : FailCause
  addr : Nat
  qid : Nat
  tag : Nat
  tries : Nat := 0
  /-- the address of a flushing read that failed -/
  flush : Nat := 0
  deriving DecidableEq, Repr

/-- One DMA channel (R293, R299 to R302). -/
structure Channel where
  halted : Bool := false
  /-- DMA.CHAN_STATUS apart from HALTED -/
  record : W32 := 0
  failAddr : Nat := 0
  /-- the failed transfers that wait for a retry, the one due next first -/
  failed : List FailedXfer := []
  /-- writes not yet sent: the link was down, or the function's Bus Master Enable was 0 (R260, R299) -/
  waiting : List ChanWrite := []
  /-- writes sent since the last successful flushing read (R299) -/
  unflushed : List ChanWrite := []
  deriving DecidableEq, Repr

/-- One function: its configuration-space state and its VFC settings (R257 to R262, R303 to R310). -/
structure Func where
  bme : Bool := false
  d3hot : Bool := false
  flrActive : Bool := false
  relaxed : Bool := true
  noSnoop : Bool := true
  /-- Completion Timeout Value of Device Control 2 (Table 11.10) -/
  cto : BitVec 4 := 0
  maxPayload : Nat := 128
  maxRead : Nat := 512
  /-- MSI-X Enable and Function Mask -/
  msixEnable : Bool := false
  msixMask : Bool := false
  quota : Nat := 16
  saBase : Nat := 0
  saCount : Nat := 0
  dirtyEn : Bool := false
  dirtyStatus : W32 := 0
  dirtyMap : Nat := 0
  dirtyIova : Nat := 0
  dirtyPages : Nat := 0
  markCount : W32 := 0
  /-- a sync's flushing read is outstanding, or waits for PF0's Bus Master Enable (R260, R310) -/
  syncing : Bool := false
  syncDue : Bool := false
  /-- the function's random-word FIFO (R198) -/
  fifo : List W32 := []
  /-- the function's key range and PLAIN_IMPORT (R209, R211) -/
  keyBase : Nat := 0
  keyCount : Nat := 0
  plainImport : Bool := false
  /-- the queue that the QEN served last (R275) -/
  lastQueue : Nat := 0
  deriving DecidableEq, Repr

/-- One MSI-X vector of a function: masked as PCIe resets it, its message address and data, its pending bit (R529, R531). -/
structure Vector where
  masked : Bool := true
  pending : Bool := false
  addr : Nat := 0
  data : W32 := 0
  deriving DecidableEq, Repr

/-- One error-log entry: the fields of Table 22.6. -/
structure LogEntry where
  time : W64
  code : Nat
  cls : Nat := 0
  scope : Nat := 3
  func : Nat := 0
  qid : Nat := 0xFFFF
  tag : Nat := 0
  object : Nat := 0
  detail : Nat := 0
  deriving DecidableEq, Repr

/-! ### Life cycle, images and boot (chapter 2) -/

/-- Life-cycle states, in the order of their index in Table 2.1. -/
inductive LcState where
  | blank | manufacture | provisioned | owned | returned | terminated
  deriving DecidableEq, Repr

/-- The owner record (R42): two key hashes and the BVR policy bit. -/
structure OwnerRecord where
  imageKeyHash : Bytes
  debugKeyHash : Bytes
  bvrPolicy : Bool
  deriving DecidableEq, Repr

/-- One burnt copy of a root secret: the bytes and the 32-bit check value beside them (R45, R212). -/
structure RootCopy where
  bytes : Bytes
  check : Bytes
  deriving DecidableEq, Repr

/-- What the one-time-programmable store holds (R38, R42, R45, R47, R59). -/
structure Otp where
  lc0 : W32 := 0
  lc1 : W32 := 0
  lc2 : W32 := 0
  /-- the eight progress marks, three copies each (R47) -/
  marks : List (W32 × W32 × W32) := List.replicate 8 (0, 0, 0)
  serial : W64 := 0
  dukA : Option RootCopy := none
  dukB : Option RootCopy := none
  seedA : Option RootCopy := none
  seedB : Option RootCopy := none
  ownerRecord : Option OwnerRecord := none
  vendorKeyHash : Bytes := []
  vendorImageSecret : Bytes := []
  /-- unary minimum SVN of TYPE 1, 2 and 3 (R59) -/
  svnFw : Nat := 0
  svnLayout : Nat := 0
  svnMcode : Nat := 0
  deriving DecidableEq, Repr

/-- How far boot has come (Table 2.7). -/
inductive BootPhase where
  | reset      -- held in cold reset
  | rom        -- recovery: the ROM waits for an image (R67)
  | resuming   -- step 6: an open transition is being resumed (R48)
  | waiting    -- steps 7 and 8: start-up tests and HBM training are running
  | testing    -- step 11: known-answer tests are running (R65)
  | stopped    -- a stack failed twice, or no pair passed (R193, R482)
  | done       -- BOOT_DONE
  deriving DecidableEq, Repr

/-- The life-cycle block's state beside its registers. -/
structure Lcs where
  otp : Otp := {}
  flash : Flash := {}
  phase : BootPhase := .reset
  state : LcState := .terminated
  decodeInvalid : Bool := false
  resumed : Bool := false
  pending : Option LcState := none
  xferActive : Bool := false
  /-- the tracker slot of the transition that runs, and what its LCS_TRANSITION asked for -/
  xferSlot : Option Nat := none
  xferRecord : Option OwnerRecord := none
  /-- its target, its mark entry, the step that comes next, and the owner seed while its copies are burnt -/
  xferTarget : LcState := .blank
  xferMark : Nat := 0
  xferStep : Nat := 0
  xferSeed : Bytes := []
  /-- this boot is a warm reset's (R493) -/
  warm : Bool := false
  /-- engines and pipelines whose test of step 11 has not ended (R65) -/
  katEngines : List Nat := []
  katPipes : List Nat := []
  debugEn : Bool := false
  testRoot : Bool := false
  /-- a debug unlock has put the test root in force until the next cold reset (R41) -/
  unlocked : Bool := false
  /-- a confirmation of a move to RETURN has failed, and its retry from step 2 has not yet passed that step (R44) -/
  retryDue : Bool := false
  /-- the outstanding challenge, and those that have lapsed since the cold reset, newest first (R54) -/
  challenge : Option Bytes := none
  lapsed : List Bytes := []
  /-- the one-shot RETURN authorisation (R42) -/
  returnAuth : Bool := false
  /-- the bank that IMAGE_ACTIVATE named for the next cold reset (R60) -/
  nextActiveB : Bool := false
  /-- SVN of the image of TYPE 1, 2, 3 loaded at this boot (R59) -/
  loadedSvn : Nat × Nat × Nat := (0, 0, 0)
  /-- the recovery buffer, whether a load runs and whether words beyond its end arrived (R67) -/
  recovery : Bytes := []
  recoveryBusy : Bool := false
  recoveryLen : Nat := 0
  recoveryWords : Nat := 0
  deriving DecidableEq, Repr

/-! ### The Comb and the forager (chapters 3 and 4) -/

/-- Stored engine states; GATED follows from the power of the cell group, BUSY from the operations held, and FENCED from the fence, whose bit
stands apart from the state (Table 3.10, R109). -/
inductive EngState where
  | ready | withdrawn | wiping
  deriving DecidableEq, Repr

/-- A 64-bit word of operand memory, and whether it still counts as written: marking makes it invalid, and it then reads as zero (R71, R100). -/
structure MemWord where
  data : W64 := 0
  valid : Bool := true
  deriving DecidableEq, Repr

/-- One set of stores (Table 4.1): entry table, control store with the check bits of each of its words, directory and program store, as their
image words. -/
structure StoreSet where
  entry : Bytes := []
  control : Bytes := []
  /-- the 7 check bits of each control-store word -/
  check : List (BitVec 7) := []
  directory : List Bytes := []
  program : Bytes := []
  deriving DecidableEq, Repr

/-- The sequencer of an engine and its units, between two microwords (R115 to R121): what an instruction has at its start and changes as its
words issue. -/
structure Sequencer where
  /-- address of the next control-store word -/
  addr : Nat := 0
  /-- LC0 to LC3 and the element pointer -/
  counters : List Nat := [0, 0, 0, 0]
  pointer : Nat := 0
  /-- operand latches 0 to 3 -/
  latches : List (BitVec 512) := [0, 0, 0, 0]
  modulus : BitVec 256 := 0
  constants : BitVec 256 := 0
  /-- multiply, carry-less, Keccak and SHA-2 accumulations -/
  acc : BitVec 512 := 0
  clmul : BitVec 512 := 0
  keccak : BitVec 1600 := 0
  sha : BitVec 512 := 0
  shaBlock : BitVec 1024 := 0
  /-- condition groups 4, 8 and 9: IDX_OOR, REJ, ITER_FIRST; the CMP bits; CARRY, ZERO, SIGN, BIT_SEL -/
  idxOor : Bool := false
  rej : Bool := false
  iterFirst : Bool := false
  cmp : BitVec 4 := 0
  data : BitVec 4 := 0
  /-- mask words drawn -/
  masks : Nat := 0
  deriving DecidableEq, Repr

/-- The shadow area and the shadow copies of the short registers and the condition flags (R83): what the running instruction has written and not
yet committed. `words` holds operand-memory words by their index in the engine, long registers among them. -/
structure Shadow where
  words : Sparse W64 := []
  short : Option (Nat × BitVec 256) := none
  deriving DecidableEq, Repr

/-- What a preemption saved (R92): its area of the SPILL partition, the 64-byte lines of operand memory that the area holds, and the condition flags. -/
structure Saved where
  area : Nat := 0
  lines : List Nat := []
  flags : Sequencer := {}
  deriving DecidableEq, Repr

/-- One engine of the layout in force (R73 to R76). -/
structure Engine where
  kind : Nat
  firstCell : Nat
  maskCh : Nat
  state : EngState := .ready
  /-- it is FENCED (R103); the fence of a master copy's error holds until a reset (R114) -/
  fenced : Bool := false
  fenceHeld : Bool := false
  /-- a fence that takes effect once the running operation ends (R103); it is one of R90 -/
  fenceDue : Bool := false
  ceDue : Bool := false
  /-- the free-running counts of its corrected errors (CE_RATE, R90), newest first, at most 255 -/
  ceTimes : List W64 := []
  ceTotal : Nat := 0
  ueCount : Nat := 0
  /-- operand memory of its cells by 64-bit word, first cell first; an unlisted word is zero. The 34 KiB of V0 to V31 and the shadow area lie in it
  (R71, R74) -/
  memory : Sparse MemWord := []
  /-- S0 to S15, which the sequencer holds (R74) -/
  shorts : List (BitVec 256) := List.replicate 16 0
  /-- the sequencer as it runs, as the last commit left it, and the shadow of the running instruction (R83, R120) -/
  seq : Sequencer := {}
  flags : Sequencer := {}
  shadow : Shadow := {}
  /-- its copy of the stores of its kind (R113) -/
  stores : StoreSet := {}
  /-- where its mask-feed channel stood when its class C body started: the state, and the words drawn from it before (R75, R184) -/
  feed : BitVec 127 := 0
  fed : Nat := 0
  deriving DecidableEq, Repr

/-- The device's own Comb jobs (R33). -/
inductive OwnJob where
  | cpSign (cpNum : Nat)
  | csig (link : Nat) (digest : Bytes)
  | helloKem (link : Nat)
  | helloAck (link : Nat)
  /-- the ML-KEM key and the signature of a HELLO, and the decapsulation of a HELLO_ACK (R413) -/
  | helloKey (link : Nat)
  | helloSign (link : Nat)
  | ackOpen (link : Nat)
  deriving DecidableEq, Repr

/-- Whose operation it is: the entry in a tracker slot, or an own job. -/
inductive OpSrc where
  | host (slot : Nat)
  | own (job : OwnJob)
  deriving DecidableEq, Repr

/-- The stages of a Comb operation (R86 to R101, R139). -/
inductive OpStage where
  | waiting          -- not yet admitted by the forager
  | queued           -- placed on an engine that still holds another operation
  | leafWait         -- LMS_SIGN at step 7 without a confirmed leaf (R155)
  | prefixRun        -- the public prefix runs (R139)
  | tickWait         -- holds its engine, waits for its grid tick (R94)
  | body             -- the class C body or class P program runs
  | ended            -- a class C result waits for release (R96)
  | tail             -- the class P tail of the last LMS_TREE_BUILD (R152)
  | preempted        -- saved to the spill partition (R92)
  | regather         -- abandoned once: its inputs are gathered again (R97)
  deriving DecidableEq, Repr

/-- What an operation ends with: STATUS, EXT_STATUS, output, and the content its destination slot takes. -/
structure Outcome where
  status : Nat := 0
  ext : Nat := 0
  out : Bytes := []
  content : Option Bytes := none
  /-- the public-key hash tr beside an ML-DSA seed (R223) -/
  tr : Bytes := []
  deriving DecidableEq, Repr

/-- One operation in the Comb. -/
structure CombOp where
  /-- its number: the tracker slot of its entry; 8,192 and up for an own job -/
  id : Nat
  src : OpSrc
  func : Nat := 0
  /-- the entry's opcode, and the opcode whose program runs -/
  entryOp : Nat
  opcode : Nat
  kind : Nat
  classC : Bool
  hasPrefix : Bool := false
  /-- it draws DRBG output (Tables 5.1 and 6.1) -/
  drbg : Bool := false
  iterating : Bool := false
  prio : Nat := 0
  order : Nat := 0
  stage : OpStage := .waiting
  engine : Option Nat := none
  /-- 0 for the first run, 1 for the second (R97) -/
  run : Nat := 0
  restarts : Nat := 0
  wasPreempted : Bool := false
  /-- its state in the spill partition while it is preempted (R92) -/
  saved : Option Saved := none
  /-- the first mask words of its run, which blind its secret arithmetic (R174) -/
  blinds : List W64 := []
  /-- place in the waiting order: 0 by fetch, 1 first in its priority (R92, R97), 2 ahead of all (R91) -/
  rank : Nat := 0
  /-- the order in which operations were placed: an engine starts them in it (R91) -/
  placed : Nat := 0
  /-- the free-running count when it began to wait for the forager (R92) -/
  waitFrom : W64 := 0
  /-- it waits at step 8 of Table 5.7 (R138) -/
  step8 : Bool := false
  /-- the free-running count when it took its engine, and at the start of the body (R94) -/
  since : W64 := 0
  start : W64 := 0
  /-- passes of the iteration segment that the body takes, and passes allowed (R121, R146) -/
  passes : Nat := 0
  iterMax : Nat := 0
  /-- the next instruction of its program, relative to START, and the pass of the segment that it is in (R120, R121) -/
  ix : Nat := 0
  pass : Nat := 1
  /-- taken at admission: slot content, tr, TEST, input stream, parameters, claimed destination (R136) -/
  key : Bytes := []
  tr : Bytes := []
  test : Bool := false
  input : Bytes := []
  params : Bytes := []
  keySlot : Nat := 0
  dest : Option Nat := none
  leaf : Option Nat := none
  /-- DRBG output drawn for the operation -/
  draw : Bytes := []
  result : Outcome := {}
  deriving DecidableEq, Repr

/-- One operation program of the loaded microcode (R113, R120, R121, R127). -/
structure Program where
  kind : Nat
  opcode : Nat
  classC : Bool
  compat : Bool := false
  pset : Nat := 0
  iterating : Bool := false
  iterMax : Nat := 0
  /-- P(op) and L(op), or P0 and L0; P1 and L1 of the segment -/
  p0 : Nat := 0
  l0 : Nat := 0
  p1 : Nat := 0
  l1 : Nat := 0
  deriving DecidableEq, Repr

/-- A known-answer test that is due, requested or running (R104, R105, R108, R109). -/
inductive TestReason where
  | periodic | selftestRun (slot : Nat) | unfence (slot : Nat) | afterReload | orphan
  deriving DecidableEq, Repr

/-- The entry that asked for a test. -/
def TestReason.slot : TestReason → Option Nat
  | .selftestRun n | .unfence n => some n
  | _ => none

/-- The progress of a SELFTEST_RUN command: whether it named one engine, the engines whose test has not ended, tested, failed, first failed
(R108). -/
structure SelftestRun where
  slot : Nat
  one : Bool := false
  todo : List Nat
  tested : Nat := 0
  failed : Nat := 0
  firstFailed : Option Nat := none
  deriving DecidableEq, Repr

/-- The Comb, its stores and the forager. -/
structure Comb where
  groupMask : Nat := 0
  engines : List Engine := []
  dgeSlotEn : Bool := false
  ops : List CombOp := []
  /-- programs of the loaded stores and words loaded, per kind (R113) -/
  stores : List StoreSet := List.replicate 4 {}
  programs : List Program := []
  csWords : List Nat := [0, 0, 0, 0]
  kindLoaded : Nat := 0
  /-- RELEASE_GRID.STEPS in force; the register holds the value written (R98) -/
  gridSteps : Nat := 3
  gridPending : Bool := false
  /-- the engine under test and why, and the tests that wait (R105) -/
  testing : Option (Nat × TestReason) := none
  /-- that engine's test has passed, and it wipes (stage 3 of R104) -/
  testPassed : Bool := false
  testQueue : List (Nat × TestReason) := []
  testRuns : List SelftestRun := []
  /-- next engine of the periodic test (R104) -/
  nextTest : Nat := 0
  /-- own jobs raised so far, and operations placed -/
  ownSeq : Nat := 0
  placeSeq : Nat := 0
  /-- ENGINE_FENCE entries that wait for their fence (R107) -/
  fenceWait : List (Nat × Nat) := []
  /-- temperature of each cell group, °C (R88) -/
  temps : List Int := List.replicate 12 0
  deriving DecidableEq, Repr

/-! ### Key store (chapter 8) -/

/-- A reservation block of an LMS key that is not yet confirmed (R155). -/
structure LmsBlock where
  first : Nat
  stop : Nat
  recordOk : Bool := false
  mirrorOk : Bool := false
  deriving DecidableEq, Repr

/-- The tree descriptor beside a slot of KIND 0x20 (R153). -/
structure TreeDesc where
  /-- the PA of the key's tree cache in the own partition -/
  cacheAt : Nat := 0
  /-- the function in whose memory the record lies -/
  func : Nat := 0
  recordAddr : Nat
  floor : Nat
  /-- the blocks of the tree cache already built, by their LEAF_BASE -/
  built : List Nat := []
  root : Bytes := []
  /-- reservation records written since the tree was built -/
  resvSeq : Nat := 0
  block : Option LmsBlock := none
  deriving DecidableEq, Repr

/-- One slot of the key store: content, attribute word, and what is kept beside them (R204, R205, R153, R223). -/
structure KeySlot where
  content : Bytes := []
  attr : W64 := 0
  tr : Bytes := []
  tree : Option TreeDesc := none
  /-- the slot's SRAM no longer matches its parity or integrity code (R227) -/
  bad : Bool := false
  deriving DecidableEq, Repr

/-- A slot as every reset leaves it: a device slot has DEVICE, LOCKED and ORIGIN 1 whether it holds a key or not, and a host slot is unprepared
(R205, R213, R228). -/
def slotReset (n : Nat) : KeySlot := if n < 16 then { attr := 0x10000000C } else {}

/-- State of the battery-held root (R215). -/
inductive BvrState where
  | none | valid | lost | erased
  deriving DecidableEq, Repr

/-- The key store beside its registers. -/
structure Kst where
  slots : Sparse KeySlot := []
  bvr : Bytes := []
  bvrState : BvrState := .none
  /-- device slots that failed their integrity check and wait to be derived again (R227) -/
  rederive : List Nat := []
  deriving DecidableEq, Repr

/-! ### Time, tamper and power (chapters 14, 17, 20) -/

/-- The timestamp counter (R366, R369). -/
structure Tod where
  sec : Nat := 0
  ns : Nat := 0
  /-- the fraction of a nanosecond, residue included, in units of 1/(2^18 × 10^9) ns, in which every INCR is whole -/
  sub : Nat := 0
  /-- a SERVO_OFFSET write since cold reset or the last absolute step -/
  servoSeen : Bool := false
  /-- CLK_CTL edges since the last SERVO_OFFSET write (R367) -/
  servoAge : Nat := 0
  deriving DecidableEq, Repr

/-- One tamper source (R436, R439 to R442). -/
structure Source where
  cls : Nat
  count : Nat
  window : Nat
  margin : Nat := 0
  tc : Nat := 0
  hardLo : Int := 0
  hardHi : Int := 0
  baseLo : Int := 0
  baseHi : Int := 0
  /-- one baseline per detector, in units of 2^-20 code; none before the first sample -/
  bases : List Int := []
  /-- ticks for which the baselines stay frozen -/
  frozen : Nat := 0
  active : Bool := false
  /-- events of the last WINDOW ticks, newest first -/
  history : List Nat := []
  /-- qualified, and not yet a full WINDOW below COUNT -/
  latched : Bool := false
  /-- ticks since it qualified -/
  since : Nat := 0
  quals : Nat := 0
  deriving DecidableEq, Repr

/-- One entry of the battery event log (Table 17.6). -/
structure BattEntry where
  seconds : Nat
  sub : Nat
  source : Nat
  cls : Nat
  onBattery : Bool
  pending : Bool
  rtcInvalid : Bool
  sample : Nat
  deriving DecidableEq, Repr

/-- The tamper block beside its registers. -/
structure Tem where
  /-- 0 none, 1 DEGRADE, 2 HALT, 3 ZEROISE (TEM.STATUS.RESP) -/
  resp : Nat := 0
  locked : Bool := false
  cfgErr : Bool := false
  sources : List Source := []
  /-- integrity failures and internal alarms since the last tick of sources 4 and 5 -/
  icode : Nat := 0
  internal : Nat := 0
  /-- tally bits burnt per group, and the groups already burnt in this boot (R448) -/
  tallies : List Nat := List.replicate 8 0
  burntBoot : List Nat := []
  deriving DecidableEq, Repr

/-- The understorey (R447 to R455). -/
structure Ust where
  log : Sparse (Option BattEntry) := []
  logNext : Nat := 0
  logTotal : Nat := 0
  latch : List Nat := List.replicate 8 0
  latchZeroise : Bool := false
  latchSeen : List Nat := List.replicate 8 0
  latchSeenZeroise : Bool := false
  onBattery : Bool := false
  sramLost : Bool := false
  rtcSec : Nat := 0
  rtcSub : Nat := 0
  rtcValid : Bool := false
  /-- the crystal runs, and VBAT is at least 2.3 V, as the last tick saw them -/
  xtalOk : Bool := false
  vbatOk : Bool := false
  /-- latched words: RTC seconds, LOG_DATA1 to LOG_DATA3 -/
  rtcLatch : Nat := 0
  logLatch : List W32 := [0, 0, 0]
  deriving DecidableEq, Repr

/-- A power-state change under way (R502). -/
structure PowerChange where
  slot : Option Nat
  target : Nat
  cellOn : Nat
  portOn : Nat
  trunkOn : Bool
  began : W64
  aborting : Bool := false
  /-- the checkpoint that a change to P3 or P4 takes once its work has drained (R396, R502) -/
  checkpoint : Option Nat := none
  deriving DecidableEq, Repr

/-- Power, reset and thermal state beside the registers (chapter 20). -/
structure Pwr where
  /-- PORST_N is low, TESTMODE is high, the supply monitor holds reset: each holds the device in cold reset -/
  porstLow : Bool := true
  testmode : Bool := false
  supplyHold : Bool := false
  perstLow : Bool := true
  refOk : Bool := false
  state : Nat := 0
  cellOn : Nat := 0
  portOn : Nat := 0xFF
  trunkOn : Bool := true
  change : Option PowerChange := none
  /-- a warm reset held until what it must wait for ends (R493) -/
  warmHeld : Bool := false
  thermLimit : Bool := false
  /-- consecutive samples below T_LIMIT − HYST (R507) -/
  thermBelow : Nat := 0
  straps : Nat := 0
  deriving DecidableEq, Repr

/-! ### Entropy (chapter 7) -/

/-- One jitter pair (R179 to R182, R191). -/
structure Pair where
  inService : Bool := false
  /-- a start-up test runs: the samples it has taken -/
  starting : Option Nat := none
  /-- a sample of the start-up test failed -/
  suFailed : Bool := false
  /-- which of its tests has reached its cutoff: repetition count, adaptive proportion -/
  suRct : Bool := false
  suApt : Bool := false
  lastBit : Option Bool := none
  run : Nat := 0
  aptCount : Nat := 0
  aptPos : Nat := 0
  aptFirst : Bool := false
  deriving DecidableEq, Repr

/-- One mask-feed channel (R184 to R186). -/
structure MaskChan where
  seeded : Bool := false
  state : BitVec 127 := 0
  /-- the state is that of the last reseed point; mask words drawn since -/
  words : Nat := 0
  /-- queued seeds, oldest first -/
  queue : List Bytes := []
  fill : Nat := 2
  hold : Bool := false
  stopped : Bool := false
  /-- bytes of the last 4,096 that its pipeline has processed (Table 7.2) -/
  bytes : Nat := 0
  deriving DecidableEq, Repr

/-- One DRBG instance (R188, R189). -/
structure Drbg where
  live : Bool := false
  /-- the block taken of the two that instantiate it -/
  half : Bytes := []
  /-- working state, as the standard's functions give it -/
  work : Bytes := []
  calls : Nat := 0
  reseedDue : Bool := false
  /-- order of the reseed request -/
  dueOrder : Nat := 0
  stopped : Bool := false
  deriving DecidableEq, Repr

/-- Why the entropy source starts (R191, R193). -/
inductive StartKind where
  | cold | warm | leaveP3
  deriving DecidableEq, Repr

/-- An RNG_RAW_READ that gathers samples. -/
structure RawRead where
  slot : Nat
  pair : Nat
  need : Nat
  bits : List Bool := []
  deriving DecidableEq, Repr

/-- An RNG_PAIR_RESTORE that waits for the test of its pair; an abort leaves the test to finish (R202). -/
structure Restore where
  slot : Nat
  pair : Nat
  aborted : Bool := false
  deriving DecidableEq, Repr

/-- The entropy block beside its registers. -/
structure Rng where
  /-- the pairs and the conditioner run (R199) -/
  running : Bool := false
  pairs : List Pair := List.replicate 8 {}
  /-- raw bits gathered for the next block, in order of arrival (R183) -/
  raw : List Bool := []
  /-- blocks since cold reset -/
  ctr : Nat := 0
  /-- the block buffer (R190) -/
  buffer : List Bytes := []
  chans : List MaskChan := List.replicate 64 {}
  drbgs : List Drbg := List.replicate 4 {}
  ready : Bool := false
  fault : Bool := false
  /-- R194 governs: the start-up has ended -/
  armed : Bool := false
  /-- the start-up under way, its round of tests, and its waiver of the floor (R193) -/
  start : Option StartKind := none
  round : Nat := 0
  waived : Bool := false
  /-- blocks delivered of the 40 of R192 -/
  startBlocks : Nat := 0
  /-- reseed requests so far -/
  dueSeq : Nat := 0
  /-- the function last served by the FIFO round robin (R198) -/
  lastServed : Nat := 0
  rawReads : List RawRead := []
  restores : List Restore := []
  /-- RNG_GENERATE entries with PR = 1 that wait for their reseed, and those that have had it -/
  prWait : List Nat := []
  prDone : List Nat := []
  deriving DecidableEq, Repr

/-! ### Digest engine and check-value units (chapter 9) -/

/-- A 0x0600 to 0x0604 command in the DGE: the lane that runs it, none while it waits, and what it took at admission
(R234, R246). -/
structure DgeCmd where
  slot : Nat
  order : Nat
  lane : Option Nat := none
  key : Bytes := []
  test : Bool := false
  dest : Option Nat := none
  /-- a KEY_DERIVE, which takes a lane ahead of host commands; `key` is the derived content -/
  internal : Bool := false
  deriving DecidableEq, Repr

/-- The DGE beside its registers, and the commands that hold a CVU or wait for one (R234, R244, R248, R254). -/
structure Dge where
  cmds : List DgeCmd := []
  /-- MRG0 to MRG31, 48 bytes each -/
  mrg : List Bytes := List.replicate 32 (List.replicate 48 0)
  /-- the device's own extensions that wait for a lane: register and value -/
  ownExt : List (Nat × Bytes) := []
  /-- unit and tracker slot of each CVU_RUN that holds its unit -/
  cvuOwned : List (Nat × Nat) := []
  /-- CVU_RUN commands that wait for their unit, in order -/
  cvuWait : List (Nat × Nat) := []
  deriving DecidableEq, Repr

/-! ### Line ports, classification and line security (chapters 12 and 13) -/

/-- One port of a group (R318, R333). -/
structure Port where
  maxFrame : Nat := 9600
  link : Bool := false
  pcsLock : Bool := false
  fecLock : Bool := false
  anDone : Bool := false
  trained : Bool := false
  localFault : Bool := false
  remoteFault : Bool := false
  deriving DecidableEq, Repr

/-- One port group: the settings applied (R315, R317); PAIR_EN is in its register. -/
structure Group where
  mode : Nat := 0
  fec25 : Bool := true
  media : Nat := 0
  applying : Bool := false
  ports : List Port := [{}, {}, {}, {}]
  deriving DecidableEq, Repr

/-- A reservation block of packet numbers, or of journal sequence numbers; `stop` is exclusive (R342, R394). -/
structure Block where
  start : Nat
  stop : Nat
  confirmed : Bool := false
  deriving DecidableEq, Repr

/-- An installed SA (R334 to R355). -/
structure Sa where
  saType : Nat
  func : Nat := 0
  pinned : Bool := false
  desc : Bytes := []
  key : Bytes := []
  /-- RK_g of a ratcheting channel -/
  rk : Bytes := []
  gen : Nat := 0
  /-- TX: next value to assign; MACSEC_RX: NEXT_RX_PN; ESP_IN: T -/
  next : Nat := 0
  /-- LAPN of a MACSEC_RX SA -/
  lapn : Nat := 0
  /-- the numbers of an ESP_IN window whose bit is set -/
  seen : List Nat := []
  /-- the lines of 128 bytes of the SA partition that its context takes (R340) -/
  place : List Nat := []
  /-- reservation blocks not yet used up, in order -/
  blocks : List Block := []
  /-- the first block of the next generation (R342) -/
  nextGen : Option Block := none
  /-- the next generation's key is being derived (R353, R354) -/
  deriving_ : Bool := false
  /-- the ratchet is blocked by an SA that the host installed (R355) -/
  blocked : Bool := false
  /-- installed by the ratchet; and for RX, held for the next generation (R354) -/
  derived : Bool := false
  pendingGen : Bool := false
  /-- the old generation of a receive channel, until OVERLAP_US have passed (R354) -/
  overlap : Bool := false
  warned : Bool := false
  exhausted : Bool := false
  held : Bool := false
  deriving DecidableEq, Repr

/-- A full timestamp (Table 14.1): seconds, nanoseconds, and the fraction in 1/256 ns. -/
structure Stamp where
  sec : Nat := 0
  ns : Nat := 0
  frac : Nat := 0
  deriving DecidableEq, Repr

/-- What a lookup gives a frame: the entry's index and its result fields (Table 12.4). -/
structure ClsResult where
  index : Nat := 0
  sa : Nat := 0
  mauSa : Nat := 0
  cls : Nat := 0
  action : Nat := 0
  mau : Nat := 0
  deriving DecidableEq, Repr

/-- Where a frame stands that is on its way: it waits for a context at its first or second read of the SA cache (R330,
R357), it is held for its launch (R374), or it is in its egress queue. -/
inductive FlightStage where
  | firstRead | secondRead | launch | queued | wire
  deriving DecidableEq, Repr

/-- A line frame between its reception and its end. -/
structure Flight where
  id : Nat
  group : Nat
  port : Nat
  /-- the frame as it stands, without its FCS, and as received -/
  frame : Bytes
  wire : Bytes
  result : ClsResult := {}
  stage : FlightStage := .queued
  tIn : Stamp := {}
  quality : Nat := 0
  inFree : W64 := 0
  /-- SEQ of its open journal record -/
  seq : Option Nat := none
  verdict : Nat := 0
  stomped : Bool := false
  /-- KIND and ROUTABLE of its journal record, in their places -/
  kind : Nat := 0
  /-- the system-facing form, for the digest of R392 -/
  sys : Option Bytes := none
  /-- transmission began before the verdicts (R327) -/
  began : Bool := false
  /-- its correctionField is already written (R373, R374) -/
  corrected : Bool := false
  /-- a one-step message launched at a fixed time (R374) -/
  launched : Bool := false
  /-- SA indices whose contexts it waits for (R330) -/
  awaits : List Nat := []
  deriving DecidableEq, Repr

/-- A held two-step residence (R372), in 2^-16 ns. -/
structure TcEntry where
  pair : Nat
  fromLine : Bool
  domain : Nat
  source : Bytes
  seqId : Bytes
  residence : Int
  deriving DecidableEq, Repr

/-- An 0x07xx command on the pipelines, with the keys that it took at admission (R361). -/
structure LkaCmd where
  slot : Nat
  key : Bytes
  key2 : Bytes := []
  deriving DecidableEq, Repr

/-- The line job beside its registers. -/
structure Line where
  groups : List Group := List.replicate 8 {}
  /-- the 64-bit counters of PRT and LCE, and LINK_DOWNS, by LO word's offset × 4 + port; their latched HI words -/
  wide : Sparse W64 := []
  latch : Sparse W32 := []
  /-- the classification table: 80 bytes an entry -/
  cls : Sparse Bytes := []
  sas : Sparse (Option Sa) := []
  /-- TX_AN of each transmit block, by its base (R335) -/
  txAn : Sparse Nat := []
  /-- the unpinned contexts in the SA cache, most recently used first (R225) -/
  cached : List Nat := []
  flights : List Flight := []
  nextFlight : Nat := 0
  tc : List TcEntry := []
  fenced : BitVec 16 := 0
  lka : List LkaCmd := []
  deriving DecidableEq, Repr

/-! ### The phase witness, the journal and HBM (chapters 14, 15 and 19) -/

/-- The phase witness beside its registers (R379 to R385). -/
structure Phw where
  state : Nat := 0
  /-- windows complete in the present state -/
  windows : Nat := 0
  /-- consecutive judged windows beyond the bound -/
  beyond : Nat := 0
  /-- residuals of the last 64 windows judged, newest first, in ns -/
  residuals : List Int := []
  sigma : Nat := 0
  onPwb : Bool := false
  cfgErr : Bool := false
  /-- a step or a change of RATE voids the present window (R384) -/
  voided : Bool := false
  /-- offset in µV and gain error in ppm -/
  offset : Int := 0
  gain : Int := 0
  /-- PHW_CALIBRATE entries: the first runs -/
  calib : List Nat := []
  deriving DecidableEq, Repr

/-- The TSU's latched words: TOD_SEC_LO, TOD_SEC_HI, TOD_AUX, FREE_LO, FREE_HI (R389). -/
structure Tsu where
  latch : List W32 := [0, 0, 0, 0, 0]
  /-- capture depth applied when EN became 1 (Table 14.9) -/
  capLog2 : Nat := 6
  deriving DecidableEq, Repr

/-- A journal record in the input queue: open, or completed (R391). -/
structure OpenRec where
  seq : Nat
  body : Bytes
  done : Bool := false
  deriving DecidableEq, Repr

/-- A record held in the record ring: its SEQ, its 64 bytes, and its number in the export ring once copied (R401, R402). -/
structure HeldRec where
  seq : Nat
  body : Bytes
  copied : Option W32 := none
  deriving DecidableEq, Repr

/-- A countersignature block; status 0 NONE, 1 PRESENT, 2 TIMEOUT, and 3 while it is awaited (R399, R400). -/
structure Csig where
  serial : Nat := 0
  status : Nat := 0
  test : Bool := false
  sig : Bytes := []
  deriving DecidableEq, Repr

/-- How far a checkpoint has come (R397). -/
inductive CpStage where
  | waiting | signing | committed
  deriving DecidableEq, Repr

/-- A checkpoint entry (R396 to R400). -/
structure CpEntry where
  num : Nat
  body : Bytes
  sig : Bytes := []
  digest : Bytes := []
  stage : CpStage := .waiting
  west : Csig := {}
  east : Csig := {}
  copied : Option W32 := none
  deriving DecidableEq, Repr

/-- The journal anchor in battery SRAM (R398). -/
structure Anchor where
  takenNum : Nat := 0
  takenEnd : Nat := 0
  takenChain : Bytes := []
  commitNum : Nat := 0
  commitDigest : Bytes := []
  deriving DecidableEq, Repr

/-- The journal beside its registers. -/
structure Evj where
  on : Bool := false
  chain : Bytes := []
  nextSeq : Nat := 0
  blocks : List Block := []
  queue : List OpenRec := []
  ring : List HeldRec := []
  cps : List CpEntry := []
  nextCp : Nat := 0
  /-- records chained since the previous checkpoint; SEQ after the last record chained; END_SEQ of the previous one -/
  chained : Nat := 0
  endSeq : Nat := 0
  prevEnd : Nat := 0
  /-- flags of the next checkpoint: BOOT, ANCHOR_LOST, OVERFLOW -/
  bootCp : Bool := false
  anchorLost : Bool := false
  overflow : Bool := false
  /-- D_cp of the last checkpoint committed, or what a boot puts in its place (R398) -/
  lastDigest : Bytes := []
  /-- the anchor in battery SRAM: none when nothing was ever written, and whether a transition erased it (R43, R398) -/
  anchor : Option Anchor := none
  anchorErased : Bool := false
  /-- the anchor's state at this boot: 0 VALID, 1 LOST, 2 ERASED, 3 NONE -/
  anchorState : Nat := 3
  /-- JRN_CHECKPOINT and JRN_READ_CP entries that wait, with their CP_NUM -/
  cpWait : List (Nat × Nat) := []
  readWait : List (Nat × Nat) := []
  recLog2 : Nat := 10
  cpLog2 : Nat := 4
  deriving DecidableEq, Repr

/-- One HBM stack (R481, R482). -/
structure Stack where
  temp : Int := 0
  trained : Bool := false
  fails : Nat := 0
  trainFail : Bool := false
  hot : Bool := false
  deriving DecidableEq, Repr

/-- HBM beside its registers. -/
structure Mem where
  hbm : List Stack := List.replicate 4 {}
  selfRefresh : Bool := false
  /-- the memory key, none before step 7 of boot and after a ZEROISE (R226, R477) -/
  key : Option Bytes := none
  /-- 64-byte lines as the stacks store them, by PA ÷ 64: those of SA contexts and of preemption state (R476; log entry 88) -/
  lines : Sparse Bytes := []
  /-- next line to scrub, PA ÷ 64 -/
  scrubPos : Nat := 0
  /-- a ZEROISE stopped the scrubber (R484) -/
  scrubStopped : Bool := false
  deriving DecidableEq, Repr

/-! ### Trunk ring (chapter 16) -/

/-- A mirror record (Table 16.5). -/
inductive TrkRecord where
  | pnBlock (sa start stop : Nat)
  | lmsBlock (id : Bytes) (start stop : Nat)
  | jrnBlock (start stop : Nat)
  | saState (sa saType gen : Nat) (desc key rk : Bytes)
  | saRemove (sa : Nat)
  | syncEnd (count : Nat)
  | rxState (sa value : Nat)
  deriving DecidableEq, Repr

/-- A MIRROR message that awaits its acknowledgement (R418). -/
structure MirrorMsg where
  lseq : Nat
  records : List TrkRecord
  tries : Nat := 0
  /-- acknowledged while a sync is not yet (R420) -/
  acked : Bool := false
  deriving DecidableEq, Repr

/-- One trunk link, TKE or TKW (R407, R408, R413, R415, R422). -/
structure TrkLink where
  up : Bool := false
  keyed : Bool := false
  linkKey : Bytes := []
  /-- the link's own copies of the ring key in use and of the next one, while a KEY epoch runs (R30, R414, R427) -/
  ringKey : Bytes := []
  nextKey : Bytes := []
  /-- the seed of the ML-KEM key that this end's HELLOs carry, none before its key job has ended -/
  helloSeed : Bytes := []
  /-- a Comb job of the handshake runs for this link -/
  handshake : Bool := false
  txLseq : Nat := 1
  txPn : Nat := 1
  /-- lowest PN that this end accepts under each AN: replay order is strict (R408) -/
  rxPn : List Nat := [1, 1, 1, 1]
  /-- AN in use; whether it is the ring key's, and the old key while it is still accepted (R414, R427) -/
  an : Nat := 0
  ringKeyed : Bool := false
  oldKey : Bytes := []
  peerCapMin : Nat := 1
  peerCapMax : Nat := 1
  peerCommitted : Nat := 1
  /-- the last heartbeat received since keying: its TX and its ingress stamp, in the full format; none yet when empty -/
  hbTx : Bytes := []
  hbRx : Bytes := []
  /-- delay samples, newest first, at most 1,024 (R415), in 1/256 ns -/
  samples : List Nat := []
  /-- the neighbour on this link has been declared lost -/
  lost : Bool := false
  /-- the nonce of an outstanding PROBE to that neighbour -/
  probe : Option Nat := none
  deriving DecidableEq, Repr

/-- The ring map in force (Table 16.4). -/
structure RingMap where
  ringId : Nat
  ownPos : Nat
  /-- serial and JKEY_HASH by position -/
  members : List (Nat × Bytes)
  deriving DecidableEq, Repr

/-- The partner state that a target keeps of its west member (R420). -/
structure Partner where
  serial : Nat := 0
  sas : List TrkRecord := []
  pn : List (Nat × Nat) := []
  lms : List (Bytes × Nat × Nat) := []
  jrn : Option (Nat × Nat) := none
  rx : List (Nat × Nat) := []
  synced : Bool := false
  deriving DecidableEq, Repr

/-- An epoch that the keeper runs (R427, R429). -/
structure Epoch where
  kind : Nat
  num : Nat
  /-- false in its PREPARE pass, true in its COMMIT pass -/
  commit : Bool := false
  target : Nat := 0
  /-- the next ring key, drawn for it -/
  key : Bytes := []
  resent : Bool := false
  /-- a COMMIT that failed and is repeated every 10 ms (R429) -/
  failed : Bool := false
  /-- arms of a broken ring that have not yet returned the pass (1 for a whole ring) -/
  arms : Nat := 1
  began : W64 := 0
  slot : Option Nat := none
  deriving DecidableEq, Repr

/-- The trunk beside its registers. -/
structure Trk where
  on : Bool := false
  mode : Nat := 1
  map : Option RingMap := none
  east : TrkLink := {}
  west : TrkLink := {}
  pending : List MirrorMsg := []
  /-- records of a sync that is not yet acknowledged: no block is confirmed before its SYNC_END (R420) -/
  syncing : Bool := false
  partner : Partner := {}
  /-- LMS blocks of lost members: identifier and END (R425) -/
  heldLms : List (Bytes × Nat) := []
  /-- END of the last JRN_BLOCK of the partner (R425) -/
  jrnEnd : Nat := 0
  /-- positions known to be lost, and those reached by a PROBE since (R411) -/
  lostPos : List Nat := []
  reached : List Nat := []
  committed : Nat := 0
  /-- NUM of the last epoch of each kind -/
  epochNums : List Nat := [0, 0, 0]
  epoch : Option Epoch := none
  /-- RING_EPOCH entries that wait, and an abort-surviving RING_MAP_SET -/
  waiting : List Nat := []
  /-- no link has keyed since boot (R431) -/
  fresh : Bool := true
  /-- TARGET of the VERSION_COMMIT epoch last prepared (R427) -/
  epochTarget : Nat := 0
  tRound : Nat := 0
  tookOver : Bool := false
  /-- SAs that a takeover in progress has still to install, and the lost serial -/
  takeover : Option (Nat × List Nat) := none
  /-- a RING_MAP_SET that waits for a takeover to end (R432): its map and its slot -/
  mapWait : Option (RingMap × Nat) := none
  deriving DecidableEq, Repr


/-! ### Custody card port (chapter 18) -/

/-- What the card port waits for: the ATR, the answer to a PPS or to S(IFS request), or the response to an APDU. -/
inductive CardWait where
  | idle | atr | pps | ifs | apdu
  deriving DecidableEq, Repr

/-- The APDU exchanges that a command makes (Table 18.1). -/
inductive CardApdu where
  | raw | select | info | openSession | readSealed | writeSealed | counter
  deriving DecidableEq, Repr

/-- T=1 between the port and the card (R461, R462). -/
structure T1 where
  ns : Nat := 0
  nr : Nat := 0
  /-- INF fields of the I-blocks still to be acknowledged, the one on its way first -/
  out : List Bytes := []
  /-- the whole APDU's INF fields, to start over after a resynchronisation -/
  all : List Bytes := []
  inp : Bytes := []
  /-- the block last sent -/
  last : Bytes := []
  fails : Nat := 0
  resyncs : Nat := 0
  resync : Bool := false
  /-- milliseconds waited on the present block (R462) -/
  waited : Nat := 0
  deriving DecidableEq, Repr

/-- An open ceremony (R467). -/
structure Ceremony where
  kind : Nat
  m : Nat
  n : Nat
  /-- serials of the cards done, and the shares read, by INDEX -/
  cards : List Nat := []
  shares : List (Nat × Bytes) := []
  /-- CSCV and SOURCE of the first record read; the polynomial coefficients of a share-out, M − 1 strings of 32 bytes -/
  cscv : Bytes := []
  source : Nat := 0
  coeffs : List Bytes := []
  deriving DecidableEq, Repr

/-- The card port beside its registers. -/
structure Crd where
  present : Bool := false
  active : Bool := false
  classB : Bool := false
  wait : CardWait := .idle
  t1 : T1 := {}
  atr : Bytes := []
  ta1 : Nat := 0x11
  ifsc : Nat := 32
  tb3 : Nat := 0x4D
  crc : Bool := false
  clkDiv : Nat := 50
  /-- serial, counter and ML-KEM key of the card, as GET_INFO gave them -/
  serial : Nat := 0
  counter : Nat := 0
  cardKey : Bytes := []
  nonce : Bytes := []
  secret : Bytes := []
  /-- K_s and the secure messages sent and received under it (R464, R465) -/
  session : Option Bytes := none
  sent : Nat := 0
  got : Nat := 0
  /-- the command in progress, its present exchange, and whether an I-block of it was sent (R471) -/
  slot : Option Nat := none
  apdu : CardApdu := .raw
  begun : Bool := false
  rx : Bytes := []
  cer : Option Ceremony := none
  deriving DecidableEq, Repr

/-! ### Adaptive loops (chapter 21) -/

/-- One receive lane (R516, R517). -/
structure Lane where
  ctleMin : Nat := 0
  ctleMax : Nat := 15
  dfeLimit : Nat := 63
  freeze : Bool := false
  ctle : Nat := 0
  /-- DFE taps in codes, by number -/
  taps : Sparse Int := []
  eye : Nat := 0
  /-- the eye has fallen below EYE_MIN -/
  low : Bool := false
  deriving DecidableEq, Repr

/-- The calibration that runs (R519, R520). -/
structure Calib where
  slot : Nat
  serdes : Bool
  target : Nat := 0
  lanes : Nat := 0
  restart : Bool := false
  deriving DecidableEq, Repr

/-- The loops beside their registers. -/
structure Adl where
  hold : Bool := false
  cfgErr : Bool := false
  /-- droop episodes in this AVS period; periods with negative slack at VMAX_MV -/
  boosts : Nat := 0
  below : Nat := 0
  stretched : Bool := false
  lanes : List Lane := List.replicate 36 {}
  /-- offsets of the critical-path monitors, in ps (R519): those that are not 0 -/
  offsets : List (Nat × Int) := []
  calib : Option Calib := none
  deriving DecidableEq, Repr

/-! ### The whole machine -/

/-- What the device sends out: DMA writes and flushing reads, MSI-X messages, the value or error a register read
returns, frames, trunk messages, card bytes and AVSBus targets. The model's own record of the outside world. -/
inductive OutMsg where
  | hostWrite (w : HostWrite)
  /-- a write that may carry the relaxed ordering attribute (R279) -/
  | relaxedWrite (w : HostWrite)
  /-- a read request for a fragment list or input, and whether it carries No Snoop (R268, R294) -/
  | hostRead (func addr len : Nat) (noSnoop : Bool)
  | flushRead (func addr : Nat)
  | msix (func vec addr : Nat) (data : W32)
  | readData (v : W32)
  | unsupportedRequest
  | frame (port : Nat) (bytes : Bytes)
  | trunk (west : Bool) (msg : Bytes)
  | card (bytes : Bytes)
  | avs (mv : Nat)
  /-- an AER report: the bit of the Uncorrectable Error Status register, or 32 plus that of the Correctable one -/
  | aer (func : Nat) (error : Nat)
  deriving DecidableEq, Repr

/-- The state of the machine. -/
structure State where
  /-- the commands that wait, first in first out -/
  pending : List Instr := []
  /-- the registers of both BARs, sparse over their reset values -/
  regs : Sparse W32 := []
  /-- what the device has sent, oldest first (the model's own) -/
  out : List OutMsg := []
  /-- how many free values have been used (the model's own) -/
  freeUsed : Nat := 0
  /-- the free-running CLK_CTL count since cold reset (R93, R366) -/
  free : W64 := 0
  lcs : Lcs := {}
  comb : Comb := {}
  kst : Kst := {}
  queues : Sparse Queue := []
  tracker : Sparse (Option Track) := []
  /-- entries fetched so far: the order of fetch (R86) -/
  fetched : Nat := 0
  funcs : Sparse Func := []
  chans : Sparse Channel := []
  vectors : Sparse Vector := []
  vfEnable : Bool := false
  numVfs : Nat := 0
  /-- the staged SA base (R304) -/
  saStage : Nat := 0
  /-- the PCIe link is up; the speed, in GT/s, and the width to which it last trained (R258) -/
  linkUp : Bool := false
  linkSpeed : Nat := 0
  linkWidth : Nat := 0
  /-- the function that the QEN served last (R275) -/
  lastFunc : Nat := 0
  errLog : List LogEntry := []
  tod : Tod := {}
  tem : Tem := {}
  ust : Ust := {}
  pwr : Pwr := {}
  rng : Rng := {}
  trk : Trk := {}
  dge : Dge := {}
  line : Line := {}
  tsu : Tsu := {}
  phw : Phw := {}
  evj : Evj := {}
  mem : Mem := {}
  crd : Crd := {}
  adl : Adl := {}
  deriving DecidableEq, Repr

/-- Why a step stops with a fault. -/
inductive Fault where
  /-- Raised by an access at an offset outside BAR0 (R261, R262). Safe: no such access reaches the device. -/
  | outsideBar
  deriving DecidableEq, Repr

/-- Why a command is refused. -/
inductive Refusal where
  /-- Raised by the arms of exec whose command has no meaning yet. Safe: the machine stops. -/
  | notModelled (mnemonic : String)
  deriving DecidableEq, Repr

/-- The answer of a step. -/
abbrev Answer := Host.Outcome State Fault Refusal

/-- A source with its qualifier and class (Table 17.1). -/
def qualifier (count window cls : Nat) : Source := { cls := cls, count := count, window := window }

/-- The sources at their defaults (Tables 17.1 and 17.2). -/
def sourcesReset : List Source := [
  qualifier 2 4 3,
  { cls := 3, count := 1, window := 1, margin := 0x40, tc := 14, hardLo := 0, hardHi := 0x300, baseLo := 0, baseHi := 0x100 },
  { cls := 2, count := 4, window := 10, margin := 0x78, tc := 12, hardLo := 0x4D8, hardHi := 0x730, baseLo := 0x550, baseHi := 0x6B8 },
  { cls := 2, count := 3, window := 10, margin := 0xC8, tc := 16, hardLo := -500, hardHi := 500, baseLo := -40, baseHi := 40 },
  qualifier 4 1000 2, qualifier 16 1000 2, qualifier 6 8 2, qualifier 6 8 2, qualifier 6 8 2, qualifier 6 8 2, qualifier 8 16 3,
  qualifier 8 16 2, qualifier 1 1 0, qualifier 16 16 0, qualifier 1 1 1]

/-- The machine right after reset: held in cold reset, every register at the value of its Reset column, an empty command queue,
blank OTP and flash, battery SRAM that was never written (log entry 7). -/
def State.reset : State := { tem := { sources := sourcesReset }, ust := { sramLost := true } }

end Sys2Proof.Machine
end

