-- ==== Sys2Proof/Machine/Ops.lean ====
section
/-!
DEFINITION. The named operations over the state that every family uses: registers, the free values, the error log and its
signalling, MSI-X, DMA writes, the completion tracker, and completing an entry.
-/
namespace Sys2Proof.Machine
open Sys2Proof

/-! ### Registers, free values, output -/

/-- What a register holds. -/
def State.reg (s : State) (k : Nat) : W32 := Sparse.get regReset s.regs k

/-- The state with a register holding a value. -/
def State.setReg (s : State) (k : Nat) (v : W32) : State := { s with regs := Sparse.set regReset s.regs k v }

/-- The state with a register changed by a function. -/
def State.modReg (s : State) (k : Nat) (f : W32 → W32) : State := s.setReg k (f (s.reg k))

/-- The state with bits set in a register. -/
def State.raise (s : State) (k : Nat) (mask : W32) : State := s.modReg k (setBits · mask)

/-- One more in a saturating 32-bit counter register. -/
def State.count (s : State) (k : Nat) : State := s.modReg k satInc

/-- The state with one more message sent. -/
def State.emit (s : State) (m : OutMsg) : State := { s with out := s.out ++ [m] }

/-- The next free value, and the state that has used it (log entry 4). -/
def State.freeNat (s : State) : Nat × State := (Config.free s.freeUsed, { s with freeUsed := s.freeUsed + 1 })

/-- The state with the entropy block changed. -/
def State.modRng (s : State) (f : Rng → Rng) : State := { s with rng := f s.rng }

/-- The state with mask-feed channel c changed. -/
def State.modMask (s : State) (c : Nat) (f : MaskChan → MaskChan) : State :=
  s.modRng fun r => { r with chans := r.chans.modify c f }

/-- A mask word leaves a pipeline's channel for each 4,096 bytes that the pipeline has processed (R31, Table 7.2). -/
def MaskChan.process (m : MaskChan) (n : Nat) : MaskChan :=
  { m with bytes := (m.bytes + n) % 4096, words := m.words + (m.bytes + n) / 4096 }

/-- Pipelines in the pool (R358, R360). -/
def State.pool (s : State) : List Nat := (List.range 16).filter fun p => !s.line.fenced.getLsbD p

/-- k pipelines of a list process n bytes each. DESIGN CHOICE (log entry 87): which of the free pipelines serve is a free value. -/
def State.process (n : Nat) : Nat → List Nat → State → State
  | 0, _, s => s
  | k + 1, ps, s =>
    let r := s.freeNat
    let c := ps.getD (r.1 % ps.length) 64
    (r.2.modMask c (·.process n)).process n k (ps.erase c)

/-- A frame or a granule passes the cipher pipelines: one of the pool, or two bonded on a 400 Gbit/s port (R358). -/
def State.cipherPass (s : State) (bonded : Bool) (n : Nat) : State :=
  if bonded then s.process (n / 2) 2 s.pool else s.process n 1 s.pool

/-- A register write by its access type alone (R13, R14): ignored where no register is implemented. -/
def State.plainWrite (s : State) (k : Nat) (v : W32) : State := match regRow k with
  | some r => s.setReg k (r.write (s.reg k) v)
  | none => s

/-! ### Tables of functions, channels, queues, vectors and slots -/

/-- A function as every reset leaves it: PF0 has its queue quota fixed at 256 and, after cold reset, every SA index and
key slot 16 to 4,095 (Tables 11.2, 11.8, R209). -/
def funcReset (n : Nat) : Func :=
  if n = 0 then { quota := 256, saCount := 16777216, keyBase := 16, keyCount := 4080 } else {}

/-- Function n. -/
def State.func (s : State) (n : Nat) : Func := Sparse.get funcReset s.funcs n

/-- The state with function n replaced. -/
def State.setFunc (s : State) (n : Nat) (f : Func) : State := { s with funcs := Sparse.set funcReset s.funcs n f }

/-- A function exists: PF0 always, VF n while VF Enable is 1 and n ≤ NumVFs (R303). -/
def State.funcPresent (s : State) (n : Nat) : Bool := n == 0 || (s.vfEnable && decide (n ≤ s.numVfs))

/-- Channel n (R293). -/
def State.chan (s : State) (n : Nat) : Channel := Sparse.get (fun _ => {}) s.chans n

/-- The state with channel n replaced. -/
def State.setChan (s : State) (n : Nat) (c : Channel) : State := { s with chans := Sparse.set (fun _ => {}) s.chans n c }

/-- The key of queue q of function f. -/
def qkey (f q : Nat) : Nat := 256 * f + q

/-- Queue q of function f. -/
def State.queue (s : State) (f q : Nat) : Queue := Sparse.get (fun _ => {}) s.queues (qkey f q)

/-- The state with queue q of function f replaced. -/
def State.setQueue (s : State) (f q : Nat) (x : Queue) : State :=
  { s with queues := Sparse.set (fun _ => {}) s.queues (qkey f q) x }

/-- Vector v of function f. -/
def State.vector (s : State) (f v : Nat) : Vector := Sparse.get (fun _ => {}) s.vectors (2048 * f + v)

/-- The state with vector v of function f replaced. -/
def State.setVector (s : State) (f v : Nat) (x : Vector) : State :=
  { s with vectors := Sparse.set (fun _ => {}) s.vectors (2048 * f + v) x }

/-- The MSI-X Table Size of a function (R529). -/
def tableSize (f : Nat) : Nat := if f = 0 then 2048 else 256

/-- The tracker slot's entry, if one holds it. -/
def State.track (s : State) (slot : Nat) : Option Track := Sparse.get (fun _ => none) s.tracker slot

/-- The state with a tracker slot replaced. -/
def State.setTrack (s : State) (slot : Nat) (t : Option Track) : State :=
  { s with tracker := Sparse.set (fun _ => none) s.tracker slot t }

/-- Key slot n. -/
def State.slot (s : State) (n : Nat) : KeySlot := Sparse.get slotReset s.kst.slots n

/-- The state with key slot n replaced. -/
def State.setSlot (s : State) (n : Nat) (k : KeySlot) : State :=
  { s with kst := { s.kst with slots := Sparse.set slotReset s.kst.slots n k } }

/-- The state with key slot n as a reset leaves it. -/
def State.emptySlot (s : State) (n : Nat) : State := s.setSlot n (slotReset n)

/-! ### KMAC and the serial -/

/-- KMAC (of strength `bits`) with key k, input x and customisation string t, n bytes out: the output length is an input of
the function (SP 800-185). -/
def kmacOf (bits n : Nat) (k x t : Bytes) : Bytes := stdOut n .kmac bits [k, x, t, toLE 4 n]

/-- KMAC256 with the customisation string written as text. -/
def kmac256 (n : Nat) (k x : Bytes) (t : String) : Bytes := kmacOf 256 n k x (ascii t)

/-- GCTL.SERIAL_HI ‖ GCTL.SERIAL_LO, most significant byte first. -/
def State.serialBytes (s : State) : Bytes := toBE 8 s.lcs.otp.serial.toNat

/-! ### The error log, MSI-X and DMA writes -/

/-- The compact timestamp of the present moment (Table 14.1). -/
def State.compactTime (s : State) : W64 := BitVec.ofNat 64 ((s.tod.sec % 2 ^ 34) * 2 ^ 30 + s.tod.ns)

/-- An event enters the error log with its TIME (R526): the ring keeps the newest 512 entries, LOG_PROD counts it, and LOG_LOST counts
an entry overwritten at or above LOG_CONS. -/
def State.logAt (s : State) (e : LogEntry) : State :=
  let prod := s.reg Reg.ercLogProd
  let cons := s.reg Reg.ercLogCons
  let full := decide (512 ≤ s.errLog.length)
  let lostIdx := prod - 512
  let t := { s with errLog := (s.errLog ++ [e]).drop (if full then 1 else 0) }
  let t := t.setReg Reg.ercLogProd (prod + 1)
  if full && decide ((lostIdx - cons).toNat < 2 ^ 31) then t.count Reg.ercLogLost else t

/-- An event of the present moment enters the error log. -/
def State.log (s : State) (e : LogEntry) : State := s.logAt { e with time := s.compactTime }

/-- A device event enters the error log under a code of Table 22.7. -/
def State.logEvent (s : State) (code object detail : Nat) : State :=
  s.log { time := 0, code := code, object := object, detail := detail }

/-! ### Powered-down blocks (R20, R64, R498) -/

/-- The block of a BAR0 offset, by its 64 KiB page (Table 1.1). -/
def pageOf (key : Nat) : Nat := key / 0x10000

/-- The pages of GCTL, PWR, UST, TEM and ERC, accessible whenever the device runs (R20). -/
def alwaysOn (key : Nat) : Bool := pageOf key == 0 || pageOf key == 2 || pageOf key == 4 || pageOf key == 5 ||
  (decide (0x700000 ≤ key) && decide (key < 0x800000))

/-- The pages that P3 keeps beside those: LCS, ADL, QEN, DMA, TSU, PHW, MEM and VFC (R498). -/
def onInP3 (key : Nat) : Bool := alwaysOn key || pageOf key == 1 || pageOf key == 3 || pageOf key == 0xB || pageOf key == 0xC ||
  (decide (0x300000 ≤ key) && decide (key < 0x400000)) || (decide (0x500000 ≤ key) && decide (key < 0x580000)) ||
  (decide (0x600000 ≤ key) && decide (key < 0x700000))

/-- An offset of PF0's BAR0 lies in the span of a block (R19, Table 1.1). -/
def inSpan (key : Nat) : Bool := decide (key < 0xF0000) || (decide (0x100000 ≤ key) && decide (key < 0x180000)) ||
  (decide (0x200000 ≤ key) && decide (key < 0x800000))

/-- The registers of a VF's BAR0 that belong to the entropy block (Table 10.3), which P3 and P4 switch off (R498). -/
def vfRng (key : Nat) : Bool := decide (0x3000 ≤ key % 0x10000) && decide (key % 0x10000 < 0x4000)

/-- A block is powered down: before BOOT_DONE all but the blocks of R64, in P3 and P4 all but those of R498, in P1 and P2 the
port groups and the trunk that are off. Outside every span there is no block (R19). -/
def State.blockDown (s : State) (key : Nat) : Bool :=
  if 0x8000000 ≤ key then s.lcs.phase != .done || (decide (3 ≤ s.pwr.state) && vfRng key)
  else if inSpan key = false then false
  else if s.lcs.phase != .done then !(alwaysOn key || pageOf key == 1)
  else if 3 ≤ s.pwr.state then !onInP3 key
  else if 0x100000 ≤ key ∧ key < 0x180000 then
    s.pwr.state == 2 || (s.pwr.state == 1 && !bitOf s.pwr.portOn (pageOf key - 0x10))
  else if 0x480000 ≤ key ∧ key < 0x500000 then s.pwr.state == 2 || (s.pwr.state == 1 && !s.pwr.trunkOn)
  else false

/-- The host's accesses reach registers: the device is out of reset, and not in TERMINATED, where all but the reads of R37 and R40 behave
as unimplemented. -/
def State.regsOpen (s : State) : Bool := s.lcs.phase != .reset && s.lcs.state != .terminated

/-- An access to a powered-down block enters the error log, under the function accessed (R20, Tables 22.6, 22.7). -/
def State.logDown (s : State) (key detail : Nat) : State :=
  if key < 0x8000000 then s.logEvent 0x0002 key detail
  else s.log { time := 0, code := 0x0002, scope := 2, func := (key - 0x8000000) / 0x10000, object := key % 0x10000, detail := detail }

/-- A write of a register: without effect while registers are not open (R40); logged and discarded while its block is powered down, else
`k` (R20). -/
def State.regWrite (s : State) (key : Nat) (k : State) : State :=
  if !s.regsOpen then s else if s.blockDown key then s.logDown key 256 else k

/-- A read of a register: 0 where it is unimplemented in TERMINATED, no answer in reset; logged, returning 0, while its block is powered
down, else `k` (R13, R20, R40). -/
def State.regRead (s : State) (key : Nat) (k : State) : State :=
  if s.lcs.phase = .reset then s
  else if s.lcs.state = .terminated then s.emit (.readData 0)
  else if s.blockDown key then (s.logDown key 0).emit (.readData 0) else k

/-! ### Signalling -/

/-- The device halts: a HALT or ZEROISE response is in force (Table 1.9). -/
def State.halted (s : State) : Bool := decide (2 ≤ s.tem.resp)

/-- Channels that are halted (Table 11.7). -/
def State.haltedChans (s : State) : Nat := (s.chans.filter fun c => c.2.halted).length

/-- A register pair EVENT AND EVENT_EN is not zero. -/
def State.eventOn (s : State) (ev en : Nat) : Bool := s.reg ev &&& s.reg en != 0

/-- ERC.SUM_STATUS (Table 22.8). -/
def State.sumStatus (s : State) : W32 :=
  let bits : List Bool := [
    s.reg Reg.ercLogProd != s.reg Reg.ercLogCons, s.tem.resp != 0, s.eventOn Reg.temEvent Reg.temEventEn,
    s.eventOn Reg.pwrEvent Reg.pwrEventEn, s.eventOn Reg.adlEvent Reg.adlEventEn, s.eventOn Reg.memEvent Reg.memEventEn,
    s.eventOn Reg.lceEvent Reg.lceEventEn, s.eventOn Reg.trkEvent Reg.trkEventEn, s.eventOn Reg.crdEvent Reg.crdEventEn,
    s.eventOn Reg.cvuIrqStatus Reg.cvuIrqEn, s.reg Reg.evjEvent != 0, flag (s.reg Reg.phwSuspect) 0,
    s.haltedChans != 0, s.reg Reg.cmbErrStatus != 0 || s.reg Reg.mcsErrStatus != 0, s.rng.fault,
    s.reg Reg.kstErrStatus != 0, s.reg Reg.dgeErrStatus != 0]
  BitVec.ofNat 32 (bits.foldr (fun b n => b2n b + 2 * n) 0)

/-- The bits of SUM_STATUS that may signal on EVT_VEC: enabled, and not bit 1 (R530). -/
def State.sumSignal (s : State) : W32 := s.sumStatus &&& s.reg Reg.ercSumEn &&& ~~~(2 : W32)

/-- Marks the pages of a VF write in its dirty map (R309): one mark for each page that the write touches, under PF0's
requester ID; outside the map OUT_OF_RANGE; undeliverable LOST. -/
def State.dirtyMark (s : State) (f addr len : Nat) : State :=
  let fn := s.func f
  if f = 0 ∨ fn.dirtyEn = false ∨ len = 0 then s
  else
    let mark (s : State) (page : Nat) : State :=
      let fn := s.func f
      if page * 4096 < fn.dirtyIova ∨ fn.dirtyPages ≤ page - fn.dirtyIova / 4096 then
        s.setFunc f { fn with dirtyStatus := setBits fn.dirtyStatus 2 }
      else if s.linkUp = false ∨ (s.func 0).bme = false ∨ (s.chan 0).halted = true then
        s.setFunc f { fn with dirtyStatus := setBits fn.dirtyStatus 4 }
      else
        (s.emit (.hostWrite ⟨0, fn.dirtyMap + (page - fn.dirtyIova / 4096), [1]⟩)).setFunc f
          { fn with markCount := satInc fn.markCount }
    (List.range ((addr + len - 1) / 4096 - addr / 4096 + 1)).foldl (fun s i => mark s (addr / 4096 + i)) s

/-- The parts of a range of addresses, as start and length: none crosses a multiple of `page` (R294). -/
def pageParts (page addr len : Nat) : List (Nat × Nat) :=
  if len = 0 then []
  else (List.range ((addr + len - 1) / page - addr / page + 1)).map fun i =>
    let lo := max addr ((addr / page + i) * page)
    (lo, min (addr + len) ((addr / page + i + 1) * page) - lo)

/-- The requests that carry a range of addresses within one page: each of at most `size` bytes (R294). -/
def sizeParts (size addr len : Nat) : List (Nat × Nat) :=
  (List.range ((len + size - 1) / size)).map fun i => (addr + i * size, min size (len - i * size))

/-- A part of a write. -/
def HostWrite.part (w : HostWrite) (p : Nat × Nat) : HostWrite := ⟨w.func, p.1, slice w.bytes (p.1 - w.addr) p.2⟩

/-- The requests of a run of a write within one 4 KiB page (R294), which may carry the relaxed ordering attribute where it is output and the
function's Enable Relaxed Ordering is 1 (R279). -/
def State.sendRun (s : State) (relaxed : Bool) (w : HostWrite) : State :=
  (sizeParts (s.func w.func).maxPayload w.addr w.bytes.length).foldl (fun (s : State) p =>
    s.emit (if relaxed then .relaxedWrite (w.part p) else .hostWrite (w.part p))) s

/-- A write goes out as the requests of R294, each run within a page followed by the dirty mark it causes (R309). -/
def State.issueWrite (s : State) (x : ChanWrite) : State :=
  let w := x.write
  (pageParts 4096 w.addr w.bytes.length).foldl (fun (s : State) p =>
    (s.sendRun (decide (x.kind = .outputWrite) && (s.func w.func).relaxed) (w.part p)).dirtyMark w.func p.1 p.2) s

/-- A write that leaves on the link; until the channel's next successful flushing read it may have to be sent again (R299). -/
def State.sendWrite (s : State) (x : ChanWrite) : State :=
  let c := s.chan x.write.func
  (s.setChan x.write.func { c with unflushed := c.unflushed ++ [x] }).issueWrite x

/-- The MSI-X message of a vector: sent, or held by its pending bit while the vector or function is masked, MSI-X is off,
Bus Master Enable is 0, the link is down or a write of the function that comes before it still waits (R260, R280, R530, R531). -/
def State.msix (s : State) (f v : Nat) : State :=
  let fn := s.func f
  let vec := s.vector f v
  if fn.bme && fn.msixEnable && !fn.msixMask && !vec.masked && s.linkUp && !(s.chan f).halted && (s.chan f).waiting.isEmpty then
    (s.emit (.msix f v vec.addr vec.data)).dirtyMark f vec.addr 4
  else s.setVector f v { vec with pending := true }

/-- A write of device data to host memory on a function's channel (R293): it leaves at once; it waits while Bus Master
Enable is 0 (R260) or, counted as failed, while the link is down (R299); on a halted channel or during a function-level
reset it is discarded (R301, R306). -/
def State.hostWrite (s : State) (kind : XferKind) (qid tag : Nat) (w : HostWrite) : State :=
  let c := s.chan w.func
  let fn := s.func w.func
  if c.halted || fn.flrActive || w.bytes.isEmpty then s
  else if fn.bme && s.linkUp && c.waiting.isEmpty then s.sendWrite ⟨w, kind, qid, tag⟩
  else
    let failed := if fn.bme && !s.linkUp && !c.failed.any (fun x => decide (x.cause = .linkDown)) then
      c.failed ++ [{ kind := kind, cause := .linkDown, addr := w.addr, qid := qid, tag := tag }] else c.failed
    s.setChan w.func { c with waiting := c.waiting ++ [⟨w, kind, qid, tag⟩], failed := failed }

/-- What ends every command: a message on EVT_VEC when an enabled summary bit rose, and one on RESP_VEC when the response
rose (R530). Two rises in one command send one message (R531). -/
def settle (s t : State) : State :=
  let vec := t.reg Reg.ercVec
  let t1 := if t.sumSignal &&& ~~~s.sumSignal != 0 then t.msix 0 (field vec 10 0) else t
  if s.tem.resp < t.tem.resp then t1.msix 0 (field vec 26 16) else t1

/-- The answer of a command that leaves `t` from `s`. -/
def answer (s t : State) : Answer := .next (settle s t)

/-! ### The completion tracker and the queues -/

/-- Tracker slots held by a function. -/
def State.heldBy (s : State) (f : Nat) : Nat :=
  (s.tracker.filter fun (_, t) => match t with | some t => t.func == f | none => false).length

/-- Tracker slots held by a queue. -/
def State.heldByQueue (s : State) (f q : Nat) : Nat :=
  (s.tracker.filter fun (_, t) => match t with | some t => t.func == f && t.qid == q | none => false).length

/-- The lowest tracker slot that no entry holds. -/
def freeSlotFrom : Sparse (Option Track) → Nat → Nat
  | [], n => n
  | (k, _) :: m, n => if k = n then freeSlotFrom m (n + 1) else n

/-- The tracker slots whose entries meet a condition, in slot order. -/
def State.slotsWhere (s : State) (p : Track → Bool) : List Nat :=
  s.tracker.filterMap fun (k, t) => match t with
    | some t => if p t then some k else none
    | none => none

/-- The depth of a queue (R263). -/
def Queue.depth (q : Queue) : Nat := 2 ^ q.log2

/-- The address of an index's ring slot (R264). -/
def Queue.slotAddr (q : Queue) (i : W32) : Nat := q.ring + 64 * (i.toNat % q.depth)

/-- HEAD_IDX advanced over retired indices (R277). -/
def advanceHead : Nat → W32 → List W32 → W32 × List W32
  | 0, h, l => (h, l)
  | n + 1, h, l => if l.contains h then advanceHead n (h + 1) (l.filter (· != h)) else (h, l)

/-- The queue after an index's status area is written and its flushing read, if any, has returned: the index retires and
HEAD_IDX moves to the lowest index not retired (R277). -/
def Queue.retire (q : Queue) (i : W32) : Queue :=
  let r := advanceHead (q.retired.length + 1) q.head (q.retired ++ [i])
  { q with head := r.1, retired := r.2, flushing := q.flushing.filter (· != i) }

/-- DEV_FLAGS of a QCB (Table 10.5). -/
def Queue.devFlags (q : Queue) : Nat :=
  b2n (q.state == .enabled) + 2 * b2n (q.state == .idle) + 4 * b2n q.error

/-- The 8-byte write of QCB bytes 8 to 15 (R265). -/
def State.writeQcb (s : State) (f qid : Nat) : State :=
  let q := s.queue f qid
  (s.hostWrite .statusWrite qid 0
    ⟨f, q.qcb + 8, toLE 4 q.head.toNat ++ [BitVec.ofNat 8 q.devFlags, BitVec.ofNat 8 q.errCode, 0, 0]⟩).setQueue f qid
    { q with headWritten := q.head }

/-- A draining queue with nothing outstanding becomes IDLE: HEAD_IDX equals the fetch index, and the QCB shows it (R286). -/
def State.checkIdle (s : State) (f qid : Nat) : State :=
  let q := s.queue f qid
  if q.state = .draining ∧ q.drain = .none ∧ s.heldByQueue f qid = 0 ∧ q.flushing = [] then
    (s.setQueue f qid { q with state := .idle }).writeQcb f qid
  else s

/-- An entry's slot frees and its index retires, after its flushing read if it carries BARRIER (R276 to R278, R280). -/
def State.retireEntry (s : State) (slot : Nat) (t : Track) : State :=
  let q := s.queue t.func t.qid
  let q := if bitOf t.entry.flags.toNat 1 then { q with irq := q.irq ++ [t.index] } else q
  let s := s.setTrack slot none
  if bitOf t.entry.flags.toNat 0 then
    (s.setQueue t.func t.qid { q with flushing := q.flushing ++ [t.index] }).emit (.flushRead t.func q.qcb)
  else s.setQueue t.func t.qid (q.retire t.index)

/-- Bytes 56 to 63 of an entry as its status write leaves them (Table 10.6). -/
def statusBytes (status ext outLen : Nat) : Bytes :=
  [BitVec.ofNat 8 status, BitVec.ofNat 8 ext, 0, 0] ++ toLE 4 outLen

/-- An entry completes with an OUT_LEN: its output is written at OUT_ADDR and then its status area, and it retires; while its writes cannot
leave, it keeps its slot (R96, R260, R277, R522). -/
def State.completeLen (s : State) (slot status ext len : Nat) (out : Bytes) : State := match s.track slot with
  | none => s
  | some t =>
    let q := s.queue t.func t.qid
    let s := if t.entry.opcode / 256 = 6 then s.modReg Reg.dgeCmdCount (· + 1) else s
    let s := s.hostWrite .outputWrite t.qid t.entry.tag ⟨t.func, t.entry.outAddr, out⟩
    let s := s.hostWrite .statusWrite t.qid t.entry.tag
      ⟨t.func, q.slotAddr t.index + 56, statusBytes status ext len⟩
    if (s.chan t.func).waiting.isEmpty then s.retireEntry slot t
    else s.setTrack slot (some { t with phase := .held })

/-- An entry completes with its output. -/
def State.complete (s : State) (slot status ext : Nat) (out : Bytes) : State := s.completeLen slot status ext out.length out

/-- An entry completes with a failure: no output (R522). -/
def State.fail (s : State) (slot : Nat) (e : Nat × Nat) : State := s.complete slot e.1 e.2 []

/-- A function's held writes leave in their order, and the entries that waited for them retire (R260, R300). -/
def State.releaseWrites (s : State) (f : Nat) : State :=
  let c := s.chan f
  let failed := c.failed.filter fun x => !decide (x.cause = .linkDown)
  let s := c.waiting.foldl State.sendWrite (s.setChan f { c with waiting := [], failed := failed })
  (s.slotsWhere fun t => t.func == f && t.phase == .held).foldl
    (fun s slot => match s.track slot with | some t => s.retireEntry slot t | none => s) s

/-! ### STATUS codes (Table 22.1) -/

/-- OK. -/
abbrev St.ok : Nat := 0x00
/-- VERIFY_FAIL. -/
abbrev St.verifyFail : Nat := 0x02
/-- BAD_OPCODE. -/
abbrev St.badOpcode : Nat := 0x10
/-- BAD_LENGTH. -/
abbrev St.badLength : Nat := 0x11
/-- BAD_ALIGN. -/
abbrev St.badAlign : Nat := 0x12
/-- BAD_PARAM. -/
abbrev St.badParam : Nat := 0x13
/-- INPUT_OUT_OF_RANGE. -/
abbrev St.outOfRange : Nat := 0x14
/-- POINT_NOT_ON_CURVE. -/
abbrev St.notOnCurve : Nat := 0x15
/-- KEY_POLICY. -/
abbrev St.keyPolicy : Nat := 0x16
/-- KEY_EMPTY. -/
abbrev St.keyEmpty : Nat := 0x17
/-- LCS_FORBIDS. -/
abbrev St.lcsForbids : Nat := 0x18
/-- COUNTER_EXHAUSTED. -/
abbrev St.exhausted : Nat := 0x19
/-- ENTROPY_UNAVAILABLE. -/
abbrev St.entropyUnavailable : Nat := 0x20
/-- ENTROPY_FAULT. -/
abbrev St.entropyFault : Nat := 0x21
/-- FAULT_DETECTED. -/
abbrev St.faultDetected : Nat := 0x22
/-- ABORTED. -/
abbrev St.aborted : Nat := 0x23
/-- MEM_UNCORRECTABLE. -/
abbrev St.memUncorrectable : Nat := 0x25
/-- ENGINE_UNAVAILABLE. -/
abbrev St.engineUnavailable : Nat := 0x26
/-- QUEUE_DISABLED. -/
abbrev St.queueDisabled : Nat := 0x27
/-- TIMEOUT. -/
abbrev St.timeout : Nat := 0x28
/-- CARD_REMOVED. -/
abbrev St.cardRemoved : Nat := 0x29
/-- CARD_PROTOCOL. -/
abbrev St.cardProtocol : Nat := 0x2A
/-- MIRROR_UNCONFIRMED. -/
abbrev St.mirrorUnconfirmed : Nat := 0x30
/-- RING_VERSION. -/
abbrev St.ringVersion : Nat := 0x31
/-- DEVICE_HALTED. -/
abbrev St.deviceHalted : Nat := 0x3F

/-- NO_SLOT (R133). -/
abbrev noSlot : Nat := 0xFFFFFFFF

/-- Byte n of an entry's parameters, 40 to 55. -/
def WorkEntry.p8 (e : WorkEntry) (n : Nat) : Nat := natAt e.params (n - 40)
/-- The little-endian field of `len` bytes at entry byte n, 40 to 55. -/
def WorkEntry.pLE (e : WorkEntry) (n len : Nat) : Nat := leAt e.params (n - 40) len
/-- Parameter bytes lo to hi are zero (R18). -/
def WorkEntry.zeroFrom (e : WorkEntry) (lo hi : Nat) : Bool := allZero (slice e.params (lo - 40) (hi + 1 - lo))

/-- A list of checks, each with the failure it gives: the first failure found (R137, R232). -/
def firstFail : List (Bool × Nat × Nat) → Option (Nat × Nat)
  | [] => none
  | (ok, e) :: l => if ok then firstFail l else some e

end Sys2Proof.Machine
end

