-- ==== Sys2Proof/Machine/MemCore.lean ====
section
/-!
DEFINITION. HBM partitions and uncorrectable reads, as their consumers meet them (R474, R475, R478, R479).
-/
namespace Sys2Proof.Machine
open Sys2Proof

/-- The state with HBM changed. -/
def State.modMem (s : State) (f : Mem → Mem) : State := { s with mem := f s.mem }

/-- A partition's size in bytes. -/
def State.partBytes (s : State) (k : Nat) : Nat := (s.reg k).toNat * 2 ^ 20

/-- PART of FAIL_INFO: the partition that a PA lies in; OWN past the first three (R475). -/
def State.partOf (s : State) (pa : Nat) : Nat :=
  let a := s.partBytes Reg.memPartSa
  let b := a + s.partBytes Reg.memPartJrn
  let c := b + s.partBytes Reg.memPartSpill
  if pa < a then 0 else if pa < b then 1 else if pa < c then 2 else 3

/-- The stack that holds a PA: PA[9:8] (R474). -/
def hbmStack (pa : Nat) : Nat := pa / 2 ^ 8 % 4

/-- The pseudo-channel of its stack that holds a PA: PA[14:10] (R474). -/
def hbmChannel (pa : Nat) : Nat := pa / 2 ^ 10 % 32

/-- Where a partition starts (R475): SA, JRN, SPILL, OWN. -/
def State.partStart (s : State) (p : Nat) : Nat :=
  (([Reg.memPartSa, Reg.memPartJrn, Reg.memPartSpill].take p).map s.partBytes).sum

/-! ### Encryption (R476, R477) -/

/-- A PA lies in an encrypted partition: any but JRN. -/
def State.encrypted (s : State) (pa : Nat) : Bool := s.partOf pa != 1

/-- The tweak of a line: PA ÷ 64 as a 128-bit little-endian integer. -/
def lineTweak (pa : Nat) : Bytes := toLE 16 (pa / 64)

/-- A line as the controller stores it: under AES-256-XTS, with the data key first and the tweak key second. -/
def sealLine (key : Bytes) (pa : Nat) (b : Bytes) : Bytes := stdOut 64 .aesXtsEnc 0 [key.take 32, key.drop 32, lineTweak pa, b]

/-- A stored line as the controller returns it. -/
def openLine (key : Bytes) (pa : Nat) (b : Bytes) : Bytes := stdOut 64 .aesXtsDec 0 [key.take 32, key.drop 32, lineTweak pa, b]

/-- A stored line; one never written is taken to hold zeros (log entry 88). -/
def State.storedLine (s : State) (pa : Nat) : Bytes := Sparse.get (fun _ => zeros 64) s.mem.lines (pa / 64)

/-- A line's bytes go to the stack as they are. -/
def State.storeLine (s : State) (pa : Nat) (b : Bytes) : State :=
  s.modMem fun m => { m with lines := Sparse.set (fun _ => zeros 64) m.lines (pa / 64) b }

/-- A line is written; without the memory key an encrypted partition takes nothing. -/
def State.putLine (s : State) (pa : Nat) (b : Bytes) : State :=
  if s.encrypted pa then match s.mem.key with
    | some k => s.storeLine pa (sealLine k pa (fit 64 b))
    | none => s
  else s.storeLine pa (fit 64 b)

/-- A line is read: after a ZEROISE an encrypted partition answers with zeros (R477). -/
def State.getLine (s : State) (pa : Nat) : Bytes :=
  if s.encrypted pa then match s.mem.key with
    | some k => openLine k pa (s.storedLine pa)
    | none => zeros 64
  else s.storedLine pa

/-- n lines are written from a PA on. -/
def State.putLines (s : State) (pa n : Nat) (b : Bytes) : State :=
  (List.range n).foldl (fun s i => s.putLine (pa + 64 * i) (slice b (64 * i) 64)) s

/-- n lines from a PA on. -/
def State.getLines (s : State) (pa n : Nat) : Bytes := (List.range n).flatMap fun i => s.getLine (pa + 64 * i)

/-- An uncorrectable read is counted and recorded (R478): `source` is SOURCE of FAIL_INFO. -/
def State.hbmUe (s : State) (source : Nat) (ue : HbmUe) (tag : Nat := 0) : State :=
  let info := s.partOf ue.pa + 16 * source + 128 * b2n ue.inner
  let s := (s.count Reg.memUeCount).setReg Reg.memFailAddrLo (BitVec.ofNat 32 ue.pa)
  let s := (s.setReg Reg.memFailAddrHi (BitVec.ofNat 32 (ue.pa / 2 ^ 32 % 32))).setReg Reg.memFailInfo (BitVec.ofNat 32 info)
  (s.raise Reg.memEvent 1).log { time := 0, code := 0x5001, tag := tag, object := info, detail := ue.pa }

/-- A read that the codes corrected is counted; the line is written back as it was (R478). -/
def State.noteRead (s : State) (r : HbmRead) : State := match r with
  | .corrected outer => s.count (if outer then Reg.memCeOuter else Reg.memCeInner)
  | _ => s

end Sys2Proof.Machine
end

