-- ==== Sys2Proof/Machine/MaskFeed.lean ====
section
/-!
DEFINITION. The mask-feed LFSR (R184): 127 bits with the feedback polynomial x^127 + x + 1, its lines of 512 bits and their eight words. DESIGN
CHOICE (log entry 86): the state is a polynomial modulo the feedback polynomial, a step multiplies it by x and shifts out the coefficient of x^126,
and the i-th bit shifted out is bit i of the line, whose word j is bits [64j+63:64j].
-/
namespace Sys2Proof.Machine
open Sys2Proof

/-- One step of the LFSR. -/
def lfsrStep (v : BitVec 127) : BitVec 127 := (v <<< 1) ^^^ (if v.getLsbD 126 then 3 else 0)

/-- n steps of the LFSR. -/
def lfsrSteps : Nat → BitVec 127 → BitVec 127
  | 0, v => v
  | n + 1, v => lfsrSteps n (lfsrStep v)

/-- The number that the bits shifted out in n steps spell, the first one lowest. -/
def lfsrBits : Nat → BitVec 127 → Nat
  | 0, _ => 0
  | n + 1, v => b2n (v.getLsbD 126) + 2 * lfsrBits n (lfsrStep v)

/-- Word k that a channel in a state shifts out: word k mod 8 of line k ÷ 8. -/
def maskWord (v : BitVec 127) (k : Nat) : W64 := BitVec.ofNat 64 (lfsrBits 512 (lfsrSteps (512 * (k / 8)) v) / 2 ^ (64 * (k % 8)))

/-- The product of two states as polynomials, over the low n bits of `b`. -/
def lfsrMul (a b : BitVec 127) : Nat → BitVec 127 → BitVec 127
  | 0, acc => acc
  | n + 1, acc => lfsrMul a b n (lfsrStep acc ^^^ if b.getLsbD n then a else 0)

/-- x to the power 2^k. -/
def lfsrPower : Nat → BitVec 127
  | 0 => 2
  | k + 1 => lfsrMul (lfsrPower k) (lfsrPower k) 127 0

/-- The state after 2^k steps: a multiplication by x^(2^k). -/
def lfsrJump (k : Nat) (v : BitVec 127) : BitVec 127 := lfsrMul v (lfsrPower k) 127 0

/-- Steps between two reseed points: 2^16 lines of 512 bits, 2^25 steps (R185). -/
def reseedSteps : Nat := 25

/-- Words between two reseed points (R185). -/
def reseedWords : Nat := 524288

end Sys2Proof.Machine
end

