-- ==== Sys2Proof/Machine/Microcode.lean ====
section
/-!
DEFINITION. Microwords and the loader's walk of them (chapter 4): function codes, conditions, successors, latencies, the class C
rules of R124, and the cycle counts of a program (R115 to R124).
-/
namespace Sys2Proof.Machine
open Sys2Proof

/-- A refusal: RULE, KIND and ADDRESS of MCS.LOAD_DIAG. -/
structure LoadRefusal where
  rule : Nat
  kind : Nat := 0
  addr : Nat := 0
  deriving DecidableEq, Repr

/-- Fields of a program directory header (Table 4.9). -/
def hdrField (h : Bytes) (hi lo : Nat) : Nat := bitsOf (leNat h) hi lo

/-- The entry table's entry of an EOP. -/
def StoreSet.entryOf (x : StoreSet) (eop : Nat) : Nat := leAt x.entry (4 * eop) 4

/-- The instructions of a program by their program-store index. -/
def StoreSet.instructions (x : StoreSet) (h : Bytes) : List (Nat × Nat) :=
  (List.range (hdrField h 43 30)).map fun i => (hdrField h 29 16 + i, leAt x.program (8 * (hdrField h 29 16 + i)) 8)

/-- The microword at a control-store address. -/
def StoreSet.word (x : StoreSet) (a : Nat) : Nat := leAt x.control (4 * a) 4

/-- CS_WORDS. -/
def StoreSet.csWords (x : StoreSet) : Nat := x.control.length / 4

/-- Cells of an engine kind (Table 3.2). -/
def kindCells (k : Nat) : Nat := [4, 2, 8, 8].getD k 1

/-- The stores with the 7 check bits of each control-store word. The spec names the code and no polynomial or matrix of it: the bits are free as a
function of the word (R113, R114). -/
def StoreSet.coded (x : StoreSet) : StoreSet :=
  { x with check := (List.range x.csWords).map fun a => BitVec.ofNat 7 (Config.stdCount .checkBits 0 [slice x.control (4 * a) 4]) }

/-! ### Fields of a microword (Tables 4.2 and 4.5) -/

/-- CLS. -/
def wordCls (w : Nat) : Nat := bitsOf w 31 28
/-- CGRP of a native word. -/
def wordCgrp (w : Nat) : Nat := bitsOf w 21 18
/-- CMSK. -/
def wordCmsk (w : Nat) : Nat := bitsOf w 17 14
/-- TARGET; IMM14 in compatibility mode. -/
def wordTarget (w : Nat) : Nat := bitsOf w 13 0
/-- An END, WAIT or TRAP word. -/
def wordEnd (w : Nat) : Bool := bitsOf w 31 22 == 1
def wordWait (w : Nat) : Bool := bitsOf w 31 22 == 2
def wordTrap (w : Nat) : Bool := bitsOf w 31 22 == 3

/-- A class and function code that Table 4.3 (in compatibility mode with Table 4.5) gives an effect; every other code is reserved. -/
def wordCode (compat : Bool) (w : Nat) : Bool :=
  let f (hi lo : Nat) : Nat := bitsOf w hi lo
  match wordCls w with
  | 0x0 => decide (f 27 22 ≤ 3)
  | 0x1 => decide (f 27 25 ≤ 4) && f 24 23 != 3
  | 0x2 => decide (f 27 26 ≤ 1) && f 24 22 == 0
  | 0x3 => decide (f 27 25 ≤ 2) && f 24 22 == 0
  | 0x4 => decide (f 27 25 ≤ 3) && decide (f 24 22 ≤ 4)
  | 0x5 => decide (f 27 25 ≤ 3) && f 23 22 == 0
  | 0x6 => true
  | 0x7 => f 27 26 != 3
  | 0x8 => decide (f 26 24 ≤ 6) && decide (f 23 22 ≤ 1)
  | 0x9 => decide (f 27 25 ≤ 3) && f 24 22 == 0
  | 0xA => true
  | 0xB => f 27 26 != 3 && f 25 22 == 0
  | 0xC => compat && f 27 26 != 3
  | 0xD => decide (f 27 25 ≤ 3)
  | 0xE => f 27 26 != 3 && f 23 22 == 0
  | _ => false

/-- A gather or scatter: its addressing takes an index, or it scatters (Table 4.3). -/
def wordGather (w : Nat) : Bool :=
  (wordCls w == 6 && bitsOf w 23 22 == 3) || (wordCls w == 7 && (bitsOf w 27 26 == 2 || bitsOf w 23 22 == 3))

/-- A reserved condition group (Table 4.4). -/
def groupReserved (g : Nat) : Bool := [5, 6, 7, 10, 11, 13, 14, 15].contains g

/-- A condition that is reserved, and reads 0: any of a reserved group, and bit 3 of group 4 (R118, Table 4.4). -/
def condReserved (g b : Nat) : Bool := groupReserved g || (g == 4 && b == 3)

/-- Cycles until the result of a word is there, on an engine of a kind (Table 4.6); 1 where the table gives none. -/
def wordLatency (kind w : Nat) : Nat :=
  match wordCls w with
  | 0x1 | 0x2 => 3
  | 0x3 => 2
  | 0x4 => if bitsOf w 27 25 = 1 ∧ kind ≠ 0 then 2 else 1
  | 0x6 => 2
  | 0x8 => if bitOf w 27 then 1 else 2
  | _ => 1

/-! ### The walk -/

/-- Element count less one of an element width (R81). -/
def ewLast (inst : Nat) : Nat := 1024 / 2 ^ bitsOf inst 53 52 - 1

/-- What the walk knows at a word: its address, LC0 to LC3, the element pointer, the words of the last two cycles, newest first, and
the arms of group 4 branches that it lies in, outermost first, each as the branch's cycle and the arm's number. -/
structure WalkPoint where
  addr : Nat
  lc : List Nat := [0, 0, 0, 0]
  ptr : Nat := 0
  past : List Nat := []
  arms : List (Nat × Nat) := []
  deriving DecidableEq, Repr

/-- What is fixed while an instruction is walked: the stores, kind, header and instruction. -/
structure WalkOf where
  stores : StoreSet
  kind : Nat
  header : Bytes
  index : Nat
  inst : Nat

/-- COMPAT of the program. -/
def WalkOf.compat (c : WalkOf) : Bool := hdrField c.header 45 45 == 1
/-- CLASS_C of the program. -/
def WalkOf.classC (c : WalkOf) : Bool := hdrField c.header 44 44 == 1
/-- LEN of the instruction. -/
def WalkOf.len (c : WalkOf) : Nat := bitsOf c.inst 23 14
/-- The immediate that a MEM or LOOP word takes (R119). -/
def WalkOf.imm (c : WalkOf) (w : Nat) : Nat := if c.compat then wordTarget w else bitsOf c.inst 13 0

/-- What R118 lets a static public condition follow from. -/
def WalkOf.context (c : WalkOf) (p : WalkPoint) : List Bytes := [toLE 8 c.inst, c.header, (p.lc.map (toLE 4)).flatten, toLE 8 p.ptr]

/-- The four conditions of a static public group (Table 4.4). The spec names STRIDE_END and STAGE_LAST and does not define them: they are
free, as functions of what R118 lets them follow from. -/
def WalkOf.static (c : WalkOf) (p : WalkPoint) (g : Nat) : List Bool :=
  match g with
  | 0 => (List.range 4).map fun i => p.lc.getD i 0 == 0
  | 1 => [p.ptr == c.len, p.ptr == 0, Config.stdHolds .strideEnd 0 (c.context p), Config.stdHolds .stageLast 0 (c.context p)]
  | 2 => [bitOf c.inst 52, bitOf c.inst 53, bitOf c.inst 0, bitOf c.inst 1]
  | 3 => (List.range 4).map fun i => bitOf (leNat c.header) (46 + i)
  | _ => [false, false, false, false]

/-- A next-address base with condition bits ORed into it where a mask selects them (R117). -/
def orMasked (target mask : Nat) (bits : List Bool) : Nat :=
  target ||| (mask &&& ((List.range 4).map fun i => if bits.getD i false then 2 ^ i else 0).sum)

/-- The values that the runtime public group may show: its bit 3 reads 0. -/
def runtimeBits : List (List Bool) := (List.range 8).map fun n => [bitOf n 0, bitOf n 1, bitOf n 2, false]

/-- The successors of a word at a point: one, or the arms of a branch on group 4 (R117 to R119). -/
def WalkOf.next (c : WalkOf) (p : WalkPoint) (w : Nat) : List Nat :=
  let t := wordTarget w
  if c.compat then
    if wordCls w ≠ 0xC then [p.addr + 1]
    else
      let g := bitsOf w 25 22
      let b := bitsOf w 21 20
      let go (v : Bool) : Nat := if v = (bitsOf w 27 26 == 1) then t else p.addr + 1
      if bitsOf w 27 26 = 0 then [t]
      else if g = 4 ∧ b ≠ 3 then [go false, go true].dedup
      else [go ((c.static p g).getD b false)]
  else if wordCgrp w = 4 then (runtimeBits.map (orMasked t (wordCmsk w))).dedup
  else [orMasked t (wordCmsk w) (c.static p (wordCgrp w))]

/-- The counters and the element pointer after a word: a LOOP word changes them (Table 4.3). What a counter of zero holds once decremented
the spec does not state, and it is free. -/
def WalkOf.loop (c : WalkOf) (p : WalkPoint) (w : Nat) : WalkPoint :=
  if wordCls w ≠ 0xA then p
  else
    let i := bitsOf w 27 26
    let v := p.lc.getD i 0
    let v := match bitsOf w 25 24 with
      | 0 => c.len
      | 1 => c.imm w % 1024
      | 2 => if v = 0 then Config.stdCount .counterBelowZero i (c.context p) else v - 1
      | _ => v
    { p with lc := p.lc.set i v
             ptr := match bitsOf w 23 22 with
               | 0 => p.ptr
               | 1 => p.ptr + 1
               | 2 => p.ptr + 2 ^ (c.imm w % 16)
               | _ => 0 }

/-- An LDV word fills the operand latch that an STV word stores (Table 4.3). -/
def latchFeeds (a w : Nat) : Bool := wordCls a == 6 && wordCls w == 7 && bitsOf a 25 24 == bitsOf w 25 24

/-- A word's operand comes from a result that is not there yet (R122). An STV takes the latch that it names; which other words feed which the
spec does not state for every unit, and that relation is free (log entry 70); the cycles between them and the latency decide. -/
def WalkOf.early (c : WalkOf) (p : WalkPoint) (w : Nat) : Bool :=
  let feeds (between : List Nat) : Bool :=
    (match between with | [a] => latchFeeds a w | _ => false) ||
      Config.stdHolds .wordFeeds c.kind (toLE 8 c.inst :: (w :: between).map (toLE 4))
  match p.past with
  | [] => false
  | [a] => decide (1 < wordLatency c.kind a) && feeds [a]
  | a :: b :: _ => (decide (1 < wordLatency c.kind a) && feeds [a]) || (decide (2 < wordLatency c.kind b) && feeds [a, b])

/-- The rule of Table 4.7 that a reachable word breaks by itself, in the order of the table. DESIGN CHOICE (log entry 75), where the table can be
read two ways: an END word in compatibility mode has no TARGET, and its bits [13:0] count as one for rule 0x07; the reserved bits [19:14] of a BR
word fall under rule 0x06, which speaks of the bits [21:14] of compatibility words; and the last word of the store, past which no incrementer may
go, is the word at CS_WORDS − 1, not the one at 0x3FFF. -/
def WalkOf.wordRule (c : WalkOf) (a w : Nat) : Option Nat :=
  let t := wordTarget w
  let g := wordCgrp w
  let m := wordCmsk w
  let cs := c.stores.csWords
  let compatRule : Option Nat :=
    if wordCls w = 0xC then
      if bitsOf w 19 14 ≠ 0 then some 6
      else if cs ≤ t then some 5
      else if bitsOf w 27 26 ≠ 0 ∧ cs ≤ a + 1 then some 6
      else if c.classC ∧ bitsOf w 27 26 ≠ 0 ∧ (4 < bitsOf w 25 22 ∨ (bitsOf w 25 22 = 4 ∧ bitsOf w 21 20 = 1)) then some 0xA
      else none
    else if bitsOf w 21 14 ≠ 0 then some 6
    else if wordEnd w then if t = 0 then none else some 7
    else if wordTrap w = false ∧ cs ≤ a + 1 then some 6
    else none
  let nativeRule : Option Nat :=
    if m ≠ 0 ∧ groupReserved g then some 3
    else if t &&& m ≠ 0 then some 4
    else if cs ≤ t then some 5
    else if wordEnd w = true ∧ (t ≠ 0 ∨ m ≠ 0) then some 7
    else if c.classC ∧ m ≠ 0 ∧ (4 < g ∨ (g = 4 ∧ bitOf m 1)) then some 0xA
    else none
  if wordCode c.compat w = false then some 2
  else ((if c.compat then compatRule else nativeRule).or
    (if wordGather w = true ∧ 511 < c.len then some 9 else none)).or
    (if c.classC ∧ (wordWait w ∨ wordTrap w) then some 0xA else none)

/-- The refusal that a rule of a word gives: rule 0x09 names the instruction, the others the word. -/
def WalkOf.refusal (c : WalkOf) (rule a : Nat) : LoadRefusal := ⟨rule, c.kind, if rule = 9 then c.index else a⟩

/-- A reachable word is refused: its address lies beyond the words loaded, or it breaks a rule. -/
def WalkOf.wordFail (c : WalkOf) (a : Nat) : Option LoadRefusal :=
  if c.stores.csWords ≤ a then some (c.refusal 5 a) else (c.wordRule a (c.stores.word a)).map (c.refusal · a)

/-- A point that leaves the outermost branch all of whose arms are at one word. -/
def settleArms (l : List WalkPoint) (p : WalkPoint) : WalkPoint :=
  let meets (d : Nat) : Bool := l.all fun q =>
    q.arms.take d != p.arms.take d || (q.arms[d]?.map (·.1)) != (p.arms[d]?.map (·.1)) || q.addr == p.addr
  match (List.range p.arms.length).find? meets with
  | some d => { p with arms := p.arms.take d }
  | none => p

/-- The points of the next cycle that follow one point at a cycle. -/
def WalkOf.advance (c : WalkOf) (cycle : Nat) (p : WalkPoint) : List WalkPoint :=
  let w := c.stores.word p.addr
  let l := c.next p w
  let q := { c.loop p w with past := w :: p.past.take 1 }
  match l with
  | [a] => [{ q with addr := a }]
  | _ => (List.range l.length).map fun j => { q with addr := l.getD j 0, arms := p.arms ++ [(cycle, j)] }

/-- The class C walk of one instruction, all arms in step, one word a cycle: the cycles from the start word through END, or the first
refusal (R120, R122, R124). Every branch on group 4 must bring its arms to one word in one cycle, and within an arm one word issues. -/
def WalkOf.walk (c : WalkOf) : Nat → Nat → List WalkPoint → Sum LoadRefusal Nat
  | 0, _, l => .inl (c.refusal 0xA ((l.map (·.addr)).headD 0))
  | fuel + 1, cycle, l =>
    let l := (l.map (settleArms l)).dedup
    let isEnd (p : WalkPoint) : Bool := wordEnd (c.stores.word p.addr)
    match l.findSome? fun p => c.wordFail p.addr with
    | some e => .inl e
    | none => match l.find? fun p => c.early p (c.stores.word p.addr) || l.any fun q => q.arms == p.arms && q.addr != p.addr with
      | some p => .inl (c.refusal 0xA p.addr)
      | none =>
        if l.all isEnd ∧ (l.all fun p => p.arms.isEmpty) then .inr (cycle + 1)
        else match l.find? isEnd with
          | some p => .inl (c.refusal 0xA p.addr)
          | none => c.walk fuel (cycle + 1) (l.map (c.advance cycle)).flatten

/-- The successors of a word of a class P program, whatever its conditions read: those of END and TRAP are none, and a WAIT ends with every
condition that it selects at 1 (R123). -/
def WalkOf.anyNext (c : WalkOf) (a w : Nat) : List Nat :=
  let t := wordTarget w
  if wordEnd w ∨ wordTrap w then []
  else if c.compat then
    if wordCls w ≠ 0xC then [a + 1]
    else if bitsOf w 27 26 = 0 then [t]
    else if condReserved (bitsOf w 25 22) (bitsOf w 21 20) then [if bitsOf w 27 26 = 1 then a + 1 else t]
    else [t, a + 1]
  else if wordWait w then [t ||| wordCmsk w]
  else
    let shown := (List.range 4).map fun b => !condReserved (wordCgrp w) b
    ((List.range 16).map fun n => orMasked t (wordCmsk w) (shown.mapIdx fun b v => v && bitOf n b)).dedup

/-- The class P reach of one instruction: the first refusal of a word on any path. -/
def WalkOf.reach (c : WalkOf) : Nat → List Nat → List Nat → Option LoadRefusal
  | 0, _, _ => none
  | _ + 1, [], _ => none
  | fuel + 1, a :: todo, seen =>
    if seen.contains a then c.reach fuel todo seen
    else match c.wordFail a with
      | some e => some e
      | none => c.reach fuel (c.anyNext a (c.stores.word a) ++ todo) (a :: seen)

/-- The start address of the instruction in the program's mode, and whether it is valid (R119, R127). -/
def WalkOf.start (c : WalkOf) : Nat × Bool :=
  let e := c.stores.entryOf (bitsOf c.inst 63 54)
  if c.compat then (bitsOf e 29 16, bitOf e 30) else (bitsOf e 13 0, bitOf e 14)

/-- One instruction's checks: its entry, its length, its class, then its words; the cycles of a class C instruction, 0 of another. -/
def WalkOf.instruction (c : WalkOf) : Sum LoadRefusal Nat :=
  if c.start.2 = false then .inl ⟨8, c.kind, c.index⟩
  else if ewLast c.inst < c.len then .inl ⟨9, c.kind, c.index⟩
  else if c.classC ∧ bitOf (c.stores.entryOf (bitsOf c.inst 63 54)) 31 = false then .inl ⟨0xA, c.kind, c.index⟩
  else if c.classC then c.walk (2 ^ 20) 0 [{ addr := c.start.1 }]
  else match c.reach (17 * 16384) [c.start.1] [] with
    | some e => .inl e
    | none => .inr 0

/-- The cycle counts of a program's instructions, in order, or the first refusal. -/
def walkAll : List WalkOf → Sum LoadRefusal (List Nat)
  | [] => .inr []
  | c :: l => match c.instruction with
    | .inl e => .inl e
    | .inr n => match walkAll l with
      | .inl e => .inl e
      | .inr ns => .inr (n :: ns)

/-- P and L of a list of instruction counts: one dispatch cycle each, and the longest (R120). -/
def countsOf (l : List Nat) : Nat × Nat := ((l.map (· + 1)).sum, l.foldl max 0)

/-- Instructions outside the iteration segment and inside it (R121). -/
def segmentOf (h : Bytes) (l : List Nat) : List Nat × List Nat :=
  if hdrField h 50 50 = 0 then (l, [])
  else (l.take (hdrField h 63 51) ++ l.drop (hdrField h 76 64 + 1), (l.take (hdrField h 76 64 + 1)).drop (hdrField h 63 51))

/-- P and L outside the segment and inside it; zeros for a class P program (R120, R121, R131). -/
def programCounts (h : Bytes) (l : List Nat) : (Nat × Nat) × (Nat × Nat) :=
  if hdrField h 44 44 = 0 then ((0, 0), (0, 0)) else (countsOf (segmentOf h l).1, countsOf (segmentOf h l).2)

/-- C(op) of a pair of counts (R94). -/
def cOfCounts (c : Nat × Nat) : Nat := c.1 + 4 * c.2

/-- A program's instructions, each with what its walk needs. -/
def StoreSet.walks (x : StoreSet) (k : Nat) (h : Bytes) : List WalkOf := (x.instructions h).map fun p => ⟨x, k, h, p.1, p.2⟩

/-- A program's header and its instructions are checked: the counts of its instructions, or the first refusal (rules 0x01 to 0x0B). DESIGN CHOICE
(log entry 75): a program whose START + LENGTH passes PS_WORDS, for which Table 4.7 names no rule, is refused under rule 0x01. -/
def StoreSet.checkProgram (x : StoreSet) (k : Nat) (h : Bytes) : Sum LoadRefusal (List Nat) :=
  let len := hdrField h 43 30
  let start := hdrField h 29 16
  if len = 0 ∨ 8192 < len ∨ x.program.length / 8 < start + len ∨ hdrField h 127 87 ≠ 0 then .inl ⟨1, k, start⟩
  else if hdrField h 50 50 = 1 ∧ (len ≤ hdrField h 76 64 ∨ hdrField h 76 64 < hdrField h 63 51 ∨ hdrField h 86 77 = 0) then .inl ⟨0xB, k, start⟩
  else match walkAll (x.walks k h) with
    | .inl e => .inl e
    | .inr l =>
      if 2 ^ 26 < cOfCounts (programCounts h l).1 ∨ 2 ^ 26 < cOfCounts (programCounts h l).2 then .inl ⟨0xA, k, start⟩
      else .inr l

/-- A valid start address of the entry table at or beyond CS_WORDS (rule 0x05), or a reserved bit set (rule 0x01). -/
def StoreSet.entryFail (x : StoreSet) (k : Nat) : Option LoadRefusal :=
  (List.range 1024).findSome? fun i =>
    let e := x.entryOf i
    if bitOf e 15 then some ⟨1, k, 0⟩
    else if bitOf e 14 ∧ x.csWords ≤ bitsOf e 13 0 then some ⟨5, k, bitsOf e 13 0⟩
    else if bitOf e 30 ∧ x.csWords ≤ bitsOf e 29 16 then some ⟨5, k, bitsOf e 29 16⟩
    else none

/-- The first refusal of one kind's stores. -/
def StoreSet.refusal (x : StoreSet) (k : Nat) : Option LoadRefusal :=
  (x.entryFail k).or (x.directory.findSome? fun h => (x.checkProgram k h).elim some fun _ => none)

/-- The operation program of a header (R113, R120, R121, R127). -/
def StoreSet.programOf (x : StoreSet) (k : Nat) (h : Bytes) : Program :=
  let n := (x.checkProgram k h).elim (fun _ => ((0, 0), (0, 0))) (programCounts h)
  let iter := hdrField h 50 50 == 1
  { kind := k, opcode := hdrField h 15 0, classC := hdrField h 44 44 == 1, compat := hdrField h 45 45 == 1, pset := hdrField h 49 46
    iterating := iter, iterMax := if iter then hdrField h 86 77 else 0, p0 := n.1.1, l0 := n.1.2, p1 := n.2.1, l1 := n.2.2 }

end Sys2Proof.Machine
end

