-- ==== Sys2Proof/Machine/Sequencer.lean ====
section
/-!
DEFINITION. An engine at work: where its registers lie in operand memory, the effect of each microword, the conditions and the next address, and
the instructions and passes of an operation program (R71, R74, R81 to R83, R100, R115 to R121, R123). The loader walks the same words in Microcode.lean.
-/
namespace Sys2Proof.Machine
open Sys2Proof

/-! ### Operand memory (R71, R74, R100) -/

/-- Words of operand memory in one cell: 64 KiB (Table 3.1). -/
def cellWords : Nat := 8192

/-- Words of V0 to V31 and of the shadow area: 34 KiB, divided equally among an engine's cells (Table 3.3). -/
def reservedWords : Nat := 4352

/-- Words that each cell of an engine reserves. -/
def reservedPerCell (kind : Nat) : Nat := reservedWords / kindCells kind

/-- Words of an engine left free for operands (Table 3.3). -/
def freeWords (kind : Nat) : Nat := kindCells kind * cellWords - reservedWords

/-- Where word x of the reserved area lies: the first words of each cell, cell after cell (DESIGN CHOICE, log entry 76). -/
def reservedAt (kind x : Nat) : Nat := x / reservedPerCell kind * cellWords + x % reservedPerCell kind

/-- Where word y of the free operand memory lies: the rest of each cell (DESIGN CHOICE, log entry 76). -/
def freeAt (kind y : Nat) : Nat :=
  let per := cellWords - reservedPerCell kind
  y / per * cellWords + reservedPerCell kind + y % per

/-- The word of an engine's operand memory as an instruction reads it: zero where it is marked invalid (R100). -/
def Engine.wordAt (g : Engine) (i : Nat) : W64 :=
  let m := Sparse.get (fun _ => ({} : MemWord)) g.memory i
  if m.valid then m.data else 0

/-- Word n of cell c, of the 192 of the Comb: what the engine that is bonded from it holds there, and zero in a cell of no engine (R71, R78). -/
def Comb.cellWord (c : Comb) (cell n : Nat) : W64 :=
  match c.engines.find? fun g => decide (g.firstCell ≤ cell) && decide (cell < g.firstCell + kindCells g.kind) with
  | some g => g.wordAt ((cell - g.firstCell) * cellWords + n)
  | none => 0

/-- Every word is marked invalid without being cleared (R100). -/
def Engine.marked (g : Engine) : Engine := { g with memory := g.memory.map fun (m : Nat × MemWord) => (m.1, { m.2 with valid := false }) }

/-- A wipe clears operand memory with the register area and the shadow area, the short registers and the condition flags (R99). -/
def Engine.wiped (g : Engine) : Engine := { g with memory := [], shorts := List.replicate 16 0, seq := {}, flags := {}, shadow := {} }

/-- The 64-byte lines of operand memory in use. -/
def Engine.linesInUse (g : Engine) : List Nat := ((g.memory.filter fun (m : Nat × MemWord) => m.2.valid).map (·.1 / 8)).eraseDups

/-- A line of operand memory. -/
def Engine.lineBytes (g : Engine) (l : Nat) : Bytes := (List.range 8).flatMap fun j => toLE 8 (g.wordAt (8 * l + j)).toNat

/-- The operand memory that lines spell: `read l` is line l. -/
def memoryOf (read : Nat → Bytes) (ls : List Nat) : Sparse MemWord :=
  ls.foldl (fun m l => (List.range 8).foldl (fun m j =>
    Sparse.set (fun _ => ({} : MemWord)) m (8 * l + j) ⟨BitVec.ofNat 64 (leAt (read l) (8 * j) 8), true⟩) m) []

/-! ### Elements (R81, R82) -/

/-- The fields of an instruction (Table 3.6). -/
abbrev instEop (i : Nat) : Nat := bitsOf i 63 54
/-- EW. -/
abbrev instEw (i : Nat) : Nat := bitsOf i 53 52
/-- VD. -/
abbrev instVd (i : Nat) : Nat := bitsOf i 51 47
/-- VA. -/
abbrev instVa (i : Nat) : Nat := bitsOf i 46 42
/-- VB. -/
abbrev instVb (i : Nat) : Nat := bitsOf i 41 37
/-- VC. -/
abbrev instVc (i : Nat) : Nat := bitsOf i 36 32
/-- SS. -/
abbrev instSs (i : Nat) : Nat := bitsOf i 31 28
/-- SD. -/
abbrev instSd (i : Nat) : Nat := bitsOf i 27 24

/-- Bits of an element: 8, 16, 32 or 64. -/
def ewBits (ew : Nat) : Nat := 8 * 2 ^ ew

/-- The engine word that holds element i of register v, and the element's place in it. -/
def elementAt (kind ew v i : Nat) : Nat × Nat := (reservedAt kind (128 * v + i * ewBits ew / 64), i * ewBits ew % 64)

/-- `n` bits of a word from bit `lo` on. -/
def wordBits (w : W64) (lo n : Nat) : Nat := w.toNat / 2 ^ lo % 2 ^ n

/-- A word with `n` bits from bit `lo` on replaced. -/
def putBits (w : W64) (lo n v : Nat) : W64 :=
  BitVec.ofNat 64 (w.toNat - wordBits w lo n * 2 ^ lo + v % 2 ^ n * 2 ^ lo)

/-- Element i of register v as it stood before the instruction (R82). -/
def Engine.element (g : Engine) (ew v i : Nat) : Nat :=
  let a := elementAt g.kind ew v i
  wordBits (g.wordAt a.1) a.2 (ewBits ew)

/-- The shadow of a word: what the instruction has written to it, and otherwise the word itself. -/
def Engine.shadowWord (g : Engine) (i : Nat) : W64 :=
  Sparse.get g.wordAt g.shadow.words i

/-- A write to the shadow area, which holds 2 KiB and takes no more (R83): `n` bits from bit `lo` of the word at i. -/
def Engine.shadowPut (g : Engine) (i lo n v : Nat) : Engine :=
  let words := Sparse.insert g.shadow.words i (putBits (g.shadowWord i) lo n v)
  if words.length ≤ 256 then { g with shadow := { g.shadow with words := words } } else g

/-- Element i of the shadow of register v is written. -/
def Engine.putElement (g : Engine) (ew v i x : Nat) : Engine :=
  let a := elementAt g.kind ew v i
  g.shadowPut a.1 a.2 (ewBits ew) x

/-- Element i of the shadow of register v. -/
def Engine.shadowElement (g : Engine) (ew v i : Nat) : Nat :=
  let a := elementAt g.kind ew v i
  wordBits (g.shadowWord a.1) a.2 (ewBits ew)

/-- The commit at END: memory words and the short register take what the shadow holds, and the condition flags stand (R83). -/
def Engine.commit (g : Engine) : Engine :=
  { g with
    memory := g.shadow.words.foldl (fun m (w : Nat × W64) => Sparse.set (fun _ => ({} : MemWord)) m w.1 ⟨w.2, true⟩) g.memory
    shorts := match g.shadow.short with | some (n, v) => g.shorts.set n v | none => g.shorts
    flags := g.seq, shadow := {} }

/-! ### Conditions and the next address (R117 to R119, R123) -/

/-- The engine's counters as the loader's walk has them. -/
def Sequencer.point (q : Sequencer) : WalkPoint := { addr := q.addr, lc := q.counters, ptr := q.pointer }

/-- The four conditions of a group (Table 4.4); `ready` are those of group 12, which other units give. A reserved condition reads 0. -/
def Sequencer.conditions (q : Sequencer) (c : WalkOf) (ready g : Nat) : List Bool :=
  let four (n : Nat) : List Bool := (List.range 4).map (bitOf n)
  if g ≤ 3 then c.static q.point g
  else if g = 4 then [q.idxOor, q.rej, q.iterFirst, false]
  else if g = 8 then four q.cmp.toNat
  else if g = 9 then four q.data.toNat
  else if g = 12 then four ready
  else [false, false, false, false]

/-- The next address: formed by TARGET, CGRP and CMSK in native mode, by the incrementer and BR words in compatibility mode, from the conditions
as they stood at the end of the previous cycle (R117, R119). -/
def Sequencer.nextAddr (q : Sequencer) (c : WalkOf) (ready w : Nat) : Nat :=
  let t := wordTarget w
  if c.compat then
    if wordCls w ≠ 0xC then q.addr + 1
    else
      let v := (q.conditions c ready (bitsOf w 25 22)).getD (bitsOf w 21 20) false
      match bitsOf w 27 26 with
      | 0 => t
      | 1 => if v then t else q.addr + 1
      | _ => if v then q.addr + 1 else t
  else orMasked t (wordCmsk w) (q.conditions c ready (wordCgrp w))

/-- Every condition that a WAIT word selects is 1 (R123). -/
def Sequencer.waitOver (q : Sequencer) (c : WalkOf) (ready w : Nat) : Bool :=
  orMasked 0 (wordCmsk w) (q.conditions c ready (wordCgrp w)) == wordCmsk w

/-! ### Units (Table 4.3) -/

/-- What a free function of the units may depend on. -/
def unitContext (c : WalkOf) (w : Nat) : List Bytes := [toLE 8 c.inst, toLE 4 w]

/-- The latch that a word takes as its operand k, or puts its result k into. Table 4.3 names latches for LDV and STV alone; for the other classes
the choice is free (log entry 77). -/
def unitLatch (c : WalkOf) (w k : Nat) : Nat := Config.stdCount .unitLatch k (unitContext c w) % 4

/-- Operand k of a word. -/
def Sequencer.operand (q : Sequencer) (c : WalkOf) (w k : Nat) : Nat := (q.latches.getD (unitLatch c w k) 0).toNat

/-- A latch takes a value. -/
def Sequencer.setLatch (q : Sequencer) (n v : Nat) : Sequencer := { q with latches := q.latches.set n (BitVec.ofNat 512 v) }

/-- Result k of a word goes to its latch. -/
def Sequencer.result (q : Sequencer) (c : WalkOf) (w k v : Nat) : Sequencer := q.setLatch (unitLatch c w k) v

/-- CARRY, ZERO, SIGN and BIT_SEL after a word of MLA: Table 4.4 names them, and no table says how they follow from a result; they are free. -/
def Sequencer.noteData (q : Sequencer) (c : WalkOf) (w v : Nat) : Sequencer :=
  { q with data := BitVec.ofNat 4 (Config.stdCount .dataFlags 0 (unitContext c w ++ [toLE 64 v])) }

/-- n steps of Montgomery's reduction by 2: v × 2^−n modulo an odd m, up to a multiple of m. -/
def montSteps : Nat → Nat → Nat → Nat
  | 0, _, v => v
  | n + 1, m, v => montSteps n m (if v % 2 = 1 then (v + m) / 2 else v / 2)

/-- A value reduced: not at all, by Barrett to the residue, by Montgomery to the residue of v × 2^−bits. -/
def reduceBy (mode bits m v : Nat) : Nat := match mode with
  | 1 => v % m
  | 2 => montSteps bits m v % m
  | _ => v

/-- MLA: mul, mac, add mod, sub mod, mul-reduce, on lanes of 32 bits or, paired, of 64. -/
def Sequencer.mla (q : Sequencer) (c : WalkOf) (w : Nat) : Sequencer :=
  let bits := if bitOf w 22 then 64 else 32
  let a := q.operand c w 0 % 2 ^ bits
  let b := q.operand c w 1 % 2 ^ bits
  let m := q.modulus.toNat
  let mode := bitsOf w 24 23
  let v := match bitsOf w 27 25 with
    | 0 => reduceBy mode bits m (a * b)
    | 1 => reduceBy mode bits m (q.acc.toNat + a * b)
    | 2 => (a + b) % m
    | 3 => (a + m - b % m) % m
    | _ => if mode = 2 then reduceBy 2 bits m (a * b) else a * b % m
  let q := if bitsOf w 27 25 = 1 then { q with acc := BitVec.ofNat 512 v } else q
  (q.result c w 2 v).noteData c w v

/-- BFLY: a Cooley–Tukey or Gentleman–Sande butterfly of two operands with a twiddle; SCALE multiplies by n^−1, where the spec does not say what n is:
that factor is free. -/
def Sequencer.butterfly (q : Sequencer) (c : WalkOf) (w : Nat) : Sequencer :=
  let m := q.modulus.toNat
  let a := q.operand c w 0 % m
  let b := q.operand c w 1 % m
  let z := q.operand c w 2 % m
  let t := b * z % m
  let r := if bitsOf w 27 26 = 0 then ((a + t) % m, (a + m - t) % m) else ((a + b) % m, (a + m - b) * z % m)
  let k := if bitOf w 25 then Config.stdCount .butterflyScale 0 (toLE 32 m :: unitContext c w) else 1
  (q.result c w 3 (r.1 * k % m)).result c w 4 (r.2 * k % m)

/-- The carry-less product of a number with the n low bits of another. -/
def clProduct : Nat → Nat → Nat → Nat
  | 0, _, _ => 0
  | n + 1, a, b => (if b % 2 = 1 then a else 0) ^^^ (2 * clProduct n a (b / 2))

/-- A polynomial over GF(2) reduced modulo x^n − 1. -/
def clFold : Nat → Nat → Nat → Nat
  | 0, _, v => v
  | k + 1, n, v => if v < 2 ^ n then v else clFold k n (v % 2 ^ n ^^^ v / 2 ^ n)

/-- CLMUL: multiply 64 × 64 to 128 bits, multiply and XOR-accumulate, reduce modulo x^n − 1 for an n that the spec does not place: it is free. -/
def Sequencer.carryless (q : Sequencer) (c : WalkOf) (w : Nat) : Sequencer :=
  let p := clProduct 64 (q.operand c w 0 % 2 ^ 64) (q.operand c w 1 % 2 ^ 64)
  match bitsOf w 27 25 with
  | 0 => q.result c w 2 p
  | 1 =>
    let v := q.clmul.toNat ^^^ p
    ({ q with clmul := BitVec.ofNat 512 v }).result c w 2 v
  | _ => q.result c w 2 (clFold 512 (Config.stdCount .clmulLength 0 (unitContext c w)) (q.operand c w 0))

/-- KEC: reset clears the state; absorb, round and squeeze are the steps of FIPS 202 for the function that the word names. -/
def Sequencer.kec (q : Sequencer) (c : WalkOf) (w : Nat) : Sequencer :=
  let out := Config.std .keccakUnit (bitsOf w 27 22) [toLE 200 q.keccak.toNat, toLE 64 (q.operand c w 0)]
  match bitsOf w 27 25 with
  | 3 => { q with keccak := 0 }
  | 2 => q.result c w 1 (leNat out)
  | _ => { q with keccak := BitVec.ofNat 1600 (leNat out) }

/-- SHA: load block takes the operand; init, round and finish are the steps of FIPS 180-4 for the function that the word names. -/
def Sequencer.shaStep (q : Sequencer) (c : WalkOf) (w : Nat) : Sequencer :=
  if bitsOf w 27 25 = 1 then { q with shaBlock := BitVec.ofNat 1024 (q.shaBlock.toNat * 2 ^ 512 + q.operand c w 0) }
  else
    let out := leNat (Config.std .shaUnit (bitsOf w 27 24) [toLE 64 q.sha.toNat, toLE 128 q.shaBlock.toNat])
    let q := { q with sha := BitVec.ofNat 512 out }
    if bitsOf w 27 25 = 3 then q.result c w 1 out else q

/-- MASK: a mask word of the engine's channel is drawn (R184); shares are refreshed, or a shuffle permutation formed, with it, in a way that the
spec does not state: that result is free. -/
def Sequencer.maskStep (q : Sequencer) (c : WalkOf) (w : Nat) (word : W64) : Sequencer :=
  ({ q with masks := q.masks + 1 }).result c w 1
    (if bitsOf w 27 26 = 0 then word.toNat
     else Config.stdCount .maskUnit 0 (toLE 64 (q.operand c w 0) :: toLE 8 word.toNat :: unitContext c w))

/-- CMP writes a bit of group 8: equal, less than, at least modulus, zero. A target past bit 3 names no condition. -/
def Sequencer.compare (q : Sequencer) (c : WalkOf) (w : Nat) : Sequencer :=
  let a := q.operand c w 0
  let b := q.operand c w 1
  let v := match bitsOf w 27 25 with
    | 0 => a == b
    | 1 => decide (a < b)
    | 2 => decide (q.modulus.toNat ≤ a)
    | _ => a == 0
  let bit := BitVec.ofNat 4 (2 ^ bitsOf w 24 22)
  { q with cmp := if v then q.cmp ||| bit else q.cmp &&& ~~~bit }

/-- SEL chooses, swaps or masks data by a bit of group 9, and never branches on it. -/
def Sequencer.select (q : Sequencer) (c : WalkOf) (w : Nat) : Sequencer :=
  let v := bitOf q.data.toNat (bitsOf w 25 24)
  let a := q.operand c w 0
  let b := q.operand c w 1
  match bitsOf w 27 26 with
  | 0 => q.result c w 2 (if v then a else b)
  | 1 => (q.result c w 2 (if v then b else a)).result c w 3 (if v then a else b)
  | _ => q.result c w 2 (if v then a else 0)

/-! ### Moves between registers, memory and latches -/

/-- The low n bits of a number in reverse order. -/
def bitReverse : Nat → Nat → Nat
  | 0, _ => 0
  | n + 1, v => v % 2 * 2 ^ n + bitReverse n (v / 2)

/-- The element that LDV and STV address: at the pointer, a stride past it, or at the pointer's bits in reverse, over the 10 − EW bits that number
the elements of a register (DESIGN CHOICE, log entry 77). -/
def elementIndex (c : WalkOf) (w ptr : Nat) : Nat := match bitsOf w 23 22 with
  | 1 => ptr + 2 ^ (c.imm w % 16)
  | 2 => bitReverse (10 - instEw c.inst) ptr
  | _ => ptr

/-- The index that VC names for the element at the pointer: none where it is 0xFFFF or out of range, with whether it is out of range (R82). -/
def Engine.vcIndex (g : Engine) (c : WalkOf) : Option Nat × Bool :=
  let i := g.element 1 (instVc c.inst) g.seq.pointer
  if i = 0xFFFF then (none, false) else if ewLast c.inst < i then (none, true) else (some i, false)

/-- The sequencer of an engine changed. -/
def Engine.modSeq (g : Engine) (f : Sequencer → Sequencer) : Engine := { g with seq := f g.seq }

/-- LDV: an element of VA, VB, VC or the shadow of VD goes to a latch; a gather takes the element that the index names, zero where it names none, and
an index out of range sets IDX_OOR (R82). -/
def Engine.ldv (g : Engine) (c : WalkOf) (w : Nat) : Engine :=
  let ew := instEw c.inst
  let get (i : Nat) : Nat := match bitsOf w 27 26 with
    | 0 => g.element ew (instVa c.inst) i
    | 1 => g.element ew (instVb c.inst) i
    | 2 => g.element ew (instVc c.inst) i
    | _ => g.shadowElement ew (instVd c.inst) i
  let latch := bitsOf w 25 24
  if bitsOf w 23 22 = 3 then
    let x := g.vcIndex c
    g.modSeq fun q => ({ q with idxOor := q.idxOor || x.2 }).setLatch latch (match x.1 with | some i => get i | none => 0)
  else g.modSeq fun q => q.setLatch latch (get (elementIndex c w q.pointer))

/-- The register of the second destination of an STV word, which the instruction's fields do not name: it is free (log entry 77). -/
def secondDest (c : WalkOf) : Nat := Config.stdCount .secondDest 0 [toLE 8 c.inst] % 32

/-- STV: a latch goes to an element of the shadow of VD or of the second destination; a scatter writes the element that the index names, nothing
where it names none, and an index out of range sets IDX_OOR (R82). -/
def Engine.stv (g : Engine) (c : WalkOf) (w : Nat) : Engine :=
  let v := (g.seq.latches.getD (bitsOf w 25 24) 0).toNat
  let vd := if bitsOf w 27 26 = 1 then secondDest c else instVd c.inst
  if bitsOf w 27 26 = 2 ∨ bitsOf w 23 22 = 3 then
    let x := g.vcIndex c
    let g := g.modSeq fun q => { q with idxOor := q.idxOor || x.2 }
    match x.1 with
    | some i => g.putElement (instEw c.inst) vd i v
    | none => g
  else g.putElement (instEw c.inst) vd (elementIndex c w g.seq.pointer) v

/-- The byte address of a MEM word in the free operand memory: IMM in units of 64 bytes, plus the pointer times the width. -/
def memAddr (c : WalkOf) (w ptr : Nat) : Nat := c.imm w * 64 + if bitsOf w 23 22 = 1 then ptr * 2 ^ bitsOf w 26 24 else 0

/-- MEM: a load of 1 to 64 bytes into a latch, or a store of them to the shadow. Past the free operand memory the spec gives no word: a load there
takes a free value, and a store writes nothing. -/
def Engine.mem (g : Engine) (c : WalkOf) (w : Nat) : Engine :=
  let len := 2 ^ bitsOf w 26 24
  let at_ := memAddr c w g.seq.pointer
  let latch := unitLatch c w 0
  let inside := decide (at_ + len ≤ 8 * freeWords g.kind)
  let byte (i : Nat) : Nat := wordBits (g.wordAt (freeAt g.kind ((at_ + i) / 8))) ((at_ + i) % 8 * 8) 8
  if bitOf w 27 then
    if inside then
      let v := (g.seq.latches.getD latch 0).toNat
      (List.range len).foldl (fun g i =>
        g.shadowPut (freeAt g.kind ((at_ + i) / 8)) ((at_ + i) % 8 * 8) 8 (v / 2 ^ (8 * i))) g
    else g
  else
    let v := if inside then leNat ((List.range len).map fun i => BitVec.ofNat 8 (byte i))
      else Config.stdCount .beyondMemory at_ (unitContext c w)
    g.modSeq fun q => q.setLatch latch v

/-- SREG: a short register to a latch, to the modulus or to the constants, or a latch to the shadow of SD. -/
def Engine.sreg (g : Engine) (c : WalkOf) (w : Nat) : Engine :=
  let v := g.shorts.getD (instSs c.inst) 0
  match bitsOf w 27 25 with
  | 0 => g.modSeq fun q => q.result c w 0 v.toNat
  | 1 => { g with shadow := { g.shadow with short := some (instSd c.inst, BitVec.ofNat 256 (g.seq.operand c w 0)) } }
  | 2 => g.modSeq fun q => { q with modulus := v }
  | _ => g.modSeq fun q => { q with constants := v }

/-- LOOP: counters and the element pointer (Table 4.3), as the loader's walk has them. -/
def Sequencer.loop (q : Sequencer) (c : WalkOf) (w : Nat) : Sequencer :=
  let p := c.loop q.point w
  { q with counters := p.lc, pointer := p.ptr }

/-! ### Words, instructions, programs -/

/-- The effect of a word apart from END, WAIT and TRAP and from the next address (R116). -/
def Engine.effect (g : Engine) (c : WalkOf) (w : Nat) : Engine := match wordCls w with
  | 0x1 => g.modSeq (·.mla c w)
  | 0x2 => g.modSeq (·.butterfly c w)
  | 0x3 => g.modSeq (·.carryless c w)
  | 0x4 => g.modSeq (·.kec c w)
  | 0x5 => g.modSeq (·.shaStep c w)
  | 0x6 => g.ldv c w
  | 0x7 => g.stv c w
  | 0x8 => g.mem c w
  | 0x9 => g.sreg c w
  | 0xA => g.modSeq (·.loop c w)
  | 0xB => g.modSeq fun q => q.maskStep c w (maskWord g.feed (g.fed + q.masks))
  | 0xD => g.modSeq (·.compare c w)
  | 0xE => g.modSeq (·.select c w)
  | _ => g

/-- How an instruction stands after some words: it goes on, has committed at END, has trapped, or has not reached END. -/
inductive InstEnd where
  | committed | trapped | running
  deriving DecidableEq, Repr

/-- The words of an instruction from the sequencer's address on: each issues, or a WAIT holds; at END the shadow commits (R83, R117, R120, R123). -/
def Engine.words (c : WalkOf) (ready : Nat) : Nat → Engine → Engine × InstEnd
  | 0, g => (g, .running)
  | n + 1, g =>
    let w := c.stores.word g.seq.addr
    if wordEnd w then (g.commit, .committed)
    else if wordTrap w then (g, .trapped)
    else if wordWait w ∧ g.seq.waitOver c ready w = false then Engine.words c ready n g
    else Engine.words c ready n ((g.effect c w).modSeq fun q => { q with addr := g.seq.nextAddr c ready w })

/-- An instruction is begun, or begun again: what was in the shadow is discarded, and counters, pointer, IDX_OOR and REJ stand at zero at the start word
(R84, R118, R120). -/
def Engine.begin (g : Engine) (c : WalkOf) (first : Bool) : Engine :=
  { g with
    shadow := {}
    seq := { g.flags with
      addr := c.start.1, counters := [0, 0, 0, 0], pointer := 0, idxOor := false, rej := false, iterFirst := first } }

/-- The header of an operation's program in the engine's stores. -/
def Engine.header (g : Engine) (opcode : Nat) : Option Bytes := g.stores.directory.find? fun h => hdrField h 15 0 == opcode

/-- The instruction that an operation is at; none past the end of its program. -/
def Engine.walkOf (g : Engine) (o : CombOp) (h : Bytes) : Option WalkOf :=
  if o.ix < hdrField h 43 30 then
    some ⟨g.stores, g.kind, h, hdrField h 29 16 + o.ix, leAt g.stores.program (8 * (hdrField h 29 16 + o.ix)) 8⟩
  else none

/-- The last instruction of the iteration segment. -/
def CombOp.atSegmentEnd (o : CombOp) (h : Bytes) : Bool := hdrField h 50 50 == 1 && o.ix == hdrField h 76 64

/-- REJ as a pass of the segment leaves it: 1 while a further pass is due (R121). Which word writes it no table says; the passes that an operation
takes are those of its rejection loop (R146). -/
def CombOp.rejects (o : CombOp) : Bool := decide (o.pass < o.passes)

/-- The operation after an instruction has committed: the next instruction, or the segment's first again while REJ is 1 (R121). -/
def CombOp.nextInst (o : CombOp) (h : Bytes) (rej : Bool) : CombOp :=
  if o.atSegmentEnd h && rej then { o with ix := hdrField h 63 51, pass := o.pass + 1 } else { o with ix := o.ix + 1 }

/-- One instruction of an operation's program, within the 2^24 cycles of R123. -/
def Engine.instruction (g : Engine) (o : CombOp) (h : Bytes) (c : WalkOf) (ready : Nat) : Engine × CombOp × InstEnd :=
  let r := (g.begin c (o.pass == 1)).words c ready (2 ^ 24)
  match r.2 with
  | .committed =>
    let rej := o.atSegmentEnd h && o.rejects
    (r.1.modSeq fun q => { q with rej := rej }, o.nextInst h rej, .committed)
  | x => (r.1, o, x)

/-- Up to n instructions of an operation's program, `ready` being what other units report (R120, R121). An operation without a program in the
engine's stores runs none. -/
def Engine.program (ready : Nat) : Nat → Engine → CombOp → Engine × CombOp × InstEnd
  | 0, g, o => (g, o, .running)
  | n + 1, g, o => match g.header o.opcode with
    | none => (g, o, .committed)
    | some h => match g.walkOf o h with
      | none => (g, o, .committed)
      | some c =>
        let r := g.instruction o h c ready
        if r.2.2 = .committed then Engine.program ready n r.1 r.2.1 else r

/-- Instructions that a program can take: its length, once for every pass allowed (R121). -/
def programBound : Nat := 8192 * 1024

end Sys2Proof.Machine
end

