-- ==== Sys2Proof/Machine/Engines.lean ====
section
/-!
DEFINITION. Engines and the operations they hold: which run, which wait, what an operation puts into its engine, wiping and marking, fencing, the
tests that wait for an engine, and the claim that an operation has on its destination slot (R80, R84 to R105, R136).
-/
namespace Sys2Proof.Machine
open Sys2Proof

/-- Engine e of the layout in force. -/
def State.engine (s : State) (e : Nat) : Option Engine := s.comb.engines[e]?

/-- The state with engine e changed. -/
def State.modEngine (s : State) (e : Nat) (f : Engine → Engine) : State :=
  { s with comb := { s.comb with engines := s.comb.engines.modify e f } }

/-- A property of engine e. -/
def State.engineIs (s : State) (e : Nat) (p : Engine → Bool) : Bool := match s.engine e with
  | some g => p g
  | none => false

/-- The state with the Comb's operations replaced. -/
def State.setOps (s : State) (l : List CombOp) : State := { s with comb := { s.comb with ops := l } }

/-- The cell group of an engine (R71). -/
def Engine.group (e : Engine) : Nat := e.firstCell / 16

/-- A cell group has power (R72, R497). -/
def State.groupOn (s : State) (g : Nat) : Bool := bitOf s.pwr.cellOn g

/-- An engine is gated: its cell group has no power (Table 3.10). -/
def State.gated (s : State) (e : Engine) : Bool := !s.groupOn e.group

/-- Operations that engine e holds, the running one included (R88). -/
def State.depth (s : State) (e : Nat) : Nat := (s.comb.ops.filter fun o => o.engine == some e).length

/-- The stages in which an operation occupies its engine. -/
def OpStage.running : OpStage → Bool
  | .prefixRun | .tickWait | .body | .ended | .tail => true
  | _ => false

/-- An operation runs instructions of class P: a public prefix, a class P program, or the tail of a tree build (R84, R139, R152). -/
def CombOp.classPRun (o : CombOp) : Bool := o.stage == .prefixRun || o.stage == .tail || (o.stage == .body && !o.classC)

/-- The operation that occupies engine e. -/
def State.runningOp (s : State) (e : Nat) : Option CombOp :=
  s.comb.ops.find? fun o => o.engine == some e && o.stage.running

/-- The state with the operation of a source changed. -/
def State.modOp (s : State) (src : OpSrc) (f : CombOp → CombOp) : State :=
  s.setOps (s.comb.ops.map fun o => if o.src = src then f o else o)

/-- The state without the operation of a source. -/
def State.dropOp (s : State) (src : OpSrc) : State := s.setOps (s.comb.ops.filter fun o => o.src != src)

/-- An operation on the LMS key that slot n holds (R136). -/
def CombOp.usesTree (n : Nat) (o : CombOp) : Bool := within o.opcode 0x234 0x23B && o.keySlot == n

/-- An LMS operation under a key that has left its slot has ended: the key goes with the last of them (log entry 89). -/
def State.sweepTree (s : State) (o : CombOp) : State :=
  if o.usesTree o.keySlot && decide (4096 ≤ o.keySlot) && !s.comb.ops.any (CombOp.usesTree o.keySlot) then s.emptySlot o.keySlot else s

/-- The stage in which an operation takes its engine: its public prefix, its wait for a grid tick, or its class P program
(R94, R139). -/
def CombOp.firstStage (o : CombOp) : OpStage :=
  if o.hasPrefix && o.run == 0 then .prefixRun else if o.classC then .tickWait else .body

/-- An operation of the device's own (R33). -/
def CombOp.own (o : CombOp) : Bool := match o.src with
  | .own _ => true
  | .host _ => false

/-- Operations that have not started on engine e are placed again, ahead of all other waiting operations and in the order in which the engine
would have started them (R91). -/
def State.replaceQueued (s : State) (e : Nat) : State :=
  s.setOps (s.comb.ops.map fun o =>
    if o.engine = some e ∧ o.stage = .queued then { o with engine := none, stage := .waiting, rank := 2 } else o)

/-! ### The destination claim (R136) -/

/-- Bits of the attribute word (Table 8.1). -/
def KeySlot.bit (k : KeySlot) (n : Nat) : Bool := bitOf k.attr.toNat n
/-- VALID. -/
def KeySlot.valid (k : KeySlot) : Bool := k.bit 0
/-- CLAIMED. -/
def KeySlot.claimed (k : KeySlot) : Bool := k.bit 1
/-- LOCKED. -/
def KeySlot.locked (k : KeySlot) : Bool := k.bit 3
/-- KIND. -/
def KeySlot.kind (k : KeySlot) : Nat := bitsOf k.attr.toNat 11 4
/-- CLEN. -/
def KeySlot.clen (k : KeySlot) : Nat := bitsOf k.attr.toNat 31 24
/-- TEST. -/
def KeySlot.test (k : KeySlot) : Bool := k.bit 34

/-- The slots of a run: 2, 3 or 4 for an RSA kind, else one (R208). -/
def runLength (kind : Nat) : Nat := if kind = 0x38 then 2 else if kind = 0x39 then 3 else if kind = 0x3A then 4 else 1

/-- The state with every slot of the run that starts at n changed. -/
def State.modRun (s : State) (n : Nat) (f : KeySlot → KeySlot) : State :=
  (List.range (runLength (s.slot n).kind)).foldl (fun s i => s.setSlot (n + i) (f (s.slot (n + i)))) s

/-- The claim of an operation on its destination run (R136). -/
def State.claim (s : State) (n : Nat) : State := s.modRun n fun k => { k with attr := k.attr ||| 2 }

/-- The claim ends. -/
def State.unclaim (s : State) (n : Nat) : State := s.modRun n fun k => { k with attr := k.attr &&& ~~~2 }

/-- The destination of an operation that ends without OK stays empty and unclaimed (R136). -/
def State.releaseDest (s : State) (d : Option Nat) : State := match d with
  | some n => s.unclaim n
  | none => s

/-! ### Operations whose kind has no engine left (R80) -/

/-- The cell groups that keep power: those of a change under way, else those in force. -/
def State.cellsKept (s : State) : Nat := match s.pwr.change with
  | some c => c.cellOn
  | none => s.pwr.cellOn

/-- A kind has an engine that stays: not fenced, its group powered. -/
def State.kindStays (s : State) (kind : Nat) : Bool :=
  s.comb.engines.any fun (g : Engine) => g.kind == kind && !g.fenced && bitOf s.cellsKept g.group

/-- The stages in which an operation holds no engine and waits for the forager. -/
def OpStage.waits : OpStage → Bool
  | .waiting | .leafWait | .preempted | .regather => true
  | _ => false

/-- A host operation that holds no engine ends with a status: its claim ends and its entry completes. -/
def State.endWaiting (s : State) (o : CombOp) (status ext : Nat) : State := match o.src with
  | .host slot => ((s.dropOp o.src).releaseDest o.dest).complete slot status ext []
  | .own _ => s

/-- Waiting host operations whose kind keeps no engine complete (R80, R109). -/
def State.dropHomeless (s : State) : State :=
  (s.comb.ops.filter fun o => o.stage.waits && !s.kindStays o.kind).foldl (fun (s : State) o => s.endWaiting o St.engineUnavailable 2) s

/-! ### Tests that wait (R104, R105, R108, R109) -/

/-- The 16 output bytes of SELFTEST_RUN (Table 3.8). -/
def SelftestRun.output (r : SelftestRun) : Bytes :=
  toLE 2 r.tested ++ toLE 2 r.failed ++ toLE 2 (r.firstFailed.getD 0xFFFF) ++ zeros 10

/-- The SELFTEST_RUN of a tracker slot. -/
def State.testRun (s : State) (slot : Nat) : Option SelftestRun := s.comb.testRuns.find? fun r => r.slot == slot

/-- The state without the SELFTEST_RUN of a slot. -/
def State.dropRun (s : State) (slot : Nat) : State :=
  { s with comb := { s.comb with testRuns := s.comb.testRuns.filter (·.slot != slot) } }

/-- A SELFTEST_RUN completes once none of its engines is still to be tested (R108). -/
def State.endRun (s : State) (slot : Nat) : State := match s.testRun slot with
  | some r => if r.todo = [] then (s.dropRun slot).complete slot St.ok 0 r.output else s
  | none => s

/-- A SELFTEST_RUN has done with engine e; `f` notes the result. -/
def State.stepRun (s : State) (slot e : Nat) (f : SelftestRun → SelftestRun) : State :=
  let step (r : SelftestRun) : SelftestRun := if r.slot = slot then f { r with todo := r.todo.filter (· != e) } else r
  ({ s with comb := { s.comb with testRuns := s.comb.testRuns.map step } }).endRun slot

/-- A SELFTEST_RUN of scope 0. -/
def State.runOfOne (s : State) (slot : Nat) : Bool := match s.testRun slot with
  | some r => r.one
  | none => false

/-- A test leaves out an engine that is FENCED at its turn (R104, R108). -/
def State.skipsFenced (s : State) (r : TestReason) : Bool := match r with
  | .periodic | .orphan => true
  | .selftestRun slot => !s.runOfOne slot
  | .unfence _ | .afterReload => false

/-- A test is not to run at its turn: its engine is gated, FENCED where the test skips such engines, or no longer FENCED where ENGINE_UNFENCE
asked for it. -/
def State.testSkipped (s : State) (g : Engine) (r : TestReason) : Bool :=
  s.gated g || (g.fenced && s.skipsFenced r) || (!g.fenced && match r with | .unfence _ => true | _ => false)

/-- What asked for a test that does not run hears of it (R108, R109). -/
def State.skipTest (s : State) (e : Nat) (r : TestReason) (gated : Bool) : State := match r with
  | .unfence slot => if gated then s.complete slot St.engineUnavailable 2 [] else s.complete slot St.ok 0 []
  | .selftestRun slot =>
    if gated && s.runOfOne slot then (s.dropRun slot).complete slot St.engineUnavailable 2 [] else s.stepRun slot e id
  | _ => s

/-- A test joins the queue (R105). -/
def State.queueTest (s : State) (e : Nat) (r : TestReason) : State :=
  { s with comb := { s.comb with testQueue := s.comb.testQueue ++ [(e, r)] } }

/-- The next test of a queue: the first to arrive, where a periodic one waits behind those that SELFTEST_RUN requested (R105). -/
def firstTest (l : List (Nat × TestReason)) : Option (Nat × TestReason) :=
  let asked := l.any fun x => match x.2 with | .selftestRun _ => true | _ => false
  l.find? fun x => !(asked && x.2 == .periodic)

/-- While no engine is withdrawn, the next test begins: the engine takes no new work, and its waiting operations are placed
again (R104, R105). -/
def startTests : Nat → State → State
  | 0, s => s
  | n + 1, s => match s.comb.testing, firstTest s.comb.testQueue with
    | none, some (e, r) =>
      let s := { s with comb := { s.comb with testQueue := s.comb.testQueue.erase (e, r) } }
      match s.engine e with
      | some g =>
        if s.testSkipped g r then startTests n (s.skipTest e r (s.gated g))
        else
          let s := s.modEngine e fun g => if g.state = .ready ∧ g.fenced = false then { g with state := .withdrawn } else g
          let s := if g.fenced then s else s.replaceQueued e
          { s with comb := { s.comb with testing := some (e, r), testPassed := false } }
      | none => startTests n s
    | _, _ => s

/-- Waiting tests begin as far as they can. -/
def State.runTests (s : State) : State := startTests (s.comb.testQueue.length + 1) s

/-- The test of an engine that is to be skipped now goes no further, and the next begins (R104, R108). -/
def State.cancelTest (s : State) (e : Nat) : State := match s.comb.testing, s.engine e with
  | some (e', r), some g =>
    if e' = e ∧ s.testSkipped g r = true ∧ s.comb.testPassed = false then
      (({ s with comb := { s.comb with testing := none } }).skipTest e r (s.gated g)).runTests
    else s
  | _, _ => s

/-! ### Fences (R90, R91, R103, R107) -/

/-- A fence takes effect: the engine's waiting operations are placed again, or complete where their kind has no engine left; the ENGINE_FENCE
entries that wait for it complete; a fence of R90 shows in CMB.ERR_STATUS. -/
def State.fenceNow (s : State) (e : Nat) : State :=
  let s := if s.engineIs e (·.ceDue) then s.raise Reg.cmbErrStatus 8 else s
  let s := s.modEngine e fun g => { g with
    state := if g.state = .withdrawn then .ready else g.state, fenced := true, fenceDue := false, ceDue := false }
  let s := (s.replaceQueued e).dropHomeless
  let mine := s.comb.fenceWait.filter fun w => w.2 == e
  let s := { s with comb := { s.comb with fenceWait := s.comb.fenceWait.filter fun w => w.2 != e } }
  (mine.foldl (fun s w => s.complete w.1 St.ok 0 []) s).cancelTest e

/-! ### An operation in its engine (R73, R83, R92, R97 to R100) -/

/-- What an operation puts into its engine before its program runs: operands in the free operand memory (part 0) and the short registers (part 1).
The microcode image, not the spec, says what a program expects where. -/
def CombOp.operands (o : CombOp) (part : Nat) : Bytes := Config.std .engineWork part [toLE 2 o.opcode, o.key, o.input, o.params, o.draw]

/-- Bytes written to an engine's free operand memory, from word y on: at most n words. -/
def placeWords (kind : Nat) : Nat → Nat → Bytes → Sparse MemWord → Sparse MemWord
  | 0, _, _, m => m
  | n + 1, y, b, m =>
    if b.isEmpty then m
    else placeWords kind n (y + 1) (b.drop 8) (Sparse.set (fun _ => ({} : MemWord)) m (freeAt kind y) ⟨BitVec.ofNat 64 (leAt b 0 8), true⟩)

/-- Bytes of one area of preemption state: the operand memory of the largest engine, then the sixteen short registers. -/
def spillArea : Nat := 2 ^ 19 + 512

/-- Where an area lies in the SPILL partition (DESIGN CHOICE, log entry 88). -/
def State.areaAt (s : State) (v : Saved) : Nat := s.partStart 2 + spillArea * v.area

/-- The first area that no preempted operation holds. -/
def State.freeArea (s : State) : Nat :=
  let used := s.comb.ops.filterMap fun o => o.saved.map (·.area)
  ((List.range (used.length + 1)).find? fun a => !used.contains a).getD 0

/-- An engine's committed registers and the operand memory in use go to the spill partition (R92). -/
def State.spill (s : State) (g : Engine) : Saved × State :=
  let v : Saved := { area := s.freeArea, lines := g.linesInUse, flags := g.flags }
  let pa := s.areaAt v
  let s := v.lines.foldl (fun s l => s.putLine (pa + 64 * l) (g.lineBytes l)) s
  (v, s.putLines (pa + 2 ^ 19) 8 (g.shorts.flatMap fun x => toLE 32 x.toNat))

/-- The engine with a saved state restored from the spill partition (R92). -/
def State.unspill (s : State) (v : Saved) (g : Engine) : Engine :=
  let pa := s.areaAt v
  let b := s.getLines (pa + 2 ^ 19) 8
  { g with
    memory := memoryOf (fun l => s.getLine (pa + 64 * l)) v.lines
    shorts := (List.range 16).map fun i => BitVec.ofNat 256 (leAt b (32 * i) 32)
    flags := v.flags, seq := v.flags, shadow := {} }

/-- An operation takes the engine: its operands are placed (R73). -/
def Engine.loaded (g : Engine) (o : CombOp) : Engine :=
  { g with
    memory := placeWords g.kind (freeWords g.kind) 0 (o.operands 0) g.memory
    shorts := (List.range 16).map fun i => BitVec.ofNat 256 (leAt (o.operands 1) (32 * i) 32)
    seq := {}, flags := {}, shadow := {} }

/-- An operation occupies an engine: at the stage in which it begins, or where its preemption left it. -/
def State.occupy (s : State) (o : CombOp) (e : Nat) : State :=
  (s.modEngine e fun g => match o.saved with
    | some v => s.unspill v g
    | none => g.loaded o).modOp o.src fun o => { o with
    engine := some e, since := s.free, saved := none
    stage := if o.stage = .preempted ∨ o.saved.isSome = true then .body else o.firstStage }

/-- The operation that engine e starts next, of those it holds: the first placed on it. -/
def State.nextQueued (s : State) (e : Nat) : Option CombOp :=
  (s.comb.ops.filter fun o => o.engine == some e && o.stage == .queued).foldl (fun best o => match best with
    | some b => if o.placed < b.placed then some o else some b
    | none => some o) none

/-- An engine that nothing occupies: a fence that was due takes effect (R103), and otherwise its first queued operation
takes it. -/
def State.engineFree (s : State) (e : Nat) : State := match s.engine e with
  | none => s
  | some g =>
    if (s.runningOp e).isSome ∨ g.state = .wiping then s
    else if g.fenceDue then s.fenceNow e
    else if g.state = .ready ∧ g.fenced = false then
      match s.nextQueued e with
      | some o => s.occupy o e
      | none => s
    else s

/-- A wipe begins (R99). -/
def State.wipeEngine (s : State) (e : Nat) : State := s.modEngine e fun g => { g with state := .wiping }

/-- The operation of engine e runs up to n further instructions of its program (R120, R121); what other units report is nature's, and so is how many
single-bit errors the engine corrects in the words it fetches, which CS_ERR.CE_TOTAL counts (R114). -/
def State.runProgram (s : State) (o : CombOp) (n : Nat) : InstEnd × State := match o.engine with
  | none => (.committed, s)
  | some e => match s.engine e with
    | none => (.committed, s)
    | some g =>
      let f := s.freeNat
      let c := f.2.freeNat
      let r := Engine.program f.1 n g o
      let s := c.2.modReg Reg.mcsCsErr fun w => setField w 15 0 (satAdd 0xFFFF (field w 15 0) c.1)
      (r.2.2, (s.modEngine e fun _ => r.1).modOp o.src fun x => { x with ix := r.2.1.ix, pass := r.2.1.pass })

/-- The engine of an operation that ends: it wipes after a class C operation (R99); after a class P operation it marks its
memory and is free at once (R100). -/
def State.leaveEngine (s : State) (o : CombOp) : State := match o.engine with
  | none => s
  | some e => if o.classC && o.stage != .prefixRun then s.wipeEngine e else (s.modEngine e Engine.marked).engineFree e

/-- A Comb operation ends early with a status: its claim ends, it leaves its engine as `leave` says, and its entry completes; an own job has
no entry. -/
def State.endOpBy (s : State) (o : CombOp) (leave : State → State) (status ext : Nat) : State :=
  let s := ((s.dropOp o.src).releaseDest o.dest).sweepTree o
  let s := if o.stage.running then leave s else s
  match o.src with
  | .host slot => s.complete slot status ext []
  | .own _ => s

/-- A Comb operation ends early with a status, and its engine wipes or marks (R99, R100). -/
def State.endOp (s : State) (o : CombOp) (status ext : Nat) : State := s.endOpBy o (fun s => s.leaveEngine o) status ext

/-- The engine of an operation wipes, whatever class it ran (R85, R114). -/
def State.wipeOf (s : State) (o : CombOp) : State := match o.engine with
  | some e => s.wipeEngine e
  | none => s

/-- The operation of a tracker slot in the Comb. -/
def State.opOf (s : State) (slot : Nat) : Option CombOp := s.comb.ops.find? fun o => o.src == .host slot

/-- An own job leaves the Comb without a result (R493). -/
def State.dropOwn (s : State) (job : OwnJob) : State := match s.comb.ops.find? fun o => o.src == .own job with
  | some o =>
    let s := s.dropOp o.src
    if o.stage.running then s.leaveEngine o else s
  | none => s

end Sys2Proof.Machine
end

