-- ==== Sys2Proof/Machine/DigestCore.lean ====
section
/-!
DEFINITION. The lanes of the digest engine, the measurement registers and the check-value units (chapter 9), as other units
and aborts use them.
-/
namespace Sys2Proof.Machine
open Sys2Proof

/-- The state with the DGE changed. -/
def State.modDge (s : State) (f : Dge → Dge) : State := { s with dge := f s.dge }

/-! ### Lanes (R234) -/

/-- The lowest lane that runs no command. -/
def Dge.freeLane (d : Dge) : Option Nat := (List.range 8).find? fun n => !(d.cmds.any fun c => c.lane == some n)

/-- The command that takes the next free lane: a KEY_DERIVE ahead of the others, and of each kind the one that the QEN fetched first. -/
def Dge.nextWaiting (d : Dge) : Option DgeCmd :=
  let first (p : DgeCmd → Bool) : Option DgeCmd := (d.cmds.filter fun c => c.lane.isNone && p c).foldl (fun b c => match b with
    | some x => if c.order < x.order then some c else some x
    | none => some c) none
  (first (·.internal)).or (first fun _ => true)

/-- A free lane takes the next waiting command. -/
def Dge.fill (d : Dge) : Dge := match d.freeLane, d.nextWaiting with
  | some n, some c => { d with cmds := d.cmds.map fun x => if x.slot = c.slot then { x with lane := some n } else x }
  | _, _ => d

/-! ### Measurement registers (R244) -/

/-- MRGm uses SHA3-384: its bit of MRG_ALG, bits 0 to 7 being 0 and bit 30 being 1 always. -/
def State.mrgSha3 (s : State) (m : Nat) : Bool := m == 30 || (decide (8 ≤ m) && flag (s.reg Reg.dgeMrgAlg) m)

/-- MRGm ← H(MRGm ‖ v). -/
def State.mrgUpdate (s : State) (m : Nat) (v : Bytes) : State :=
  let h := stdOut 48 .hash (if s.mrgSha3 m then 5 else 2) [s.dge.mrg.getD m (zeros 48) ++ v]
  s.modDge fun d => { d with mrg := d.mrg.set m h }

/-- An extension by the device itself takes a free lane at once, and otherwise waits for one (R234). -/
def State.mrgOwn (s : State) (m : Nat) (v : Bytes) : State :=
  if s.dge.freeLane.isSome then s.mrgUpdate m v else s.modDge fun d => { d with ownExt := d.ownExt ++ [(m, v)] }

/-- A command leaves the DGE: its lane serves the device's own extensions that waited, and then takes the next command (R234). -/
def State.dgeLeave (s : State) (slot : Nat) : State :=
  let s := s.modDge fun d => { d with cmds := d.cmds.filter fun c => c.slot != slot }
  let s := if s.dge.freeLane.isSome then
      (s.dge.ownExt.foldl (fun (s : State) x => s.mrgUpdate x.1 x.2) s).modDge fun d => { d with ownExt := [] }
    else s
  s.modDge Dge.fill

/-- An extension by the host, which locks MRG_ALG. -/
def State.mrgExtend (s : State) (m : Nat) (v : Bytes) : State := (s.mrgUpdate m v).raise Reg.dgeMrgCtrl 1

/-! ### Check-value units (R251 to R253) -/

/-- Register `r` of unit n. -/
def cvuReg (n r : Nat) : Nat := r + 0x100 * n

/-- W of a unit: 0 to 2 act as 3, 65 to 127 as 64 (Table 9.8). -/
def State.cvuWidth (s : State) (n : Nat) : Nat := clamp 3 64 (field (s.reg (cvuReg n Reg.cvuCtrl)) 6 0)

/-- A 64-bit setting of a unit; its bits above W are ignored and read as zero (R251). -/
def State.cvuGet (s : State) (n lo : Nat) : Nat :=
  ((s.reg (cvuReg n lo)).toNat + 2 ^ 32 * (s.reg (cvuReg n (lo + 4))).toNat) % 2 ^ s.cvuWidth n

/-- A 64-bit setting of a unit is written. -/
def State.cvuSet (s : State) (n lo v : Nat) : State :=
  (s.setReg (cvuReg n lo) (BitVec.ofNat 32 v)).setReg (cvuReg n (lo + 4)) (BitVec.ofNat 32 (v / 2 ^ 32))

/-- The w low bits of a number in reverse order. -/
def reflect : Nat → Nat → Nat
  | 0, _ => 0
  | w + 1, v => v % 2 * 2 ^ w + reflect w (v / 2)

/-- One bit of input into a sum of width w, most significant bit first. -/
def crcBit (w poly sum : Nat) (b : Bool) : Nat :=
  let top := bitOf sum (w - 1) != b
  let shifted := sum * 2 % 2 ^ w
  if top then shifted ^^^ poly else shifted

/-- One byte of input: reflected when REFIN = 1. -/
def crcByte (w poly : Nat) (refin : Bool) (sum b : Nat) : Nat :=
  let b := if refin then reflect 8 b else b
  (List.range 8).foldl (fun x i => crcBit w poly x (bitOf b (7 - i))) sum

/-- Bytes advance VALUE, which is held in output orientation (R252). -/
def State.cvuAbsorb (s : State) (n : Nat) (data : Bytes) : State :=
  let w := s.cvuWidth n
  let ctrl := s.reg (cvuReg n Reg.cvuCtrl)
  let turn (v : Nat) : Nat := if flag ctrl 8 then reflect w v else v
  let v := data.foldl (fun x b => crcByte w (s.cvuGet n Reg.cvuPolyLo) (flag ctrl 7) x b.toNat)
    (turn (s.cvuGet n Reg.cvuValueLo))
  s.cvuSet n Reg.cvuValueLo (turn v)

/-- VALUE is loaded with INIT, reflected over W bits when REFOUT = 1 (R252). -/
def State.cvuInit (s : State) (n : Nat) : State :=
  let v := s.cvuGet n Reg.cvuInitLo
  s.cvuSet n Reg.cvuValueLo (if flag (s.reg (cvuReg n Reg.cvuCtrl)) 8 then reflect (s.cvuWidth n) v else v)

/-- RESULT = VALUE ⊕ XOROUT (R252). -/
def State.cvuResult (s : State) (n : Nat) : Nat := s.cvuGet n Reg.cvuValueLo ^^^ s.cvuGet n Reg.cvuXoroutLo

/-- RESULT is compared with EXPECT over W bits (R253). -/
def State.cvuCompare (s : State) (n : Nat) : State :=
  if s.cvuResult n = s.cvuGet n Reg.cvuExpectLo then s.raise (cvuReg n Reg.cvuStatus) 2
  else (s.raise (cvuReg n Reg.cvuStatus) 1).raise Reg.cvuIrqStatus (bit32 n)

/-- The tracker slot of the CVU_RUN that holds unit n (R254). -/
def State.cvuOwner (s : State) (n : Nat) : Option Nat := (s.dge.cvuOwned.find? fun o => o.1 == n).map Prod.snd

/-- A CVU_RUN takes its unit, and loads VALUE from INIT when FROM_INIT = 1 (R254). -/
def State.cvuTake (s : State) (n slot : Nat) : State :=
  let s := s.modDge fun d => { d with cvuOwned := d.cvuOwned ++ [(n, slot)] }
  match s.track slot with
  | some t => if bitOf (t.entry.p8 41) 0 then s.cvuInit n else s
  | none => s

/-- A unit that its CVU_RUN leaves goes to the next that waits for it (R248). -/
def State.cvuLeave (s : State) (n : Nat) : State :=
  let s := s.modDge fun d => { d with cvuOwned := d.cvuOwned.filter fun o => o.1 != n }
  match s.dge.cvuWait.find? fun o => o.1 == n with
  | some o => (s.modDge fun d => { d with cvuWait := d.cvuWait.filter fun x => x != o }).cvuTake n o.2
  | none => s

/-- What the DGE and the CVUs hold for an entry that ends early is dropped (R250): its destination stays empty, its lane is
free, and a CVU keeps VALUE as far as it had advanced (R254). -/
def State.forgetDigest (s : State) (slot : Nat) : State :=
  let s := match s.dge.cmds.find? fun c => c.slot == slot with
    | some c => (s.releaseDest c.dest).dgeLeave slot
    | none => s
  let s := s.modDge fun d => { d with cvuWait := d.cvuWait.filter fun o => o.2 != slot }
  match s.dge.cvuOwned.find? fun o => o.2 == slot, s.track slot with
  | some o, some t =>
    let n := s.freeNat
    (n.2.cvuAbsorb o.1 (t.input.take (n.1 % (t.input.length + 1)))).cvuLeave o.1
  | some o, none => s.cvuLeave o.1
  | none, _ => s

end Sys2Proof.Machine
end

