-- ==== Sys2Proof/Machine/TimeCore.lean ====
section
/-!
DEFINITION. The timestamp counter, its formats and the quality code (R366 to R370), the residence measure of R32, and the
phase witness as other units use it (R380, R384).
-/
namespace Sys2Proof.Machine
open Sys2Proof

/-- The state with the timestamp counter changed. -/
def State.modTod (s : State) (f : Tod → Tod) : State := { s with tod := f s.tod }

/-- One nanosecond in units of the counter's fraction. -/
abbrev nsUnit : Nat := 2 ^ 18 * 10 ^ 9

/-- A signed 32-bit register. -/
def State.signed (s : State) (k : Nat) : Int := (s.reg k).toInt

/-- INCR = 1.25 ns × (1 + RATE × 2^-16 × 10^-9), exactly, in units of the fraction (R366). -/
def State.incr (s : State) : Nat := (327680 * 10 ^ 9 + 5 * s.signed Reg.tsuRate).toNat

/-- The counter after one CLK_CTL edge (R366). -/
def Tod.tick (t : Tod) (incr : Nat) : Tod :=
  let sub := t.sub + incr
  let ns := t.ns + sub / nsUnit
  { t with sub := sub % nsUnit, ns := ns % 10 ^ 9, sec := (t.sec + ns / 10 ^ 9) % 2 ^ 48, servoAge := t.servoAge + 1 }

/-- One CLK_CTL edge: the free-running count and, with it, the time of day advance (R93, R366). In cold reset no clock is counted. -/
def State.edge (s : State) : State :=
  if s.lcs.phase = .reset then s else { s with free := s.free + 1, tod := s.tod.tick s.incr }

/-- CLK_CTL edges in a second. -/
abbrev edgesPerSecond : Nat := 800000000

/-- LOCK_TMO in CLK_CTL edges: units of 100 ms, of which 0 acts as 1 (Table 14.9). -/
def State.lockEdges (s : State) : Nat := max 1 (field (s.reg Reg.tsuLockCfg) 7 0) * 80000000

/-- DRIFT_PPB (Table 14.9). -/
def State.driftPpb (s : State) : Nat := field (s.reg Reg.tsuLockCfg) 31 16

/-- The edges after the last SERVO_OFFSET write at which E reaches 1,000 ns; none when it never does (R369). -/
def State.holdoverEdges (s : State) : Option Nat :=
  let short := 1000 - (s.reg Reg.tsuServoOffset).toNat
  if short = 0 then some 0
  else if s.driftPpb = 0 then none
  else some ((short * edgesPerSecond + s.driftPpb - 1) / s.driftPpb)

/-- E, the value last written and DRIFT_PPB × the seconds since, is below 1,000 ns (R369). -/
def State.inHoldover (s : State) : Bool := match s.holdoverEdges with
  | some n => decide (s.tod.servoAge < n)
  | none => true

/-- The quality code in force (R369, Table 14.2). -/
def State.qualityCode (s : State) : Nat :=
  let base := if s.tod.servoSeen = false then 0x40
    else if s.tod.servoAge < s.lockEdges ∧ (s.reg Reg.tsuServoOffset).toNat < 100 then 0
    else if s.inHoldover then 0x10 else 0x20
  base + if flag (s.reg Reg.phwSuspect) 0 then 0x80 else 0

/-- A stamp of the counter: FRAC is bits [31:24] of its fraction (R368). -/
def State.stampNow (s : State) : Stamp := ⟨s.tod.sec, s.tod.ns, s.tod.sub / (2 ^ 10 * 10 ^ 9)⟩

/-- A stamp as a count of 1/256 ns. -/
def Stamp.count (t : Stamp) : Int := ((t.sec : Int) * 10 ^ 9 + t.ns) * 256 + t.frac

/-- The stamp of a count of 1/256 ns. -/
def stampOf (n : Int) : Stamp :=
  let k := n.toNat
  ⟨k / 256 / 10 ^ 9 % 2 ^ 48, k / 256 % 10 ^ 9, k % 256⟩

/-- TSU.RX_DELAYn (R370), in 1/256 ns. -/
def State.rxDelay (s : State) (n : Nat) : Int := s.signed (0x300100 + 8 * n)
/-- TSU.TX_DELAYn. -/
def State.txDelay (s : State) (n : Nat) : Int := s.signed (0x300104 + 8 * n)

/-- The ingress stamp of a frame on port number n (R370). -/
def State.ingressStamp (s : State) (n : Nat) : Stamp := stampOf (s.stampNow.count - s.rxDelay n)
/-- The egress stamp of a frame on port number n (R370). -/
def State.egressStamp (s : State) (n : Nat) : Stamp := stampOf (s.stampNow.count + s.txDelay n)

/-- The full format (Table 14.1). -/
def Stamp.full (t : Stamp) (quality : Nat) : Bytes :=
  toLE 6 t.sec ++ toLE 4 t.ns ++ [BitVec.ofNat 8 t.frac, BitVec.ofNat 8 quality]

/-- The stamp that 12 bytes of the full format spell. -/
def readStamp (b : Bytes) : Stamp := ⟨leAt b 0 6, leAt b 6 4, natAt b 10⟩

/-- The compact format (Table 14.1). -/
def Stamp.compact (t : Stamp) : Bytes := toLE 8 ((t.sec % 2 ^ 34) * 2 ^ 30 + t.ns)

/-- The residence of a frame that entered port number n when the free-running count stood at `since`, and leaves port number m
now, in 2^-16 ns: cycles scaled by the present rate, with both port delays (R32, R370, R371). -/
def State.residence (s : State) (since : W64) (n m : Nat) : Int :=
  ((s.free - since).toNat * s.incr / (4 * 10 ^ 9) : Nat) + (s.rxDelay n + s.txDelay m) * 256

/-! ### The phase witness -/

/-- The state with the phase witness changed. -/
def State.modPhw (s : State) (f : Phw → Phw) : State := { s with phw := f s.phw }

/-- The witness starts to acquire, or is OFF as its settings say (R380). -/
def State.phwRestart (s : State) : State :=
  let en := flag (s.reg Reg.phwCtrl) 0
  let set := s.reg Reg.phwNominalMv != 0
  s.modPhw fun p => { p with
    state := if en && set then 1 else 0, cfgErr := en && !set, windows := 0, beyond := 0, voided := false }

/-- A write to the witness's settings takes effect (R380): it is OFF while they are invalid, and leaves OFF once they are not. -/
def State.phwConfigure (s : State) : State :=
  let ok := flag (s.reg Reg.phwCtrl) 0 && s.reg Reg.phwNominalMv != 0
  if s.phw.state = 7 then s
  else if ok = false ∨ s.phw.state = 0 then s.phwRestart
  else s

/-- The PHW_CALIBRATE that runs, if any, puts the state to CALIBRATING; with none it ends (R385). -/
def State.phwNextCalibration (s : State) : State :=
  if s.phw.calib = [] then s.phwRestart else s.modPhw fun p => { p with state := 7 }

/-- An aborted PHW_CALIBRATE stops and keeps the previous coefficients (R385). -/
def State.forgetCalibration (s : State) (slot : Nat) : State :=
  if s.phw.calib.head? = some slot then (s.modPhw fun p => { p with calib := p.calib.drop 1 }).phwNextCalibration
  else s.modPhw fun p => { p with calib := p.calib.filter (· != slot) }

/-- The window that contains a commanded step, or a change of RATE by more than 1 ppm, is void (R384). -/
def State.phwVoid (s : State) : State := s.modPhw fun p => { p with voided := true }

end Sys2Proof.Machine
end

