-- ==== Sys2Proof/Machine/TrunkCore.lean ====
section
/-!
DEFINITION. Trunk frames and mirroring as other blocks use them (chapter 16): positions and the keeper (R411), the target
(R417), sending a message (R408), and mirroring a record (R417, R418).
-/
namespace Sys2Proof.Machine
open Sys2Proof

/-! ### AES-GCM -/

/-- Ciphertext and 16-byte tag (SP 800-38D). -/
def gcmSeal (key iv aad pt : Bytes) : Bytes := stdOut (pt.length + 16) .aesGcmEnc 16 [key, iv, aad, pt]

/-- The tag at the end of a sealed string holds. -/
def gcmOk (key iv aad ct : Bytes) : Bool :=
  Config.stdHolds .aesGcmTag 16 [key, iv, aad, ct.take (ct.length - 16), ct.drop (ct.length - 16)]

/-- The plaintext of a sealed string. -/
def gcmOpen (key iv aad ct : Bytes) : Bytes := stdOut (ct.length - 16) .aesGcmDec 16 [key, iv, aad, ct.take (ct.length - 16)]

/-! ### The trunk -/

/-- The state with the trunk changed. -/
def State.modTrk (s : State) (f : Trk → Trk) : State := { s with trk := f s.trk }

/-- A trunk link. -/
def State.trkLink (s : State) (west : Bool) : TrkLink := if west then s.trk.west else s.trk.east

/-- The state with a trunk link changed. -/
def State.modLink (s : State) (west : Bool) (f : TrkLink → TrkLink) : State :=
  s.modTrk fun t => if west then { t with west := f t.west } else { t with east := f t.east }

/-- Members of the map in force. -/
def RingMap.count (m : RingMap) : Nat := m.members.length

/-- The serial at a position. -/
def RingMap.serial (m : RingMap) (p : Nat) : Nat := (m.members.getD p (0, [])).1

/-- The neighbour's position on a link (R411). -/
def RingMap.neighbour (m : RingMap) (west : Bool) : Nat :=
  if west then (m.ownPos + m.count - 1) % m.count else (m.ownPos + 1) % m.count

/-- A position is in service as this member knows it (R411): itself while both links are keyed, a neighbour while its link is
keyed, another unless known to be lost; and any that a PROBE has reached since its loss. -/
def State.inService (s : State) (m : RingMap) (p : Nat) : Bool :=
  if s.trk.reached.contains p then true
  else if s.trk.lostPos.contains p then false
  else if p = m.ownPos then s.trk.east.keyed && s.trk.west.keyed
  else if p = m.neighbour false ∨ p = m.neighbour true then
    (p == m.neighbour false && s.trk.east.keyed) || (p == m.neighbour true && s.trk.west.keyed)
  else true

/-- The keeper: the in-service member of lowest position (R411). -/
def State.keeper (s : State) (m : RingMap) : Option Nat := (List.range m.count).find? (s.inService m)

/-- This member is the keeper. -/
def State.isKeeper (s : State) : Bool := match s.trk.map with
  | some m => s.keeper m == some m.ownPos
  | none => false

/-- The target: the first in-service member east of this one (R417). -/
def State.target (s : State) : Option Nat := match s.trk.map with
  | some m => ((List.range (m.count - 1)).map fun i => (m.ownPos + 1 + i) % m.count).find? (s.inService m)
  | none => none

/-- Records reach the target by the long way round (R417). -/
def State.detour (s : State) : Bool := match s.trk.map, s.target with
  | some m, some p => !(p == m.neighbour false && s.trk.east.keyed)
  | _, _ => false

/-- SOLO (R421). -/
def State.solo (s : State) : Bool := flag (s.reg Reg.trkCtrl) 3

/-- Blocks are confirmed on reservation: no map is in force, or SOLO = 1 (R155, R421). -/
def State.confirmsLocally (s : State) : Bool := s.trk.map.isNone || s.solo

/-- The key that MACsec uses on a link: its link key until a key epoch commits on it, then the ring key (R414). The link holds its copy: no
frame reads the key store (R30). -/
def State.trkKey (s : State) (west : Bool) : Bytes :=
  let l := s.trkLink west
  if l.ringKeyed then l.ringKey else l.linkKey

/-- A link without its keys. -/
def TrkLink.unkeyed (l : TrkLink) : TrkLink :=
  { l with keyed := false, linkKey := [], ringKeyed := false, ringKey := [], nextKey := [], oldKey := [] }

/-- Destination address of a trunk frame (Table 16.1). -/
def trunkDa : Bytes := [0x02, 0x47, 0x59, 0x54, 0x52, 0x4B]

/-- Source address of a trunk frame. -/
def State.trunkSa (s : State) : Bytes := 0x02 :: toBE 5 (s.lcs.otp.serial.toNat % 2 ^ 40)

/-- The trunk header (Table 16.2). -/
def trunkHeader (typ len ringId src dst ttl flags lseq : Nat) : Bytes :=
  [1, BitVec.ofNat 8 typ] ++ toLE 2 len ++ toLE 4 ringId ++
    [BitVec.ofNat 8 src, BitVec.ofNat 8 dst, BitVec.ofNat 8 ttl, BitVec.ofNat 8 flags] ++ toLE 4 lseq

/-- The IV of a trunk frame: GCM-AES-XPN-256 with the port's SSCI, and its salt from the key in use (R408). -/
def trunkIv (key : Bytes) (port pn : Nat) : Bytes := xorBytes (toBE 4 port ++ toBE 8 pn) (kmac256 12 key [] "GY-TRK-SALT")

/-- A frame leaves on a link, protected by MACsec except HELLO and HELLO_ACK (R408). The FCS is the port's. -/
def State.trkFrame (s : State) (west : Bool) (hello : Bool) (body : Bytes) : State :=
  let front := trunkDa ++ s.trunkSa
  let inner := [0x88, 0xB5] ++ body
  if hello then s.emit (.trunk west (front ++ inner))
  else
    let l := s.trkLink west
    let port : Byte := if west then 2 else 1
    let tag := [0x88, 0xE5, BitVec.ofNat 8 (0x2C + l.an), if inner.length < 48 then BitVec.ofNat 8 inner.length else 0] ++
      toBE 4 (l.txPn % 2 ^ 32) ++ s.trunkSa ++ [0, port]
    let key := s.trkKey west
    let sealed := gcmSeal key (trunkIv key port.toNat l.txPn) (front ++ tag) inner
    ((s.cipherPass false inner.length).modLink west fun l => { l with txPn := l.txPn + 1 }).emit (.trunk west (front ++ tag ++ sealed))

/-- A message originates here (Table 16.2): LSEQ counts per link and direction, and is 0 on HEARTBEAT, HELLO and HELLO_ACK. -/
def State.trkSend (s : State) (west : Bool) (typ dst : Nat) (detour : Bool) (payload : Bytes) : State :=
  match s.trk.map with
  | none => s
  | some m =>
    let l := s.trkLink west
    let hello := decide (typ ≤ 2)
    if l.up = false ∨ (hello = false ∧ l.keyed = false) then s
    else
      let counted := !(hello || typ == 0x10)
      let h := trunkHeader typ payload.length m.ringId m.ownPos dst 24 (b2n detour) (if counted then l.txLseq else 0)
      let s := if counted then s.modLink west fun l => { l with txLseq := l.txLseq + 1 } else s
      s.trkFrame west hello (h ++ payload)

/-- A mirror record behind its header (Table 16.5). -/
def TrkRecord.bytes (r : TrkRecord) : Bytes :=
  let put (typ fmt : Nat) (body : Bytes) : Bytes := [BitVec.ofNat 8 typ, BitVec.ofNat 8 fmt] ++ toLE 2 body.length ++ body
  match r with
  | .pnBlock sa a b => put 1 1 (toLE 4 sa ++ toLE 8 a ++ toLE 8 b)
  | .lmsBlock id a b => put 2 1 (id ++ toLE 4 a ++ toLE 4 b)
  | .jrnBlock a b => put 3 1 (toLE 8 a ++ toLE 8 b)
  | .saState sa typ gen desc key rk =>
    put 4 1 (toLE 4 sa ++ [BitVec.ofNat 8 typ, 0, 0, 0] ++ toLE 4 gen ++ fit 64 desc ++ fit 40 key ++ fit 40 rk)
  | .saRemove sa => put 5 1 (toLE 4 sa)
  | .syncEnd n => put 6 1 (toLE 4 n)
  | .rxState sa v => put 7 2 (toLE 4 sa ++ toLE 8 v)

/-- A record that reserves a block. -/
def TrkRecord.isBlock : TrkRecord → Bool
  | .pnBlock .. | .lmsBlock .. | .jrnBlock .. => true
  | _ => false

/-- Records go to the target in one MIRROR message, which awaits its acknowledgement (R417, R418); with no target, or no keyed
link towards it, they are not sent, and a block among them stays unconfirmed (R421). -/
def State.mirrorAll (s : State) (rs : List TrkRecord) : State := match s.trk.map, s.target with
  | none, _ => s
  | some _, none => if rs.any TrkRecord.isBlock then s.raise Reg.trkEvent 0x40 else s
  | some m, some p =>
    let west := s.detour
    if (s.trkLink west).keyed = false then if rs.any TrkRecord.isBlock then s.raise Reg.trkEvent 0x40 else s
    else
      let lseq := (s.trkLink west).txLseq
      (s.trkSend west 0x20 (if p = m.neighbour west then 0xFF else p) west (rs.flatMap TrkRecord.bytes)).modTrk fun t =>
        { t with pending := t.pending ++ [{ lseq := lseq, records := rs }] }

/-- One record is mirrored. -/
def State.mirror (s : State) (r : TrkRecord) : State := s.mirrorAll [r]

end Sys2Proof.Machine
end

