-- ==== Sys2Proof/Machine/Abort.lean ====
section
/-!
DEFINITION. Aborts (R101, R260, R301), and the alarms of chapter 17 with the responses that they put in force (R437, R439,
R443, R446 to R449).
-/
namespace Sys2Proof.Machine
open Sys2Proof

/-- The card port deactivates its card (R463): the session ends, and what the port waited for is forgotten. -/
def State.cardOff (s : State) : State :=
  let c := s.crd
  { s with crd := { c with
    active := false, wait := .idle, t1 := {}, session := none, secret := [], begun := false } }

/-- A key generation past its draw gives back its claim. -/
def State.forgetClaim (s : State) (slot : Nat) : State := match s.track slot with
  | some t => if t.step8 ∧ t.entry.opcode = 0x501 then s.unclaim t.entry.keySlot else s
  | none => s

/-- The Comb's test runs and fences no longer wait for an entry; a test that runs for it goes on. -/
def State.forgetTests (s : State) (slot : Nat) : State :=
  let c := s.comb
  { s with comb := { c with
    testRuns := c.testRuns.filter (·.slot != slot), fenceWait := c.fenceWait.filter (·.1 != slot),
    testQueue := c.testQueue.filter fun (q : Nat × TestReason) => q.2.slot != some slot,
    testing := c.testing.map fun (q : Nat × TestReason) => if q.2.slot = some slot then (q.1, .orphan) else q } }

/-- The lookaside and the journal no longer work for an entry. -/
def State.forgetWaits (s : State) (slot : Nat) : State :=
  let l := s.line
  let e := s.evj
  { s with
    line := { l with lka := l.lka.filter (·.slot != slot) }
    evj := { e with cpWait := e.cpWait.filter (·.1 != slot), readWait := e.readWait.filter (·.1 != slot) } }

/-- What the ring does goes on without the entry that waits for it. -/
def State.forgetRing (s : State) (slot : Nat) : State :=
  s.modTrk fun t => { t with
    waiting := t.waiting.filter (· != slot)
    epoch := t.epoch.map fun (e : Epoch) => if e.slot = some slot then { e with slot := none } else e
    mapWait := t.mapWait.map fun (m : RingMap × Nat) => if m.2 = slot then (m.1, noSlot) else m }

/-- The card port ends the entry's command, and an activation with it. -/
def State.forgetCard (s : State) (slot : Nat) : State :=
  let c := s.crd
  let freed : State := { s with crd := { c with slot := none, begun := false } }
  if c.slot = some slot then (if c.active then freed else freed.cardOff) else s

/-- A calibration ends; a power change and a transition go on without the entry. -/
def State.forgetPower (s : State) (slot : Nat) : State :=
  let a := s.adl
  let p := s.pwr
  let l := s.lcs
  { s with
    adl := { a with calib := a.calib.filter (·.slot != slot) }
    pwr := { p with change := p.change.map fun (x : PowerChange) => if x.slot = some slot then { x with slot := none } else x }
    lcs := { l with xferSlot := if l.xferSlot = some slot then none else l.xferSlot } }

/-- The entropy source no longer works for an entry. -/
def State.forgetDraws (s : State) (slot : Nat) : State :=
  let r := s.rng
  { s with rng := { r with
    rawReads := r.rawReads.filter (·.slot != slot), restores := r.restores.filter (·.slot != slot),
    prWait := r.prWait.filter (· != slot), prDone := r.prDone.filter (· != slot) } }

/-- What a unit other than the Comb holds for an entry is dropped when the entry ends early. -/
def State.forgetUnit (s : State) (slot : Nat) : State :=
  let s := (((s.forgetClaim slot).forgetTests slot).forgetDigest slot).forgetCalibration slot
  ((((s.forgetWaits slot).forgetRing slot).forgetCard slot).forgetPower slot).forgetDraws slot

/-- The ceremony that was open is gone, and with it slot 9 and the shares held on die (R467). -/
def State.dropCeremony (s : State) : State :=
  if s.crd.cer.isSome then ({ s with crd := { s.crd with cer := none } }).emptySlot 9 else s

/-- An open ceremony lapses (R467). -/
def State.lapseCeremony (s : State) : State := if s.crd.cer.isSome then s.dropCeremony.raise Reg.crdEvent 8 else s

/-- The number of a trunk link in own jobs and in log entries: 0 TKE, 1 TKW. -/
def linkNo (west : Bool) : Nat := b2n west

/-- The Comb jobs of a link's handshake end (R413). -/
def State.dropHandshake (s : State) (west : Bool) : State :=
  let n := linkNo west
  [OwnJob.helloKey n, .helloSign n, .helloKem n, .helloAck n, .ackOpen n].foldl State.dropOwn s

/-- A trunk link falls: its keys are gone, and the jobs of its handshake end (R413, R426). -/
def State.linkDown (s : State) (west : Bool) : State :=
  (s.modLink west fun l => { l.unkeyed with up := false, helloSeed := [], handshake := false }).dropHandshake west

/-- Both links fall, and no heartbeat is awaited any more (R426). -/
def State.linksFall (s : State) : State :=
  let forget (l : TrkLink) : TrkLink := { l with hbTx := [], hbRx := [], probe := none }
  (((s.linkDown false).linkDown true).modLink false forget).modLink true forget

/-- LEAVE goes out on both ports with its reason (Table 16.3). -/
def State.sendLeave (s : State) (reason : Nat) : State :=
  let m := s.serialBytes ++ [BitVec.ofNat 8 reason]
  (s.trkSend false 0x51 0xFF false m).trkSend true 0x51 0xFF false m

/-- Entries that an abort no longer reaches: a life-cycle transition whose progress mark is written (R51), a power change
that has begun (R505), a card command once an I-block of it was sent (R471), and a write-back under way. -/
def State.abortImmune (s : State) (slot : Nat) (t : Track) : Bool :=
  t.phase == .held || (s.lcs.xferActive && s.lcs.xferSlot == some slot) || (s.crd.begun && s.crd.slot == some slot) ||
    (t.entry.opcode == 0x0020 && match s.pwr.change with | some c => c.slot == some slot | none => false)

/-- An RNG_PAIR_RESTORE that an abort reaches ends with ABORTED once its test has finished (R202). -/
def State.abortRestore (s : State) (slot : Nat) : State :=
  let mark (r : Restore) : Restore := if r.slot = slot then { r with aborted := true } else r
  { s with rng := { s.rng with restores := s.rng.restores.map mark } }

/-- One entry is aborted with a status: an operation in the Comb stops where it is (R101), the test of an RNG_PAIR_RESTORE finishes (R202), every
other entry ends at once. -/
def State.abortEntry (s : State) (slot status ext : Nat) : State := match s.track slot with
  | none => s
  | some t =>
    if s.abortImmune slot t then s
    else if status = St.aborted ∧ s.rng.restores.any (fun r => r.slot == slot) = true then s.abortRestore slot
    else match s.opOf slot with
      | some o => s.endOp o status ext
      | none => (s.forgetUnit slot).complete slot status ext []

/-- An entry waits for a unit that another holds: an engine, a lane of the DGE, a check-value unit. -/
def State.entryWaits (s : State) (slot : Nat) : Bool :=
  (match s.opOf slot with | some o => !o.stage.running | none => false) ||
    (s.dge.cmds.any fun c => c.slot == slot && c.lane.isNone) || s.dge.cvuWait.any fun o => o.2 == slot

/-- Every entry that meets a condition is aborted: first those that wait for a unit, so that none of them takes it from another that ends. -/
def State.abortWhere (s : State) (p : Track → Bool) (status ext : Nat) : State :=
  let l := (s.slotsWhere p).partition s.entryWaits
  (l.1 ++ l.2).foldl (fun s slot => s.abortEntry slot status ext) s

/-- An operation of a function stops without a status write: a channel halt or function-level reset (R301, R306). A digest command counts as
completed all the same (R250). -/
def State.dropEntry (s : State) (slot : Nat) : State :=
  let s := match s.track slot with
    | some t => if t.entry.opcode / 256 = 6 then s.modReg Reg.dgeCmdCount (· + 1) else s
    | none => s
  let s := match s.opOf slot with
    | some o =>
      let s := ((s.dropOp o.src).releaseDest o.dest).sweepTree o
      if o.stage.running then s.leaveEngine o else s
    | none => s
  (s.forgetUnit slot).setTrack slot none

/-- Every tracker slot of a function is released and its operations aborted, with no status written (R301, R306). -/
def State.dropFunction (s : State) (f : Nat) : State :=
  let l := (s.slotsWhere fun t => t.func == f).partition s.entryWaits
  (l.1 ++ l.2).foldl State.dropEntry s

/-! ### Alarms and responses -/

/-- Tamper source n (Table 17.1). -/
def State.source (s : State) (n : Nat) : Option Source := s.tem.sources[n]?

/-- The state with tamper source n changed. -/
def State.setSource (s : State) (n : Nat) (f : Source → Source) : State :=
  { s with tem := { s.tem with sources := s.tem.sources.modify n f } }

/-- The group of a source (Table 17.1). -/
def sourceGroup (n : Nat) : Nat := [0, 1, 2, 3, 4, 4, 5, 5, 5, 5, 6, 6, 3, 7, 4].getD n 0

/-- An alarm is written to the battery event log (R447). -/
def State.battLog (s : State) (src cls sample : Nat) (pending : Bool) : State :=
  let u := s.ust
  let e : BattEntry := ⟨u.rtcSec, u.rtcSub, src, cls, u.onBattery, pending, !u.rtcValid, sample⟩
  { s with ust := { u with log := Sparse.set (fun _ => none) u.log u.logNext (some e),
                           logNext := (u.logNext + 1) % 64, logTotal := u.logTotal + 1 } }

/-- The evidence of a HALT or ZEROISE alarm of a group: the latch count rises, and the group's tally bit is to be burnt the
first time in a boot (R448, R449). -/
def State.latchEvidence (s : State) (group : Nat) (zeroise : Bool) : State :=
  let s := { s with ust := { s.ust with latch := s.ust.latch.modify group (satAdd 15 1),
                                        latchZeroise := s.ust.latchZeroise || zeroise } }
  { s with tem := { s.tem with burntBoot := s.tem.burntBoot ++ [group] } }

/-- HALT: LEAVE is sent on both trunk ports and their links fall, and every entry that has not ended completes with
DEVICE_HALTED, but for the opcodes that run normally while the device is halted (R290, R426, R443). A response that comes as a ZEROISE sends no LEAVE. -/
def State.haltResponse (s : State) (leave : Bool) : State :=
  ((if leave then s.sendLeave 1 else s).linksFall).abortWhere (fun t => t.entry.opcode != 0 && !(decide (2 ≤ t.entry.opcode) && decide (t.entry.opcode ≤ 6)))
    St.deviceHalted 0

/-- A ZEROISE clears channels, buffer and instances; the 40 blocks are delivered again (R199). -/
def State.zeroiseEntropy (s : State) : State :=
  { s with rng := { s.rng with
    raw := [], buffer := [], chans := List.replicate 64 {}, drbgs := List.replicate 4 {}, ready := false, startBlocks := 0 } }

/-- What an abort does not reach ends with a ZEROISE: a life-cycle transition stops where it is, to be resumed at the next
boot (R51); the card is deactivated and its command ends (R469). -/
def State.endProtected (s : State) : State :=
  let s := match s.lcs.xferSlot with
    | some slot => s.complete slot St.deviceHalted 0 []
    | none => s
  let s := { s with lcs := { s.lcs with xferActive := false, xferSlot := none, xferRecord := none } }
  let s := match s.crd.slot with
    | some slot => ({ s with crd := { s.crd with slot := none } }).complete slot St.deviceHalted 0 []
    | none => s
  s.cardOff.dropCeremony

/-- ZEROISE: key slots, BVR, SA contexts and memory key are cleared, with partner state and ring keys, and every operation of
the Comb (R102, R229, R432, R446); engines wipe, a fenced one staying fenced; no device slot is derived again before the next cold reset
(R229); the entropy source starts over (R199); the scrubber stops (R484). -/
def State.zeroiseKeys (s : State) : State :=
  let s := s.endProtected.setOps []
  let bvr : BvrState := if s.kst.bvrState = BvrState.none then BvrState.none else BvrState.erased
  let s := { s with kst := { s.kst with slots := [], bvr := [], bvrState := bvr, rederive := [] } }
  let s := { s with comb := { s.comb with engines := s.comb.engines.map fun (g : Engine) => { g with state := .wiping } } }
  let s := { s with line := { s.line with sas := [], txAn := [], cached := [] } }
  let s := { s with mem := { s.mem with key := none, scrubStopped := true } }
  let s := s.modTrk fun t => { t with partner := {}, heldLms := [] }
  s.zeroiseEntropy.raise Reg.kstErrStatus 2

/-- An alarm of a source at a class is recorded and its response put in force (R443, R444): the log entries, TEM.EVENT and
QUALS; RESP rises to the class, which AER reports (Table 22.5); a HALT or ZEROISE leaves evidence, and acts when it is first in force. `tag` is
the TAG of the entry that caused the record (R266). -/
def State.alarm (s : State) (src cls sample detail : Nat) (tag : Nat := 0) : State :=
  let group := sourceGroup src
  let first := decide (2 ≤ cls) && !s.tem.burntBoot.contains group && decide (s.tem.tallies.getD group 0 < 1024)
  let s := s.log { time := 0, code := 0x0501, cls := cls, tag := tag, object := src, detail := detail }
  let s := s.battLog src cls sample first
  let s := s.raise Reg.temEvent (bit32 src)
  let bump (x : Source) : Source := { x with quals := satAdd 255 x.quals 1 }
  let s := { s with tem := { s.tem with sources := s.tem.sources.modify src bump } }
  let s := if first then s.latchEvidence group (decide (cls = 3)) else s
  let old := s.tem.resp
  let s := { s with tem := { s.tem with resp := max old cls } }
  let s := if 2 ≤ cls ∧ old < 2 then s.emit (.aer 0 22) else if cls = 1 ∧ old = 0 then s.emit (.aer 0 46) else s
  let s := if 2 ≤ cls ∧ old < 2 then s.haltResponse (decide (cls < 3)) else s
  if 3 ≤ cls ∧ old < 3 then s.zeroiseKeys else s

/-- A DEGRADE-class alarm raised under another chapter's rule: source 14 takes it at once, at the class configured for it,
and source 5 counts it (R437). DETAIL carries the status pair and the engine (Table 22.7). -/
def State.degrade (s : State) (status ext engine : Nat) (tag : Nat := 0) : State :=
  let s := { s with tem := { s.tem with internal := s.tem.internal + 1 } }
  let cls := match s.source 14 with | some x => max 1 x.cls | none => 1
  s.alarm 14 cls 0 (status + 256 * ext + 65536 * engine) tag

/-- The TAG of a tracker slot's entry (R266). -/
def State.tagOf (s : State) (slot : Nat) : Nat := match s.track slot with
  | some t => t.entry.tag
  | none => 0

/-- The TAG of the entry that an operation serves; 0 for an own job. -/
def State.tagOfOp (s : State) (o : CombOp) : Nat := match o.src with
  | .host slot => s.tagOf slot
  | .own _ => 0

/-- A DEGRADE-class alarm with the status of the operation that raised it, its engine and its TAG (R266, R437, Table 22.7). -/
def State.degradeOp (s : State) (o : CombOp) (tag status ext : Nat) : State := s.degrade status ext (o.engine.getD 0xFFFF) tag

/-- A DEGRADE-class alarm that no entry and no engine carries (Table 22.7). -/
def State.degradeBare (s : State) : State := s.degrade 0 0 0xFFFF

end Sys2Proof.Machine
end

