-- ==== Sys2Proof/Machine/Fetch.lean ====
section
/-!
DEFINITION. Fetching work entries (chapter 10): the layout of an entry, the opcodes each queue accepts (Table 22.4), the
checks at fetch (Table 10.7), the power states' gates (Table 20.4), and the scan of a queue (R272 to R276).
-/
namespace Sys2Proof.Machine
open Sys2Proof

/-- The work entry that 64 bytes spell (Table 10.6). -/
def parseEntry (b : Bytes) : WorkEntry where
  opcode := leAt b 0 2
  flags := byteAt b 2
  byte3 := byteAt b 3
  tag := leAt b 4 4
  w8 := fit 8 (slice b 8 8)
  msgLen := leAt b 16 4
  fragCount := leAt b 20 2
  rsvd22 := leAt b 22 2
  outAddr := leAt b 24 8
  outCap := leAt b 32 4
  keySlot := leAt b 36 4
  params := fit 16 (slice b 40 16)
  tail := fit 8 (slice b 56 8)

/-- PHASE of an entry's 64 bytes (Table 10.6). -/
def phaseOf (b : Bytes) : Nat := natAt b 3 / 128

/-- The PHASE that makes an entry current for index i (R264). -/
def expectedPhase (q : Queue) (i : W32) : Nat := 1 - i.toNat / q.depth % 2

/-- The host priority of an entry (Table 10.6). -/
def WorkEntry.prio (e : WorkEntry) : Nat := e.byte3.toNat % 4

/-- The entry's input lies inline (R267). -/
def WorkEntry.isInline (e : WorkEntry) : Bool := !bitOf e.flags.toNat 2 && decide (e.msgLen ≤ 16)

/-- The entry's input comes through a fragment list (R267). -/
def WorkEntry.hasList (e : WorkEntry) : Bool := !e.isInline

/-- OUT_CAP of a tracker slot's entry. -/
def State.outCapOf (s : State) (slot : Nat) : Nat := match s.track slot with
  | some t => t.entry.outCap
  | none => 0

/-- The inline input of an entry (R267). -/
def WorkEntry.inlineInput (e : WorkEntry) : Bytes := (e.w8 ++ e.tail).take e.msgLen

/-- An opcode lies in one of the runs of a list. -/
def inRuns (op : Nat) (l : List (Nat × Nat)) : Bool := l.any fun r => within op r.1 r.2

/-- Opcodes that every queue of every function accepts (Tables 5.1, 6.1, 22.4). -/
def openOpcodes : List (Nat × Nat) := [
  (0x0000, 0x0000), (0x0100, 0x0102), (0x0104, 0x0106), (0x0108, 0x010A), (0x0110, 0x0112), (0x0114, 0x0116),
  (0x0118, 0x011A), (0x0200, 0x0207), (0x0210, 0x0217), (0x0220, 0x022B), (0x0230, 0x0230), (0x0234, 0x023D),
  (0x0240, 0x0242), (0x0244, 0x0246), (0x0248, 0x024A), (0x0300, 0x0302), (0x0304, 0x0306), (0x0308, 0x030A),
  (0x030C, 0x030E), (0x0310, 0x0315), (0x0318, 0x031B), (0x0320, 0x0322), (0x0324, 0x0326), (0x0328, 0x032A),
  (0x032C, 0x032E), (0x0400, 0x0400), (0x0500, 0x0508), (0x0600, 0x0603), (0x0700, 0x070C), (0x0800, 0x0803),
  (0x0900, 0x0900)]

/-- Opcodes that every queue of PF0 alone accepts (Table 22.4). -/
def pf0Opcodes : List (Nat × Nat) := [
  (0x0401, 0x0402), (0x0510, 0x0511), (0x0604, 0x0605), (0x0810, 0x0813), (0x0901, 0x0902), (0x0910, 0x0913),
  (0x0A00, 0x0A03), (0x0B00, 0x0B02), (0x0B10, 0x0B12), (0x0B20, 0x0B22), (0x0D00, 0x0D02), (0x0D20, 0x0D21)]

/-- Opcodes that admin queue 0 of PF0 alone accepts (Table 22.4). -/
def pf0AdminOpcodes : List (Nat × Nat) := [(0x0020, 0x0021), (0x0C00, 0x0C04), (0x0C10, 0x0C12)]

/-- An opcode is listed and accepted on queue q of function f (R524, step 1 of Table 10.7). -/
def opcodeAccepted (f q op : Nat) : Bool :=
  inRuns op openOpcodes || (q == 0 && within op 1 6) || (f == 0 && inRuns op pf0Opcodes) ||
    (f == 0 && q == 0 && inRuns op pf0AdminOpcodes)

/-- The power state that governs fetching: the target of a change under way, else the state in force (R499, R502). -/
def State.fetchPower (s : State) : Nat := match s.pwr.change with
  | some c => min 3 c.target
  | none => s.pwr.state

/-- The trunk is on for fetching. -/
def State.fetchTrunk (s : State) : Bool := match s.pwr.change with
  | some c => c.target == 0 || (c.target == 1 && c.trunkOn)
  | none => s.pwr.trunkOn

/-- What Table 20.4 and R504 give an opcode in the power state in force; none when it runs. -/
def State.powerGate (s : State) (op : Nat) : Option (Nat × Nat) :=
  let p := s.fetchPower
  if s.pwr.state = 4 then
    if op = 0x0020 then some (St.badParam, 0x99) else if op = 0 then none else some (St.engineUnavailable, 6)
  else if op < 0x100 ∨ op = 0x0900 ∨ op = 0x0C00 then none
  else if p = 3 then some (St.engineUnavailable, 6)
  else if op / 256 = 7 ∧ p = 2 then some (St.engineUnavailable, 5)
  else if op / 256 = 0x0A ∧ (p = 2 ∨ s.fetchTrunk = false) then some (St.engineUnavailable, 5)
  else none

/-- The first failure of the checks at fetch (Table 10.7), then of the power state (R499) and of a state that awaits cold
reset (R46). -/
def State.fetchFail (s : State) (f qid : Nat) (i : W32) (e : WorkEntry) : Option (Nat × Nat) :=
  match firstFail [
    (opcodeAccepted f qid e.opcode, St.badOpcode, 0x90),
    (e.flags.toNat / 16 == 0 && e.byte3.toNat / 4 % 32 == 0 && e.rsvd22 == 0, St.badParam, 0x90),
    (!bitOf e.flags.toNat 3 || e.opcode == 0x0800, St.badParam, 0x90),
    (if e.isInline then e.fragCount == 0 else decide (1 ≤ e.fragCount), St.badParam, 0x91),
    (!(s.queue f qid).marks.contains i, St.aborted, 0),
    (!s.halted || e.opcode == 0 || within e.opcode 2 6, St.deviceHalted, 0)] with
  | some x => some x
  | none => match s.powerGate e.opcode with
    | some x => some x
    | none =>
      if s.lcs.pending.isSome && decide (0x100 ≤ e.opcode) && e.opcode != 0x0C00 then some (St.lcsForbids, 6) else none

/-- Step 5 of Table 11.1, which alone touches an inline entry. -/
def outAlign (e : WorkEntry) : Option (Nat × Nat) :=
  if 0 < e.outCap ∧ e.outAddr % 16 ≠ 0 then some (St.badAlign, 0xA3) else none

/-- What stands for the result of Table 11.1 while the fragment list and the input have not come. -/
def notGathered : Nat × Nat := (0x100, 0)

/-- An entry is taken from the ring: it holds a tracker slot, and either completes at once under the checks at fetch or
goes to its unit, its input gathered first when it comes through a fragment list (R270, R272, R276). -/
def State.takeEntry (s : State) (f qid : Nat) (bytes : Bytes) : State :=
  let q := s.queue f qid
  let e := parseEntry bytes
  let slot := freeSlotFrom s.tracker 0
  let t : Track := {
    func := f, qid := qid, index := q.fetch, entry := e, phase := if e.isInline then .ready else .gather
    input := if e.isInline then e.inlineInput else [], dmaFail := if e.isInline then outAlign e else some notGathered
    order := s.fetched }
  let bad := s.fetchFail f qid q.fetch e
  let s := { s with fetched := s.fetched + 1 }
  let s := (s.setQueue f qid { q with fetch := q.fetch + 1, marks := q.marks.filter (· != q.fetch) }).setTrack slot (some t)
  match bad with
  | some x => s.fail slot x
  | none => s

/-- The slots that a VF may hold (Table 10.10). -/
def State.trackQuota (s : State) : Nat := clamp 1 8192 (field (s.reg Reg.qenTrackQuota) 13 0)

/-- A tracker slot is free within quota, where admin queue 0 may take one slot beyond a VF's (R276). -/
def State.slotFree (s : State) (f qid : Nat) : Bool :=
  decide (s.tracker.length < 8192) && (f == 0 || decide (s.heldBy f < s.trackQuota + if qid = 0 then 1 else 0))

/-- The QEN may fetch from a queue: a tracker slot is free for it, and at the thermal limit only admin queues are fetched from (R276, R507). -/
def State.slotAllowed (s : State) (f qid : Nat) : Bool := s.slotFree f qid && (qid == 0 || !s.pwr.thermLimit)

/-- The scan of a queue over the slots that its reads return (R272): it ends at the target, at a slot whose PHASE is not
current, which starts a retry (R273), or where it may not fetch (R276, R507); past the reads at hand it waits to be resumed. -/
def scan (f qid : Nat) : List Bytes → State → State
  | [], s =>
    let q := s.queue f qid
    s.setQueue f qid { q with waiting := decide (q.fetch ≠ q.target ∧ q.state = .enabled), retries := none }
  | b :: bs, s =>
    let q := s.queue f qid
    if q.fetch = q.target ∨ q.state ≠ .enabled then s.setQueue f qid { q with waiting := false, retries := none }
    else if s.slotAllowed f qid = false then s.setQueue f qid { q with waiting := true, retries := none }
    else if phaseOf b ≠ expectedPhase q q.fetch then
      s.setQueue f qid { q with waiting := false, retries := some 0 }
    else scan f qid bs (s.takeEntry f qid b)

/-! ### The turns of the queues (R275) -/

/-- A queue waits to be served: its fetch has not reached its target, no retry of a slot runs, and nothing but its turn holds it back. -/
def State.wantsVisit (s : State) (f qid : Nat) : Bool :=
  let q := s.queue f qid
  decide (q.state = .enabled) && q.waiting && q.fetch != q.target && (s.func f).bme && s.slotAllowed f qid

/-- The queues that wait to be served, in rising order. -/
def State.wanting (s : State) : List (Nat × Nat) :=
  s.queues.filterMap fun (k, _) => if s.wantsVisit (k / 256) (k % 256) then some (k / 256, k % 256) else none

/-- The next of a rising list of numbers after the one last served, or the first. -/
def nextAfter (last : Nat) (l : List Nat) : Option Nat := (l.find? fun n => decide (last < n)).or l.head?

/-- Whose turn it is: the next function that has a queue to be served, and of its queues the next. -/
def State.turn (s : State) : Option (Nat × Nat) :=
  match nextAfter s.lastFunc (s.wanting.map (·.1)) with
  | none => none
  | some f => (nextAfter (s.func f).lastQueue ((s.wanting.filter (·.1 = f)).map (·.2))).map fun q => (f, q)

/-- A visit to a queue: at most 8 entries are taken from it. -/
def State.visit (s : State) (f qid : Nat) (slots : List Bytes) : State :=
  let t : State := { s with lastFunc := f }
  scan f qid (slots.take 8) (t.setFunc f { t.func f with lastQueue := qid })

/-- A queue is visited when its turn has come, and waits for it otherwise. -/
def State.serve (s : State) (f qid : Nat) (slots : List Bytes) : State :=
  let s := s.setQueue f qid { s.queue f qid with waiting := true }
  if s.wantsVisit f qid = false then scan f qid slots s else if s.turn = some (f, qid) then s.visit f qid slots else s

/-! ### Disabling a queue (R281, R286) -/

/-- Entries not yet fetched complete with QUEUE_DISABLED, up to PROD_IDX or the first slot whose PHASE is not current; each takes a tracker slot,
and they wait for one where none is free (R276, R286). -/
def drainUnfetched (f qid : Nat) (prod : W32) : List Bytes → State → State
  | [], s => s.setQueue f qid { s.queue f qid with drain := if (s.queue f qid).fetch = prod then .none else .upTo prod }
  | b :: bs, s =>
    let q := s.queue f qid
    if q.fetch = prod ∨ phaseOf b ≠ expectedPhase q q.fetch then s.setQueue f qid { q with drain := .none }
    else if s.slotFree f qid = false then s.setQueue f qid { q with drain := .upTo prod }
    else
      let slot := freeSlotFrom s.tracker 0
      let t : Track := { func := f, qid := qid, index := q.fetch, entry := parseEntry b, order := s.fetched }
      let s := { s with fetched := s.fetched + 1 }
      let s := (s.setQueue f qid { q with fetch := q.fetch + 1 }).setTrack slot (some t)
      drainUnfetched f qid prod bs (s.fail slot (St.queueDisabled, 0))

/-- What a disabled queue still has to do with its unfetched entries is done as far as Bus Master Enable lets it read (R260, R286): its PROD_IDX
is read once, and no entry ends where that lies behind the fetch index. -/
def State.drainQueue (s : State) (f qid : Nat) (view : W32) (slots : List Bytes) : State :=
  let q := s.queue f qid
  if (s.func f).bme = false then s
  else match q.drain with
    | .none => s
    | .prod =>
      if (q.fetch - q.head).toNat ≤ (view - q.head).toNat then drainUnfetched f qid view slots s
      else s.setQueue f qid { q with drain := .none }
    | .upTo p => drainUnfetched f qid p slots s

/-- A queue is disabled: DRAINING, its unfetched entries up to PROD_IDX ended, its fetched entries aborted under MODE 1, and IDLE at once if
nothing is outstanding (R286). -/
def State.disableQueue (s : State) (f qid mode : Nat) (prod : W32) (slots : List Bytes) : State :=
  let q := s.queue f qid
  let s := (s.setQueue f qid { q with state := .draining, waiting := false, retries := none, rung := false, drain := .prod }).drainQueue f qid
    prod slots
  let s := if mode = 1 then s.abortWhere (fun t => t.func == f && t.qid == qid) St.aborted 0 else s
  s.checkIdle f qid

/-- A queue meets an error (R281): disabled as under MODE 0 with nothing more fetched, ERROR and ERR_CODE set and written to
its QCB, whether it is IDLE at once or DRAINING (R265, R286), logged once, its vector signalled. -/
def State.queueError (s : State) (f qid errCode detail : Nat) : State :=
  let q := s.queue f qid
  let s := s.setQueue f qid
    { q with state := .draining, error := true, errCode := errCode, waiting := false, retries := none, rung := false }
  let s := s.log ⟨0, if errCode = 1 then 0x0B04 else 0x0B01, 0, 1, f, qid, 0, 0, if errCode = 1 then detail else errCode⟩
  let s := s.checkIdle f qid
  let s := if (s.queue f qid).state = .draining then s.writeQcb f qid else s
  s.msix f q.vector

/-- The QEN acts: boot has ended, the state is not TERMINATED (R40, R64). -/
def State.qenOn (s : State) : Bool := s.lcs.phase == .done && s.lcs.state != .terminated

/-- An entry of a tracker slot is ready for its command, and no earlier admin entry that must run alone comes before it
(R283). -/
def serialOpcode (op : Nat) : Bool := op == 1 || op == 3 || op == 4 || within op 0x20 0x3F || op / 256 == 0x0C

/-- An earlier serial admin entry of the same function still holds its slot (R283). -/
def State.serialBlocked (s : State) (t : Track) : Bool :=
  t.qid == 0 && serialOpcode t.entry.opcode && s.tracker.any fun (_, u) => match u with
    | some u => u.func == t.func && u.qid == 0 && serialOpcode u.entry.opcode && decide (u.order < t.order) &&
        u.phase != .held
    | none => false

/-- The effect of a work-entry command on the entry of its slot: nothing unless the entry is ready, or its input still to be gathered, and
carries one of the command's opcodes (log entry 1). -/
def State.onEntry (s : State) (slot lo hi : Nat) (k : Track → State) : State := match s.track slot with
  | some t =>
    if (t.phase = .ready ∨ t.phase = .gather) ∧ within t.entry.opcode lo hi ∧ s.serialBlocked t = false then k t else s
  | none => s

/-- An entry fails with a check; a failure of Table 11.1 counts in DMA.ALIGN_ERRORS or DMA.LENGTH_ERRORS (R297). -/
def State.reject (s : State) (slot : Nat) (e : Nat × Nat) : State :=
  let s := if 0xA0 ≤ e.2 ∧ e.2 ≤ 0xA3 ∧ e.1 ≠ St.badLength then s.count Reg.dmaAlignErrors
    else if 0xA0 ≤ e.2 ∧ e.2 ≤ 0xA1 then s.count Reg.dmaLengthErrors else s
  s.fail slot e

/-- The checks of an entry in order, Table 11.1 among them; the entry fails at the first, and otherwise `k` runs. What comes before Table 11.1
is checked before any input is read (R18, R289, R297); there the entry waits while its input is still to be gathered. -/
def State.checked (s : State) (slot : Nat) (checks : List (Option (Nat × Nat))) (k : State) : State :=
  match checks.findSome? id with
  | some e => if e = notGathered then s else s.reject slot e
  | none => k

/-- A check: none when it holds. -/
def chk (ok : Bool) (status ext : Nat) : Option (Nat × Nat) := if ok then none else some (status, ext)

/-- The entry of a slot is now in the hands of its unit. -/
def State.busy (s : State) (slot : Nat) : State := match s.track slot with
  | some t => s.setTrack slot (some { t with phase := .busy })
  | none => s

end Sys2Proof.Machine
end

