-- ==== Sys2Proof/Machine/Queues.lean ====
section
/-!
DEFINITION. The meanings of the queue commands and events of chapter 10: doorbells and scans, retirement, the admin queue's
registers, and the admin commands of Table 10.8; and the gathering of an entry's input (R295, R296).
-/
namespace Sys2Proof.Machine
open Sys2Proof

/-! ### Doorbells and scans -/

/-- A doorbell of an ENABLED queue whose PROD_IDX has been read (R272, R274). -/
def State.ring (s : State) (f qid : Nat) (v : QueueView) : State :=
  let q := s.queue f qid
  if q.depth < (v.prod - q.head).toNat then
    (s.count Reg.qenOverruns).queueError f qid 1 v.prod.toNat
  else
    let target := if (q.fetch - q.head).toNat ≤ (v.prod - q.head).toNat then v.prod else q.target
    (s.setQueue f qid { q with target := target, rung := false }).serve f qid v.slots

/-- A scan of the queue runs (R271 to R273). -/
def Queue.scanning (q : Queue) : Bool := q.waiting || q.retries.isSome

/-- DOORBELL: discarded and counted unless the queue is ENABLED; it waits while Bus Master Enable is 0, and for the end of a scan that runs
(R260, R271). -/
def execDoorbell (func qid : Nat) (view : QueueView) (s : State) : Answer :=
  answer s <|
    if s.qenOn = false ∨ s.funcPresent func = false then s
    else
      let q := s.queue func qid
      if q.state ≠ .enabled then
        (s.count Reg.qenDbDrops).log ⟨0, 0x0B03, 0, 1, func, qid, 0, 0, 0⟩
      else if (s.func func).bme = false ∨ q.scanning = true then s.setQueue func qid { q with rung := true }
      else s.ring func qid view

/-- PHASE_RETRY: the slot is read again; the sixteenth miss counts a phase stall (R273). -/
def execPhaseRetry (func qid : Nat) (view : QueueView) (s : State) : Answer :=
  answer s <|
    let q := s.queue func qid
    match q.retries, view.slots with
    | some n, b :: bs =>
      if q.state ≠ .enabled ∨ (s.func func).bme = false then s
      else if phaseOf b = expectedPhase q q.fetch then
        (s.setQueue func qid { q with retries := none }).serve func qid (b :: bs)
      else if n + 1 < 16 then s.setQueue func qid { q with retries := some (n + 1) }
      else ((s.setQueue func qid { q with retries := none }).count Reg.qenPhaseStalls).log
        ⟨0, 0x0B02, 0, 1, func, qid, 0, 0, q.fetch.toNat⟩
    | _, _ => s

/-- SCAN_RESUME: a scan that waited goes on at its turn, once a tracker slot within quota is free (R275, R276); a doorbell that waited for its
end is served then (R271); the unfetched entries of a disabled queue end (R286). -/
def execScanResume (func qid : Nat) (view : QueueView) (s : State) : Answer :=
  answer s <|
    let q := s.queue func qid
    if s.qenOn = false ∨ (s.func func).bme = false then s
    else if q.state = .draining then (s.drainQueue func qid view.prod view.slots).checkIdle func qid
    else if q.state ≠ .enabled then s
    else if q.waiting then s.serve func qid view.slots
    else if q.rung = true ∧ q.retries = none then s.ring func qid view
    else s

/-! ### Gathering input -/

/-- Steps 1 to 7 of Table 11.1 over the fragment list as read, in order. -/
def gatherFail (e : WorkEntry) (frags : List Bytes) : Option (Nat × Nat) :=
  let total := (frags.map fun b => leAt b 8 4).foldr (· + ·) 0
  [chk (leNat e.w8 % 16 == 0) St.badAlign 0xA0,
   chk (frags.all fun b => natAt b 12 / 2 == 0 && allZero (slice b 13 3)) St.badParam 0xA0,
   chk (frags.all fun b => leAt b 0 8 % 64 == 0) St.badAlign 0xA1,
   chk (frags.all fun b => leAt b 8 4 != 0 && leAt b 8 4 % 16 == 0) St.badAlign 0xA2,
   outAlign e,
   chk (decide (e.msgLen ≤ total)) St.badLength 0xA0,
   chk (decide (total - e.msgLen < 16)) St.badLength 0xA1].findSome? id

/-- Read requests for a range of addresses: split at the function's Max Read Request Size and at 4 KiB boundaries (R294). -/
def State.issueRead (s : State) (f addr len : Nat) (noSnoop : Bool) : State :=
  (pageParts 4096 addr len).foldl (fun (s : State) p =>
    (sizeParts (s.func f).maxRead p.1 p.2).foldl (fun (s : State) q => s.emit (.hostRead f q.1 q.2 noSnoop)) s) s

/-- The reads that gather an entry's input: its fragment list and, once the checks of Table 11.1 pass, each fragment, with No Snoop where its
NOSNOOP and the function's Enable No Snoop are 1 (R268, R294, R295). -/
def State.issueGather (s : State) (t : Track) (frags : List Bytes) : State :=
  let s := s.issueRead t.func (leNat t.entry.w8) (16 * t.entry.fragCount) false
  if (gatherFail t.entry frags).isSome then s
  else frags.foldl (fun (s : State) b => s.issueRead t.func (leAt b 0 8) (leAt b 8 4) (bitOf (natAt b 12) 0 && (s.func t.func).noSnoop)) s

/-- An operation that gathers its inputs again has them, and waits for the forager (R97). -/
def State.regathered (s : State) (slot : Nat) (input : Bytes) : State :=
  s.setOps (s.comb.ops.map fun (o : CombOp) =>
    if o.src = .host slot ∧ o.stage = .regather then { o with stage := .waiting, waitFrom := s.free, input := input } else o)

/-- DMA_READ_COMPLETE: the input stream is the first MSG_LEN bytes of the fragments joined, and the operation may proceed;
a failed check of Table 11.1 is kept for the length step of the command (R295 to R297). The operation of an entry that gathers its inputs a
second time takes them (R97). -/
def execDmaReadComplete (slot : Nat) (view : GatherView) (s : State) : Answer :=
  answer s <| match s.track slot with
  | some t =>
    let frags := view.frags.take t.entry.fragCount
    let input := fit t.entry.msgLen view.data
    if (s.func t.func).bme = false then s
    else if t.phase = .gather then
      (s.issueGather t frags).setTrack slot (some { t with phase := .ready, dmaFail := gatherFail t.entry frags, input := input })
    else if s.comb.ops.any fun (o : CombOp) => decide (o.src = .host slot ∧ o.stage = .regather) then
      (s.issueGather t frags).regathered slot input
    else s
  | none => s

/-! ### Retirement -/

/-- FLUSHING_READ_RETURN: the BARRIER entry of an index may retire (R278). -/
def execFlushingReadReturn (func qid : Nat) (index : W32) (s : State) : Answer :=
  answer s <|
    let q := s.queue func qid
    let s := s.setChan func { s.chan func with unflushed := [] }
    if q.flushing.contains index then (s.setQueue func qid (q.retire index)).checkIdle func qid else s

/-- An index lies below HEAD_IDX. -/
def Queue.covers (q : Queue) (i : W32) : Bool := decide (0 < (q.head - i).toNat) && decide ((q.head - i).toNat < 2 ^ 31)

/-- HEAD_IDX_WRITE: an advanced HEAD_IDX goes to the QCB, and the queue's vector is signalled for the IRQ entries that it
covers (R277, R280); a draining queue with nothing outstanding becomes IDLE (R286). -/
def execHeadIdxWrite (func qid : Nat) (s : State) : Answer :=
  answer s <|
    let q := s.queue func qid
    if q.state = .absent then s
    else
      let s := if q.head = q.headWritten then s else s.writeQcb func qid
      let due := q.irq.any q.covers
      let q := s.queue func qid
      let s := s.setQueue func qid { q with irq := q.irq.filter fun i => !q.covers i }
      let s := if due then s.msix func q.vector else s
      s.checkIdle func qid

/-! ### Admin-queue registers (R282) -/

/-- A function's admin-queue register: PF0's in QEN, a VF's in its BAR0 (R262). -/
def admReg (f pf vf : Nat) : Nat := if f = 0 then pf else vf + 0x10000 * f

/-- Queues of the device, or of one function, that are not ABSENT (R263). -/
def State.queuesOf (s : State) (p : Nat → Bool) : Nat :=
  (s.queues.filter fun (k, q) => p (k / 256) && q.state != .absent).length

/-- The 64-bit value of a register pair. -/
def State.pair (s : State) (lo hi : Nat) : Nat := (s.reg lo).toNat + 2 ^ 32 * (s.reg hi).toNat

/-- ADMQ_ENABLE: valid settings make the admin queue ENABLED with its indices at 0 and its QCB written; otherwise CFG_ERR is
set and ENABLE stays 0; while ENABLED or DRAINING the write changes ENABLE and ABORT_MODE alone (R282). An ENABLE of 1 so written starts
nothing (DESIGN CHOICE, log entry 84). -/
def execAdmqEnable (func : Nat) (value : W32) (s : State) : Answer :=
  answer s <|
    let q := s.queue func 0
    let ctrl := admReg func Reg.qenAdmqCtrl Reg.vfAdmqCtrl
    let status := admReg func Reg.qenAdmqStatus Reg.vfAdmqStatus
    if s.qenOn = false ∨ s.funcPresent func = false then s
    else if q.state = .enabled ∨ q.state = .draining then
      s.modReg ctrl fun w => setField (setField w 9 9 (field value 9 9)) 8 8 1
    else
      let ring := s.pair (admReg func Reg.qenAdmqRingLo Reg.vfAdmqRingLo) (admReg func Reg.qenAdmqRingHi Reg.vfAdmqRingHi)
      let qcb := s.pair (admReg func Reg.qenAdmqQcbLo Reg.vfAdmqQcbLo) (admReg func Reg.qenAdmqQcbHi Reg.vfAdmqQcbHi)
      let log2 := field value 4 0
      let vec := field value 31 16
      let s := s.setReg ctrl (value &&& 0xFFFF021F)
      if ring % 4096 = 0 ∧ qcb % 64 = 0 ∧ 6 ≤ log2 ∧ log2 ≤ 16 ∧ vec < tableSize func ∧
          s.queuesOf (fun _ => true) < 4096 + b2n (q.state != .absent) then
        let fresh : Queue := { state := .enabled, ring := ring, qcb := qcb, log2 := log2, vector := vec }
        (((s.raise ctrl 0x100).modReg status (clearBits · 8)).setQueue func 0 fresh).writeQcb func 0
      else s.raise status 8

/-- ADMQ_DISABLE: the admin queue is disabled as by QUEUE_DISABLE, in the mode that the write carries (R282). -/
def execAdmqDisable (func : Nat) (value : W32) (view : QueueView) (s : State) : Answer :=
  answer s <|
    let q := s.queue func 0
    let ctrl := admReg func Reg.qenAdmqCtrl Reg.vfAdmqCtrl
    if s.qenOn = false ∨ s.funcPresent func = false then s
    else if q.state = .enabled ∨ q.state = .draining then
      let s := s.modReg ctrl fun w => setField (setField w 9 9 (field value 9 9)) 8 8 0
      if q.state = .enabled then s.disableQueue func 0 (field value 9 9) view.prod view.slots else s
    else s.setReg ctrl (value &&& 0xFFFF021F)

/-! ### Admin commands (Table 10.8) -/

/-- NOP (R284). -/
def execNop (slot : Nat) (s : State) : Answer :=
  answer s <| s.onEntry slot 0 0 fun t =>
    s.checked slot [chk (t.entry.zeroFrom 40 55) St.badParam 0, t.dmaFail] (s.complete slot St.ok 0 [])

/-- The queue quota of a function (R304, Table 11.9). -/
def Func.queueQuota (f : Func) : Nat := clamp 1 256 f.quota

/-- QUEUE_CREATE: an ABSENT queue becomes ENABLED, its indices at 0 and its QCB written (R285), after the checks of R289. -/
def execQueueCreate (slot : Nat) (s : State) : Answer :=
  answer s <| s.onEntry slot 1 1 fun t =>
    let e := t.entry
    let qid := e.pLE 40 2
    let log2 := e.p8 42
    let vec := e.pLE 44 2
    let ring := leAt t.input 0 8
    let qcb := leAt t.input 8 8
    let total := s.queuesOf fun _ => true
    let own := s.queuesOf fun g => g == t.func
    s.checked slot [
      chk (e.zeroFrom 43 43 && e.zeroFrom 46 55) St.badParam 0,
      chk (e.msgLen == 16) St.badLength 0x90,
      chk (within qid 1 255 && (s.queue t.func qid).state == .absent) St.badParam 0x92,
      chk (decide (total < 4096) && decide (own < (s.func t.func).queueQuota)) St.badParam 0x93,
      chk (within log2 6 16 && decide (vec < tableSize t.func)) St.badParam 0x94,
      t.dmaFail,
      chk (ring % 4096 == 0) St.badAlign 0x90,
      chk (qcb % 64 == 0) St.badAlign 0x91]
      (((s.setQueue t.func qid { state := .enabled, ring := ring, qcb := qcb, log2 := log2, vector := vec }).writeQcb
        t.func qid).complete slot St.ok 0 [])

/-- QUEUE_DISABLE: an ENABLED queue drains; the command does not wait for IDLE (R286, R289). -/
def execQueueDisable (slot : Nat) (view : QueueView) (s : State) : Answer :=
  answer s <| s.onEntry slot 2 2 fun t =>
    let e := t.entry
    let qid := e.pLE 40 2
    s.checked slot [
      chk (e.zeroFrom 43 55) St.badParam 0,
      chk (within qid 1 255 && (s.queue t.func qid).state == .enabled) St.badParam 0x92,
      chk (decide (e.p8 42 ≤ 1)) St.badParam 0x94,
      t.dmaFail]
      ((s.disableQueue t.func qid (e.p8 42) view.prod view.slots).complete slot St.ok 0 [])

/-- QUEUE_ENABLE: an IDLE queue is ENABLED again at its fetch index, ERROR and ERR_CODE cleared, its QCB written (R287). -/
def execQueueEnable (slot : Nat) (s : State) : Answer :=
  answer s <| s.onEntry slot 3 3 fun t =>
    let e := t.entry
    let qid := e.pLE 40 2
    let q := s.queue t.func qid
    s.checked slot [
      chk (e.zeroFrom 42 55) St.badParam 0,
      chk (within qid 1 255 && q.state == .idle) St.badParam 0x92,
      t.dmaFail]
      (((s.setQueue t.func qid { q with state := .enabled, error := false, errCode := 0, target := q.fetch, rung := false }).writeQcb
        t.func qid).complete slot St.ok 0 [])

/-- QUEUE_DESTROY: an IDLE queue becomes ABSENT, its quota returned and its abort marks cleared (R287). -/
def execQueueDestroy (slot : Nat) (s : State) : Answer :=
  answer s <| s.onEntry slot 4 4 fun t =>
    let e := t.entry
    let qid := e.pLE 40 2
    s.checked slot [
      chk (e.zeroFrom 42 55) St.badParam 0,
      chk (within qid 1 255 && (s.queue t.func qid).state == .idle) St.badParam 0x92,
      t.dmaFail]
      ((s.setQueue t.func qid {}).complete slot St.ok 0 [])

/-- The indices of an ENTRY_ABORT that lie within [HEAD_IDX, HEAD_IDX + DEPTH) (R288). -/
def Queue.abortIndices (q : Queue) (first : W32) (count : Nat) : List W32 :=
  (List.range q.depth).filterMap fun n =>
    let i := q.head + BitVec.ofNat 32 n
    if (i - first).toNat < count then some i else none

/-- ENTRY_ABORT: fetched entries in the range are aborted, entries not yet fetched are marked (R288). -/
def execEntryAbort (slot : Nat) (s : State) : Answer :=
  answer s <| s.onEntry slot 5 5 fun t =>
    let e := t.entry
    let qid := e.pLE 40 2
    let q := s.queue t.func qid
    let count := e.pLE 48 4
    s.checked slot [
      chk (e.zeroFrom 42 43 && e.zeroFrom 52 55) St.badParam 0,
      chk (decide (qid ≤ 255) && q.state != .absent) St.badParam 0x92,
      chk (within count 1 q.depth) St.badParam 0x94,
      t.dmaFail]
      (let idx := q.abortIndices (BitVec.ofNat 32 (e.pLE 44 4)) count
       let new := idx.filter fun i => decide ((q.fetch - q.head).toNat ≤ (i - q.head).toNat) && !q.marks.contains i
       let s := s.setQueue t.func qid { q with marks := q.marks ++ new }
       let named := s.slotsWhere fun u => u.func == t.func && u.qid == qid && idx.contains u.index
       ((named.filter (· != slot)).foldl (fun s n => s.abortEntry n St.aborted 0) s).complete slot St.ok 0 [])

/-- QEN.QSTATE.STATE (Table 10.10). -/
def QState.code : QState → Nat
  | .absent => 0
  | .enabled => 1
  | .draining => 2
  | .idle => 3

/-- The 32 bytes of QUEUE_QUERY (R284): zeros for an ABSENT queue. -/
def State.queueQuery (s : State) (f qid : Nat) : Bytes :=
  let q := s.queue f qid
  if q.state = .absent then zeros 32
  else toLE 8 q.ring ++ toLE 8 q.qcb ++ toLE 4 q.fetch.toNat ++ toLE 4 q.head.toNat ++
    [BitVec.ofNat 8 q.log2, BitVec.ofNat 8 q.state.code, BitVec.ofNat 8 q.errCode, 0] ++
    toLE 2 q.vector ++ toLE 2 (s.heldByQueue f qid)

/-- QUEUE_QUERY (R284, R289). -/
def execQueueQuery (slot : Nat) (s : State) : Answer :=
  answer s <| s.onEntry slot 6 6 fun t =>
    let e := t.entry
    let qid := e.pLE 40 2
    s.checked slot [
      chk (e.zeroFrom 42 55) St.badParam 0,
      chk (decide (qid ≤ 255)) St.badParam 0x92,
      t.dmaFail,
      chk (decide (32 ≤ e.outCap)) St.badLength 0x41]
      (s.complete slot St.ok 0 (s.queueQuery t.func qid))

end Sys2Proof.Machine
end

