-- ==== Sys2Proof/Machine/Functions.lean ====
section
/-!
DEFINITION. Bus accesses, functions and channels (chapters 0, 1, 11 and 22): wrong-size and powered-down accesses, Bus Master
Enable, D3hot, function-level resets, transfer failures and channel halts, the dirty map's sync, SA range staging, MSI-X.
-/
namespace Sys2Proof.Machine
open Sys2Proof

/-! ### Accesses (R12, R20, R64, R498) -/

/-- WRONG_SIZE_ACCESS: logged and reported; a read completes with Unsupported Request, a write is discarded (R12, Table 22.5). -/
def execWrongSizeAccess (func offset size : Nat) (isWrite : Bool) (s : State) : Answer :=
  answer s <| if s.lcs.phase = .reset then s
  else
    let s := s.log ⟨0, 0x0001, 0, 2, func, 0xFFFF, 0, offset, size + 256 * b2n isWrite⟩
    let s := s.emit (.aer func 20)
    if isWrite then s else s.emit .unsupportedRequest

/-- POWERED_DOWN_ACCESS: logged; a read returns 0, a write is discarded (R20). -/
def execPoweredDownAccess (offset : Nat) (isWrite : Bool) (s : State) : Answer :=
  answer s <|
    if isWrite then s.regWrite offset s else s.regRead offset s

/-! ### Bus Master Enable and resets of functions -/

/-- The slots of a function's key range become empty and unprepared (R230, Table 11.4). -/
def State.clearRange (s : State) (f : Nat) : State :=
  { s with kst := { s.kst with slots := Sparse.eraseRange s.kst.slots (s.func f).keyBase (s.func f).keyCount } }

/-- What Table 11.4 gives for one function; the settings that it keeps are kept. -/
def State.resetFunction (s : State) (f : Nat) : State :=
  let s := (s.dropFunction f).clearRange f
  let fn := s.func f
  let s := { s with
    queues := Sparse.eraseRange s.queues (256 * f) 256
    vectors := Sparse.eraseRange s.vectors (2048 * f) 2048
    chans := Sparse.erase s.chans f }
  let s := if f = 0 then
      (s.setReg Reg.rngDataStatus 0)
    else { s with regs := Sparse.eraseRange s.regs (0x8000000 + 0x10000 * f) 0x10000 }
  s.setFunc f { fn with bme := false, d3hot := false, msixEnable := false, msixMask := false, fifo := [] }

/-- Every function is reset: the effect of a function-level reset of PF0 (R307), of PERST_N and of a warm reset (R228). -/
def State.resetAllFunctions (s : State) : State :=
  let s := (s.slotsWhere fun _ => true).foldl State.dropEntry s
  let regs := (List.range 3).foldl (fun m i => Sparse.eraseRange m (0x10000 * [0xB, 0xC, 0x60].getD i 0) 0x10000) s.regs
  let regs := Sparse.eraseRange regs 0x8000000 0x1000000
  let s := { s with
    regs := regs, queues := [], vectors := [], chans := [], funcs := [], vfEnable := false, numVfs := 0, saStage := 0
    kst := { s.kst with slots := Sparse.eraseRange s.kst.slots 16 4080 } }
  let s := (s.setReg Reg.rngDataStatus 0).setReg Reg.evjExpCtrl (regReset Reg.evjExpCtrl)
  (s.modReg Reg.tsuCapCtrl (clearBits · (1 <<< 8))).cardOff.lapseCeremony

/-- The flushing read of a sync leaves on channel 0, or waits for PF0's Bus Master Enable; with the link down, or
the channel halted, it fails (R260, R299, R301, R310). -/
def State.syncRead (s : State) (n : Nat) : State :=
  let fn := s.func n
  if (s.func 0).bme = false then s.setFunc n { fn with syncing := true, syncDue := true }
  else if s.linkUp = false ∨ (s.chan 0).halted = true then
    s.setFunc n { fn with syncing := false, syncDue := false, dirtyStatus := setBits fn.dirtyStatus 4 }
  else (s.setFunc n { fn with syncing := true, syncDue := false }).emit (.flushRead 0 fn.dirtyMap)

/-- The flushing reads of syncs that waited for PF0's Bus Master Enable leave. -/
def State.releaseSyncs (s : State) : State :=
  (s.funcs.filter fun x => x.2.syncDue).foldl (fun (s : State) x => s.syncRead x.1) s

/-- The writes of a function that wait may leave: its Bus Master Enable is 1, the link is up, and none of them waits for a retry (R260, R300). -/
def State.mayRelease (s : State) (f : Nat) : Bool :=
  (s.func f).bme && s.linkUp && !(s.chan f).failed.any fun x => decide (x.cause = .linkDown)

/-- BUS_MASTER_ENABLE_CHANGE: setting the bit releases the writes and flushing reads held for the function (R260). -/
def execBusMasterEnableChange (func : Nat) (enable : Bool) (s : State) : Answer :=
  answer s <|
    if s.funcPresent func then
      let s := s.setFunc func { s.func func with bme := enable }
      let s := if s.mayRelease func then s.releaseWrites func else s
      if enable = true ∧ func = 0 then s.releaseSyncs else s
    else s

/-- A function has work outstanding: an entry in the tracker or a queue that is not IDLE (R260). -/
def State.outstanding (s : State) (f : Nat) : Bool :=
  s.heldBy f != 0 || s.queues.any fun (k, q) => k / 256 == f && (q.state == .enabled || q.state == .draining)

/-- A function-level reset begins: of PF0 it resets every function (R306, R307). -/
def State.beginFlr (s : State) (f : Nat) : State :=
  let s := if f = 0 then s.resetAllFunctions else s.resetFunction f
  s.setFunc f { s.func f with flrActive := true }

/-- D3HOT_ENTRY: with work outstanding the function is reset as by a function-level reset (R260). -/
def execD3hotEntry (func : Nat) (s : State) : Answer :=
  answer s <|
    if s.funcPresent func then
      let s := if s.outstanding func then s.beginFlr func else s
      s.setFunc func { s.func func with d3hot := true }
    else s

/-- VF_FLR (R306, Table 11.4). -/
def execVfFlr (func : Nat) (s : State) : Answer :=
  answer s <| if func ≠ 0 ∧ s.funcPresent func = true then s.beginFlr func else s

/-- PF0_FLR: every function is reset; the settings of R307 take their cold-reset values. -/
def execPf0Flr (s : State) : Answer := answer s (s.beginFlr 0)

/-- VF_ENABLE_CLEAR: every VF is reset under R306 and ceases to exist (R303, R307). -/
def execVfEnableClear (s : State) : Answer :=
  answer s <|
    if s.vfEnable then
      { (List.range s.numVfs).foldl (fun s i => s.resetFunction (i + 1)) s with vfEnable := false }
    else s

/-- FLR_COMPLETE: FLR_ACTIVE returns to 0 (R306). -/
def execFlrComplete (func : Nat) (s : State) : Answer :=
  answer s (s.setFunc func { s.func func with flrActive := false })

/-! ### Transfer failures and channel halts -/

/-- KIND of DMA.CHAN_STATUS (Table 11.7). -/
def xferCode : XferKind → Nat
  | .entryRead => 1
  | .qcbRead => 2
  | .listRead => 3
  | .inputRead => 4
  | .outputWrite => 5
  | .statusWrite => 6
  | .device => 7

/-- CAUSE of DMA.CHAN_STATUS (Table 11.7). -/
def causeCode : FailCause → Nat
  | .timeout => 1
  | .unsupported => 2
  | .completerAbort => 3
  | .poisoned => 4
  | .linkDown => 5
  | .integrity => 6
  | .flushing => 7

/-- ERR_CODE of a queue when its channel halts (R301): 0x02 or 0x03 for the queue whose read halted it, 0x04 for every other. -/
def haltErrCode (x : FailedXfer) (qid : Nat) : Nat :=
  if qid = x.qid ∧ x.kind = .entryRead then 2 else if qid = x.qid ∧ x.kind = .qcbRead then 3 else 4

/-- A queue of a halted channel: IDLE with ERROR, its head at the fetch index (R301). -/
def Queue.halt (q : Queue) (code : Nat) : Queue :=
  if q.state = .absent then q
  else { q with state := .idle, error := true, errCode := code, head := q.fetch, headWritten := q.fetch, retired := [],
                flushing := [], irq := [], retries := none, waiting := false, rung := false, drain := .none }

/-- A queue that its channel's halt stops meets an error: entered in the error log, its vector signalled (R281, R301); the TAG is that of the
entry whose transfer failed (R266). -/
def State.haltedQueue (s : State) (f : Nat) (x : FailedXfer) (qid : Nat) : State :=
  (s.log ⟨0, 0x0B01, 0, 1, f, qid, if qid = x.qid then x.tag else 0, 0, haltErrCode x qid⟩).msix f (s.queue f qid).vector

/-- The queues of a function that are ENABLED or DRAINING. -/
def State.openQueues (s : State) (f : Nat) : List Nat :=
  (s.queues.filter fun (k, q) => k / 256 == f && (q.state == .enabled || q.state == .draining)).map fun x => x.1 % 256

/-- A channel halts after the last retry of a transfer (R301): its function's entries end with no status, its queues are
IDLE with ERROR, those that it stops logged and signalled, the failing transfer is recorded and logged. -/
def State.haltChannel (s : State) (f : Nat) (x : FailedXfer) : State :=
  let stopped := s.openQueues f
  let s := s.dropFunction f
  let halt (k : Nat) (q : Queue) : Queue := if k / 256 = f then q.halt (haltErrCode x (k % 256)) else q
  let s := { s with queues := s.queues.map fun (k, q) => (k, halt k q) }
  let rec32 : W32 := BitVec.ofNat 32
    (1 + 2 * xferCode x.kind + 16 * causeCode x.cause + 256 * (x.tries % 8) + 4096 * (x.qid % 256))
  let s := s.setChan f { halted := true, record := rec32 - 1, failAddr := x.addr }
  let s := s.count Reg.dmaHalts
  let s := stopped.foldl (fun (s : State) q => s.haltedQueue f x q) s
  s.log ⟨0, 0x0C01, 0, 2, f, x.qid, x.tag, rec32.toNat, x.addr⟩

/-- Retries of a failed transfer (Table 11.7). -/
def State.retryLimit (s : State) : Nat := field (s.reg Reg.dmaCtrl) 2 0

/-- The completion timeout that Device Control 2 selects, in µs (Table 11.10). -/
def Func.completionTimeout (f : Func) : Nat := match f.cto.toNat with
  | 1 => 100
  | 2 => 10000
  | 5 => 55000
  | 6 => 210000
  | _ => 16000

/-- A failed flushing read stands for the writes since the last successful one: KIND, FAIL_ADDR, QID and TAG are the earliest write's (R299). -/
def Channel.flushFailure (c : Channel) (x : FailedXfer) : FailedXfer := match c.unflushed with
  | [] => { x with flush := x.addr }
  | w :: _ => { x with flush := x.addr, kind := w.kind, addr := w.write.addr, qid := w.qid, tag := w.tag }

/-- A transfer fails: it waits for its retry, or halts its channel when RETRY is 0 (R300). -/
def State.failTransfer (s : State) (f : Nat) (x : FailedXfer) : State :=
  let c := s.chan f
  if c.halted || (s.func f).flrActive then s
  else
    let x := if x.cause = .flushing then c.flushFailure x else x
    if s.retryLimit = 0 then s.haltChannel f x else s.setChan f { c with failed := c.failed ++ [x] }

/-- DMA_TRANSFER_FAIL: the transfer waits for its retry, or halts its channel (R299, R300); an integrity
failure is one event of source 4 (R438); timeouts and poisoned data are reported through AER (Table 22.5). -/
def execDmaTransferFail (func : Nat) (kind : XferKind) (cause : FailCause) (addr qid tag : Nat) (s : State) : Answer :=
  answer s <|
    if (s.chan func).halted || (s.func func).flrActive then s
    else
      let s := if cause = .integrity then { s with tem := { s.tem with icode := s.tem.icode + 1 } } else s
      let s := if cause = .timeout then s.emit (.aer func 14) else if cause = .poisoned then s.emit (.aer func 12) else s
      s.failTransfer func { kind := kind, cause := cause, addr := addr, qid := qid, tag := tag }

/-! ### Outstanding reads when the link goes down (R299) -/

/-- The reads of a function that are outstanding: of each entry whose input is being gathered, and one flushing read. Whether the list or an
input read was on its way is not the model's to know: it is recorded as the list's (DESIGN CHOICE, log entry 85). -/
def State.outstandingReads (s : State) (f : Nat) : List FailedXfer :=
  let gathers := s.tracker.filterMap fun (n, t) => match t with
    | some t =>
      if t.func = f ∧ (t.phase = .gather ∨ s.comb.ops.any (fun (o : CombOp) => decide (o.src = .host n ∧ o.stage = .regather)) = true) then
        some { kind := .listRead, cause := .linkDown, addr := leNat t.entry.w8, qid := t.qid, tag := t.entry.tag : FailedXfer }
      else none
    | none => none
  let flushes := s.queues.filterMap fun (k, q) =>
    if k / 256 = f ∧ q.flushing ≠ [] then
      some { kind := .statusWrite, cause := .flushing, addr := q.qcb, qid := k % 256, tag := 0 : FailedXfer } else none
  let records := s.kst.slots.filterMap fun (_, k) => match k.tree with
    | some d => if d.func = f ∧ d.block.any (fun b => !b.recordOk) = true then
        some { kind := .device, cause := .flushing, addr := d.recordAddr, qid := 0xFFFF, tag := 0 : FailedXfer } else none
    | none => none
  (if (s.func f).bme then gathers else []) ++ (flushes ++ records).take 1

/-- The link goes down: every outstanding read fails, a sync's with LOST (R299, R310). -/
def State.failReads (s : State) : State :=
  let funcs : List Nat := (0 :: s.funcs.map (fun (x : Nat × Func) => x.1) ++ s.queues.map (fun (x : Nat × Queue) => x.1 / 256)).eraseDups
  let lost (s : State) (n : Nat) : State :=
    let fn := s.func n
    if fn.syncing = true ∧ fn.syncDue = false then s.setFunc n { fn with syncing := false, dirtyStatus := setBits fn.dirtyStatus 4 } else s
  funcs.foldl (fun (s : State) f => (s.outstandingReads f).foldl (fun (s : State) x => s.failTransfer f x) (lost s f)) s

/-- A retry reissues the whole transfer: after a failed flushing read, each write since the last successful one, in its order, and the read; a
write that was not sent goes out where the link is up (R299, R300). -/
def State.reissue (s : State) (f : Nat) (x : FailedXfer) : State :=
  if x.cause = .flushing then
    ((s.chan f).unflushed.foldl State.issueWrite s).emit (.flushRead f x.flush)
  else s

/-- DMA_RETRY: the transfer due next is reissued; it succeeds and counts in RETRIES, or fails again, and after its last retry halts
its channel. It waits while Bus Master Enable is 0 (R260, R300, R301). -/
def execDmaRetry (func : Nat) (landed : Bool) (s : State) : Answer :=
  answer s <|
    let c := s.chan func
    match c.failed with
    | [] => s
    | x :: rest =>
      if (s.func func).bme = false then s
      else if s.retryLimit = 0 then s.haltChannel func x
      else
        let s := if s.linkUp then s.reissue func x else s
        if landed = true ∧ s.linkUp = true then
          let s := (s.count Reg.dmaRetries).setChan func { c with failed := rest }
          if s.mayRelease func then s.releaseWrites func else s
        else if x.tries + 1 < s.retryLimit then
          s.setChan func { c with failed := rest ++ [{ x with tries := x.tries + 1 }] }
        else s.haltChannel func { x with tries := x.tries + 1 }

/-- CHAN_CLEAR: the selected channel resumes, its record kept; ignored during a function-level reset (R302, R312). -/
def execChanClear (value : W32) (s : State) : Answer :=
  answer s <| s.regWrite Reg.dmaChanSel <|
    let n := field (s.reg Reg.dmaChanSel) 7 0
    if flag value 0 = true ∧ (s.func n).flrActive = false then s.setChan n { s.chan n with halted := false } else s

/-! ### Dirty map, SA base, MSI-X -/

/-- SYNC: a write of DIRTY_CTRL sets EN and, with SYNC, issues a flushing read on channel 0 of the selected VF's map (R310);
PF0's map registers ignore writes (R314). -/
def execSync (value : W32) (s : State) : Answer :=
  answer s <| s.regWrite Reg.vfcFuncSel <|
    let n := field (s.reg Reg.vfcFuncSel) 7 0
    if n = 0 then s
    else
      let s := s.setFunc n { s.func n with dirtyEn := flag value 0 }
      if flag value 1 then s.syncRead n else s

/-- SYNC_READ_RETURN: SYNC_DONE, or LOST if the read failed (R310). -/
def execSyncReadReturn (func : Nat) (ok : Bool) (s : State) : Answer :=
  answer s <|
    let fn := s.func func
    if fn.syncing = true ∧ fn.syncDue = false then
      s.setFunc func { fn with syncing := false, dirtyStatus := setBits fn.dirtyStatus (if ok then 1 else 4) }
    else s

/-- SA_BASE_WRITE: the base is staged and no range changes (R304). -/
def execSaBaseWrite (value : W32) (s : State) : Answer := answer s (s.regWrite Reg.vfcSaBase { s with saStage := field value 23 0 })

/-- MSIX_PENDING_SEND: a held message leaves once nothing holds it (R531). -/
def execMsixPendingSend (func vec : Nat) (s : State) : Answer :=
  answer s <|
    let v := s.vector func vec
    if v.pending then (s.setVector func vec { v with pending := false }).msix func vec else s

end Sys2Proof.Machine
end

