-- ==== Sys2Proof/Machine/Curves.lean ====
section
/-!
DEFINITION. Arithmetic of the curves that the classical commands name (R172 to R174): the P-curves of FIPS 186-5, the Edwards curves of EdDSA, and the
ladder of RFC 7748. The constants are those of the standards (log entry 24). A scalar multiplication starts from the representative that a blinding
value λ scales (R174).
-/
namespace Sys2Proof.Machine
open Sys2Proof

/-! ### Residues -/

/-- The residue of a number modulo m. -/
def residue (m : Nat) (v : Int) : Nat := (v % (m : Int)).toNat

/-- b^e modulo m, over the low n bits of e. -/
def powMod (m : Nat) : Nat → Nat → Nat → Nat
  | 0, _, _ => 1 % m
  | n + 1, b, e =>
    let r := powMod m n (b * b % m) (e / 2)
    if e % 2 = 1 then b * r % m else r

/-- The inverse of a nonzero residue modulo a prime, by Fermat: the exponent m − 2 is fixed and public (R172). -/
def fermatInv (m a : Nat) : Nat := powMod m 528 a (m - 2)

/-- A blinding value modulo m from a mask word: never zero. -/
def blindMod (m w : Nat) : Nat := w % (m - 1) + 1

/-! ### P-curves -/

/-- The field and order length of a P-curve, 0 to 2 (Table 6.4). -/
def ecLen (i : Nat) : Nat := [32, 48, 66].getD i 0

/-- Bits of the order of P-curve i. -/
def ecBits (i : Nat) : Nat := [256, 384, 521].getD i 0

/-- The field prime of P-curve i (FIPS 186-5, SP 800-186). -/
def ecPrime (i : Nat) : Nat :=
  if i = 0 then 2 ^ 256 - 2 ^ 224 + 2 ^ 192 + 2 ^ 96 - 1
  else if i = 1 then 2 ^ 384 - 2 ^ 128 - 2 ^ 96 + 2 ^ 32 - 1
  else 2 ^ 521 - 1

/-- The order n of P-curve i. -/
def ecOrder (i : Nat) : Nat :=
  if i = 0 then 0xFFFFFFFF00000000FFFFFFFFFFFFFFFFBCE6FAADA7179E84F3B9CAC2FC632551
  else if i = 1 then
    0xFFFFFFFFFFFFFFFFFFFFFFFFFFFFFFFFFFFFFFFFFFFFFFFFC7634D81F4372DDF581A0DB248B0A77AECEC196ACCC52973
  else 2 ^ 521 - 0x5AE79787C40D069948033FEB708F65A2FC44A36477663B851449048E16EC79BF7

/-- The coefficient b of P-curve i. -/
def ecB (i : Nat) : Nat :=
  if i = 0 then 0x5AC635D8AA3A93E7B3EBBD55769886BC651D06B0CC53B0F63BCE3C3E27D2604B
  else if i = 1 then
    0xB3312FA7E23EE7E4988E056BE3F82D19181D9C6EFE8141120314088F5013875AC656398D8A2ED19D2A85C8EDD3EC2AEF
  else 0x51953EB9618E1C9A1F929A21A0B68540EEA2DA725B99B315F3B8B489918EF109E156193951EC7E937B1652C0BD3BB1BF073573DF883D2C34F1EF451FD46B503F00

/-- The base point G of P-curve i. -/
def ecBase (i : Nat) : Nat × Nat :=
  if i = 0 then
    (0x6B17D1F2E12C4247F8BCE6E563A440F277037D812DEB33A0F4A13945D898C296,
     0x4FE342E2FE1A7F9B8EE7EB4A7C0F9E162BCE33576B315ECECBB6406837BF51F5)
  else if i = 1 then
    (0xAA87CA22BE8B05378EB1C71EF320AD746E1D3B628BA79B9859F741E082542A385502F25DBF55296C3A545E3872760AB7,
     0x3617DE4A96262C6F5D9E98BF9292DC29F8F41DBD289A147CE9DA3113B5F0B8C00A60B1CE1D7E819D7A431D7C90EA0E5F)
  else
    (0x00C6858E06B70404E9CD9E3ECB662395B4429C648139053FB521F828AF606B4D3DBAA14B5E77EFE75928FE1DC127A2FFA8DE3348B3C1856A429BF97E7E31C2E5BD66,
     0x011839296A789A3BC0045C8A5FB42C7D1BD998F54449579B446817AFBD17273E662C97EE72995EF42640C550B9013FAD0761353C7086A272C24088BE94769FD16650)

/-- A point X : Y : Z in projective coordinates; Z = 0 is the point at infinity. -/
structure Proj where
  x : Nat
  y : Nat
  z : Nat
  deriving DecidableEq, Repr

/-- Twice a point of y²z = x³ − 3xz² + bz³. -/
def ecDouble (p : Nat) (a : Proj) : Proj :=
  let w := residue p (3 * a.x * a.x - 3 * a.z * a.z)
  let s := a.y * a.z % p
  let b := a.x * a.y * s % p
  let h := residue p (w * w - 8 * b)
  ⟨2 * h * s % p, residue p (w * (4 * b - h) - 8 * a.y * a.y * s * s), 8 * s * s * s % p⟩

/-- The sum of two points. -/
def ecAdd (p : Nat) (a b : Proj) : Proj :=
  if a.z = 0 then b else if b.z = 0 then a
  else
    let u := residue p (b.y * a.z - a.y * b.z)
    let v := residue p (b.x * a.z - a.x * b.z)
    if v = 0 then if u = 0 then ecDouble p a else ⟨0, 1, 0⟩
    else
      let t := v * v * a.x * b.z % p
      let w := residue p (u * u * a.z * b.z - v * v * v - 2 * t)
      ⟨v * w % p, residue p (u * (t - w) - v * v * v * a.y * b.z), v * v * v * a.z * b.z % p⟩

/-- k times a point, over the low n bits of k. -/
def ecMul (p : Nat) : Nat → Nat → Proj → Proj
  | 0, _, _ => ⟨0, 1, 0⟩
  | n + 1, k, a =>
    let r := ecMul p n (k / 2) (ecDouble p a)
    if k % 2 = 1 then ecAdd p a r else r

/-- The representative of an affine point that λ scales (R174). -/
def scaled (p lam : Nat) (a : Nat × Nat) : Proj :=
  let l := blindMod p lam
  ⟨a.1 * l % p, a.2 * l % p, l⟩

/-- The affine coordinates of a point, 0 and 0 at infinity. -/
def affine (p : Nat) (a : Proj) : Nat × Nat :=
  let z := fermatInv p a.z
  (a.x * z % p, a.y * z % p)

/-- d times a point of P-curve i: the scalar multiplication runs over bits(n) + 64 bits on d + r × n, from a scaled representative (R174). -/
def ecScale (i d r lam : Nat) (a : Nat × Nat) : Nat × Nat :=
  let p := ecPrime i
  affine p (ecMul p (ecBits i + 64) (d + r % 2 ^ 64 * ecOrder i) (scaled p lam a))

/-- x ‖ y (R169). -/
def ecEncode (i : Nat) (a : Nat × Nat) : Bytes := toBE (ecLen i) a.1 ++ toBE (ecLen i) a.2

/-- The point that x ‖ y spells. -/
def ecDecode (i : Nat) (b : Bytes) : Nat × Nat := (beAt b 0 (ecLen i), beAt b (ecLen i) (ecLen i))

/-- Q = dG. -/
def ecPublic (i d r lam : Nat) : Bytes := ecEncode i (ecScale i d r lam (ecBase i))

/-- The integer of a digest, cut to the order's bit length (R169). -/
def ecDigest (i : Nat) (digest : Bytes) : Nat := beNat digest / 2 ^ (8 * digest.length - ecBits i)

/-- r and s of an ECDSA signature with the nonce k; `inv` blinds its inversion: k⁻¹ = b × (k × b)⁻¹ (R172, R174). -/
def ecdsaPair (i d k : Nat) (digest : Bytes) (r lam inv : Nat) : Nat × Nat :=
  let n := ecOrder i
  let x := (ecScale i k r lam (ecBase i)).1 % n
  let b := blindMod n inv
  let ki := b * fermatInv n (k * b % n) % n
  (x, ki * (ecDigest i digest + x * d) % n)

/-- The equation of ECDSA verification (FIPS 186-5). -/
def ecdsaHolds (i : Nat) (q : Nat × Nat) (r v : Nat) (digest : Bytes) : Bool :=
  let n := ecOrder i
  let p := ecPrime i
  let w := fermatInv n v
  let mul (k : Nat) (a : Nat × Nat) : Proj := ecMul p (ecBits i) k ⟨a.1, a.2, 1⟩
  let x := ecAdd p (mul (ecDigest i digest * w % n) (ecBase i)) (mul (r * w % n) q)
  decide (x.z ≠ 0) && (affine p x).1 % n == r

/-! ### Edwards curves -/

/-- The Edwards public-key length. -/
def edPk (i : Nat) : Nat := [32, 57].getD i 0

/-- The field prime of curve 25519 or 448. -/
def edPrime (i : Nat) : Nat := if i = 0 then 2 ^ 255 - 19 else 2 ^ 448 - 2 ^ 224 - 1

/-- The order L of Ed25519 or Ed448 (FIPS 186-5). -/
def edOrder (i : Nat) : Nat :=
  if i = 0 then 2 ^ 252 + 27742317777372353535851937790883648493
  else 2 ^ 446 - 13818066809895115352007386748515426880336692474882178609894547503885

/-- The coefficient a: −1 or 1. -/
def edA (i : Nat) : Int := if i = 0 then -1 else 1

/-- The coefficient d: −121665/121666 or −39081. -/
def edD (i : Nat) : Nat :=
  let p := edPrime i
  if i = 0 then residue p (-121665 * (fermatInv p 121666 : Int)) else residue p (-39081)

/-- c, the binary logarithm of the cofactor. -/
def edCofactor (i : Nat) : Nat := if i = 0 then 3 else 2

/-- The sum of two points. -/
def edAdd (i : Nat) (a b : Proj) : Proj :=
  let p := edPrime i
  let z := a.z * b.z % p
  let c := a.x * b.x % p
  let d := a.y * b.y % p
  let e := edD i * c * d % p
  let f := residue p (z * z - e)
  let g := (z * z + e) % p
  ⟨residue p (z * f * ((a.x + a.y) * (b.x + b.y) - c - d)), residue p (z * g * (d - edA i * c)), f * g % p⟩

/-- k times a point, over the low n bits of k. -/
def edMul (i : Nat) : Nat → Nat → Proj → Proj
  | 0, _, _ => ⟨0, 1, 1⟩
  | n + 1, k, a =>
    let r := edMul i n (k / 2) (edAdd i a a)
    if k % 2 = 1 then edAdd i a r else r

/-- A square root of a residue, if it has one. -/
def edRoot (i v : Nat) : Option Nat :=
  let p := edPrime i
  let w := if i = 0 then powMod p 528 v ((p + 3) / 8) else powMod p 528 v ((p + 1) / 4)
  let w' := if i = 0 then w * powMod p 528 2 ((p - 1) / 4) % p else w
  if w * w % p = v then some w else if w' * w' % p = v then some w' else none

/-- The point of an encoding: y in little-endian form below the sign of x; none where it decodes to no point or is not canonical (R172). -/
def edDecode (i : Nat) (b : Bytes) : Option (Nat × Nat) :=
  let p := edPrime i
  let top := 2 ^ (8 * edPk i - 1)
  let y := leNat b % top
  let sign := leNat b / top
  let yy := y * y % p
  let v := residue p ((yy - 1) * fermatInv p (residue p (edD i * yy - edA i)))
  if p ≤ y then none
  else match edRoot i v with
    | none => none
    | some x => if x = 0 ∧ sign = 1 then none else some (if x % 2 = sign then x else p - x, y)

/-- The encoding of a point. -/
def edEncode (i : Nat) (a : Proj) : Bytes :=
  let q := affine (edPrime i) a
  toLE (edPk i) (q.2 + 2 ^ (8 * edPk i - 1) * (q.1 % 2))

/-- The base point B. -/
def edBase (i : Nat) : Nat × Nat :=
  let p := edPrime i
  if i = 0 then
    (0x216936D3CD6E53FEC0A4E231FDD6DC5C692CC7609525A7B2C9562D608F25D51A, 4 * fermatInv p 5 % p)
  else
    (224580040295924300187604334099896036246789641632564134246125461686950415467406032909029192869357953282578032075146446173674602635247710,
     298819210078481492676017930443930673437544040154080242095928241372331506189835876003536878655418784733982303233503462500531545062832660)

/-- The hash of the curve: SHA-512, or 114 bytes of SHAKE256. -/
def edHash (i : Nat) (b : Bytes) : Bytes := if i = 0 then stdOut 64 .hash 3 [b] else stdOut 114 .hash 8 [b]

/-- dom2 or dom4: none for pure Ed25519. -/
def edDom (i : Nat) (prehash : Bool) (ctx : Bytes) : Bytes :=
  if i = 0 ∧ prehash = false then []
  else ascii (if i = 0 then "SigEd25519 no Ed25519 collisions" else "SigEd448") ++ [if prehash then 1 else 0, BitVec.ofNat 8 ctx.length] ++ ctx

/-- The secret scalar of a seed, and the prefix of its nonces. -/
def edSecret (i : Nat) (seed : Bytes) : Nat × Bytes :=
  let h := edHash i seed
  let v := leNat (h.take (edPk i))
  (if i = 0 then v % 2 ^ 254 / 8 * 8 + 2 ^ 254 else v % 2 ^ 447 / 4 * 4 + 2 ^ 447, h.drop (edPk i))

/-- d times B, with d + r × L on a scaled representative (R174). -/
def edScaleBase (i d r lam : Nat) : Proj :=
  let p := edPrime i
  edMul i (8 * edPk i + 64) (d + r % 2 ^ 64 * edOrder i) (scaled p lam (edBase i))

/-- The public key of a seed. -/
def edPublic (i : Nat) (seed : Bytes) (r lam : Nat) : Bytes := edEncode i (edScaleBase i (edSecret i seed).1 r lam)

/-- An EdDSA signature by a seed whose public key is `a`. -/
def edSignature (i : Nat) (seed a dom msg : Bytes) (r lam : Nat) : Bytes :=
  let l := edOrder i
  let s := edSecret i seed
  let n := leNat (edHash i (dom ++ s.2 ++ msg)) % l
  let R := edEncode i (edScaleBase i n r lam)
  let k := leNat (edHash i (dom ++ R ++ a ++ msg)) % l
  R ++ toLE (edPk i) ((n + k * s.1) % l)

/-- The cofactored equation [2^c S]B = [2^c]R + [2^c k]A (R172). -/
def edHolds (i : Nat) (pa pr : Nat × Nat) (a R : Bytes) (v : Nat) (dom msg : Bytes) : Bool :=
  let c := 2 ^ edCofactor i
  let n := 8 * edPk i + 8
  let k := leNat (edHash i (dom ++ R ++ a ++ msg)) % edOrder i
  let mul (k : Nat) (q : Nat × Nat) : Proj := edMul i n (c * k) ⟨q.1, q.2, 1⟩
  affine (edPrime i) (mul v (edBase i)) == affine (edPrime i) (edAdd i (mul 1 pr) (mul k pa))

/-! ### X25519 and X448 -/

/-- The X25519 or X448 length. -/
def xdhLen (i : Nat) : Nat := [32, 56].getD i 0

/-- The scalar clamped (RFC 7748). -/
def xdhScalar (i : Nat) (b : Bytes) : Nat :=
  let v := leNat (b.take (xdhLen i))
  if i = 0 then v % 2 ^ 254 / 8 * 8 + 2 ^ 254 else v % 2 ^ 447 / 4 * 4 + 2 ^ 447

/-- u with its top bit masked on curve 25519, and reduced (R172). -/
def xdhU (i : Nat) (b : Bytes) : Nat :=
  (leNat (b.take (xdhLen i)) % if i = 0 then 2 ^ 255 else 2 ^ 448) % edPrime i

/-- The state of the ladder: the points x2 : z2 and x3 : z3, whose difference is the input point. -/
structure Ladder where
  x2 : Nat
  z2 : Nat
  x3 : Nat
  z3 : Nat
  deriving DecidableEq, Repr

/-- The two points swapped or not. -/
def Ladder.swap (l : Ladder) (b : Bool) : Ladder := if b then ⟨l.x3, l.z3, l.x2, l.z2⟩ else l

/-- One step of the ladder without its swaps (RFC 7748). -/
def Ladder.step (i u : Nat) (l : Ladder) : Ladder :=
  let p := edPrime i
  let a24 := if i = 0 then 121665 else 39081
  let a := l.x2 + l.z2
  let b := residue p (l.x2 - l.z2)
  let aa := a * a % p
  let bb := b * b % p
  let e := residue p (aa - bb)
  let da := residue p ((l.x3 - l.z3) * a)
  let cb := (l.x3 + l.z3) * b % p
  let m := residue p (da - cb)
  ⟨aa * bb % p, e * (aa + a24 * e) % p, (da + cb) * (da + cb) % p, u * m * m % p⟩

/-- The ladder over bits n − 1 to 0 of k. -/
def Ladder.run (i u k : Nat) : Nat → Ladder → Ladder
  | 0, l => l
  | n + 1, l =>
    let b := k.testBit n
    ((((l.swap b).step i u).swap b)).run i u k n

/-- The u-coordinate of k times the point of u, from a scaled representative (R174). -/
def xdhMul (i k u lam : Nat) : Bytes :=
  let p := edPrime i
  let m := blindMod p lam
  let l := Ladder.run i u k (8 * xdhLen i) ⟨m, 0, u * m % p, m⟩
  toLE (xdhLen i) (l.x2 * fermatInv p l.z2 % p)

/-- The public value of a private one: the base point has u = 9 or 5. -/
def xdhPublic (i : Nat) (priv : Bytes) (lam : Nat) : Bytes := xdhMul i (xdhScalar i priv) (if i = 0 then 9 else 5) lam

end Sys2Proof.Machine
end

