-- ==== Sys2Proof/Machine/Rsa.lean ====
section
/-!
DEFINITION. RSA (R169, R172 to R174): the encodings of PKCS #1 v2.2, and the private operation with its blinding.
-/
namespace Sys2Proof.Machine
open Sys2Proof

/-! ### Hashes -/

/-- The digest length of a PH_ALG (Table 5.3). -/
def digestLen (alg : Nat) : Nat := [0, 32, 48, 64, 32, 48, 64, 32, 64].getD alg 0

/-- The digest of a string under a Table 5.3 code. -/
def hashOf (alg : Nat) (b : Bytes) : Bytes := stdOut (digestLen alg) .hash alg [b]

/-- MGF1 under a hash: n bytes. -/
def mgf1 (alg : Nat) (seed : Bytes) (n : Nat) : Bytes :=
  ((List.range (n / digestLen alg + 1)).flatMap fun i => hashOf alg (seed ++ toBE 4 i)).take n

/-! ### Signature encodings -/

/-- DigestInfo of a digest. -/
def digestInfo (alg : Nat) (digest : Bytes) : Bytes :=
  let n := digest.length
  [0x30, BitVec.ofNat 8 (17 + n), 0x30, 0x0D, 0x06, 0x09, 0x60, 0x86, 0x48, 0x01, 0x65, 0x03, 0x04, 0x02,
   [0, 1, 2, 3, 8, 9, 10].getD alg 0, 0x05, 0x00, 0x04, BitVec.ofNat 8 n] ++ digest

/-- EMSA-PKCS1-v1_5: k bytes. -/
def emsaPkcs1 (k alg : Nat) (digest : Bytes) : Bytes :=
  let t := digestInfo alg digest
  [0, 1] ++ List.replicate (k - 3 - t.length) 0xFF ++ [0] ++ t

/-- H of EMSA-PSS. -/
def pssHash (alg : Nat) (digest salt : Bytes) : Bytes := hashOf alg (zeros 8 ++ digest ++ salt)

/-- A string with its top bit cleared. -/
def dropTopBit : Bytes → Bytes
  | [] => []
  | b :: l => (b &&& 0x7F) :: l

/-- EMSA-PSS of k bytes; the modulus has 8k bits, so that the top bit of the encoding is 0. -/
def emsaPss (k alg : Nat) (digest salt : Bytes) : Bytes :=
  let h := pssHash alg digest salt
  let db := zeros (k - h.length - salt.length - 2) ++ [1] ++ salt
  dropTopBit (xorBytes db (mgf1 alg h db.length)) ++ h ++ [0xBC]

/-- An encoded message is an EMSA-PSS encoding of the digest with a salt of `len` bytes. -/
def pssHolds (k alg len : Nat) (digest em : Bytes) : Bool :=
  let n := digestLen alg
  let h := slice em (k - n - 1) n
  let masked := em.take (k - n - 1)
  let db := dropTopBit (xorBytes masked (mgf1 alg h masked.length))
  decide (n + len + 2 ≤ k) && byteAt em (k - 1) == 0xBC && natAt em 0 < 128 &&
    allZero (db.take (k - n - len - 2)) && byteAt db (k - n - len - 2) == 1 && h == pssHash alg digest (db.drop (k - n - len - 1))

/-- The encoding of a signature by PAD: 0 PSS, 1 PKCS #1 v1.5 (Table 6.2). -/
def emsa (pad k alg : Nat) (digest salt : Bytes) : Bytes := if pad = 0 then emsaPss k alg digest salt else emsaPkcs1 k alg digest

/-- The encoded message holds for a digest. -/
def emsaHolds (pad k alg saltLen : Nat) (digest em : Bytes) : Bool :=
  if pad = 0 then pssHolds k alg saltLen digest em else em == emsaPkcs1 k alg digest

/-! ### OAEP -/

/-- EME-OAEP of a message of at most k − 2 hLen − 2 bytes. -/
def oaepEncode (k alg : Nat) (seed label msg : Bytes) : Bytes :=
  let n := digestLen alg
  let db := hashOf alg label ++ zeros (k - 2 * n - 2 - msg.length) ++ [1] ++ msg
  let maskedDb := xorBytes db (mgf1 alg seed db.length)
  [0] ++ xorBytes seed (mgf1 alg maskedDb n) ++ maskedDb

/-- The message of an encoding; none where the leading byte, lHash, the padding run or the separator is wrong: all are tested on every run
(R173). -/
def oaepDecode (k alg : Nat) (label em : Bytes) : Option Bytes :=
  let n := digestLen alg
  let maskedDb := slice em (n + 1) (k - n - 1)
  let seed := xorBytes (slice em 1 n) (mgf1 alg maskedDb n)
  let db := xorBytes maskedDb (mgf1 alg seed maskedDb.length)
  let rest := (db.drop n).dropWhile (· == 0)
  if natAt em 0 == 0 && db.take n == hashOf alg label && rest.head? == some 1 then some (rest.drop 1) else none

/-! ### Keys and exponentiation -/

/-- The width K of a size class's fields (Table 8.3). -/
def rsaWidth (kind : Nat) : Nat := [256, 384, 512].getD (kind - 0x38) 0

/-- n of a private key's content. -/
def rsaModulus (kind : Nat) (content : Bytes) : Nat := beAt content 8 (rsaWidth kind)

/-- Field j of a private key's content after n: p, q, dP, dQ, qInv (Table 8.3). -/
def rsaField (kind : Nat) (content : Bytes) (j : Nat) : Nat :=
  let k := rsaWidth kind
  beAt content (8 + k + j * (k / 2)) (k / 2)

/-- e of a private key's content. -/
def rsaExponent (content : Bytes) : Nat := beAt content 4 4

/-- The private operation on x (R172, R174): base blinding by r, the halves with their blinded exponents, and Garner's recombination. -/
def rsaPrivate (kind : Nat) (content : Bytes) (x r r1 r2 : Nat) : Nat :=
  let f := rsaField kind content
  let p := f 0
  let q := f 1
  let n := p * q
  let bits := 8 * rsaWidth kind + 64
  let y := x * powMod n 32 r (rsaExponent content) % n
  let half (m d b v : Nat) : Nat := powMod m bits (v % m) (d + b % 2 ^ 64 * (m - 1))
  let garner (a b : Nat) : Nat := b + q * residue p (f 4 * ((a : Int) - b))
  let s := garner (half p (f 2) r1 y) (half q (f 3) r2 y)
  s * garner (powMod p bits (r % p) (p - 2)) (powMod q bits (r % q) (q - 2)) % n

end Sys2Proof.Machine
end

