-- ==== Sys2Proof/Machine/Entropy.lean ====
section
/-!
DEFINITION. Jitter pairs, conditioner, mask-feed channels, DRBG instances and random-word FIFOs (chapter 7): the shared
operations, and the commands that need nothing of boot.
-/
namespace Sys2Proof.Machine
open Sys2Proof

/-! ### Shared operations -/

/-- The state with jitter pair n changed. -/
def State.modPair (s : State) (n : Nat) (f : Pair → Pair) : State :=
  s.modRng fun r => { r with pairs := r.pairs.modify n f }

/-- The state with DRBG instance i changed. -/
def State.modDrbg (s : State) (i : Nat) (f : Drbg → Drbg) : State :=
  s.modRng fun r => { r with drbgs := r.drbgs.modify i f }

/-- Pairs in service. -/
def Rng.count (r : Rng) : Nat := (r.pairs.filter (·.inService)).length

/-- The floor of R194: 0 acts as 1, and 9 to 15 act as 8 (Table 7.7). -/
def State.minPairs (s : State) : Nat := clamp 1 8 (field (s.reg Reg.rngCtrl) 3 0)

/-- Instance i. -/
def State.drbg (s : State) (i : Nat) : Drbg := s.rng.drbgs.getD i {}

/-- Instance i serves: it is instantiated, not stopped, gating has ended and no fault is in force (R189, R192, R195). -/
def State.drbgServes (s : State) (i : Nat) : Bool :=
  (s.drbg i).live && !(s.drbg i).stopped && s.rng.ready && !s.rng.fault

/-- Class C admission of host operations is held (R87, R192, R195). -/
def State.classCHeld (s : State) : Bool := !s.rng.ready || s.rng.fault

/-- The mask-feed channel of an engine (R75). -/
def Engine.channel (e : Engine) : Nat := 16 + 4 * e.group + e.maskCh

/-- A channel serves the engine that an operation holds or waits on. -/
def State.channelOf (s : State) (c : Nat) (o : CombOp) : Bool := match o.engine with
  | some e => s.engineIs e fun g => g.channel == c
  | none => false

/-- A channel serves an engine that runs or awaits a Comb job of R33 (R195). -/
def State.servesOwnJob (s : State) (c : Nat) : Bool := s.comb.ops.any fun o => o.own && s.channelOf c o

/-- A channel serves an engine that runs a Comb job of R33 (R185). -/
def State.runsOwnJob (s : State) (c : Nat) : Bool := s.comb.ops.any fun o => o.own && o.stage.running && s.channelOf c o

/-- A channel runs: those of the pipelines stop in P2 and keep their state, those of a cell group have power with it (R199). -/
def State.maskPowered (s : State) (c : Nat) : Bool := if c < 16 then s.pwr.state != 2 else s.groupOn ((c - 16) / 4)

/-- All four channels of a cell group hold a seed (R199). -/
def State.groupSeeded (s : State) (g : Nat) : Bool := (List.range 4).all fun i => (s.rng.chans.getD (16 + 4 * g + i) {}).seeded

/-- A channel asks for a seed (R185, R190); in ENTROPY_FAULT only those of R195 receive any. -/
def State.wantsSeed (s : State) (c : Nat) : Bool :=
  let m := s.rng.chans.getD c {}
  decide (c < 64) && s.maskPowered c && (!m.seeded || decide (m.queue.length < m.fill)) &&
    (!s.rng.fault || decide (c < 16) || s.servesOwnJob c)

/-- A requester of a conditioned block. -/
inductive Requester where
  | chan (c : Nat)
  | inst (i : Nat)
  deriving DecidableEq, Repr

/-- The candidate with the least key, the earlier on ties. -/
def leastBy (key : Nat → Nat) : List Nat → Option Nat
  | [] => none
  | a :: l => match leastBy key l with
    | some b => if key b < key a then some b else some a
    | none => some a

/-- The first requester in the order of R190. Channels 0 to 15 whose queue is not empty rank with channels 16 to 63. -/
def State.nextRequester (s : State) : Option Requester :=
  let qlen (c : Nat) : Nat := (s.rng.chans.getD c {}).queue.length
  let due (i : Nat) : Bool := (s.drbg i).live && (s.drbg i).reseedDue && !s.rng.fault
  let order (i : Nat) : Nat := (s.drbg i).dueOrder
  let wants := (List.range 64).filter s.wantsSeed
  match wants.find? fun c => decide (c < 16) && qlen c == 0 with
  | some c => some (.chan c)
  | none => match leastBy qlen wants with
    | some c => some (.chan c)
    | none => match leastBy order ((List.range 2).filter due) with
      | some i => some (.inst i)
      | none => match leastBy order ([2, 3].filter due) with
        | some i => some (.inst i)
        | none => none

/-- A channel takes a seed into its state (R185): bits [126:0] are XORed in, bit 127 is discarded, an all-zero state takes
bit 0. -/
def MaskChan.absorb (m : MaskChan) (seed : Bytes) : MaskChan :=
  let x := m.state ^^^ BitVec.ofNat 127 (leNat seed)
  { m with state := if x = 0 then 1 else x, seeded := true, hold := false, stopped := false }

/-- A seed is delivered to a channel: a stopped or unseeded channel takes it at once, any other queues it (R185). -/
def State.giveSeed (s : State) (c : Nat) (seed : Bytes) : State :=
  let m := s.rng.chans.getD c {}
  if m.stopped ∨ m.seeded = false then
    (s.modMask c (·.absorb seed)).modReg Reg.rngReseedCount (· + (if m.stopped then 1 else 0))
  else s.modMask c fun m => { m with queue := m.queue ++ [seed] }

/-- The personalisation string of an instance (R188). -/
def State.personalisation (s : State) (i : Nat) : Bytes :=
  toBE 8 s.lcs.otp.serial.toNat ++ [BitVec.ofNat 8 i]

/-- An instance takes its fresh block (R188, R189, R197); entries that asked for the reseed of instance 2 have had it. -/
def State.reseed (s : State) (i : Nat) (block : Bytes) : State :=
  let s := s.modDrbg i fun d =>
    { d with work := Config.std .drbgReseed 0 [d.work, block], calls := 0, reseedDue := false, stopped := false }
  if i = 2 then s.modRng fun r => { r with prDone := r.prDone ++ r.prWait, prWait := [] } else s

/-- A block goes to a requester: a channel takes half of it, and the other half goes to the next channel in the order. -/
def State.giveBlock (s : State) (q : Requester) (block : Bytes) : State := match q with
  | .inst i => s.reseed i block
  | .chan c =>
    let s := s.giveSeed c (block.take 16)
    match s.nextRequester with
    | some (.chan d) => s.giveSeed d (block.drop 16)
    | _ => s

/-- Blocks leave the buffer while anyone waits for one. -/
def allocate : Nat → State → State
  | 0, s => s
  | n + 1, s => match s.rng.buffer, s.nextRequester with
    | b :: bs, some q => allocate n ((s.modRng fun r => { r with buffer := bs }).giveBlock q b)
    | _, _ => s

/-- The buffered blocks are allocated; during gating none leaves it but by R192. -/
def State.allocateAll (s : State) : State :=
  if s.rng.ready then allocate s.rng.buffer.length s else s

/-- An instance asks for a reseed (R189). -/
def State.askReseed (s : State) (i : Nat) : State :=
  let d := s.drbg i
  if d.live ∧ d.reseedDue = false then
    ((s.modDrbg i fun d => { d with reseedDue := true, dueOrder := s.rng.dueSeq }).modRng fun r =>
      { r with dueSeq := r.dueSeq + 1 }).allocateAll
  else s

/-- One generate call of n bytes on instance i (R188, R189): at 2^20 calls it asks for a reseed, at 2^24 it stops. -/
def State.draw (s : State) (i n : Nat) : Bytes × State :=
  let d := s.drbg i
  let out := stdOut n .drbgOut n [d.work]
  let s := s.modDrbg i fun d => { d with
    work := Config.std .drbgNext n [d.work], calls := d.calls + 1, stopped := d.stopped || decide (2 ^ 24 ≤ d.calls + 1) }
  (out, if 2 ^ 20 ≤ d.calls + 1 then s.askReseed i else s)

/-- ENTROPY_FAULT begins or ends as the count of pairs stands to the floor (R194, R197). -/
def State.checkFault (s : State) : State :=
  let low := decide (s.rng.count < s.minPairs)
  if s.rng.armed && low && !s.rng.fault then
    ((s.modRng fun r => { r with fault := true }).logEvent 0x0602 s.rng.count 0).degradeBare
  else if s.rng.armed && !low && s.rng.fault then
    let s := s.modRng fun r => { r with fault := false }
    let s := (List.range 4).foldl (fun s i =>
      if (s.drbg i).live then
        (s.modDrbg i fun d => { d with
          reseedDue := true, stopped := true, dueOrder := if d.reseedDue then d.dueOrder else s.rng.dueSeq }).modRng fun r =>
            { r with dueSeq := r.dueSeq + 1 }
      else s) s
    s.allocateAll
  else s

/-- The floor governs from now on (R193). -/
def State.armEntropy (s : State) : State := (s.modRng fun r => { r with armed := true }).checkFault

/-- The conditions of R192, the floor waived under R193. -/
def State.gatingMet (s : State) : Bool :=
  let r := s.rng
  r.running && r.pairs.all (·.starting.isNone) && decide (1 ≤ r.count) &&
    (r.waived || decide (s.minPairs ≤ r.count)) && decide (r.startBlocks = 40)

/-- Start-up gating ends once its conditions hold (R192, R193). At a cold boot the floor governs only from the end of
step 7. -/
def State.tryReady (s : State) : State :=
  if s.rng.ready = false ∧ s.gatingMet = true then
    let cold := s.rng.start == some StartKind.cold
    let s := s.modRng fun r => { r with ready := true, start := none, waived := false }
    let s := if cold then s else s.armEntropy
    s.allocateAll
  else s

/-- A block of the first 40 goes to its place (R192): two channels per block, then the instances in turn. -/
def State.startBlock (s : State) (block : Bytes) : State :=
  let k := s.rng.startBlocks
  let s := s.modRng fun r => { r with startBlocks := k + 1 }
  if k < 32 then
    (s.modMask (2 * k) (·.absorb (block.take 16))).modMask (2 * k + 1) (·.absorb (block.drop 16))
  else
    let i := (k - 32) / 2
    if (k - 32) % 2 = 0 then s.modDrbg i fun d => { d with half := block }
    else s.modDrbg i fun d => { d with
      live := true, work := Config.std .drbgNew i [d.half ++ block, s.personalisation i], half := [], calls := 0,
      reseedDue := false, stopped := false }

/-- A new block is delivered (R190, R192): while the buffer is full it is discarded. -/
def State.deliver (s : State) (block : Bytes) : State :=
  if s.rng.ready = false ∧ s.rng.startBlocks < 40 then (s.startBlock block).tryReady
  else if s.rng.buffer.length < 16 then
    (s.modRng fun r => { r with buffer := r.buffer ++ [block] }).allocateAll
  else s

/-- SHA3-256 of a byte string, by its code of Table 5.3. -/
def sha3_256 (bs : Bytes) : Bytes := stdOut 32 .hash 4 [bs]

/-- The bytes that raw bits spell, bit 0 of byte 0 first (R200). -/
def bitBytes : Nat → List Bool → Bytes
  | 0, _ => []
  | n + 1, bs => BitVec.ofNat 8 ((bs.take 8).foldr (fun b k => b2n b + 2 * k) 0) :: bitBytes n (bs.drop 8)

/-- One sample through the two tests of Table 7.1: the pair after it, and whether each test reached its cutoff (R181). -/
def Pair.test (p : Pair) (bit : Bool) : Pair × Bool × Bool :=
  let run := if p.lastBit = some bit then p.run + 1 else 1
  let first := if p.aptPos = 0 then bit else p.aptFirst
  let n := if p.aptPos = 0 then 1 else p.aptCount + b2n (bit == first)
  ({ p with lastBit := some bit, run := run, aptFirst := first, aptCount := n, aptPos := (p.aptPos + 1) % 1024 },
    decide (61 ≤ run), decide (812 ≤ n))

/-- A sample of a start-up test through the two tests: the pair, and which test fails the start-up test by it for the first time (R191). -/
def Pair.startTest (p : Pair) (n : Nat) (bit : Bool) : Pair × Bool × Bool :=
  let t := p.test bit
  ({ t.1 with
      starting := some (n + 1), suFailed := p.suFailed || t.2.1 || t.2.2, suRct := p.suRct || t.2.1, suApt := p.suApt || t.2.2 },
    t.2.1 && !p.suRct, t.2.2 && !p.suApt)

/-- A health-test failure is counted (Table 7.7). -/
def State.countHealth (s : State) (rct apt : Bool) : State :=
  s.modReg Reg.rngHealthFails fun w =>
    let w := if rct then setField w 15 0 (satAdd 0xFFFF (field w 15 0) 1) else w
    if apt then setField w 31 16 (satAdd 0xFFFF (field w 31 16) 1) else w

/-- A pair in service fails a test (R182). -/
def State.pairFails (s : State) (n : Nat) (rct apt : Bool) : State :=
  let s := s.modPair n fun p => { p with inService := false }
  let s := s.raise Reg.rngPairState (bit32 (16 + n + if rct then 0 else 8))
  let s := if rct && apt then s.raise Reg.rngPairState (bit32 (24 + n)) else s
  let s := s.modRng fun r => { r with raw := [], buffer := [] }
  ((s.countHealth rct apt).logEvent 0x0601 n (if rct then 0 else 1)).checkFault

/-- A sample goes to the raw reads of its pair; one that has all it needs completes (R200). -/
def State.feedRaw (s : State) (n : Nat) (bit : Bool) : State :=
  let fed := s.rng.rawReads.map fun r => if r.pair = n then { r with bits := r.bits ++ [bit] } else r
  let full := fed.filter fun r => decide (r.need ≤ r.bits.length)
  let s := s.modRng fun r => { r with rawReads := fed.filter fun r => !decide (r.need ≤ r.bits.length) }
  full.foldl (fun s r => s.complete r.slot St.ok 0 (bitBytes (r.need / 8) r.bits)) s

/-- A start-up test of a pair begins (R191). -/
def State.startPair (s : State) (n : Nat) : State :=
  s.modPair n fun _ => { starting := some 0 }

/-- The entropy source starts, its state lost (R191, R199). -/
def State.startEntropy (s : State) (why : StartKind) : State :=
  s.modRng fun r => { r with
    running := true, pairs := List.replicate 8 { starting := some 0 }, raw := [], buffer := [],
    chans := List.replicate 64 {}, drbgs := List.replicate 4 {}, ready := false, fault := false, armed := false,
    start := some why, round := 1, waived := false, startBlocks := 0 }

/-- The entropy source stops and loses its state (P3, R199). -/
def State.stopEntropy (s : State) : State :=
  s.modRng fun r => { r with
    running := false, pairs := List.replicate 8 {}, raw := [], buffer := [], chans := List.replicate 64 {},
    drbgs := List.replicate 4 {}, ready := false, fault := false, armed := false, start := none, startBlocks := 0 }

/-! ### Commands -/

/-- PAIR_SAMPLE: a raw bit of a pair (R179 to R182, R191). A pair in service is tested and, unless a raw read samples it, its
bit goes to the conditioner; a pair in a start-up test discards 1,024 samples and tests 1,024; a pair out of service is tested while a raw read
samples it (R200), and a test that reaches its cutoff there is counted. -/
def execPairSample (pair : Nat) (bit : Bool) (s : State) : Answer :=
  answer s <| match s.rng.pairs[pair]? with
  | none => s
  | some p =>
    if s.rng.running = false then s
    else
      let reading := s.rng.rawReads.any fun r => r.pair == pair
      let s := s.feedRaw pair bit
      match p.starting with
      | some n =>
        if n < 1024 then s.modPair pair fun p => { p with starting := some (n + 1) }
        else if n < 2048 then
          let t := p.startTest n bit
          (s.modPair pair fun _ => t.1).countHealth t.2.1 t.2.2
        else s
      | none =>
        if p.inService then
          let t := p.test bit
          let s := s.modPair pair fun _ => t.1
          if t.2.1 || t.2.2 then s.pairFails pair t.2.1 t.2.2
          else if reading then s
          else s.modRng fun r => { r with raw := r.raw ++ [bit] }
        else if reading then
          let t := p.test bit
          (s.modPair pair fun _ => t.1).countHealth (t.1.run == 61) (t.1.aptCount == 812 && bit == t.1.aptFirst)
        else s

/-- CHANNEL_RESEED: a channel at a reseed point takes the next queued seed; with none it enters HOLD or stops (R185). -/
def execChannelReseed (channel : Nat) (s : State) : Answer :=
  answer s <| match s.rng.chans[channel]? with
  | none => s
  | some m =>
    if m.seeded = false ∨ m.stopped = true ∨ s.maskPowered channel = false then s
    else
      let m := { m with words := m.words - reseedWords, state := lfsrJump reseedSteps m.state }
      match m.queue with
      | seed :: rest =>
        (((s.modMask channel fun _ => { m with queue := rest }.absorb seed).modReg Reg.rngReseedCount (· + 1))).allocateAll
      | [] =>
        if channel < 16 ∨ s.runsOwnJob channel = true then
          (s.modMask channel fun _ => { m with hold := true }).count Reg.rngHoldCount
        else (s.modMask channel fun _ => { m with stopped := true }).count Reg.rngStopCount

/-- DRBG_RESEED_DUE (R189). -/
def execDrbgReseedDue (inst : Nat) (s : State) : Answer := answer s (s.askReseed inst)

/-- DRBG_STOP: an instance without a reseed for its limit stops serving (R189). -/
def execDrbgStop (inst : Nat) (s : State) : Answer :=
  answer s <|
    if (s.drbg inst).live ∧ (s.drbg inst).reseedDue then s.modDrbg inst fun d => { d with stopped := true } else s

/-- MIN_PAIRS_WRITE: a write of RNG.CTRL (R194). -/
def execMinPairsWrite (value : W32) (s : State) : Answer := answer s (s.regWrite Reg.rngCtrl (s.plainWrite Reg.rngCtrl value).checkFault)

/-- A function's FIFO has room for four words. -/
def State.fifoRoom (s : State) (f : Nat) : Bool := s.funcPresent f && decide ((s.func f).fifo.length ≤ 12)

/-- RNG_FIFO_REFILL: instance 3 delivers four words to the next function in the round robin with room (R198). -/
def execRngFifoRefill (s : State) : Answer :=
  answer s <|
    let last := s.rng.lastServed
    match (List.range 256).find? fun i => s.fifoRoom ((last + 1 + i) % 256) with
    | some i =>
      if s.drbgServes 3 then
        let f := (last + 1 + i) % 256
        let d := s.draw 3 16
        let words := (List.range 4).map fun j => BitVec.ofNat 32 (leAt d.1 (4 * j) 4)
        let s := d.2.setFunc f { d.2.func f with fifo := (d.2.func f).fifo ++ words }
        s.modRng fun r => { r with lastServed := f }
      else s
    | none => s

/-- A read of a random word from a function's FIFO, or an underrun that sets its flags (R198). -/
def State.readWord (s : State) (f status : Nat) : State := match (s.func f).fifo with
  | w :: ws =>
    if s.drbgServes 3 then (s.setFunc f { s.func f with fifo := ws }).emit (.readData w)
    else (s.raise status (if s.rng.fault then 3 else 1)).emit (.readData 0)
  | [] => (s.raise status (if s.rng.fault then 3 else 1)).emit (.readData 0)

/-- RNG_DATA_READ (R198). -/
def execRngDataRead (s : State) : Answer := answer s (s.regRead Reg.rngData (s.readWord 0 Reg.rngDataStatus))

/-- VF_RNG_DATA_READ (R198); before BOOT_DONE and in P3 its block is powered down (R20, R64, R498). -/
def execVfRngDataRead (func : Nat) (s : State) : Answer :=
  answer s <|
    if func = 0 ∨ s.funcPresent func = false then s
    else s.regRead (Reg.vfRngData + 0x10000 * func) (s.readWord func (Reg.vfRngStatus + 0x10000 * func))

/-! ### Entries -/

/-- The entry of a slot has passed its earlier checks and waits for entropy. -/
def State.waitEntropy (s : State) (slot : Nat) : State := match s.track slot with
  | some t => s.setTrack slot (some { t with step8 := true })
  | none => s

/-- The entropy step of an entry that draws on instance i (R138, R189, R195): in ENTROPY_FAULT it completes, while gating lasts
or the instance has stopped it waits, and otherwise `k` runs. -/
def State.entropyStep (s : State) (slot i : Nat) (k : State) : State :=
  if s.rng.fault then (s.forgetUnit slot).fail slot (St.entropyFault, 0x60)
  else if s.drbgServes i then k
  else s.waitEntropy slot

/-- The checks that the three entropy commands share (R200, R201). -/
def rngChecks (t : Track) (zero range : Bool) (outLen : Nat) : List (Option (Nat × Nat)) :=
  let e := t.entry
  [chk zero St.badParam 0, chk (e.msgLen == 0 && e.keySlot == noSlot) St.badParam 0x41, chk range St.badParam 0x40, t.dmaFail,
   chk (decide (outLen ≤ e.outCap)) St.badLength 0x41]

/-- RNG_GENERATE: LEN bytes from instance 2, which PR = 1 reseeds first (R200, R201). -/
def execRngGenerate (slot : Nat) (s : State) : Answer :=
  answer s <| s.onEntry slot 0x400 0x400 fun t =>
    let e := t.entry
    let len := e.pLE 40 4
    let pr := decide (e.p8 44 = 1)
    s.checked slot (rngChecks t (e.zeroFrom 45 55 && decide (e.p8 44 ≤ 1)) (within len 1 65536) len)
      (if s.rng.fault then (s.forgetUnit slot).fail slot (St.entropyFault, 0x60)
       else if pr ∧ !s.rng.prDone.contains slot ∧ s.rng.ready = true then
         if s.rng.prWait.contains slot then s.waitEntropy slot
         else ((s.waitEntropy slot).modRng fun r => { r with prWait := r.prWait ++ [slot] }).askReseed 2
       else s.entropyStep slot 2
         (let d := s.draw 2 len
          (d.2.modRng fun r => { r with prDone := r.prDone.filter (· != slot) }).complete slot St.ok 0 d.1))

/-- RNG_RAW_READ: the pair's next LEN × 8 samples (R200). -/
def execRngRawRead (slot : Nat) (s : State) : Answer :=
  answer s <| s.onEntry slot 0x401 0x401 fun t =>
    let e := t.entry
    let len := e.pLE 40 4
    s.checked slot (rngChecks t (e.zeroFrom 45 55) (within len 1 4096 && decide (e.p8 44 ≤ 7)) len)
      ((s.busy slot).modRng fun r => { r with rawReads := r.rawReads ++ [⟨slot, e.p8 44, 8 * len, []⟩] })

/-- RNG_PAIR_RESTORE: a start-up test of a pair that is out of service; a running test is waited for (R201). -/
def execRngPairRestore (slot : Nat) (s : State) : Answer :=
  answer s <| s.onEntry slot 0x402 0x402 fun t =>
    let e := t.entry
    let n := e.p8 44
    s.checked slot (rngChecks t (e.zeroFrom 40 43 && e.zeroFrom 45 55) (decide (n ≤ 7)) 0)
      (let p := s.rng.pairs.getD n {}
       if p.inService then s.complete slot St.ok 0 []
       else
         let s := if p.starting.isSome then s else s.startPair n
         (s.busy slot).modRng fun r => { r with restores := r.restores ++ [{ slot := slot, pair := n }] })

end Sys2Proof.Machine
end

