-- ==== Sys2Proof/Machine/Slots.lean ====
section
/-!
DEFINITION. Slots of the key store as commands name them (chapter 8): kinds and usage (Tables 8.1, 8.2), the checks on source
keys and destinations (R208, R210, R217, R218), what a commit writes, and a failed integrity check (R227).
-/
namespace Sys2Proof.Machine
open Sys2Proof

/-! ### Kinds -/

/-- The content length of a KIND, CLEN given (Table 8.2). -/
def contentLen (kind clen : Nat) : Nat :=
  if kind = 0x01 then 16 else if kind = 0x02 then 32 else if kind = 0x03 then clen
  else if within kind 0x10 0x12 then 64 else if within kind 0x14 0x16 then 32
  else if within kind 0x18 0x1B then 64 else if within kind 0x1C 0x1F then 96
  else if kind = 0x20 ∨ within kind 0x24 0x26 = true then 64
  else if kind = 0x30 then 96 else if kind = 0x31 then 144 else if kind = 0x32 then 198
  else if kind = 0x34 then 64 else if kind = 0x35 then 114 else if kind = 0x36 then 64 else if kind = 0x37 then 112
  else if kind = 0x38 then 904 else if kind = 0x39 then 1352 else if kind = 0x3A then 1800
  else 0

/-- Usage bits of the attribute word (Table 8.1). -/
abbrev Usage.sign : Nat := 12
/-- DECAPS. -/
abbrev Usage.decaps : Nat := 13
/-- AGREE. -/
abbrev Usage.agree : Nat := 14
/-- DERIVE. -/
abbrev Usage.derive : Nat := 15
/-- WRAP. -/
abbrev Usage.wrap : Nat := 16
/-- UNWRAP. -/
abbrev Usage.unwrap : Nat := 17
/-- HMAC. -/
abbrev Usage.hmac : Nat := 18
/-- KMAC. -/
abbrev Usage.kmac : Nat := 19
/-- CIPHER. -/
abbrev Usage.cipher : Nat := 20
/-- SA. -/
abbrev Usage.sa : Nat := 21
/-- EXPORT. -/
abbrev Usage.export_ : Nat := 22

/-- The usage bits that a KIND permits; none for a KIND that Table 8.2 does not list in a template. -/
def permittedUsage (kind : Nat) : Option (List Nat) :=
  if kind = 0x00 then some []
  else if kind = 0x01 then some [20, 21, 22]
  else if kind = 0x02 then some [16, 17, 20, 21, 22]
  else if kind = 0x03 then some [15, 18, 19, 22]
  else if within kind 0x10 0x12 || within kind 0x24 0x26 then some [13, 22]
  else if within kind 0x14 0x16 || within kind 0x18 0x20 || within kind 0x34 0x35 then some [12, 22]
  else if within kind 0x30 0x32 then some [12, 14, 22]
  else if within kind 0x36 0x37 then some [14, 22]
  else if within kind 0x38 0x3A then some [12, 13, 22]
  else none

/-- The kind of an RSA size class 0, 1, 2. -/
def isRsa (kind : Nat) : Bool := within kind 0x38 0x3A

/-! ### Attribute words -/

/-- The template fields of an attribute word (Table 8.1). -/
abbrev templateMask : W64 := 0xFFFF0000FF7FFFF8

/-- A slot without its content: its template stays, and what every device slot has (R213, R227, R231). -/
def KeySlot.cleared (k : KeySlot) : KeySlot :=
  { attr := k.attr &&& if k.bit 2 then templateMask ||| 0x100000004 else templateMask }

/-- The attribute word after a commit: VALID, no claim, ORIGIN and TEST (Table 8.1). -/
def committedAttr (attr : W64) (origin : Nat) (test : Bool) : W64 :=
  (attr &&& templateMask) ||| BitVec.ofNat 64 (1 + 2 ^ 32 * origin + 2 ^ 34 * b2n test)

/-- A key commits into its destination run: the content, tr, VALID, ORIGIN and TEST; the claim ends and a tree descriptor is
cleared (R136, R153, R208). -/
def State.commitKey (s : State) (n : Nat) (content tr : Bytes) (origin : Nat) (test : Bool) : State :=
  let s := s.modRun n fun k => { attr := committedAttr k.attr origin test }
  s.setSlot n { s.slot n with content := content, tr := tr }

/-- A shared secret commits into its slot: CLEN becomes its length (R217). -/
def State.commitSecret (s : State) (n : Nat) (secret : Bytes) (test : Bool) : State :=
  let s := s.commitKey n secret [] 1 test
  let k := s.slot n
  s.setSlot n { k with attr := (k.attr &&& ~~~0xFF000000) ||| BitVec.ofNat 64 (secret.length % 256 * 2 ^ 24) }

/-! ### Checks -/

/-- A slot lies in a function's own range (R210). -/
def State.inRange (s : State) (f n : Nat) : Bool :=
  decide (16 ≤ n) && decide ((s.func f).keyBase ≤ n) && decide (n < (s.func f).keyBase + (s.func f).keyCount)

/-- A slot lies open to a function (step 3 of Table 8.9): KEY_POLICY 0x70 or 0x76. `device` says which device slots the
command opens to PF0 (Table 8.4); `len` is the length of the run that starts there. -/
def State.openSlot (s : State) (f n : Nat) (device : Nat → Bool) (len : Nat) : Option (Nat × Nat) :=
  if n < 16 then chk (f == 0 && device n) St.keyPolicy 0x70
  else if s.inRange f n = false then some (St.keyPolicy, 0x70)
  else chk ((s.slot n).kind != 0x3F && decide (n + len ≤ 4096) && s.inRange f (n + len - 1)) St.keyPolicy 0x76

/-- No device slot. -/
def noDevice : Nat → Bool := fun _ => false

/-- The content, claim, usage and kind of a source key (step 4 of Table 8.9, R214, R218); `usageExt` is 0x71, or 0x73 for the
key that KEY_WRAP wraps. -/
def State.sourceState (s : State) (n usage usageExt : Nat) (kindOk : Nat → Bool) : Option (Nat × Nat) :=
  let k := s.slot n
  if n < 16 ∧ k.valid = false then some (St.keyEmpty, 0x72)
  else if k.claimed then some (St.keyEmpty, 0x71)
  else if k.valid = false then some (St.keyEmpty, 0x70)
  else if k.bit usage = false then some (St.keyPolicy, usageExt)
  else chk (kindOk k.kind) St.keyPolicy 0x50

/-- The checks on a source key that a command names: open to its function, then its state. -/
def State.sourceKey (s : State) (f n usage : Nat) (device kindOk : Nat → Bool) : List (Option (Nat × Nat)) :=
  [s.openSlot f n device (runLength (s.slot n).kind), s.sourceState n usage 0x71 kindOk]

/-- The state of a destination (R217): it holds a key, is claimed or not prepared, or is prepared with another kind. -/
def State.destState (s : State) (n : Nat) (kindOk : Nat → Bool) : Option (Nat × Nat) :=
  let k := s.slot n
  if k.valid ∨ k.claimed ∨ k.kind = 0 then some (St.keyPolicy, 0x72)
  else chk (kindOk k.kind) St.keyPolicy 0x50

/-- The checks on a destination slot. -/
def State.destKey (s : State) (f n : Nat) (kindOk : Nat → Bool) : List (Option (Nat × Nat)) :=
  [s.openSlot f n noDevice (runLength (s.slot n).kind), s.destState n kindOk]

/-- A key fails its integrity check when read: a slot of its run no longer matches its code (R227, R208). -/
def State.slotBad (s : State) (n : Nat) : Bool := (List.range (runLength (s.slot n).kind)).any fun i => (s.slot (n + i)).bad

/-- Slot n loses its key while LMS operations run under it. They go on, with the key's counter and tree descriptor, which move out of the slot:
to a number that leaves n modulo 4,096 and that no other key of theirs has (R136, R154; log entry 89). -/
def State.orphanTree (s : State) (n : Nat) : State :=
  if s.comb.ops.any (CombOp.usesTree n) then
    let m := ((List.range (s.comb.ops.length + 1)).map fun j => n + 4096 * (j + 1)).find? fun m => !s.comb.ops.any (CombOp.usesTree m)
    let m := m.getD n
    let s := s.setSlot m (s.slot n)
    { s with comb := { s.comb with ops := s.comb.ops.map fun o => if o.usesTree n then { o with keySlot := m } else o } }
  else s

/-- A slot fails its integrity check when read (R227): the content of its run is cleared and its template kept (R208), the event is counted,
and a DEGRADE-class alarm is raised; a device slot waits to be derived again. `tag` is the TAG of the entry that read it (R266). -/
def State.integrityFail (s : State) (n : Nat) (tag : Nat := 0) : State :=
  let s := (s.orphanTree n).modRun n KeySlot.cleared
  let s := if n < 16 then { s with kst := { s.kst with rederive := s.kst.rederive ++ [n] } } else s
  ((s.raise Reg.kstErrStatus 1).count Reg.kstIntegrityCount).degrade St.faultDetected 0x70 0xFFFF tag

/-- The slots are read by the entry of a tracker slot: the first whose check fails ends the entry (R227), and otherwise `k`
runs. -/
def State.readSlots (s : State) (slot : Nat) (ns : List Nat) (k : State) : State :=
  match ns.find? fun n => s.slotBad n with
  | some n => (s.integrityFail n (s.tagOf slot)).fail slot (St.faultDetected, 0x70)
  | none => k

/-- A slot that the device itself reads: one whose check fails is cleared and reported, and it then holds no key (R227). -/
def State.readOwn (s : State) (n : Nat) : State := if s.slotBad n then s.integrityFail n else s

end Sys2Proof.Machine
end

