-- ==== Sys2Proof/Machine/Admit.lean ====
section
/-!
DEFINITION. The admission of a public-key operation (R132 to R138, R165 to R170): the engine check (R80, R128), the parameter
layouts of Tables 5.2 and 6.2, and the operation that an entry becomes.
-/
namespace Sys2Proof.Machine
open Sys2Proof

/-- The engine kind of an opcode (Table 3.2). -/
def engineKind (op : Nat) : Nat :=
  if op / 256 = 1 then 0 else if op / 256 = 3 then 3 else if 0x240 ≤ op then 2 else 1

/-- The program of an opcode in the stores of its kind (R113). -/
def State.program (s : State) (op : Nat) : Option Program :=
  s.comb.programs.find? fun p => p.kind == engineKind op && p.opcode == op

/-- G of the grid in force, in ns (R93). -/
def State.gridNs (s : State) : Nat := 250 * (s.comb.gridSteps + 1)

/-- D(op) from a cycle count and the longest instruction: ⌈(P + 4L) × 0.9375 ns ÷ G⌉ × G (R94). -/
def State.dop (s : State) (p l : Nat) : Nat := ((p + 4 * l) * 15 + 16 * s.gridNs - 1) / (16 * s.gridNs) * s.gridNs

/-- Steps of R80 and R128: an engine of the kind exists, one of them is neither FENCED nor GATED, the kind has a microcode
section, and its directory lists the opcode. -/
def State.engineCheck (s : State) (op : Nat) : Option (Nat × Nat) :=
  let kind := engineKind op
  let es := s.comb.engines.filter fun e => e.kind == kind
  if es = [] then some (St.engineUnavailable, 1)
  else if es.all fun e => e.fenced || s.gated e then some (St.engineUnavailable, 2)
  else if bitOf s.comb.kindLoaded kind = false then some (St.engineUnavailable, 3)
  else chk (s.program op).isSome St.badOpcode 0

/-- The operation that an entry of opcode `op` becomes when the program of `prog` runs it. -/
def State.mkOp (s : State) (slot : Nat) (t : Track) (prog : Nat) : CombOp :=
  let p := s.program prog
  { id := slot, src := .host slot, func := t.func, entryOp := t.entry.opcode, opcode := prog, kind := engineKind prog,
    classC := match p with | some p => p.classC | none => true
    iterating := match p with | some p => p.iterating | none => false
    iterMax := match p with | some p => p.iterMax | none => 0
    waitFrom := s.free
    prio := t.entry.prio, order := t.order, input := t.input, params := t.entry.params, keySlot := t.entry.keySlot }

/-- An operation is admitted (R136): its entry is in the Comb's hands, its destination is claimed, and it waits for the
forager. -/
def State.startOp (s : State) (slot : Nat) (o : CombOp) : State :=
  let s := match o.dest with
    | some n => s.claim n
    | none => s
  (s.busy slot).setOps (s.comb.ops ++ [o])

/-- The operation with the private key of slot n taken into it (R136). -/
def CombOp.withKey (o : CombOp) (k : KeySlot) : CombOp := { o with key := k.content, tr := k.tr, test := k.test }

/-! ### Parameter layouts -/

/-- SS_DEST of the KEM layout (Table 5.2). -/
def WorkEntry.ssDest (e : WorkEntry) : Nat := e.p8 40
/-- SS_SLOT of the KEM layout. -/
def WorkEntry.ssSlot (e : WorkEntry) : Nat := e.pLE 44 4
/-- The KEM layout's reserved bytes are zero. -/
def WorkEntry.kemZero (e : WorkEntry) : Bool := e.zeroFrom 41 43 && e.zeroFrom 48 55
/-- The KEM layout's values. -/
def WorkEntry.kemOk (e : WorkEntry) : Bool := decide (e.ssDest ≤ 1) && (e.ssDest == 1 || e.ssSlot == 0)
/-- The slot that SS_DEST = 1 names. -/
def WorkEntry.ssTarget (e : WorkEntry) : Option Nat := if e.ssDest = 1 then some e.ssSlot else none

/-- MODE of the SIG layout. -/
def WorkEntry.mode (e : WorkEntry) : Nat := e.p8 40
/-- DET. -/
def WorkEntry.det (e : WorkEntry) : Bool := bitOf e.mode 0
/-- PREHASH. -/
def WorkEntry.prehash (e : WorkEntry) : Bool := bitOf e.mode 1
/-- CTX_LEN. -/
def WorkEntry.ctxLen (e : WorkEntry) : Nat := e.p8 41
/-- PH_ALG. -/
def WorkEntry.phAlg (e : WorkEntry) : Nat := e.p8 42
/-- The SIG layout's reserved bits are zero; MODE bit 0 is one of them where `det` is false. -/
def WorkEntry.sigZero (e : WorkEntry) (det : Bool) : Bool :=
  decide (e.mode < 4) && (det || !e.det) && e.zeroFrom 43 55
/-- PH_ALG is non-zero exactly when PREHASH = 1, and one of Table 5.3. -/
def WorkEntry.sigOk (e : WorkEntry) : Bool := if e.prehash then within e.phAlg 1 8 else e.phAlg == 0

/-- A slot number, not NO_SLOT (step 4 of Table 5.7). -/
def isSlot (n : Nat) : Bool := decide (n < 4096)

/-- KEY_SLOT is NO_SLOT. -/
def WorkEntry.noKey (e : WorkEntry) : Option (Nat × Nat) := chk (e.keySlot == noSlot) St.badParam 0x41
/-- KEY_SLOT is a slot. -/
def WorkEntry.aSlot (e : WorkEntry) : Option (Nat × Nat) := chk (isSlot e.keySlot) St.badParam 0x41
/-- SS_SLOT is a slot where it is used. -/
def ssIsSlot (target : Option Nat) : Option (Nat × Nat) := chk (match target with | some n => isSlot n | none => true) St.badParam 0x41

/-- The checks on an SS_SLOT: prepared as SECRET (R217). -/
def State.ssChecks (s : State) (f : Nat) (target : Option Nat) : List (Option (Nat × Nat)) := match target with
  | some n => s.destKey f n (· == 0x03)
  | none => []

/-- MSG_LEN agrees with the fixed parts. -/
def WorkEntry.lenIs (e : WorkEntry) (n : Nat) : Option (Nat × Nat) := chk (e.msgLen == n) St.badLength 0x40
/-- MSG_LEN holds at least the fixed parts. -/
def WorkEntry.lenAtLeast (e : WorkEntry) (n : Nat) : Option (Nat × Nat) := chk (decide (n ≤ e.msgLen)) St.badLength 0x40
/-- OUT_CAP holds the output. -/
def WorkEntry.outHolds (e : WorkEntry) (n : Nat) : Option (Nat × Nat) := chk (decide (n ≤ e.outCap)) St.badLength 0x41

/-- Steps 1 to 6 of Table 5.7 for an entry: reserved fields, engine, parameter values, slot fields, slots, lengths. -/
def State.combChecks (s : State) (t : Track) (prog : Nat) (zero params : Bool) (fields slots lens : List (Option (Nat × Nat))) :
    List (Option (Nat × Nat)) :=
  [chk zero St.badParam 0, s.engineCheck prog, chk params St.badParam 0x40] ++ fields ++ slots ++ [t.dmaFail] ++ lens

/-- An entry that generates a key: KEY_SLOT is its destination, its input is empty (R134, R141). -/
def State.keygenOp (s : State) (slot : Nat) (t : Track) (kind outLen : Nat) (zero params : Bool)
    (more : List (Option (Nat × Nat))) : State :=
  let e := t.entry
  s.checked slot (s.combChecks t e.opcode zero params (more ++ [e.aSlot]) (s.destKey t.func e.keySlot (· == kind))
      [e.lenIs 0, e.outHolds outLen])
    (s.startOp slot { s.mkOp slot t e.opcode with drbg := true, dest := some e.keySlot })

/-- An entry that encapsulates to a public key (R142, R159). -/
def State.encapsOp (s : State) (slot : Nat) (t : Track) (keyLen ctLen ssLen : Nat) : State :=
  let e := t.entry
  s.checked slot (s.combChecks t e.opcode e.kemZero e.kemOk [e.noKey, ssIsSlot e.ssTarget] (s.ssChecks t.func e.ssTarget)
      [e.lenIs keyLen, e.outHolds (ctLen + if e.ssDest = 0 then ssLen else 0)])
    (s.startOp slot { s.mkOp slot t e.opcode with hasPrefix := true, drbg := true, dest := e.ssTarget })

/-- An entry whose private key makes a shared secret (R143, R159, R172). -/
def State.secretOp (s : State) (slot : Nat) (t : Track) (usage kind inLen ssLen : Nat) (pre : Bool) : State :=
  let e := t.entry
  s.checked slot (s.combChecks t e.opcode e.kemZero e.kemOk [e.aSlot, ssIsSlot e.ssTarget]
      (s.sourceKey t.func e.keySlot usage noDevice (· == kind) ++ s.ssChecks t.func e.ssTarget)
      [e.lenIs inLen, e.outHolds (if e.ssDest = 0 then ssLen else 0)])
    (s.readSlots slot [e.keySlot]
      (s.startOp slot ({ s.mkOp slot t e.opcode with hasPrefix := pre, dest := e.ssTarget }.withKey (s.slot e.keySlot))))

/-- An entry that signs under a slot's key. -/
def State.signOp (s : State) (slot : Nat) (t : Track) (kind : Nat) (zero params : Bool) (lens : List (Option (Nat × Nat)))
    (pre drbg : Bool) : State :=
  let e := t.entry
  s.checked slot (s.combChecks t e.opcode zero params [e.aSlot]
      (s.sourceKey t.func e.keySlot Usage.sign noDevice (· == kind)) lens)
    (s.readSlots slot [e.keySlot]
      (s.startOp slot ({ s.mkOp slot t e.opcode with hasPrefix := pre, drbg := drbg }.withKey (s.slot e.keySlot))))

/-- An entry that verifies or encrypts with public input alone. -/
def State.publicOp (s : State) (slot : Nat) (t : Track) (zero params : Bool) (lens : List (Option (Nat × Nat)))
    (pre drbg : Bool) : State :=
  let e := t.entry
  s.checked slot (s.combChecks t e.opcode zero params [e.noKey] [] lens)
    (s.startOp slot { s.mkOp slot t e.opcode with hasPrefix := pre, drbg := drbg })

end Sys2Proof.Machine
end

