-- ==== Sys2Proof/Machine/Pqc.lean ====
section
/-!
DEFINITION. The post-quantum commands (chapter 5): their lengths, their checks up to admission, and the operations that they
hand to the Comb. LMS signing and tree building stand in Lms.lean.
-/
namespace Sys2Proof.Machine
open Sys2Proof

/-! ### Lengths (Table 5.6), by set number from 0 -/

/-- ML-KEM encapsulation-key length. -/
def mlkemEk (i : Nat) : Nat := [800, 1184, 1568].getD i 0
/-- ML-KEM ciphertext length. -/
def mlkemCt (i : Nat) : Nat := [768, 1088, 1568].getD i 0
/-- ML-DSA public-key length. -/
def mldsaPk (i : Nat) : Nat := [1312, 1952, 2592].getD i 0
/-- ML-DSA signature length. -/
def mldsaSig (i : Nat) : Nat := [2420, 3309, 4627].getD i 0
/-- n of an SLH-DSA set (Table 5.4). -/
def slhN (i : Nat) : Nat := if i < 4 then 16 else if i < 8 then 24 else 32
/-- SLH-DSA signature length of a set. -/
def slhSig (i : Nat) : Nat := [7856, 17088, 16224, 35664, 29792, 49856].getD (i / 2) 0
/-- HQC encapsulation-key length. -/
def hqcEk (i : Nat) : Nat := [2249, 4522, 7245].getD i 0
/-- HQC ciphertext length. -/
def hqcCt (i : Nat) : Nat := [4433, 8978, 14421].getD i 0

/-- The length checks of context, then message or digest, after `base` bytes of other parts (R134, R145). -/
def WorkEntry.msgLens (e : WorkEntry) (base : Nat) : List (Option (Nat × Nat)) :=
  [e.lenAtLeast (base + e.ctxLen),
   if e.prehash then e.lenIs (base + e.ctxLen + digestLen e.phAlg) else none]

/-- Context and message are absorbed as 16,384 bytes; a longer input is refused (R140, R170). -/
def WorkEntry.absorbed (e : WorkEntry) : Option (Nat × Nat) := chk (decide (e.msgLen ≤ 16384)) St.badLength 0x42

/-! ### ML-KEM -/

/-- MLKEM_KEYGEN (R141). -/
def execMlkemKeygen (slot : Nat) (s : State) : Answer :=
  answer s <| s.onEntry slot 0x100 0x102 fun t =>
    let i := t.entry.opcode - 0x100
    s.keygenOp slot t (0x10 + i) (mlkemEk i) (t.entry.zeroFrom 40 55) true []

/-- MLKEM_ENCAPS (R142). -/
def execMlkemEncaps (slot : Nat) (s : State) : Answer :=
  answer s <| s.onEntry slot 0x104 0x106 fun t =>
    let i := t.entry.opcode - 0x104
    s.encapsOp slot t (mlkemEk i) (mlkemCt i) 32

/-- MLKEM_DECAPS (R143). -/
def execMlkemDecaps (slot : Nat) (s : State) : Answer :=
  answer s <| s.onEntry slot 0x108 0x10A fun t =>
    let i := t.entry.opcode - 0x108
    s.secretOp slot t Usage.decaps (0x10 + i) (mlkemCt i) 32 false

/-! ### ML-DSA -/

/-- MLDSA_KEYGEN (R144). -/
def execMldsaKeygen (slot : Nat) (s : State) : Answer :=
  answer s <| s.onEntry slot 0x110 0x112 fun t =>
    let i := t.entry.opcode - 0x110
    s.keygenOp slot t (0x14 + i) (mldsaPk i) (t.entry.zeroFrom 40 55) true []

/-- MLDSA_SIGN: a DRBG user only when hedged (R145). -/
def execMldsaSign (slot : Nat) (s : State) : Answer :=
  answer s <| s.onEntry slot 0x114 0x116 fun t =>
    let i := t.entry.opcode - 0x114
    s.signOp slot t (0x14 + i) (t.entry.sigZero true) t.entry.sigOk
      (t.entry.msgLens 0 ++ [t.entry.outHolds (mldsaSig i)]) true (!t.entry.det)

/-- MLDSA_VERIFY (R147). -/
def execMldsaVerify (slot : Nat) (s : State) : Answer :=
  answer s <| s.onEntry slot 0x118 0x11A fun t =>
    let i := t.entry.opcode - 0x118
    s.publicOp slot t (t.entry.sigZero false) t.entry.sigOk (t.entry.msgLens (mldsaPk i + mldsaSig i)) false false

/-! ### SLH-DSA -/

/-- SLHDSA_KEYGEN (R148). -/
def execSlhdsaKeygen (slot : Nat) (s : State) : Answer :=
  answer s <| s.onEntry slot 0x200 0x207 fun t =>
    let i := t.entry.opcode - 0x200
    s.keygenOp slot t (0x18 + i) (2 * slhN i) (t.entry.zeroFrom 40 55) true []

/-- SLHDSA_SIGN (R149, R140). -/
def execSlhdsaSign (slot : Nat) (s : State) : Answer :=
  answer s <| s.onEntry slot 0x210 0x217 fun t =>
    let i := t.entry.opcode - 0x210
    s.signOp slot t (0x18 + i) (t.entry.sigZero true) t.entry.sigOk
      (t.entry.msgLens 0 ++ [t.entry.absorbed, t.entry.outHolds (slhSig i)]) false (!t.entry.det)

/-- SLHDSA_VERIFY (R150). -/
def execSlhdsaVerify (slot : Nat) (s : State) : Answer :=
  answer s <| s.onEntry slot 0x220 0x22B fun t =>
    let i := t.entry.opcode - 0x220
    s.publicOp slot t (t.entry.sigZero false) t.entry.sigOk (t.entry.msgLens (2 * slhN i + slhSig i)) false false

/-! ### LMS and HSS -/

/-- LMS_KEYGEN: types H5 to H20 and W1 to W8 alone (R151). -/
def execLmsKeygen (slot : Nat) (s : State) : Answer :=
  answer s <| s.onEntry slot 0x230 0x230 fun t =>
    let e := t.entry
    s.keygenOp slot t 0x20 0 (e.zeroFrom 48 55) true
      [chk (within (e.pLE 40 4) 0xA 0xD && within (e.pLE 44 4) 5 8) St.badParam 0x42]

/-- Hash length m and height H of an LMS type code (SP 800-208, RFC 8554). -/
def lmsType (code : Nat) : Option (Nat × Nat) :=
  if within code 0x05 0x09 then some (32, 5 * (code - 0x04))
  else if within code 0x0A 0x0E then some (24, 5 * (code - 0x09))
  else if within code 0x0F 0x13 then some (32, 5 * (code - 0x0E))
  else if within code 0x14 0x18 then some (24, 5 * (code - 0x13))
  else none

/-- Hash length n and chain count p of an LM-OTS type code (SP 800-208, RFC 8554). -/
def otsType (code : Nat) : Option (Nat × Nat) :=
  if within code 0x01 0x10 then
    let w := (code - 1) % 4
    if (code - 1) / 4 % 2 = 0 then some (32, [265, 133, 67, 34].getD w 0) else some (24, [200, 101, 51, 26].getD w 0)
  else none

/-- The public-key length that its type code gives; 0 where the code is unknown. -/
def lmsPkLen (code : Nat) : Nat := match lmsType code with
  | some (m, _) => 24 + m
  | none => 0

/-- LMS_VERIFY (R158): the input holds at least the public key and SIG_LEN. -/
def execLmsVerify (slot : Nat) (s : State) : Answer :=
  answer s <| s.onEntry slot 0x23C 0x23C fun t =>
    let e := t.entry
    s.publicOp slot t (e.zeroFrom 40 43 && e.zeroFrom 48 55) true
      [e.lenAtLeast (lmsPkLen (beAt t.input 0 4) + e.pLE 44 4)] false false

/-- HSS_VERIFY (R158). -/
def execHssVerify (slot : Nat) (s : State) : Answer :=
  answer s <| s.onEntry slot 0x23D 0x23D fun t =>
    let e := t.entry
    s.publicOp slot t (e.zeroFrom 40 43 && e.zeroFrom 48 55) true
      [e.lenAtLeast (4 + lmsPkLen (beAt t.input 4 4) + e.pLE 44 4)] false false

/-! ### HQC -/

/-- HQC_KEYGEN (R159). -/
def execHqcKeygen (slot : Nat) (s : State) : Answer :=
  answer s <| s.onEntry slot 0x240 0x242 fun t =>
    let i := t.entry.opcode - 0x240
    s.keygenOp slot t (0x24 + i) (hqcEk i) (t.entry.zeroFrom 40 55) true []

/-- HQC_ENCAPS (R159). -/
def execHqcEncaps (slot : Nat) (s : State) : Answer :=
  answer s <| s.onEntry slot 0x244 0x246 fun t =>
    let i := t.entry.opcode - 0x244
    s.encapsOp slot t (hqcEk i) (hqcCt i) 64

/-- HQC_DECAPS (R159). -/
def execHqcDecaps (slot : Nat) (s : State) : Answer :=
  answer s <| s.onEntry slot 0x248 0x24A fun t =>
    let i := t.entry.opcode - 0x248
    s.secretOp slot t Usage.decaps (0x24 + i) (hqcCt i) 64 false

end Sys2Proof.Machine
end

