-- ==== Sys2Proof/Machine/Classical.lean ====
section
/-!
DEFINITION. The classical public-key commands (chapter 6): their lengths, parameter layouts and checks up to admission.
-/
namespace Sys2Proof.Machine
open Sys2Proof

/-- EC_KEYGEN (R172). -/
def execEcKeygen (slot : Nat) (s : State) : Answer :=
  answer s <| s.onEntry slot 0x300 0x302 fun t =>
    let i := t.entry.opcode - 0x300
    s.keygenOp slot t (0x30 + i) (2 * ecLen i) (t.entry.zeroFrom 40 55) true []

/-- A digest of 32 to 64 bytes after `base` bytes of other parts (R169). -/
def WorkEntry.digestAfter (e : WorkEntry) (base : Nat) : Option (Nat × Nat) :=
  chk (within e.msgLen (base + 32) (base + 64)) St.badLength 0x40

/-- ECDSA_SIGN (R172). -/
def execEcdsaSign (slot : Nat) (s : State) : Answer :=
  answer s <| s.onEntry slot 0x304 0x306 fun t =>
    let i := t.entry.opcode - 0x304
    s.signOp slot t (0x30 + i) (t.entry.zeroFrom 40 55) true
      [t.entry.digestAfter 0, t.entry.outHolds (2 * ecLen i)] false true

/-- ECDSA_VERIFY (R172). -/
def execEcdsaVerify (slot : Nat) (s : State) : Answer :=
  answer s <| s.onEntry slot 0x308 0x30A fun t =>
    let i := t.entry.opcode - 0x308
    s.publicOp slot t (t.entry.zeroFrom 40 55) true [t.entry.digestAfter (4 * ecLen i)] false false

/-- ECDH (R172). -/
def execEcdh (slot : Nat) (s : State) : Answer :=
  answer s <| s.onEntry slot 0x30C 0x30E fun t =>
    let i := t.entry.opcode - 0x30C
    s.secretOp slot t Usage.agree (0x30 + i) (2 * ecLen i) (ecLen i) true

/-- ED_KEYGEN (R172). -/
def execEdKeygen (slot : Nat) (s : State) : Answer :=
  answer s <| s.onEntry slot 0x310 0x311 fun t =>
    let i := t.entry.opcode - 0x310
    s.keygenOp slot t (0x34 + i) (edPk i) (t.entry.zeroFrom 40 55) true []

/-- The SIG layout's values for curve i (R167, R168): PH_ALG is 0x03 for Ed25519ph and 0x08 for Ed448ph, and pure Ed25519
takes no context. -/
def WorkEntry.edOk (e : WorkEntry) (i : Nat) : Bool :=
  if e.prehash then e.phAlg == (if i = 0 then 3 else 8) else e.phAlg == 0 && (i != 0 || e.ctxLen == 0)

/-- ED_SIGN (R170, R172). -/
def execEdSign (slot : Nat) (s : State) : Answer :=
  answer s <| s.onEntry slot 0x312 0x313 fun t =>
    let e := t.entry
    let i := e.opcode - 0x312
    s.signOp slot t (0x34 + i) (e.sigZero false) (e.edOk i)
      (e.msgLens 0 ++ [if e.prehash then none else e.absorbed, e.outHolds (2 * edPk i)]) false false

/-- ED_VERIFY (R172). -/
def execEdVerify (slot : Nat) (s : State) : Answer :=
  answer s <| s.onEntry slot 0x314 0x315 fun t =>
    let e := t.entry
    let i := e.opcode - 0x314
    s.publicOp slot t (e.sigZero false) (e.edOk i) (e.msgLens (3 * edPk i)) false false

/-- XDH_KEYGEN (R172). -/
def execXdhKeygen (slot : Nat) (s : State) : Answer :=
  answer s <| s.onEntry slot 0x318 0x319 fun t =>
    let i := t.entry.opcode - 0x318
    s.keygenOp slot t (0x36 + i) (xdhLen i) (t.entry.zeroFrom 40 55) true []

/-- XDH (R172). -/
def execXdh (slot : Nat) (s : State) : Answer :=
  answer s <| s.onEntry slot 0x31A 0x31B fun t =>
    let i := t.entry.opcode - 0x31A
    s.secretOp slot t Usage.agree (0x36 + i) (xdhLen i) (xdhLen i) false

/-! ### RSA (Table 6.2) -/

/-- PAD. -/
def WorkEntry.pad (e : WorkEntry) : Nat := e.p8 40
/-- SALT_LEN. -/
def WorkEntry.saltLen (e : WorkEntry) : Nat := e.p8 41
/-- MOD_BITS. -/
def WorkEntry.modBits (e : WorkEntry) : Nat := e.pLE 44 2
/-- LABEL_LEN. -/
def WorkEntry.labelLen (e : WorkEntry) : Nat := e.pLE 48 4

/-- A modulus length lies in size class i and is a multiple of 256 (R166, R168). -/
def modBitsOk (i bits : Nat) : Bool :=
  bits % 256 == 0 && within bits ([2048, 2304, 3328].getD i 0) ([2048, 3072, 4096].getD i 0)

/-- The values of the RSA layout: the paddings permitted, the salt, the hash, the modulus length (0 for a private-key command)
and the label. -/
def WorkEntry.rsaOk (e : WorkEntry) (pads : List Nat) (mod : Option Nat) : Bool :=
  pads.contains e.pad && within e.phAlg 1 6 &&
    (if e.pad = 0 then decide (e.saltLen ≤ digestLen e.phAlg) else e.saltLen == 0) &&
    (match mod with | some i => modBitsOk i e.modBits | none => e.modBits == 0) &&
    (if e.pad = 2 then decide (e.labelLen ≤ 16384) else e.labelLen == 0)

/-- The RSA layout's reserved bytes, SS_DEST and SS_SLOT apart. -/
def WorkEntry.rsaZero (e : WorkEntry) : Bool := e.zeroFrom 43 43 && e.zeroFrom 46 47

/-- MOD_BITS of a slot's RSA key (Table 8.3). -/
def KeySlot.rsaBits (k : KeySlot) : Nat := leAt k.content 0 2

/-- RSA_SIGN: a DRBG user only for PSS with a salt (R172). -/
def execRsaSign (slot : Nat) (s : State) : Answer :=
  answer s <| s.onEntry slot 0x320 0x322 fun t =>
    let e := t.entry
    s.signOp slot t (0x38 + (e.opcode - 0x320)) (e.rsaZero && e.zeroFrom 52 55) (e.rsaOk [0, 1] none)
      [e.lenIs (digestLen e.phAlg), e.outHolds ((s.slot e.keySlot).rsaBits / 8)] false (e.pad == 0 && e.saltLen != 0)

/-- RSA_VERIFY (R172). -/
def execRsaVerify (slot : Nat) (s : State) : Answer :=
  answer s <| s.onEntry slot 0x324 0x326 fun t =>
    let e := t.entry
    s.publicOp slot t (e.rsaZero && e.zeroFrom 52 55) (e.rsaOk [0, 1] (some (e.opcode - 0x324)))
      [e.lenIs (2 * (e.modBits / 8) + 4 + digestLen e.phAlg)] false false

/-- The longest OAEP message under a modulus of k bytes (R170). -/
def oaepMax (k alg : Nat) : Nat := k - 2 * digestLen alg - 2

/-- RSA_OAEP_DECRYPT: SS_DEST and SS_SLOT stand in bytes 52 to 55 (R167). The message's length is secret
until release, and OUT_CAP is held against it there. -/
def execRsaOaepDecrypt (slot : Nat) (s : State) : Answer :=
  answer s <| s.onEntry slot 0x328 0x32A fun t =>
    let e := t.entry
    let dest := e.p8 52
    let target := if dest = 1 then some (e.pLE 53 3) else none
    let k := (s.slot e.keySlot).rsaBits / 8
    s.checked slot (s.combChecks t e.opcode e.rsaZero
        (e.rsaOk [2] none && decide (dest ≤ 1) && (dest == 1 || e.pLE 53 3 == 0)) [e.aSlot, ssIsSlot target]
        (s.sourceKey t.func e.keySlot Usage.decaps noDevice (· == 0x38 + (e.opcode - 0x328)) ++ s.ssChecks t.func target)
        [e.lenIs (k + e.labelLen)])
      (s.readSlots slot [e.keySlot]
        (s.startOp slot ({ s.mkOp slot t e.opcode with hasPrefix := true, dest := target }.withKey (s.slot e.keySlot))))

/-- RSA_OAEP_ENCRYPT: the message is what n, e and label leave of the input, at most k − 2 hLen − 2 bytes (R170). -/
def execRsaOaepEncrypt (slot : Nat) (s : State) : Answer :=
  answer s <| s.onEntry slot 0x32C 0x32E fun t =>
    let e := t.entry
    let k := e.modBits / 8
    s.publicOp slot t (e.rsaZero && e.zeroFrom 52 55) (e.rsaOk [2] (some (e.opcode - 0x32C)))
      [e.lenAtLeast (k + 4 + e.labelLen), e.outHolds k] true true

end Sys2Proof.Machine
end

