-- ==== Sys2Proof/Machine/Results.lean ====
section
/-!
DEFINITION. What a public-key operation yields: the public prefix's checks (R139), the verdict of a class P program (R147, R150,
R158, R172, R173), and the result of a class C body (R141 to R159, R172). The curve and parameter constants are those of the
standards that the spec names (log entry 24).
-/
namespace Sys2Proof.Machine
open Sys2Proof

/-- Parameter byte n of the operation's entry. -/
def CombOp.p8 (o : CombOp) (n : Nat) : Nat := natAt o.params (n - 40)
/-- The little-endian parameter of `len` bytes at entry byte n. -/
def CombOp.pLE (o : CombOp) (n len : Nat) : Nat := leAt o.params (n - 40) len

/-! ### Lattice and code checks -/

/-- Every 12-bit coefficient that the bytes hold is below q = 3,329 (R142). -/
def coeffsOk : Bytes → Bool
  | a :: b :: c :: rest =>
    decide (a.toNat + 256 * (b.toNat % 16) < 3329) && decide (b.toNat / 16 + 16 * c.toNat < 3329) && coeffsOk rest
  | _ => true

/-- The padding bits of an HQC encapsulation key are zero (R159). -/
def hqcPaddingOk (i : Nat) (key : Bytes) : Bool :=
  natAt key (hqcEk i - 1) / 2 ^ ([17669, 35851, 57637].getD i 0 % 8) == 0

/-- k, l, ω, log₂ γ1, β and the length of c̃ of an ML-DSA set (FIPS 204). -/
def mldsaParams (i : Nat) : Nat × Nat × Nat × Nat × Nat × Nat :=
  if i = 0 then (4, 4, 80, 17, 78, 32) else if i = 1 then (6, 5, 55, 19, 196, 48) else (8, 7, 75, 19, 120, 64)

/-- Bytes strictly increase. -/
def increasing : Bytes → Bool
  | a :: b :: l => decide (a.toNat < b.toNat) && increasing (b :: l)
  | _ => true

/-- The hint encoding is well formed (R147): count bytes, given from the i-th on, neither fall nor exceed ω, the indices of each
polynomial strictly increase, and the bytes past the last index are zero. -/
def hintOk (omega : Nat) (idx : Bytes) : Bytes → Nat → Bool
  | [], used => allZero (idx.drop used)
  | c :: cs, used =>
    decide (used ≤ c.toNat) && decide (c.toNat ≤ omega) && increasing (slice idx used (c.toNat - used)) &&
      hintOk omega idx cs c.toNat

/-- ‖z‖∞ < γ1 − β (R147). -/
def zInBound (i : Nat) (z : Bytes) : Bool :=
  let (_, l, _, g, beta, _) := mldsaParams i
  let bits := g + 1
  (List.range (256 * l)).all fun j =>
    let v := leNat (slice z (j * bits / 8) 4) / 2 ^ (j * bits % 8) % 2 ^ bits
    decide (beta < v) && decide (v < 2 ^ (g + 1) - beta)

/-- The parts of a signature entry's input after `base` bytes: context, then message or digest. -/
def CombOp.ctxMsg (o : CombOp) (base : Nat) : List Bytes :=
  let rest := o.input.drop base
  [[BitVec.ofNat 8 (o.p8 40), BitVec.ofNat 8 (o.p8 42)], rest.take (o.p8 41), rest.drop (o.p8 41)]

/-- The verdict of ML-DSA verification (R147). -/
def CombOp.mldsaVerdict (o : CombOp) (i : Nat) : Nat × Nat :=
  let (_, l, omega, g, _, c) := mldsaParams i
  let pk := o.input.take (mldsaPk i)
  let sig := slice o.input (mldsaPk i) (mldsaSig i)
  let zLen := 32 * (g + 1) * l
  let hint := sig.drop (c + zLen)
  if hintOk omega (hint.take omega) (hint.drop omega) 0 = false then (St.verifyFail, 0x41)
  else if zInBound i (slice sig c zLen) = false then (St.verifyFail, 0x42)
  else if Config.stdHolds .mldsaVerify i ([pk, sig] ++ o.ctxMsg (mldsaPk i + mldsaSig i)) then (St.ok, 0)
  else (St.verifyFail, 0x40)

/-- The verdict of SLH-DSA verification (R150). -/
def CombOp.slhVerdict (o : CombOp) (i : Nat) : Nat × Nat :=
  let pk := 2 * slhN i
  if Config.stdHolds .slhdsaVerify i ([o.input.take pk, slice o.input pk (slhSig i)] ++ o.ctxMsg (pk + slhSig i)) then (St.ok, 0)
  else (St.verifyFail, 0x40)

/-! ### LMS and HSS (R158) -/

/-- What one LMS level shows: whether the types are known and agree, the signature's length, and whether q is below 2^H. -/
structure LmsLevel where
  types : Bool
  len : Nat
  qOk : Bool
  deriving DecidableEq, Repr

/-- One LMS signature under a public key. -/
def lmsLevel (pk sig : Bytes) : LmsLevel :=
  match lmsType (beAt pk 0 4), otsType (beAt pk 4 4) with
  | some (m, h), some (n, p) =>
    let ots := 4 + n * (p + 1)
    { types := beAt sig 4 4 == beAt pk 4 4 && beAt sig (4 + ots) 4 == beAt pk 0 4
      len := 4 + ots + 4 + m * h
      qOk := decide (beAt sig 0 4 < 2 ^ h) }
  | _, _ => ⟨false, 0, false⟩

/-- The levels of an HSS signature from a public key down: `n` signed public keys are still to come. -/
def hssLevels : Nat → Bytes → Bytes → LmsLevel
  | 0, pk, sig => lmsLevel pk sig
  | n + 1, pk, sig =>
    let a := lmsLevel pk sig
    if a.types = false then a
    else
      let next := sig.drop a.len
      let k := lmsPkLen (beAt next 0 4)
      let b := hssLevels n (next.take k) (next.drop k)
      ⟨b.types, a.len + k + b.len, a.qOk && b.qOk⟩

/-- The verdict over levels: types, length, leaf number, root. -/
def lmsVerdict (l : LmsLevel) (len sigLen : Nat) (root : Bool) : Nat × Nat :=
  if l.types = false then (St.verifyFail, 0x43)
  else if sigLen ≠ len then (St.verifyFail, 0x44)
  else if l.qOk = false then (St.verifyFail, 0x45)
  else if root then (St.ok, 0) else (St.verifyFail, 0x40)

/-- LMS_VERIFY. -/
def CombOp.lmsVerdict (o : CombOp) : Nat × Nat :=
  let k := lmsPkLen (beAt o.input 0 4)
  let pk := o.input.take k
  let sig := slice o.input k (o.pLE 44 4)
  let l := lmsLevel pk sig
  Machine.lmsVerdict l l.len (o.pLE 44 4) (Config.stdHolds .lmsVerify 0 [pk, sig, o.input.drop (k + o.pLE 44 4)])

/-- HSS_VERIFY: L from 1 to 8 levels, and L − 1 signed public keys. -/
def CombOp.hssVerdict (o : CombOp) : Nat × Nat :=
  let k := 4 + lmsPkLen (beAt o.input 4 4)
  let pk := o.input.take k
  let sig := slice o.input k (o.pLE 44 4)
  let levels := beAt pk 0 4
  let ok := within levels 1 8 && beAt sig 0 4 + 1 == levels
  let l := hssLevels (levels - 1) (pk.drop 4) (sig.drop 4)
  Machine.lmsVerdict { l with types := ok && l.types } (4 + l.len) (o.pLE 44 4)
    (Config.stdHolds .hssVerify 0 [pk, sig, o.input.drop (k + o.pLE 44 4)])

/-! ### Curves -/

/-- The checks on a peer's point x ‖ y (Table 6.5): coordinates, the all-zero encoding, the curve equation. -/
def pointFail (i : Nat) (pt : Bytes) : Option (Nat × Nat) :=
  let p := ecPrime i
  let x := beAt pt 0 (ecLen i)
  let y := beAt pt (ecLen i) (ecLen i)
  if p ≤ x ∨ p ≤ y then some (St.notOnCurve, 0x50)
  else if x = 0 ∧ y = 0 then some (St.notOnCurve, 0x52)
  else chk ((y * y + 3 * x) % p == (x * x * x + ecB i) % p) St.notOnCurve 0x51

/-- The verdict of ECDSA verification (Table 6.5). -/
def CombOp.ecdsaVerdict (o : CombOp) (i : Nat) : Nat × Nat :=
  let n := ecLen i
  let pt := o.input.take (2 * n)
  let r := beAt o.input (2 * n) n
  let v := beAt o.input (3 * n) n
  if r = 0 ∨ ecOrder i ≤ r ∨ v = 0 ∨ ecOrder i ≤ v then (St.verifyFail, 0x50)
  else match pointFail i pt with
    | some e => e
    | none =>
      if ecdsaHolds i (ecDecode i pt) r v (o.input.drop (4 * n)) then (St.ok, 0)
      else (St.verifyFail, 0x40)

/-- The domain separation string of an EdDSA entry, and its message or digest, after `base` bytes of input (R169). -/
def CombOp.edParts (o : CombOp) (base : Nat) : Bytes × Bytes :=
  let rest := o.input.drop base
  (edDom (o.opcode % 2) (bitOf (o.p8 40) 1) (rest.take (o.p8 41)), rest.drop (o.p8 41))

/-- The verdict of EdDSA verification (Table 6.5). -/
def CombOp.edVerdict (o : CombOp) (i : Nat) : Nat × Nat :=
  let n := edPk i
  let a := o.input.take n
  let r := slice o.input n n
  let v := slice o.input (2 * n) n
  if edOrder i ≤ leNat v then (St.verifyFail, 0x50)
  else match edDecode i a, edDecode i r with
    | some pa, some pr =>
      let m := o.edParts (3 * n)
      if edHolds i pa pr a r (leNat v) m.1 m.2 then (St.ok, 0) else (St.verifyFail, 0x40)
    | _, _ => (St.verifyFail, 0x50)

/-! ### RSA -/

/-- n and e of a public key are ones that R172 accepts. -/
def rsaPublicOk (bits n e : Nat) : Bool :=
  n % 2 == 1 && decide (2 ^ (bits - 1) ≤ n) && decide (n < 2 ^ bits) && e % 2 == 1 && within e 3 0xFFFFFFFF

/-- The verdict of RSA verification (Table 6.5). -/
def CombOp.rsaVerdict (o : CombOp) : Nat × Nat :=
  let bits := o.pLE 44 2
  let k := bits / 8
  let n := beAt o.input 0 k
  let e := beAt o.input k 4
  let v := beAt o.input (k + 4) k
  if n ≤ v then (St.outOfRange, 0x50)
  else if rsaPublicOk bits n e = false then (St.outOfRange, 0x51)
  else if emsaHolds (o.p8 40) k (o.p8 42) (o.p8 41) (o.input.drop (2 * k + 4)) (toBE k (powMod n 32 v e)) then (St.ok, 0)
  else (St.verifyFail, 0x40)

/-- The consistency of an RSA private key (R222). -/
def rsaConsistent (kind : Nat) (content : Bytes) : Bool :=
  let f := rsaField kind content
  let p := f 0
  let q := f 1
  let e := rsaExponent content
  decide (1 < p) && decide (1 < q) && rsaModulus kind content == p * q && e * f 2 % (p - 1) == 1 % (p - 1) &&
    e * f 3 % (q - 1) == 1 % (q - 1) && f 4 * q % p == 1 && modBitsOk (kind - 0x38) (leAt content 0 2)

/-! ### Prefix, verdict, body -/

/-- The failure that a public prefix finds, if any (R139, Table 6.5). -/
def CombOp.prefixFail (o : CombOp) : Option (Nat × Nat) :=
  let op := o.opcode
  if within op 0x104 0x106 then
    chk (coeffsOk (o.input.take (mlkemEk (op - 0x104) - 32))) St.outOfRange 0x40
  else if within op 0x244 0x246 then chk (hqcPaddingOk (op - 0x244) o.input) St.outOfRange 0x41
  else if within op 0x30C 0x30E then pointFail (op - 0x30C) o.input
  else if within op 0x328 0x32A then
    let kind := 0x38 + (op - 0x328)
    let c := beAt o.input 0 (leAt o.key 0 2 / 8)
    chk (decide (0 < c) && decide (c < rsaModulus kind o.key)) St.outOfRange 0x50
  else if within op 0x32C 0x32E then
    let bits := o.pLE 44 2
    let k := bits / 8
    if oaepMax k (o.p8 42) < o.input.length - k - 4 - o.pLE 48 4 then some (St.badLength, 0x43)
    else chk (rsaPublicOk bits (beAt o.input 0 k) (beAt o.input k 4)) St.outOfRange 0x51
  else none

/-- The verdict of a class P verification. -/
def CombOp.verdict (o : CombOp) : Nat × Nat :=
  let op := o.opcode
  if within op 0x118 0x11A then o.mldsaVerdict (op - 0x118)
  else if within op 0x220 0x22B then o.slhVerdict (op - 0x220)
  else if op = 0x23C then o.lmsVerdict
  else if op = 0x23D then o.hssVerdict
  else if within op 0x308 0x30A then o.ecdsaVerdict (op - 0x308)
  else if within op 0x314 0x315 then o.edVerdict (op - 0x314)
  else o.rsaVerdict

/-- The DRBG bytes that an operation draws (R141 to R159, R172). -/
def CombOp.drawLen (o : CombOp) : Nat :=
  let op := o.opcode
  if o.drbg = false then 0
  else if within op 0x100 0x102 then 64
  else if within op 0x104 0x106 || within op 0x110 0x112 || within op 0x114 0x116 then 32
  else if within op 0x200 0x207 then 3 * slhN (op - 0x200)
  else if within op 0x210 0x217 then slhN (op - 0x210)
  else if op = 0x230 then 40
  else if within op 0x238 0x23B then 24
  else if within op 0x240 0x242 then 64
  else if within op 0x244 0x246 then [16, 24, 32].getD (op - 0x244) 0
  else if within op 0x300 0x306 then [40, 56, 74].getD (op % 4) 0
  else if within op 0x310 0x311 then edPk (op - 0x310)
  else if within op 0x318 0x319 then xdhLen (op - 0x318)
  else if within op 0x320 0x322 then o.p8 41
  else if within op 0x32C 0x32E then digestLen (o.p8 42)
  else 0

/-- A P-curve scalar from drawn bits, by the extra-random-bits method (R172). -/
def ecScalar (i : Nat) (draw : Bytes) : Nat :=
  beNat draw % 2 ^ (ecBits i + 64) % (ecOrder i - 1) + 1

/-- Blinding value n of the run (R174). -/
def CombOp.blind (o : CombOp) (n : Nat) : Nat := (o.blinds.getD n 0).toNat

/-- A result without output whose secret goes to its slot, or with it as output. -/
def CombOp.secretOut (o : CombOp) (front secret : Bytes) : Outcome :=
  match o.dest with
  | some _ => { out := front, content := some secret }
  | none => { out := front ++ secret }

/-- The result of an LMS_KEYGEN: the slot content of Table 5.8 (R151). -/
def lmsContent (lms ots : Nat) (draw : Bytes) : Bytes := toBE 4 lms ++ toBE 4 ots ++ draw ++ zeros 16

/-- The consistency job of KEY_IMPORT and KEY_UNWRAP, and the tr job of ML-DSA seeds (R222, R223): `o.key` is the content. -/
def CombOp.jobOutcome (o : CombOp) : Outcome :=
  let op := o.opcode
  let judge (ok : Bool) (ext : Nat) : Outcome :=
    if ok then { content := some o.key } else { status := St.outOfRange, ext := ext }
  if within op 0x110 0x112 then
    let pk := stdOut (mldsaPk (op - 0x110)) .mldsaKeyGen (op - 0x110) [o.key]
    { content := some o.key, tr := stdOut 64 .hash 8 [pk] }
  else if within op 0x300 0x302 then 
    let i := op - 0x300
    judge (ecPublic i (beAt o.key 0 (ecLen i)) (o.blind 0) (o.blind 1) == o.key.drop (ecLen i)) 0x55
  else if within op 0x310 0x311 then 
    let i := op - 0x310
    judge (edPublic i (o.key.take (edPk i)) (o.blind 0) (o.blind 1) == o.key.drop (edPk i)) 0x55
  else if within op 0x318 0x319 then 
    let i := op - 0x318
    judge (xdhPublic i (o.key.take (xdhLen i)) (o.blind 0) == o.key.drop (xdhLen i)) 0x55
  else judge (rsaConsistent (0x38 + (op - 0x320)) o.key) 0x56

/-- The result of a class C body. -/
def CombOp.bodyOutcome (o : CombOp) : Outcome :=
  let op := o.opcode
  if o.entryOp / 256 = 5 then o.jobOutcome
  else if within op 0x100 0x102 then
    { out := stdOut (mlkemEk (op - 0x100)) .mlkemKeyGen (op - 0x100) [o.draw], content := some o.draw }
  else if within op 0x104 0x106 then
    let i := op - 0x104
    let r := stdOut (mlkemCt i + 32) .mlkemEncaps i [o.input, o.draw]
    o.secretOut (r.take (mlkemCt i)) (r.drop (mlkemCt i))
  else if within op 0x108 0x10A then
    o.secretOut [] (stdOut 32 .mlkemDecaps (op - 0x108) [o.key, o.input])
  else if within op 0x110 0x112 then
    let pk := stdOut (mldsaPk (op - 0x110)) .mldsaKeyGen (op - 0x110) [o.draw]
    { out := pk, content := some o.draw, tr := stdOut 64 .hash 8 [pk] }
  else if within op 0x114 0x116 then
    let rnd := if o.draw.isEmpty then zeros 32 else o.draw
    { out := stdOut (mldsaSig (op - 0x114)) .mldsaSign (op - 0x114) ([o.key, o.tr, rnd] ++ o.ctxMsg 0) }
  else if within op 0x200 0x207 then
    let i := op - 0x200
    let root := stdOut (slhN i) .slhdsaKeyGen i [o.draw]
    { out := o.draw.drop (2 * slhN i) ++ root, content := some (o.draw ++ root) }
  else if within op 0x210 0x217 then
    let i := op - 0x210
    let rand := if o.draw.isEmpty then slice o.key (2 * slhN i) (slhN i) else o.draw
    { out := stdOut (slhSig i) .slhdsaSign i ([o.key, rand] ++ o.ctxMsg 0) }
  else if op = 0x230 then { content := some (lmsContent (o.pLE 40 4) (o.pLE 44 4) o.draw) }
  else if within op 0x238 0x23B then
    let len := (lmsLevel (o.key.take 24) []).len
    { out := stdOut len .lmsSign 0 [o.key.take 48, toBE 4 (o.leaf.getD 0), o.draw, o.input] }
  else if within op 0x240 0x242 then
    { out := stdOut (hqcEk (op - 0x240)) .hqcKeyGen (op - 0x240) [o.draw], content := some o.draw }
  else if within op 0x244 0x246 then
    let i := op - 0x244
    let r := stdOut (hqcCt i + 64) .hqcEncaps i [o.input, o.draw]
    o.secretOut (r.take (hqcCt i)) (r.drop (hqcCt i))
  else if within op 0x248 0x24A then
    o.secretOut [] (stdOut 64 .hqcDecaps (op - 0x248) [o.key, o.input])
  else if within op 0x300 0x302 then
    let i := op - 0x300
    let d := ecScalar i o.draw
    let q := ecPublic i d (o.blind 0) (o.blind 1)
    { out := q, content := some (toBE (ecLen i) d ++ q) }
  else if within op 0x304 0x306 then
    let i := op - 0x304
    let sig := ecdsaPair i (beAt o.key 0 (ecLen i)) (ecScalar i o.draw) o.input (o.blind 0) (o.blind 1) (o.blind 2)
    if sig.1 = 0 ∨ sig.2 = 0 then { status := St.faultDetected, ext := 0x46 } else { out := ecEncode i sig }
  else if within op 0x30C 0x30E then
    let i := op - 0x30C
    let z := ecScale i (beAt o.key 0 (ecLen i)) (o.blind 0) (o.blind 1) (ecDecode i o.input)
    o.secretOut [] (toBE (ecLen i) z.1)
  else if within op 0x310 0x311 then
    let i := op - 0x310
    let a := edPublic i o.draw (o.blind 0) (o.blind 1)
    { out := a, content := some (o.draw ++ a) }
  else if within op 0x312 0x313 then
    let i := op - 0x312
    let m := o.edParts 0
    { out := edSignature i (o.key.take (edPk i)) (o.key.drop (edPk i)) m.1 m.2 (o.blind 0) (o.blind 1) }
  else if within op 0x318 0x319 then
    let i := op - 0x318
    let u := xdhPublic i o.draw (o.blind 0)
    { out := u, content := some (o.draw ++ u) }
  else if within op 0x31A 0x31B then
    let i := op - 0x31A
    let z := xdhMul i (xdhScalar i o.key) (xdhU i o.input) (o.blind 0)
    if allZero z then { status := St.outOfRange, ext := 0x53 } else o.secretOut [] z
  else if within op 0x320 0x322 then
    let k := leAt o.key 0 2 / 8
    let em := beNat (emsa (o.p8 40) k (o.p8 42) o.input o.draw)
    { out := toBE k (rsaPrivate (0x38 + (op - 0x320)) o.key em (o.blind 0 + 1) (o.blind 1) (o.blind 2)) }
  else if within op 0x328 0x32A then
    let k := leAt o.key 0 2 / 8
    let em := toBE k (rsaPrivate (0x38 + (op - 0x328)) o.key (beAt o.input 0 k) (o.blind 0 + 1) (o.blind 1) (o.blind 2))
    match oaepDecode k (o.p8 42) (slice o.input k (o.pLE 48 4)) em with
    | none => { status := St.verifyFail, ext := 0x51 }
    | some m => if o.dest.isSome ∧ within m.length 16 255 = false then { status := St.verifyFail, ext := 0x51 } else o.secretOut [] m
  else if within op 0x32C 0x32E then
    let k := o.pLE 44 2 / 8
    let rest := o.input.drop (k + 4)
    let n := rest.length - o.pLE 48 4
    let em := oaepEncode k (o.p8 42) o.draw (rest.drop n) (rest.take n)
    { out := toBE k (powMod (beAt o.input 0 k) 32 (beNat em) (beAt o.input k 4)) }
  else {}

/-- EXT_STATUS of a failed invariant (Tables 5.10 and 6.6). -/
def CombOp.invariantExt (o : CombOp) : Nat :=
  let op := o.opcode
  if within op 0x104 0x10A || within op 0x234 0x237 || within op 0x244 0x24A || within op 0x328 0x32E then 0x41
  else if within op 0x210 0x217 || within op 0x238 0x23B then 0x43
  else if within op 0x30C 0x30E then 0x44
  else if within op 0x31A 0x31B then 0x45
  else 0x40

/-- The passes of an iterating program: ML-DSA's as its rejection loop takes, SLH-DSA's hypertree layers (R146, R149). -/
def CombOp.passCount (o : CombOp) : Nat :=
  let op := o.opcode
  if within op 0x114 0x116 then max 1 (Config.stdCount .mldsaSign (op - 0x114) ([o.key, o.tr, o.draw] ++ o.ctxMsg 0))
  else if within op 0x210 0x217 then if (op - 0x210) / 2 % 2 = 0 then 7 else 22
  else 0

/-- The mask words of an operation, those of the loop for 16 passes (Table 7.2, R186). -/
def CombOp.maskWords (o : CombOp) (passes : Nat) : Nat :=
  let op := o.opcode
  if within op 0x100 0x102 then [1100, 1500, 2000].getD (op - 0x100) 0
  else if within op 0x104 0x106 then [1150, 1600, 2400].getD (op - 0x104) 0
  else if within op 0x108 0x10A then [1500, 2100, 3200].getD (op - 0x108) 0
  else if within op 0x110 0x112 then [2400, 3600, 5200].getD (op - 0x110) 0
  else if within op 0x114 0x116 then
    [1200, 1800, 2600].getD (op - 0x114) 0 + passes * [1300, 1840, 2900].getD (op - 0x114) 0
  else if within op 0x200 0x207 then [220000, 5000, 400000, 9000].getD ((op - 0x200) / 2) 0
  else if within op 0x210 0x217 then [1900000, 150000, 3400000, 260000].getD ((op - 0x210) / 2) 0
  else if op = 0x230 then 64
  else if within op 0x238 0x23B then [800, 1000, 2000, 12000].getD (op - 0x238) 0
  else if within op 0x240 0x242 then [1500, 3000, 5000].getD (op - 0x240) 0
  else if within op 0x244 0x246 then [2500, 5500, 10000].getD (op - 0x244) 0
  else if within op 0x248 0x24A then [4000, 8500, 15000].getD (op - 0x248) 0
  else if within op 0x300 0x30E then [600, 900, 1400].getD (op % 4) 0
  else if within op 0x310 0x31B then [500, 1000].getD (op % 2) 0
  else if within op 0x320 0x32A then [2000, 3000, 4000].getD (op % 4) 0
  else if within op 0x32C 0x32E then 200
  else 0

end Sys2Proof.Machine
end

