-- ==== Sys2Proof/Machine/Roots.lean ====
section
/-!
DEFINITION. The roots and the device slots (R41, R45, R212 to R216): what each slot holds in each life-cycle state.
-/
namespace Sys2Proof.Machine
open Sys2Proof

/-- The test root (R41). -/
def testRoot : Bytes := List.replicate 32 0x54

/-- The label in the check value of a DUK, and of an owner seed (R212). -/
abbrev dukLabel : String := "GY-DUKCV"
/-- That of an owner seed. -/
abbrev seedLabel : String := "GY-SEEDCV"

/-- The check value of a root: bytes 0–3 of SHA3-256 over the root and its label (R212). -/
def rootCheck (label : String) (root : Bytes) : Bytes := (sha3_256 (root ++ ascii label)).take 4

/-- A copy's check value holds. -/
def RootCopy.ok (label : String) (c : RootCopy) : Bool := c.check == rootCheck label c.bytes

/-- A copy as a burn leaves it, its check value holding or not. What bits a failed burn leaves is nature's; DESIGN CHOICE (log entry 82): such a copy
holds the root beside the complement of its check value. -/
def burntCopy (label : String) (root : Bytes) (good : Bool) : RootCopy :=
  ⟨root, if good then rootCheck label root else (rootCheck label root).map (~~~ ·)⟩

/-- A copy whose check value fails when it is read back. -/
def RootCopy.spoilt (label : String) (c : RootCopy) : RootCopy := burntCopy label c.bytes false

/-- The copy of a root in use: the first whose check value holds (R45, R212). -/
def rootCopy (label : String) (a b : Option RootCopy) : Option Bytes :=
  ((a.toList ++ b.toList).find? (RootCopy.ok label)).map (·.bytes)

/-- The DUK in use. -/
def State.duk (s : State) : Option Bytes := rootCopy dukLabel s.lcs.otp.dukA s.lcs.otp.dukB

/-- The owner seed in use. -/
def State.ownerSeed (s : State) : Option Bytes := rootCopy seedLabel s.lcs.otp.seedA s.lcs.otp.seedB

/-- The BVR policy bit of the owner record. -/
def State.bvrPolicy (s : State) : Bool := match s.lcs.otp.ownerRecord with
  | some r => r.bvrPolicy
  | none => false

/-- B of R212. -/
def State.rootB (s : State) : Option Bytes := match s.duk, s.ownerSeed with
  | some k, some x => some (kmac256 32 k x "GY-OWN")
  | _, _ => none

/-- The owner root, while it is available (R212, R215). -/
def State.ownerRoot (s : State) : Option Bytes := match s.rootB with
  | some b =>
    if s.bvrPolicy = false then some b
    else if s.kst.bvrState = BvrState.valid then some (xorBytes b s.kst.bvr) else none
  | none => none

/-- The derived device key of slot n from a root (R213). -/
def State.deviceKey (s : State) (root : Bytes) (n : Nat) : Bytes :=
  kmac256 32 root (BitVec.ofNat 8 n :: s.serialBytes) "GY-DEV"

/-- The public-key hash tr of an ML-DSA seed of set i (R223). -/
def mldsaTr (i : Nat) (seed : Bytes) : Bytes := stdOut 64 .hash 8 [stdOut (mldsaPk i) .mldsaKeyGen i [seed]]

/-- KIND, CLEN and usage bits of device slot n (Table 8.4). -/
def deviceTemplate (n : Nat) : Nat :=
  if n = 0 ∨ n = 1 ∨ n = 3 then 0x20000000 + 0x30 + 2 ^ Usage.derive
  else if n = 2 ∨ n = 5 then 0x20 + 2 ^ Usage.wrap + 2 ^ Usage.unwrap
  else if n = 4 then 0x150 + 2 ^ Usage.sign
  else if n = 6 ∨ n = 7 then 0x20 + 2 ^ Usage.sa
  else if n = 8 then 0x20 + 2 ^ Usage.unwrap
  else 0x20

/-- A device slot holding a key: VALID, DEVICE, LOCKED and ORIGIN 1 (R213). -/
def deviceSlot (n : Nat) (content : Bytes) (test : Bool) : KeySlot where
  content := content
  attr := BitVec.ofNat 64 (1 + 4 + 8 + deviceTemplate n + 2 ^ 32 + 2 ^ 34 * b2n test)
  tr := if n = 4 then mldsaTr 1 content else []

/-- What device slot n, 0 to 5 or 8, holds in the life-cycle state in force (Table 8.5). -/
def State.deviceContent (s : State) (n : Nat) : Option Bytes :=
  if n = 8 then
    if s.lcs.state = LcState.manufacture ∧ s.lcs.debugEn = false then
      some (kmac256 32 s.lcs.otp.vendorImageSecret s.serialBytes "GY-VPK")
    else none
  else if s.lcs.testRoot then
    if n = 0 ∨ n = 1 then some testRoot else some (s.deviceKey testRoot n)
  else match s.lcs.state with
    | .provisioned =>
      if n = 0 then s.duk else if n = 4 ∨ n = 5 then s.duk.map (s.deviceKey · n) else none
    | .owned =>
      if n = 0 then s.duk else if n = 5 then s.duk.map (s.deviceKey · n)
      else if n = 1 then s.ownerRoot else s.ownerRoot.map (s.deviceKey · n)
    | _ => none

/-- One device slot is filled, or left empty (R213, R214). -/
def State.fillDevice (s : State) (n : Nat) : State := match s.deviceContent n with
  | some c => s.setSlot n (deviceSlot n c (s.lcs.testRoot && n != 8))
  | none => s.emptySlot n

/-- The device slots of a list are filled. -/
def State.fillDevices (s : State) (ns : List Nat) : State := ns.foldl State.fillDevice s

/-- In TERMINATED every device slot is empty (Table 8.5). -/
def State.emptyDevices (s : State) : State := (List.range 16).foldl State.emptySlot s

/-- The slots that boot fills. -/
def bootSlots : List Nat := [0, 1, 2, 3, 4, 5, 8]

end Sys2Proof.Machine
end

