-- ==== Sys2Proof/Machine/KeyStore.lean ====
section
/-!
DEFINITION. The key-management commands 0x0500 to 0x0511 (R231, R232, R215 to R224) and the derivation again of a failed device
slot (R227).
-/
namespace Sys2Proof.Machine
open Sys2Proof

/-- The slots of the run that starts at n are cleared, their templates kept or, where `unprepare`, cleared too. -/
def State.clearRun (s : State) (n : Nat) (unprepare : Bool) : State :=
  s.modRun n fun k => if unprepare then {} else k.cleared

/-- MSG_LEN is 0 for a command without input (R231). -/
def WorkEntry.noInput (e : WorkEntry) : Option (Nat × Nat) := chk (e.msgLen == 0) St.badParam 0x41

/-- A value of step 2 of Table 8.9. -/
def val (ok : Bool) : Option (Nat × Nat) := chk ok St.badParam 0x70

/-! ### KEY_PREPARE, KEY_DELETE, KEY_RESTRICT, KEY_QUERY -/

/-- The template fields of a word are a legal template's (R205, R206). -/
def templateOk (w : W64) : Bool :=
  let kind := bitsOf w.toNat 11 4
  let clen := bitsOf w.toNat 31 24
  w &&& ~~~templateMask == 0 && (permittedUsage kind).isSome && (if kind = 3 then within clen 16 255 else clen == 0)

/-- The usage bits of a template, 12 to 22. -/
def usageBits (w : W64) : List Nat := (List.range 11).filterMap fun i => if bitOf w.toNat (12 + i) then some (12 + i) else none

/-- The usage of a template is permitted to its kind, and WRAP or UNWRAP do not stand with CIPHER or SA (R206). -/
def usageOk (w : W64) : Bool :=
  let u := usageBits w
  let allowed := (permittedUsage (bitsOf w.toNat 11 4)).getD []
  u.all allowed.contains && !((u.contains 16 || u.contains 17) && (u.contains 20 || u.contains 21))

/-- The slots of a run of a kind from n. -/
def runSlots (kind n : Nat) : List Nat := (List.range (runLength kind)).map (n + ·)

/-- KEY_PREPARE: the template of an empty, unclaimed, unlocked slot is replaced; an RSA template prepares its run (R208, R231). -/
def execKeyPrepare (slot : Nat) (s : State) : Answer :=
  answer s <| s.onEntry slot 0x500 0x500 fun t =>
    let e := t.entry
    let n := e.keySlot
    let w : W64 := BitVec.ofNat 64 (e.pLE 40 8)
    let kind := bitsOf w.toNat 11 4
    let run := runSlots kind n
    s.checked slot [
      chk (e.zeroFrom 48 55) St.badParam 0, e.noInput, val (templateOk w), chk (usageOk w) St.keyPolicy 0x74,
      s.openSlot t.func n noDevice (runLength kind),
      chk (run.all fun i => !(s.slot i).locked) St.keyPolicy 0x79,
      chk (run.all fun i => !(s.slot i).valid && !(s.slot i).claimed) St.keyPolicy 0x72,
      t.dmaFail]
      (let s := run.foldl (fun s i => s.clearRun i true) s
       let s := run.foldl (fun s i => s.setSlot i { attr := if i = n then w else 0x3F0 }) s
       s.complete slot St.ok 0 [])

/-- KEY_DELETE: the content is cleared, and with UNPREPARE the template; on a run, all of it (R231). -/
def execKeyDelete (slot : Nat) (s : State) : Answer :=
  answer s <| s.onEntry slot 0x506 0x506 fun t =>
    let e := t.entry
    let n := e.keySlot
    s.checked slot [
      chk (decide (e.p8 40 < 2) && e.zeroFrom 41 55) St.badParam 0, e.noInput,
      s.openSlot t.func n noDevice (runLength (s.slot n).kind),
      chk (!(s.slot n).claimed) St.keyPolicy 0x72, t.dmaFail]
      (((s.orphanTree n).clearRun n (decide (e.p8 40 = 1))).complete slot St.ok 0 [])

/-- KEY_RESTRICT: usage bits are cleared, and LOCK forbids further change (R231). -/
def execKeyRestrict (slot : Nat) (s : State) : Answer :=
  answer s <| s.onEntry slot 0x507 0x507 fun t =>
    let e := t.entry
    let n := e.keySlot
    let clear := e.pLE 40 4
    s.checked slot [
      chk (decide (e.p8 44 < 2) && e.zeroFrom 45 55) St.badParam 0, e.noInput, val (clear &&& 0xFF800FFF == 0),
      s.openSlot t.func n noDevice (runLength (s.slot n).kind),
      chk (!(s.slot n).locked) St.keyPolicy 0x79, t.dmaFail]
      (let k := s.slot n
       let attr := (k.attr &&& ~~~BitVec.ofNat 64 clear) ||| (if e.p8 44 = 1 then 8 else 0)
       (s.setSlot n { k with attr := attr }).complete slot St.ok 0 [])

/-- The check value of a slot (R231): zero for an empty slot and for slots 0 and 1. -/
def State.keyCheckValue (s : State) (n : Nat) : Bytes :=
  if (s.slot n).valid ∧ 2 ≤ n then (kmac256 32 (s.slot n).content [] "GY-KCV").take 4 else zeros 4

/-- KEY_QUERY: the attribute word and the check value (R214, R231). -/
def execKeyQuery (slot : Nat) (s : State) : Answer :=
  answer s <| s.onEntry slot 0x508 0x508 fun t =>
    let e := t.entry
    let n := e.keySlot
    s.checked slot [
      chk (e.zeroFrom 40 55) St.badParam 0, e.noInput,
      s.openSlot t.func n (fun _ => true) (runLength (s.slot n).kind),
      chk (decide (16 ≤ n) || (s.slot n).valid) St.keyEmpty 0x72, t.dmaFail, e.outHolds 16]
      (s.readSlots slot [n] (s.complete slot St.ok 0 (toLE 8 (s.slot n).attr.toNat ++ s.keyCheckValue n ++ zeros 4)))

/-! ### KEY_GENERATE, KEY_IMPORT, KEY_DERIVE -/

/-- KEY_GENERATE: AES and SECRET content from DRBG instance 0 (R217); while it waits for entropy it holds its claim. -/
def execKeyGenerate (slot : Nat) (s : State) : Answer :=
  answer s <| s.onEntry slot 0x501 0x501 fun t =>
    let e := t.entry
    let n := e.keySlot
    let checks := [chk (e.zeroFrom 40 55) St.badParam 0, e.noInput] ++
      s.destKey t.func n (fun k => within k 1 3) ++ [t.dmaFail]
    let make (s : State) : State := s.entropyStep slot 0
      (let k := s.slot n
       let d := s.draw 0 (contentLen k.kind k.clen)
       (d.2.commitKey n d.1 [] 0 false).complete slot St.ok 0 [])
    if t.step8 then make s else s.checked slot checks (make ((s.claim n).waitEntropy slot))

/-- The program of the class C job that checks a key of a kind as it enters a slot, or fills in its tr (R222, R223). -/
def jobProgram (kind : Nat) : Option Nat :=
  if within kind 0x14 0x16 then some (0x110 + (kind - 0x14))
  else if within kind 0x30 0x32 then some (0x300 + (kind - 0x30))
  else if within kind 0x34 0x35 then some (0x310 + (kind - 0x34))
  else if within kind 0x36 0x37 then some (0x318 + (kind - 0x36))
  else if within kind 0x38 0x3A then some (0x320 + (kind - 0x38))
  else none

/-- The curve check on a scalar that enters a slot (R171). -/
def scalarCheck (kind : Nat) (content : Bytes) : Option (Nat × Nat) :=
  if within kind 0x30 0x32 then
    let d := beAt content 0 (ecLen (kind - 0x30))
    chk (decide (0 < d) && decide (d < ecOrder (kind - 0x30))) St.outOfRange 0x54
  else none

/-- The content as the slot takes it: an LMS key's TREE_STATE becomes 0 (R153). -/
def entering (kind : Nat) (content : Bytes) : Bytes := if kind = 0x20 then putAt content 56 [0] else content

/-- A key of range 0x05xx enters slot n: at once, or through its class C job, whose input is `blob` and whose claim is on n
(R171, R222, R223). -/
def State.enterKey (s : State) (slot : Nat) (t : Track) (n : Nat) (content blob : Bytes) (origin : Nat) (test : Bool) : State :=
  let kind := (s.slot n).kind
  match scalarCheck kind content with
  | some e => s.fail slot e
  | none => match jobProgram kind with
    | none => (s.commitKey n (entering kind content) [] origin test).complete slot St.ok 0 []
    | some op => match s.engineCheck op with
      | some e => s.fail slot e
      | none => s.startOp slot { s.mkOp slot t op with key := content, input := blob, test := test, dest := some n }

/-- KEY_IMPORT (R217, R222, R224). -/
def execKeyImport (slot : Nat) (s : State) : Answer :=
  answer s <| s.onEntry slot 0x502 0x502 fun t =>
    let e := t.entry
    let n := e.keySlot
    let k := s.slot n
    let bits := e.pLE 40 2
    s.checked slot [
      chk (e.zeroFrom 42 55) St.badParam 0, val (isRsa k.kind || bits == 0),
      s.openSlot t.func n noDevice (runLength k.kind), chk (s.func t.func).plainImport St.keyPolicy 0x75,
      s.destState n (fun _ => true), t.dmaFail, chk (e.msgLen == contentLen k.kind k.clen) St.badLength 0x70,
      val (!isRsa k.kind || leAt t.input 0 2 == bits)]
      (s.enterKey slot t n t.input [] 3 false)

/-- The kinds that KEY_DERIVE may produce (R219). -/
def derivable (kind : Nat) : Bool := within kind 1 3 || within kind 0x10 0x12 || within kind 0x14 0x16 || within kind 0x24 0x26

/-- The content that KEY_DERIVE computes, n bytes: KDF 0 is the counter mode of SP 800-108, KDF 1 its KMAC form, and the
length is an input of both (R219). -/
def derivedKey (kdf n : Nat) (ki label context : Bytes) : Bytes :=
  if kdf = 0 then
    ((List.range ((n + 47) / 48)).flatMap fun i =>
      stdOut 48 .hmac 2 [ki, toBE 4 (i + 1) ++ label ++ [0] ++ context ++ toBE 4 (8 * n)]).take n
  else kmacOf 256 n ki context label

/-- KEY_DERIVE (R219): it takes a free lane of the DGE at once; with none it waits, ahead of the host's digest commands (R234). -/
def execKeyDerive (slot : Nat) (s : State) : Answer :=
  answer s <| s.onEntry slot 0x503 0x503 fun t =>
    let e := t.entry
    let n := e.pLE 44 4
    let label := e.pLE 42 2
    let ki := s.slot e.keySlot
    let k := s.slot n
    s.checked slot [
      chk (e.zeroFrom 41 41 && e.zeroFrom 48 55) St.badParam 0, val (decide (e.p8 40 ≤ 1) && decide (label ≤ 256)),
      s.openSlot t.func e.keySlot (· == 3) (runLength ki.kind), s.openSlot t.func n noDevice (runLength k.kind),
      s.sourceState e.keySlot Usage.derive 0x71 (· == 3), s.destState n derivable, t.dmaFail,
      chk (within e.msgLen label (label + 4096)) St.badLength 0x70]
      (s.readSlots slot [e.keySlot]
        (let key := derivedKey (e.p8 40) (contentLen k.kind k.clen) ki.content (t.input.take label) (t.input.drop label)
         if s.dge.freeLane.isSome then s.enterKey slot t n key [] 1 ki.test
         else ((s.claim n).busy slot).modDge fun d => { d with cmds := d.cmds ++ [
           { slot := slot, order := t.order, key := key, test := ki.test, dest := some n, internal := true }] }))

/-! ### KEY_WRAP, KEY_UNWRAP -/

/-- The header of a wrapped key (R220). -/
def wrapHeader (k : KeySlot) : Bytes :=
  [1, 0] ++ (if isRsa k.kind then slice k.content 0 2 else [0, 0]) ++ toLE 4 (k.attr &&& 0xFF7FFFF0).toNat ++ zeros 8

/-- The length of a blob over a content length (R220). -/
def blobLen (content : Nat) : Nat := roundUp (16 + content) 8 + 8

/-- KEY_WRAP: AES-KWP over header and content (R220). -/
def execKeyWrap (slot : Nat) (s : State) : Answer :=
  answer s <| s.onEntry slot 0x504 0x504 fun t =>
    let e := t.entry
    let w := e.pLE 44 4
    let k := s.slot e.keySlot
    let len := blobLen (contentLen k.kind k.clen)
    s.checked slot [
      chk (e.zeroFrom 40 43 && e.zeroFrom 48 55) St.badParam 0, e.noInput,
      s.openSlot t.func w (fun d => d == 2 || d == 5) (runLength (s.slot w).kind),
      s.openSlot t.func e.keySlot noDevice (runLength k.kind),
      s.sourceState w Usage.wrap 0x71 (· == 2), s.sourceState e.keySlot Usage.export_ 0x73 (fun _ => true),
      t.dmaFail, e.outHolds len]
      (s.readSlots slot [w, e.keySlot]
        (s.complete slot St.ok 0 (stdOut len .aesKwpWrap 0 [(s.slot w).content, wrapHeader k ++ k.content])))

/-- The KIND of a wrapped key's header. -/
def blobKind (p : Bytes) : Nat := bitsOf (leAt p 4 4) 11 4

/-- The content length that a header's KIND, CLEN and MOD_BITS give (R221). -/
def blobContentLen (p : Bytes) : Nat :=
  let kind := blobKind p
  if isRsa kind then
    if modBitsOk 0 (leAt p 2 2) then 904 else if modBitsOk 1 (leAt p 2 2) then 1352 else if modBitsOk 2 (leAt p 2 2) then 1800
    else 0
  else contentLen kind (natAt p 7)

/-- A header is well formed (R221): FORMAT, reserved bytes, and a content of the length that a listed KIND gives. -/
def blobOk (p : Bytes) : Bool :=
  leAt p 0 2 == 1 && allZero (slice p 8 8) && (isRsa (blobKind p) || leAt p 2 2 == 0) &&
    (decide (0 < blobContentLen p) || blobKind p == 3) && p.length == 16 + blobContentLen p

/-- The template after an unwrap: the header's usage ANDed with the destination's (R221). -/
def narrowed (attr : W64) (p : Bytes) : W64 :=
  attr &&& (~~~0x7FF000 ||| BitVec.ofNat 64 (leAt p 4 4))

/-- KEY_UNWRAP (R221, R222). -/
def execKeyUnwrap (slot : Nat) (s : State) : Answer :=
  answer s <| s.onEntry slot 0x505 0x505 fun t =>
    let e := t.entry
    let n := e.pLE 44 4
    let u := s.slot e.keySlot
    let k := s.slot n
    let opened (d : Nat) : Bool := d == 2 || d == 5 || (d == 8 && s.lcs.state == LcState.manufacture)
    let ok := Config.stdHolds .aesKwpOk 0 [u.content, t.input]
    let p := Config.std .aesKwpUnwrap 0 [u.content, t.input]
    s.checked slot [
      chk (e.zeroFrom 40 43 && e.zeroFrom 48 55) St.badParam 0,
      s.openSlot t.func e.keySlot opened (runLength u.kind), s.openSlot t.func n noDevice (runLength k.kind),
      s.sourceState e.keySlot Usage.unwrap 0x71 (· == 2), s.destState n (fun _ => true), t.dmaFail,
      chk (e.msgLen == blobLen (contentLen k.kind k.clen)) St.badLength 0x70]
      (s.readSlots slot [e.keySlot]
        (s.checked slot [
          chk ok St.verifyFail 0x70, chk (blobOk p) St.badParam 0x71,
          chk (blobKind p == k.kind && (k.kind != 3 || natAt p 7 == k.clen)) St.keyPolicy 0x50]
          (let s := if (jobProgram k.kind).isNone then s.setSlot n { k with attr := narrowed k.attr p } else s
           s.enterKey slot t n (p.drop 16) p 2 u.test)))

/-! ### KEY_RANGE_SET, KEY_BVR_INIT, DEVICE_SLOT_REDERIVE -/

/-- Slots prepared or claimed that a range change would take from a function (R211). -/
def State.leavesInUse (s : State) (f base count : Nat) : Bool :=
  s.kst.slots.any fun (n, k) => s.inRange f n && !(decide (base ≤ n) && decide (n < base + count)) && (k.kind != 0 || k.claimed)

/-- A range overlaps that of another function (R211). -/
def State.rangeOverlaps (s : State) (f base count : Nat) : Bool :=
  (List.range 256).any fun g => g != f && decide (0 < count) && decide (0 < (s.func g).keyCount) &&
    decide (base < (s.func g).keyBase + (s.func g).keyCount) && decide ((s.func g).keyBase < base + count)

/-- KEY_RANGE_SET (R211, R231). -/
def execKeyRangeSet (slot : Nat) (s : State) : Answer :=
  answer s <| s.onEntry slot 0x510 0x510 fun t =>
    let e := t.entry
    let f := e.p8 40
    let count := e.pLE 44 2
    let base := if count = 0 then 0 else e.pLE 42 2
    s.checked slot [
      chk (e.zeroFrom 41 41 && decide (e.p8 46 < 2) && e.zeroFrom 47 55) St.badParam 0,
      chk (e.msgLen == 0 && e.keySlot == noSlot) St.badParam 0x41,
      val (count == 0 || (decide (16 ≤ base) && decide (base + count ≤ 4096))),
      chk (!s.rangeOverlaps f base count && !s.leavesInUse f base count) St.keyPolicy 0x77, t.dmaFail]
      ((s.setFunc f { s.func f with keyBase := base, keyCount := count, plainImport := decide (e.p8 46 = 1) }).complete slot
        St.ok 0 [])

/-- KEY_BVR_INIT: a new BVR from DRBG instance 1, and with it a new owner root; slots 1 to 4 are derived again (R215). -/
def execKeyBvrInit (slot : Nat) (s : State) : Answer :=
  answer s <| s.onEntry slot 0x511 0x511 fun t =>
    let e := t.entry
    s.checked slot [
      chk (e.zeroFrom 40 55) St.badParam 0, chk (e.msgLen == 0 && e.keySlot == noSlot) St.badParam 0x41,
      chk (s.lcs.state == LcState.owned && s.bvrPolicy) St.lcsForbids 1,
      chk (s.kst.bvrState != BvrState.valid) St.keyPolicy 0x78, t.dmaFail]
      (s.entropyStep slot 1
        (let d := s.draw 1 32
         let s := { d.2 with kst := { d.2.kst with bvr := d.1, bvrState := .valid } }
         (s.fillDevices [1, 2, 3, 4]).complete slot St.ok 0 []))

/-- DEVICE_SLOT_REDERIVE: a device slot that failed its integrity check is derived again if its root is available (R227). -/
def execDeviceSlotRederive (keySlot : Nat) (s : State) : Answer :=
  answer s <|
    if s.kst.rederive.contains keySlot then
      let s := { s with kst := { s.kst with rederive := s.kst.rederive.filter (· != keySlot) } }
      if bootSlots.contains keySlot then s.fillDevice keySlot else s
    else s

end Sys2Proof.Machine
end

