-- ==== Sys2Proof/Machine/Lms.lean ====
section
/-!
DEFINITION. LMS keys (R151 to R156): reservation blocks and their confirmation, the assignment of leaves, and the commands
LMS_TREE_BUILD, LMS_SIGN, LMS_BLOCK_CONFIRM.
-/
namespace Sys2Proof.Machine
open Sys2Proof

/-! ### Slot content (Table 5.8) -/

/-- H of a key. -/
def KeySlot.lmsH (k : KeySlot) : Nat := match lmsType (beAt k.content 0 4) with
  | some (_, h) => h
  | none => 0
/-- NEXT_LEAF. -/
def KeySlot.nextLeaf (k : KeySlot) : Nat := beAt k.content 48 4
/-- BLOCK_END. -/
def KeySlot.blockEnd (k : KeySlot) : Nat := beAt k.content 52 4
/-- TREE_STATE. -/
def KeySlot.treeState (k : KeySlot) : Nat := natAt k.content 56
/-- The key identifier I. -/
def KeySlot.lmsId (k : KeySlot) : Bytes := slice k.content 8 16

/-- The slot with NEXT_LEAF set. -/
def KeySlot.setNextLeaf (k : KeySlot) (n : Nat) : KeySlot := { k with content := putAt k.content 48 (toBE 4 n) }
/-- The slot with BLOCK_END set. -/
def KeySlot.setBlockEnd (k : KeySlot) (n : Nat) : KeySlot := { k with content := putAt k.content 52 (toBE 4 n) }
/-- The slot with TREE_STATE set. -/
def KeySlot.setTreeState (k : KeySlot) (n : Nat) : KeySlot := { k with content := putAt k.content 56 [BitVec.ofNat 8 n] }

/-! ### Reservation (R155) -/

/-- The LMS block size (R418). -/
def State.lmsBlockSize (s : State) : Nat := 2 ^ clamp 4 10 (field (s.reg Reg.trkBlockCfg) 11 8)

/-- The reservation record (Table 5.9). -/
def State.lmsRecord (s : State) (n : Nat) (k : KeySlot) (first stop seq : Nat) : Bytes :=
  k.lmsId ++ toLE 4 first ++ toLE 4 stop ++ toLE 4 (n % 4096) ++ zeros 4 ++ s.serialBytes ++ toLE 8 seq ++ zeros 16

/-- A block whose record is written and whose mirror is acknowledged is confirmed: BLOCK_END moves to its end (R155). -/
def State.confirmLms (s : State) (n : Nat) : State :=
  let k := s.slot n
  match k.tree with
  | some d => match d.block with
    | some b =>
      if b.recordOk ∧ b.mirrorOk then s.setSlot n { k.setBlockEnd b.stop with tree := some { d with block := none } } else s
    | none => s
  | none => s

/-- The next block of a key is reserved, unless one already awaits its confirmation or the tree has no leaf left: its record is
written and flushed, and mirrored (R155, R418). -/
def State.reserveLms (s : State) (n : Nat) : State :=
  let k := s.slot n
  let first := max k.blockEnd k.nextLeaf
  match k.tree with
  | some d =>
    if d.block.isSome ∨ 2 ^ k.lmsH ≤ first then s
    else
      let stop := min (2 ^ k.lmsH) (first + s.lmsBlockSize)
      let b : LmsBlock := ⟨first, stop, false, s.confirmsLocally⟩
      let s := s.setSlot n { k with tree := some { d with block := some b, resvSeq := d.resvSeq + 1 } }
      let s := s.hostWrite .device 0xFFFF 0 ⟨d.func, d.recordAddr, s.lmsRecord n k first stop (d.resvSeq + 1)⟩
      (s.emit (.flushRead d.func d.recordAddr)).mirror (.lmsBlock k.lmsId first stop)
  | none => s

/-- A leaf is assigned from a confirmed block, NEXT_LEAF rises, and once half of the block is assigned the next is reserved
(R154, R155). -/
def State.assignLeaf (s : State) (n : Nat) : Option Nat × State :=
  let k := s.slot n
  if k.kind = 0x20 ∧ k.valid = true ∧ k.treeState = 2 ∧ k.nextLeaf < k.blockEnd then
    let s := s.setSlot n (k.setNextLeaf (k.nextLeaf + 1))
    (some k.nextLeaf, if 2 * (k.blockEnd - (k.nextLeaf + 1)) ≤ s.lmsBlockSize then s.reserveLms n else s)
  else (none, s.reserveLms n)

/-- Every leaf of the key is spent (R154). -/
def KeySlot.lmsExhausted (k : KeySlot) : Bool := k.kind == 0x20 && k.valid && decide (2 ^ k.lmsH ≤ k.nextLeaf)

/-- LMS_BLOCK_CONFIRM: the flushing read of a reservation record returns (R155). -/
def execLmsBlockConfirm (keySlot : Nat) (s : State) : Answer :=
  answer s <|
    let k := s.slot keySlot
    match k.tree with
    | some d => match d.block with
      | some b =>
        (s.setSlot keySlot { k with tree := some { d with block := some { b with recordOk := true } } }).confirmLms keySlot
      | none => s
    | none => s

/-- The mirror acknowledgement of an LMS block (R418). -/
def State.ackLms (s : State) (id : Bytes) (first : Nat) : State :=
  (s.kst.slots.map (·.1)).foldl (fun s n =>
    let k := s.slot n
    match k.tree with
    | some d => match d.block with
      | some b =>
        if k.lmsId = id ∧ b.first = first then
          (s.setSlot n { k with tree := some { d with block := some { b with mirrorOk := true } } }).confirmLms n
        else s
      | none => s
    | none => s) s

/-! ### LMS_TREE_BUILD (R152) -/

/-- The leaves of one build block: W number w, 0 for W1 to 3 for W8. -/
def buildBlock (w h : Nat) : Nat := min (if w = 3 then 128 else 1024) (2 ^ h)

/-- The bytes of a key's tree cache. -/
def cacheBytes (h : Nat) : Nat := 2 ^ (h + 1) * 24

/-- The tree caches held: the PA and the bytes of each. -/
def State.cachesHeld (s : State) : List (Nat × Nat) := s.kst.slots.filterMap fun p => p.2.tree.map fun d => (d.cacheAt, cacheBytes p.2.lmsH)

/-- The PA at which a tree cache of n bytes finds room in the own partition (R152): its start or the end of a cache held, the lowest that
leaves every cache held alone (DESIGN CHOICE, log entry 88). -/
def State.cacheRoom (s : State) (n : Nat) : Option Nat :=
  let held := s.cachesHeld
  let own := s.partStart 3
  ((own :: held.map fun c => c.1 + c.2).filter fun a =>
    decide (a + n ≤ own + s.partBytes Reg.memPartOwn) && held.all fun c => decide (a + n ≤ c.1) || decide (c.1 + c.2 ≤ a)).min?

/-- LMS_TREE_BUILD: the first command for a key sets TREE_STATE = 1 and takes RECORD_ADDR and FLOOR (R152). -/
def execLmsTreeBuild (slot : Nat) (s : State) : Answer :=
  answer s <| s.onEntry slot 0x234 0x237 fun t =>
    let e := t.entry
    let n := e.keySlot
    let k := s.slot n
    let w := e.opcode - 0x234
    let b := buildBlock w k.lmsH
    let base := e.pLE 40 4
    let addr := e.pLE 48 8
    let done := match k.tree with | some d => d.built.contains base | none => false
    let last := match k.tree with
      | some d => decide (2 ^ k.lmsH / b ≤ (d.built.filter (· != base)).length + 1)
      | none => decide (2 ^ k.lmsH / b = 1)
    s.checked slot (s.combChecks t e.opcode true true [chk (addr % 64 == 0) St.badParam 0x43, e.aSlot]
        (s.sourceKey t.func n Usage.sign noDevice (· == 0x20) ++ [
          chk (base % b == 0 && decide (base < 2 ^ k.lmsH)) St.badParam 0x43,
          chk (match k.tree with | some d => d.recordAddr == addr | none => true) St.badParam 0x43,
          chk (beAt k.content 4 4 == 5 + w) St.badParam 0x45,
          chk (k.tree.isSome || (s.cacheRoom (cacheBytes k.lmsH)).isSome) St.badParam 0x44])
        [e.lenIs 0, e.outHolds (if last && !done then 48 else 0)])
      (s.readSlots slot [n]
        (if done then s.complete slot St.ok 0 []
         else
           let s := if k.tree.isSome then s
             else s.setSlot n { k.setTreeState 1 with tree := some {
               cacheAt := (s.cacheRoom (cacheBytes k.lmsH)).getD 0, func := t.func, recordAddr := addr, floor := e.pLE 44 4 } }
           s.startOp slot (({ s.mkOp slot t e.opcode with }).withKey k)))

/-- The blocks of a key's tree are all built. -/
def KeySlot.treeBuilt (k : KeySlot) (b : Nat) : Bool := match k.tree with
  | some d => decide (2 ^ k.lmsH / b ≤ d.built.length)
  | none => false

/-- A build block commits: it counts as built; `true` when it was the last missing one (R152). -/
def State.commitBlock (s : State) (o : CombOp) : Bool × State :=
  let k := s.slot o.keySlot
  let b := buildBlock (o.opcode - 0x234) k.lmsH
  let base := o.pLE 40 4
  match k.tree with
  | some d =>
    if d.built.contains base ∨ k.lmsId ≠ slice o.key 8 16 then (false, s)
    else
      let k := { k with tree := some { d with built := d.built ++ [base] } }
      (k.treeBuilt b && k.treeState == 1, s.setSlot o.keySlot k)
  | none => (false, s)

/-- The tail of the last build command: the root, TREE_STATE = 2, and NEXT_LEAF at the smallest multiple of the block size that
is at least FLOOR, the NEXT_LEAF held, and the END of every block of this key that a lost member held (R152, R425). One that passes 32 bits is
past every leaf, and stands as the largest value. -/
def State.finishTree (s : State) (o : CombOp) : Bytes × State :=
  let k := s.slot o.keySlot
  match k.tree with
  | some d =>
    if k.lmsId ≠ slice o.key 8 16 then ([], s)
    else
      let root := stdOut 24 .lmsRoot 0 [k.content.take 48]
      let held := ((s.trk.heldLms.filter fun x => x.1 == k.lmsId).map (·.2)).foldr max 0
      let next := min (2 ^ 32 - 1) (roundUp (max d.floor (max k.nextLeaf held)) s.lmsBlockSize)
      let s := s.setSlot o.keySlot
        { (k.setTreeState 2).setNextLeaf next with tree := some { d with root := root, resvSeq := 0 } }
      (k.content.take 24 ++ root, s.reserveLms o.keySlot)
  | none => ([], s)

/-! ### LMS_SIGN (R154) -/

/-- LMS_SIGN: its leaf is assigned when the forager admits it (R154, R155). -/
def execLmsSign (slot : Nat) (s : State) : Answer :=
  answer s <| s.onEntry slot 0x238 0x23B fun t =>
    let e := t.entry
    let k := s.slot e.keySlot
    s.checked slot (s.combChecks t e.opcode (e.zeroFrom 40 55) true [e.aSlot]
        (s.sourceKey t.func e.keySlot Usage.sign noDevice (· == 0x20) ++ [
          chk (k.treeState == 2) St.keyEmpty 0x40, chk (beAt k.content 4 4 == 5 + (e.opcode - 0x238)) St.badParam 0x45])
        [e.outHolds (lmsLevel (k.content.take 24) []).len])
      (s.readSlots slot [e.keySlot]
        (s.startOp slot ({ s.mkOp slot t e.opcode with hasPrefix := true, drbg := true }.withKey k)))

end Sys2Proof.Machine
end

