-- ==== Sys2Proof/Machine/Forager.lean ====
section
/-!
DEFINITION. The forager (chapter 3): admission and placement, aging and preemption, the release grid's ticks, wipes, self-test
and fencing. The ends of operations stand in Release.lean.
-/
namespace Sys2Proof.Machine
open Sys2Proof

/-! ### Order of admission (R86) -/

/-- The place of a waiting operation in the order of admission; the least is first. Operations placed again keep the order in which their engines
would have started them (R91); others go by their fetch. -/
def CombOp.rankKey (o : CombOp) : Nat :=
  let band := if o.rank = 2 then 0 else if o.own then 1 else 2 + (3 - o.prio)
  (2 * band + if o.rank = 1 then 0 else 1) * 2 ^ 40 + if o.rank = 2 then o.placed else o.order

/-- Operations that wait for admission, in order. -/
def State.waitingOps (s : State) : List CombOp :=
  (s.comb.ops.filter fun o => o.stage.waits).insertionSort
    fun a b => a.rankKey ≤ b.rankKey

/-- Engines that Comb jobs of R33 hold. -/
def State.ownEngines (s : State) : List Nat := ((s.comb.ops.filter CombOp.own).filterMap (·.engine)).dedup

/-- An own job keeps to the engines that such jobs hold once those are two (R33). -/
def State.ownMayTake (s : State) (o : CombOp) (e : Nat) : Bool :=
  !o.own || decide (s.ownEngines.length < 2) || s.ownEngines.contains e

/-- Admission is open to an operation (R33, R87, R192): to own jobs of class C once start-up gating has ended; no host operation at the thermal
limit; no host class C operation while entropy gating holds it, DRBG users apart, which meet step 8. -/
def State.admissionOpen (s : State) (o : CombOp) : Bool :=
  if o.own then !o.classC || s.rng.ready
  else !s.pwr.thermLimit && (!o.classC || !s.classCHeld || o.drbg || o.stage == .preempted)

/-! ### Placement (R88, R89) -/

/-- CE_RATE of an engine: corrected errors of the last 2^20 CLK_COMB cycles, 655,360 CLK_CTL cycles, saturating at 255. -/
def State.ceRate (s : State) (g : Engine) : Nat :=
  min 255 (g.ceTimes.filter fun c => decide ((s.free - c).toNat < 655360)).length

/-- Operations that one engine may hold (R89). -/
def State.engQdepth (s : State) : Nat := max 1 (field (s.reg Reg.fgsBounds) 27 24)

/-- The mask words of an operation, an MLDSA_SIGN taking so many passes: those of Table 7.2, 24 per µs of D(op), rounded up, for an
LMS_TREE_BUILD (R187). -/
def State.maskWords (s : State) (o : CombOp) (passes : Nat) : Nat :=
  if within o.opcode 0x234 0x237 then match s.program o.opcode with
    | some p => (24 * s.dop p.p0 p.l0 + 999) / 1000
    | none => 0
  else o.maskWords passes

/-- Mask words that operations already placed on a channel's engines will draw once they start. -/
def State.wordsPlaced (s : State) (c : Nat) : Nat :=
  ((s.comb.ops.filter fun o => o.classC && (o.stage == .queued || o.stage == .prefixRun || o.stage == .tickWait) && s.channelOf c o).map
    fun o => s.maskWords o 16).foldr (· + ·) 0

/-- Reseed points that an operation would pass on its engine's channel, after those placed before it (R186). -/
def State.reseedsNeeded (s : State) (g : Engine) (o : CombOp) : Nat :=
  ((s.rng.chans.getD g.channel {}).words + s.wordsPlaced g.channel + s.maskWords o 16 - 1) / reseedWords

/-- The engine's channel covers the operation (R186); only host class C operations need cover. -/
def State.covered (s : State) (g : Engine) (o : CombOp) : Bool :=
  o.own || !o.classC ||
    (let m := s.rng.chans.getD g.channel {}
     m.seeded && !m.stopped && decide (s.reseedsNeeded g o ≤ m.queue.length))

/-- An engine takes new work: READY or BUSY, not to be fenced, with room (R88), its group's channels seeded once gating has ended (R192, R199). -/
def State.engineOpen (s : State) (e : Nat) (g : Engine) (kind : Nat) : Bool :=
  g.kind == kind && g.state == .ready && !g.fenced && !g.fenceDue && !s.gated g && decide (s.depth e < s.engQdepth) &&
    (!s.rng.ready || s.groupSeeded g.group)

/-- The temperature of an engine's cell group. -/
def State.engineTemp (s : State) (g : Engine) : Int := s.comb.temps.getD g.group 0

/-- The score of an engine (R88). -/
def State.engineScore (s : State) (g : Engine) : Nat :=
  let w := s.reg Reg.fgsWeights
  let tref : Int := field (s.reg Reg.fgsBounds) 7 0
  field w 3 0 * s.ceRate g + field w 7 4 * (s.engineTemp g - tref).toNat

/-- A power change under way switches an engine's group off, so that nothing new is placed there (R502); the journal's last checkpoint is
still signed before P3 and P4. -/
def State.leaving (s : State) (own : Bool) (g : Engine) : Bool := match s.pwr.change with
  | some c => !bitOf c.cellOn g.group && !(own && decide (3 ≤ c.target))
  | none => false

/-- The engines eligible for an operation, cover apart. -/
def State.openEngines (s : State) (o : CombOp) : List Nat :=
  (List.range s.comb.engines.length).filter fun e => match s.engine e with
    | some g => s.engineOpen e g o.kind && !s.leaving o.own g && s.ownMayTake o e
    | none => false

/-- The engine that R88 chooses, if any is eligible. -/
def State.chooseEngine (s : State) (o : CombOp) : Option Nat :=
  let eligible := (s.openEngines o).filter fun e => s.engineIs e fun g => s.covered g o
  let cool := eligible.filter fun e =>
    s.engineIs e fun g => decide (s.engineTemp g < (field (s.reg Reg.fgsBounds) 15 8 : Int))
  let cand := if cool = [] then eligible else cool
  let least := (cand.map s.depth).foldr min 16
  leastBy (fun e => match s.engine e with | some g => s.engineScore g | none => 0) (cand.filter fun e => s.depth e == least)

/-- The state with an operation placed on an engine: it takes a free engine, and otherwise waits there. -/
def State.placeOn (s : State) (o : CombOp) (e : Nat) : State :=
  let n := s.comb.placeSeq
  let s := { s with comb := { s.comb with placeSeq := n + 1 } }
  let s := s.modOp o.src fun o => { o with engine := some e, step8 := false, rank := 0, placed := n, stage := .queued }
  if (s.runningOp e).isNone then s.occupy { o with rank := 0, placed := n } e else s

/-- The seeds that the cover of an operation needs on a channel: those of its engines that lack cover, at most the eight of a queue (R186). -/
def State.seedsFor (s : State) (c : Nat) (o : CombOp) : Nat :=
  if (s.openEngines o).any fun e => s.engineIs e fun g => g.channel == c && !s.covered g o then
    match s.comb.engines.find? fun g => g.channel == c with
    | some g => min 8 (s.reseedsNeeded g o)
    | none => 0
  else 0

/-- The fill targets: 2 seeds, or what the cover of a waiting operation needs (R185, R186). -/
def State.fitFills (s : State) : State :=
  let waiting := s.waitingOps
  let fill (c : Nat) : Nat := waiting.foldr (fun o n => max (s.seedsFor c o) n) 2
  (s.modRng fun r => { r with chans := r.chans.zipIdx.map fun x => { x.1 with fill := fill x.2 } }).allocateAll

/-- An LMS_SIGN. -/
def CombOp.isLmsSign (o : CombOp) : Bool := within o.opcode 0x238 0x23B

/-- A DRBG user that has not yet drawn; one placed again under R91 has. -/
def CombOp.mustDraw (o : CombOp) : Bool := o.drbg && o.draw.isEmpty

/-- A DRBG user may take its bits: instance 0 serves (R138, R189, R195, R197). -/
def State.drbgOpen (s : State) (o : CombOp) : Bool := !o.mustDraw || s.drbgServes 0

/-- An operation that passes step 8 draws its DRBG output (R137, R138): what starts before a fault completes with it (R195). -/
def State.drawFor (s : State) (o : CombOp) : CombOp × State :=
  if o.mustDraw then
    let d := s.draw 0 o.drawLen
    ({ o with draw := d.1 }, d.2.modOp o.src fun o => { o with draw := d.1 })
  else (o, s)

/-- Step 8 of Table 5.7 and placement for one waiting operation; none when it can only wait. While ENTROPY_FAULT is in force a host DRBG user ends;
an own job waits for the fault's end (R86, R138, R193, R195). -/
def State.placeStep8 (s : State) (o : CombOp) : Option State :=
  if !o.own && o.mustDraw && s.rng.fault then some (s.endOp o St.entropyFault 0x60)
  else if s.drbgOpen o = false then
    if o.step8 then none else some (s.modOp o.src fun o => { o with step8 := true })
  else match s.chooseEngine o with
    | some e =>
      let d := s.drawFor o
      some (d.2.placeOn d.1 e)
    | none => none

/-- Steps 7 and 8 of Table 5.7 and placement for one waiting operation; none when it can only wait (R86, R137, R154). At step 7 an LMS_SIGN takes
its leaf, which is spent from then on; a tree that has lost a block meanwhile (R479) ends it. -/
def State.place (s : State) (o : CombOp) : Option State :=
  let k := s.slot o.keySlot
  if o.stage = .regather ∨ s.admissionOpen o = false then none
  else if o.isLmsSign ∧ o.leaf = none then
    if k.lmsExhausted then some (s.endOp o St.exhausted 0x40)
    else if k.treeState ≠ 2 then some (s.endOp o St.keyEmpty 0x40)
    else if k.blockEnd ≤ k.nextLeaf then
      if o.stage = .leafWait then none
      else some ((s.modOp o.src fun o => { o with stage := .leafWait }).reserveLms o.keySlot)
    else
      let a := s.assignLeaf o.keySlot
      let s := a.2.modOp o.src fun o => { o with leaf := a.1, stage := .waiting }
      some ((s.placeStep8 { o with leaf := a.1, stage := .waiting }).getD s)
  else s.placeStep8 o

/-- OPERATION_PLACE: the first waiting operation for which the forager can do anything (R86 to R88); the fill targets follow what then waits
(R185). -/
def execOperationPlace (s : State) : Answer :=
  answer s <| match s.waitingOps.findSome? s.place with
  | some t => t.fitFills
  | none => s.fitFills

/-- PRIORITY_AGING (R86). -/
def execPriorityAging (op : Nat) (s : State) : Answer :=
  answer s <|
    if field (s.reg Reg.fgsAging) 15 0 = 0 then s
    else s.setOps (s.comb.ops.map fun o =>
      if o.id = op ∧ o.own = false ∧ (o.stage = .waiting ∨ o.stage = .leafWait ∨ o.stage = .preempted) then
        { o with prio := min 3 (o.prio + 1) }
      else o)

/-! ### Preemption (R92) -/

/-- The gates that an operation must have passed to take an engine by preemption. -/
def State.gatesPassed (s : State) (o : CombOp) : Bool :=
  s.admissionOpen o && s.drbgOpen o && (!o.isLmsSign || o.leaf.isSome)

/-- A priority-3 host operation has waited PREEMPT_WAIT microseconds, of 800 CLK_CTL cycles each. -/
def State.preemptDue (s : State) (o : CombOp) : Bool :=
  !o.own && o.prio == 3 && (o.stage == .waiting || o.stage == .preempted) &&
    decide (800 * field (s.reg Reg.fgsAging) 31 16 ≤ (s.free - o.waitFrom).toNat)

/-- The class P operation that has run longest at a priority below 3 on an engine of a kind that takes new work, and was never preempted. -/
def State.victim (s : State) (kind : Nat) : Option CombOp :=
  (s.comb.ops.filter fun o =>
    o.kind == kind && o.stage == .body && !o.classC && !o.own && decide (o.prio < 3) && !o.wasPreempted &&
      match o.engine with
      | some e => s.engineIs e fun g => g.state == .ready && !g.fenceDue && !s.gated g && !s.leaving false g
      | none => false).foldl
      (fun best o => match best with
        | some b => if o.since < b.since then some o else some b
        | none => some o) none

/-- The operation that preempts, if any: the first in the order of admission that R92 lets do so. -/
def State.preemptor (s : State) : Option CombOp :=
  s.waitingOps.find? fun o =>
    s.preemptDue o && s.gatesPassed o && !(s.openEngines o).any (fun e => s.depth e == 0) && (s.victim o.kind).isSome

/-- The victim is interrupted: it has committed what nature had it commit, and the count of its present instruction's restarts rises (R84). -/
def State.interruptVictim (s : State) (v : CombOp) : Nat × State :=
  let n := s.freeNat
  ((if n.1 = 0 then v.restarts else 0) + 1, (n.2.runProgram v n.1).2)

/-- The victim leaves its engine: its registers and memory go to the spill partition, and it waits first in its priority (R92). -/
def State.preempt (s : State) (v : CombOp) (e restarts : Nat) : State :=
  match s.engine e with
  | none => s
  | some g =>
    let r := s.spill g
    (r.2.modOp v.src fun v => { v with
      stage := .preempted, engine := none, rank := 1, wasPreempted := true, saved := some r.1, waitFrom := s.free, restarts := restarts }).modEngine
      e Engine.marked

/-- PREEMPTION: a priority-3 host operation that no engine of depth 0 can take displaces the victim, which resumes later (R92); an instruction
interrupted for the seventeenth time ends its operation instead (R84). -/
def execPreemption (s : State) : Answer :=
  answer s <|
    if flag (s.reg Reg.fgsCtrl) 0 = false then s
    else match s.preemptor with
      | some o => match s.victim o.kind with
        | some v => match v.engine with
          | some e =>
            if s.engineIs e fun g => s.covered g o then
              let r := s.interruptVictim v
              if 16 < r.1 then
                ((r.2.raise Reg.cmbErrStatus 2).endOp v St.faultDetected 0x12).degradeOp v (s.tagOfOp v) St.faultDetected 0x12
              else
                let d := (r.2.preempt v e r.1).drawFor o
                (d.2.placeOn d.1 e).count Reg.fgsPreemptCount
            else s
          | none => s
        | none => s
      | none => s

/-! ### The release grid (R93 to R98) -/

/-- A class C run is between its start and its release. -/
def CombOp.running (o : CombOp) : Bool := o.classC && (o.stage == .body || o.stage == .ended)

/-- A class C body starts at a tick, and its mask words leave its channel (R94, R187); the first of them blind its arithmetic (R174). -/
def State.startBody (s : State) (o : CombOp) : State :=
  let passes := o.passCount
  let s := s.modOp o.src fun o => { o with stage := .body, start := s.free, restarts := 0, passes := passes, ix := 0, pass := 1 }
  match o.engine with
  | some e => match s.engine e with
    | some g =>
      let m := s.rng.chans.getD g.channel {}
      let s := s.modOp o.src fun o => { o with blinds := (List.range 4).map fun i => maskWord m.state (m.words + i) }
      (s.modEngine e fun g => { g with feed := m.state, fed := m.words }).modMask g.channel fun m =>
        { m with words := m.words + s.maskWords o (max 1 (min passes o.iterMax)) }
    | none => s
  | none => s

/-- GRID_TICK: a pending grid takes effect once every running class C operation has been released; otherwise, and unless a
change is pending, every class C operation that waits for its tick starts (R94, R98). DESIGN CHOICE (log entry 78): the operations that wait start
not at the tick at which the new G takes effect but at the next one, the first of the new grid. -/
def execGridTick (s : State) : Answer :=
  answer s <|
    if s.comb.gridPending then
      if s.comb.ops.any CombOp.running then s
      else { s with comb := { s.comb with gridPending := false, gridSteps := field (s.reg Reg.fgsReleaseGrid) 5 0 } }
    else (s.comb.ops.filter fun o => o.stage == .tickWait).foldl State.startBody s

/-- RELEASE_GRID_WRITE (R98). -/
def execReleaseGridWrite (value : W32) (s : State) : Answer :=
  answer s <| s.regWrite Reg.fgsReleaseGrid <|
    let s := s.plainWrite Reg.fgsReleaseGrid value
    { s with comb := { s.comb with gridPending := true } }

/-- Stage 4 of R104 for a test that has passed: the engine returns to READY, an ENGINE_UNFENCE lifts its fence unless the fence holds until reset
(R109, R114), what asked for the test hears of it, and the next test begins. -/
def State.testReturns (s : State) (e : Nat) (r : TestReason) : State :=
  let unfence := match r with | .unfence _ => true | _ => false
  let s := s.modEngine e fun g => { g.wiped with state := .ready, fenced := g.fenced && !(unfence && !g.fenceHeld) }
  let s := { s with comb := { s.comb with testing := none, testPassed := false } }
  let s := match r with
    | .unfence slot => s.complete slot St.ok 0 []
    | .selftestRun slot => s.stepRun slot e fun x => { x with tested := x.tested + 1 }
    | _ => s
  (s.engineFree e).runTests

/-- ENGINE_WIPE_END: the engine is READY again, withdrawn if a test waits for it, or fenced if a fence was due (R99, R103); the wipe of stage 3
of a passed test ends that test (R104). -/
def execEngineWipeEnd (engine : Nat) (s : State) : Answer :=
  answer s <| match s.engine engine with
  | some g =>
    if g.state = .wiping then match s.comb.testing with
      | some (e, r) =>
        if e = engine then
          if s.comb.testPassed then s.testReturns e r
          else (s.modEngine e fun g => { g.wiped with state := if g.fenced then .ready else .withdrawn }).engineFree e
        else (s.modEngine engine fun g => { g.wiped with state := .ready }).engineFree engine
      | none => (s.modEngine engine fun g => { g.wiped with state := .ready }).engineFree engine
    else s
  | none => s

/-! ### Self-test (R104 to R106) -/

/-- ST_PERIOD_WRITE: the interval begins again (R104). -/
def execStPeriodWrite (value : W32) (s : State) : Answer := answer s (s.regWrite Reg.fgsStPeriod (s.plainWrite Reg.fgsStPeriod value))

/-- PERIODIC_SELFTEST: the next engine in number order that is neither FENCED nor GATED is to be tested (R104). -/
def execPeriodicSelftest (s : State) : Answer :=
  answer s <|
    let n := s.comb.engines.length
    match ((List.range n).map fun i => (s.comb.nextTest + i) % n).find? fun e =>
        s.engineIs e fun g => !g.fenced && !s.gated g with
    | some e => (({ s with comb := { s.comb with nextTest := e + 1 } }).queueTest e .periodic).runTests
    | none => s

/-- A known-answer test failed: the engine is fenced, and ENGINE_FAULT is recorded, with the TAG of the entry that asked for the test, and signalled
(R106, R266). -/
def State.katFail (s : State) (e kind : Nat) (tag : Nat := 0) : State :=
  ((s.fenceNow e).raise Reg.cmbErrStatus 4).log { time := 0, code := 0x0801, tag := tag, object := e, detail := kind }

/-- In service, the test of the engine under test ends. It passes, and the engine wipes before it returns; or the engine is fenced and wipes, what
asked for the test hears of it, and the next test begins (R104 to R109). -/
def State.testEnds (s : State) (engine : Nat) (pass : Bool) : State :=
  match s.comb.testing, s.engine engine with
  | some (e, r), some g =>
    if e ≠ engine ∨ (s.runningOp e).isSome ∨ g.state = .wiping then s
    else
      let s := s.setReg Reg.fgsStStatus (BitVec.ofNat 32 (e + 65536 * b2n pass))
      if pass then { s.wipeEngine e with comb := { (s.wipeEngine e).comb with testPassed := true } }
      else
        let tag := match r.slot with | some n => s.tagOf n | none => 0
        let s := { s with comb := { s.comb with testing := none } }
        let s := ((s.katFail e g.kind tag).wipeEngine e)
        let s := match r with
          | .unfence slot => s.complete slot St.faultDetected 0x20 []
          | .selftestRun slot =>
            s.stepRun slot e fun x => { x with tested := x.tested + 1, failed := x.failed + 1, firstFailed := x.firstFailed.or (some e) }
          | _ => s
        s.runTests
  | _, _ => s

/-! ### Commands 0x0D00 to 0x0D02 (R107 to R109) -/

/-- The checks that the three commands share: reserved bytes, MSG_LEN and KEY_SLOT, values. -/
def testChecks (t : Track) (zero values : Bool) : List (Option (Nat × Nat)) :=
  [chk zero St.badParam 0, chk (t.entry.msgLen == 0 && t.entry.keySlot == noSlot) St.badParam 0x41,
   chk values St.badParam 0x40, t.dmaFail]

/-- SELFTEST_RUN: the tests of all its engines are requested at once, and run in their turn (R105, R108). DESIGN CHOICE (log entry 78): byte 41
and bytes 42–43, which Table 3.8 names for one scope each, are not checked under the scopes that do not use them. -/
def execSelftestRun (slot : Nat) (s : State) : Answer :=
  answer s <| s.onEntry slot 0xD00 0xD00 fun t =>
    let e := t.entry
    let scope := e.p8 40
    let n := e.pLE 42 2
    let values := decide (scope ≤ 2) && (scope != 1 || decide (e.p8 41 ≤ 3)) && (scope != 0 || (s.engine n).isSome)
    s.checked slot (testChecks t (e.zeroFrom 44 55) values ++ [
        chk (scope != 0 || s.engineIs n fun g => !s.gated g) St.engineUnavailable 2, e.outHolds 16])
      (let todo := if scope = 0 then [n] else (List.range s.comb.engines.length).filter fun i =>
         s.engineIs i fun g => !g.fenced && !s.gated g && (scope == 2 || g.kind == e.p8 41)
       let run : SelftestRun := { slot := slot, one := scope == 0, todo := todo }
       let s := s.busy slot
       let s := { s with comb := { s.comb with testRuns := s.comb.testRuns ++ [run] } }
       ((todo.foldl (fun (s : State) i => s.queueTest i (.selftestRun slot)) s).endRun slot).runTests)

/-- ENGINE_FENCE (R109). -/
def execEngineFence (slot : Nat) (s : State) : Answer :=
  answer s <| s.onEntry slot 0xD01 0xD01 fun t =>
    let n := t.entry.pLE 42 2
    s.checked slot (testChecks t (t.entry.zeroFrom 40 41 && t.entry.zeroFrom 44 55) (s.engine n).isSome)
      (match s.engine n with
       | some g =>
         if g.fenced then s.complete slot St.ok 0 []
         else if s.gated g ∨ ((s.runningOp n).isNone ∧ g.state ≠ .wiping) then (s.fenceNow n).complete slot St.ok 0 []
         else
           let s := ((s.busy slot).modEngine n fun g => { g with fenceDue := true }).replaceQueued n
           { s with comb := { s.comb with fenceWait := s.comb.fenceWait ++ [(slot, n)] } }
       | none => s)

/-- ENGINE_UNFENCE (R109). -/
def execEngineUnfence (slot : Nat) (s : State) : Answer :=
  answer s <| s.onEntry slot 0xD02 0xD02 fun t =>
    let n := t.entry.pLE 42 2
    s.checked slot (testChecks t (t.entry.zeroFrom 40 41 && t.entry.zeroFrom 44 55) (s.engine n).isSome ++ [
        chk (s.engineIs n fun g => !s.gated g) St.engineUnavailable 2])
      (if s.engineIs n fun g => g.fenced then ((s.busy slot).queueTest n (.unfence slot)).runTests
       else s.complete slot St.ok 0 [])

end Sys2Proof.Machine
end

