-- ==== Sys2Proof/Machine/SaCore.lean ====
section
/-!
DEFINITION. Security associations: the table, the SA cache (R225, R330, R340), packet numbers and their blocks (R341 to R344),
the ratchet (R352 to R355), and the mirroring of SAs (R419).
-/
namespace Sys2Proof.Machine
open Sys2Proof

/-- The state with the line job changed. -/
def State.modLine (s : State) (f : Line → Line) : State := { s with line := f s.line }

/-- The SA at an index. -/
def State.sa (s : State) (i : Nat) : Option Sa := Sparse.get (fun _ => none) s.line.sas i

/-- The state with an index's SA replaced. -/
def State.setSa (s : State) (i : Nat) (x : Option Sa) : State :=
  s.modLine fun l => { l with sas := Sparse.set (fun _ => none) l.sas i x }

/-- The state with an installed SA changed. -/
def State.modSa (s : State) (i : Nat) (f : Sa → Sa) : State := match s.sa i with
  | some x => s.setSa i (some (f x))
  | none => s

/-- A MACsec type. -/
def isMacsec (t : Nat) : Bool := t == 1 || t == 2
/-- A transmitting type. -/
def isTx (t : Nat) : Bool := t == 1 || t == 3
/-- A receive type. -/
def isRx (t : Nat) : Bool := t == 2 || t == 4

/-- TX_AN of the block at a base (R335). -/
def State.txAn (s : State) (base : Nat) : Nat := Sparse.get (fun _ => 0) s.line.txAn base

/-- The block of an index: a channel's base. -/
def baseOf (i : Nat) : Nat := i - i % 4

/-- Fields of the MACsec descriptor (Table 13.2). -/
def Sa.suite (x : Sa) : Nat := natAt x.desc 0
/-- FLAGS of a descriptor. -/
def Sa.flags (x : Sa) : Nat := natAt x.desc 1
/-- XPN suites. -/
def Sa.xpn (x : Sa) : Bool := decide (2 ≤ x.suite)
/-- RATCHET_EN. -/
def Sa.ratchets (x : Sa) : Bool := isMacsec x.saType && bitOf x.flags 5
/-- RATCHET_COUNT. -/
def Sa.ratchetCount (x : Sa) : Nat := leAt x.desc 44 8
/-- REPLAY_WIN of an ESP descriptor. -/
def Sa.espWin (x : Sa) : Nat := leAt x.desc 20 2
/-- REPLAY_WIN of a MACsec descriptor. -/
def Sa.macWin (x : Sa) : Nat := leAt x.desc 36 4

/-- PN_MAX (Table 13.5). -/
def pnMax (saType : Nat) (desc : Bytes) : Nat :=
  let wide := if isMacsec saType then decide (2 ≤ natAt desc 0) else bitOf (natAt desc 1) 0
  if wide then 2 ^ 64 - 1 else 2 ^ 32 - 1

/-- The cache lines of a context: five for an ESP_IN SA with REPLAY_WIN above 128 (R340). -/
def Sa.lines (x : Sa) : Nat := if x.saType = 4 ∧ 128 < x.espWin then 5 else 1

/-- Installed SAs. -/
def State.saList (s : State) : List (Nat × Sa) := s.line.sas.filterMap fun p => p.2.map fun x => (p.1, x)

/-- Pinned SAs. -/
def State.pinnedSas (s : State) : Nat := (s.saList.filter fun p => p.2.pinned).length

/-- The first n lines of 128 bytes of the SA partition that no context takes (DESIGN CHOICE, log entry 88). -/
def State.freeSaLines (s : State) (n : Nat) : List Nat :=
  let used := s.saList.flatMap fun p => p.2.place
  ((List.range (used.length + n)).filter fun l => !used.contains l).take n

/-- The stored context of an SA: 128 bytes (R340), laid out as log entry 88 says. -/
def Sa.context (x : Sa) : Bytes := fit 64 x.desc ++ fit 32 x.key ++ fit 32 x.rk

/-- An SA is installed: its context, and its window extension if it has one, go to the SA partition, which starts at PA 0. -/
def State.storeSa (s : State) (i : Nat) (x : Sa) : State :=
  let ls := s.freeSaLines x.lines
  let s := s.setSa i (some { x with place := ls })
  (ls.zip (x.context :: List.replicate 4 (zeros 128))).foldl (fun s p => s.putLines (128 * p.1) 2 p.2) s

/-- An SA's context is read from the SA partition. -/
def State.loadSa (s : State) (i : Nat) : State :=
  s.modSa i fun x =>
    let b := s.getLines (128 * x.place.headD 0) 2
    { x with desc := b.take 64, key := (slice b 64 32).take x.key.length, rk := (slice b 96 32).take x.rk.length }

/-- Lines that all contexts occupy in the SA partition. -/
def State.saLines (s : State) : Nat := (s.saList.map fun p => p.2.lines).sum

/-! ### The SA cache -/

/-- An installed SA's context is in the on-die cache. The pin of one that is not takes effect at the next frame on it (R330). -/
def State.isCached (s : State) (i : Nat) : Bool := (s.sa i).isSome && s.line.cached.contains i

/-- The pinned contexts of a list, and its first unpinned ones, most recent first, that fit in `room` lines. -/
def keepLines (s : State) : Nat → List Nat → List Nat
  | _, [] => []
  | room, i :: l => match s.sa i with
    | none => keepLines s room l
    | some x =>
      if x.pinned then i :: keepLines s room l
      else if x.lines ≤ room then i :: keepLines s (room - x.lines) l
      else keepLines s 0 l

/-- The least recently used unpinned contexts leave a full cache (R225). -/
def State.evict (s : State) : State :=
  let pinned := ((s.saList.filter fun p => p.2.pinned && s.line.cached.contains p.1).map fun p => p.2.lines).sum
  s.modLine fun l => { l with cached := keepLines s (262144 - pinned) l.cached }

/-- A use of a context places it in the cache, as the most recently used (R225). -/
def State.touchSa (s : State) (i : Nat) : State := match s.sa i with
  | some _ => (s.modLine fun l => { l with cached := i :: l.cached.filter (· != i) }).evict
  | none => s

/-! ### Mirroring (R419) -/

/-- An index lies in the mirror range. -/
def State.mirrored (s : State) (i : Nat) : Bool :=
  let base := field (s.reg Reg.trkMirrorSaBase) 23 0
  let n := min 16384 (field (s.reg Reg.trkMirrorSaCount) 14 0)
  decide (base ≤ i) && decide (i < base + n)

/-- The mirror key towards the target (R414). -/
def State.mirrorKey (s : State) (source target : Nat) : Bytes :=
  kmac256 32 (s.slot 6).content (toBE 8 source ++ toBE 8 target) "GY-MIRROR"

/-- A key wrapped under the mirror key with AES-KWP: 40 bytes hold 32. -/
def wrapMirror (mk key : Bytes) : Bytes := stdOut 40 .aesKwpWrap 0 [mk, key]

/-- The SA_STATE record of an index (Table 16.5, R419): its descriptor carries the NEXT_PN of the generation's first block. -/
def State.saStateRecord (s : State) (i : Nat) (x : Sa) : TrkRecord :=
  let target := match s.trk.map, s.target with
    | some m, some p => m.serial p
    | _, _ => 0
  let mk := s.mirrorKey s.lcs.otp.serial.toNat target
  .saState i x.saType x.gen x.desc (wrapMirror mk x.key) (if x.rk = [] then [] else wrapMirror mk x.rk)

/-- SA_STATE is sent for a mirrored SA; before the ring has its first ring key nothing can be wrapped, and the change of the ring
key sends it. -/
def State.mirrorSa (s : State) (i : Nat) : State := match s.sa i with
  | some x => if s.mirrored i && (s.slot 6).valid then s.mirror (s.saStateRecord i x) else s
  | none => s

/-- An SA is removed: unpinned, out of the cache, and a mirrored one sends SA_REMOVE (R331, R419, R479). -/
def State.removeSa (s : State) (i : Nat) : State := match s.sa i with
  | some _ =>
    let s := (s.setSa i none).modLine fun l => { l with cached := l.cached.filter (· != i) }
    if s.mirrored i then s.mirror (.saRemove i) else s
  | none => s

/-! ### Packet-number blocks (R342, R343) -/

/-- The block size: 2^PN_LOG2 (R418). -/
def State.pnBlockSize (s : State) : Nat := 2 ^ clamp 16 24 (field (s.reg Reg.trkBlockCfg) 4 0)

/-- The first value past those that the SA's blocks may hold: past RATCHET_COUNT on a ratcheting channel that is not blocked,
else past PN_MAX (R342, R355). -/
def Sa.limit (x : Sa) : Nat :=
  if x.ratchets && !x.blocked then x.ratchetCount + 1 else pnMax x.saType x.desc + 1

/-- The value at which the next block starts. -/
def Sa.blockStart (x : Sa) : Nat := match x.blocks.getLast? with
  | some b => b.stop
  | none => x.next

/-- The index and the block of a reservation are mirrored, unless blocks are confirmed on reservation. -/
def State.announcePn (s : State) (i : Nat) (b : Block) : State :=
  if b.confirmed then s else s.mirror (.pnBlock i b.start b.stop)

/-- The index that the next generation of a channel uses (R352). -/
def nextGenIndex (i : Nat) : Nat := baseOf i + (i + 1) % 4

/-- The next block of a transmitting SA is reserved: after its last one, or, past the last of a generation, the first of the
next generation from PN 1 (R342). -/
def State.reservePn (s : State) (i : Nat) : State := match s.sa i with
  | some x =>
    let a := x.blockStart
    let ok := s.confirmsLocally
    if a < x.limit then
      let b : Block := ⟨a, min (a + s.pnBlockSize) x.limit, ok⟩
      (s.setSa i (some { x with blocks := x.blocks ++ [b] })).announcePn i b
    else if x.ratchets && !x.blocked && x.nextGen.isNone then
      let b : Block := ⟨1, min (1 + s.pnBlockSize) (x.ratchetCount + 1), ok⟩
      (s.setSa i (some { x with nextGen := some b })).announcePn (nextGenIndex i) b
    else s
  | none => s

/-- A PN_BLOCK that the target has acknowledged is confirmed (R342, R418): a hold ends with it. -/
def State.confirmPn (s : State) (i start : Nat) : State :=
  let mark (b : Block) : Block := if b.start = start then { b with confirmed := true } else b
  let s := s.modSa i fun x => { x with blocks := x.blocks.map mark, held := false }
  let prev := baseOf i + (i + 3) % 4
  s.modSa prev fun x => if start = 1 then { x with nextGen := x.nextGen.map mark } else x

/-- What comes of asking an SA for its next value (R341 to R344). -/
inductive PnAnswer where
  | value (n : Nat)
  | hold
  | exhausted
  deriving DecidableEq, Repr

/-- The next value of a transmitting SA. -/
def Sa.nextValue (x : Sa) : PnAnswer :=
  if pnMax x.saType x.desc < x.next then .exhausted
  else if x.blocks.any fun b => b.confirmed && decide (b.start ≤ x.next) && decide (x.next < b.stop) then .value x.next
  else .hold

/-- PN_WARN is due: the values left first fall below 2^REMAIN_LOG2 (R344). -/
def State.pnWarns (s : State) (x : Sa) : Bool :=
  let r := field (s.reg Reg.lcePnWarn) 5 0
  r != 0 && !x.warned && decide (pnMax x.saType x.desc + 1 - x.next < 2 ^ r)

/-- A 64-bit counter counts and wraps (R333, R365). -/
def State.wideAdd (s : State) (k n : Nat) : State :=
  s.modLine fun l => { l with wide := Sparse.set (fun _ => 0) l.wide k (Sparse.get (fun _ => 0) l.wide k + BitVec.ofNat 64 n) }

/-- One event of an LCE counter. -/
def State.lceCount (s : State) (r : Nat) : State := s.wideAdd (4 * r) 1

/-- The ratchet of a transmitting channel starts to derive its next key once NEXT_PN reaches RATCHET_COUNT − 2^16 + 1 (R353). -/
def Sa.ratchetDue (x : Sa) : Bool :=
  x.saType == 1 && x.ratchets && !x.blocked && decide (x.ratchetCount + 1 ≤ x.next + 2 ^ 16)

/-- The index that the ratchet needs holds an SA: RATCHET_BLOCKED (R355). -/
def State.ratchetBlocked (s : State) (i : Nat) : State :=
  ((s.modSa i fun x => { x with blocked := true, deriving_ := false }).raise Reg.lceEvent 0x10).logEvent 0x2004
    (nextGenIndex i) 0

/-- The derivation of the generation after that of index i begins, or is blocked (R353 to R355). -/
def State.beginRatchet (s : State) (i : Nat) : State :=
  if (s.sa (nextGenIndex i)).isSome then s.ratchetBlocked i else s.modSa i fun x => { x with deriving_ := true }

/-- A value of a transmitting SA is assigned: the next block is reserved at half of one, PN_WARN and the ratchet follow
(R341, R342, R344, R353); PN_MAX exhausts the SA. -/
def State.usePn (s : State) (i : Nat) : State := match s.sa i with
  | some x =>
    let n := x.next
    let half := x.blocks.find? fun b => decide (b.start ≤ n) && decide (n < b.stop)
    let s := s.setSa i (some { x with next := n + 1, blocks := x.blocks.filter fun b => decide (n + 1 < b.stop) || b.stop == x.blockStart })
    let s := match half with
      | some b => if b.stop = x.blockStart ∧ b.stop - b.start ≤ 2 * (n + 1 - b.start) then s.reservePn i else s
      | none => s
    let s := if n = pnMax x.saType x.desc then
      ((s.modSa i fun y => { y with exhausted := true }).raise Reg.lceEvent 2).logEvent 0x2002 i 0 else s
    let s := match s.sa i with
      | some y => if s.pnWarns y then
          ((s.modSa i fun y => { y with warned := true }).raise Reg.lceEvent 1).logEvent 0x2001 i 0 else s
      | none => s
    match s.sa i with
    | some y =>
      if y.ratchetDue && !y.deriving_ && (s.sa (nextGenIndex i)).all (fun z => !(z.derived && z.gen == y.gen + 1)) then
        s.beginRatchet i
      else s
    | none => s
  | none => s

/-! ### The ratchet (R352 to R355) -/

/-- X of the derivation of generation g under AN a (R352). -/
def ratchetInput (g a : Nat) (sci : Bytes) : Bytes := toBE 4 g ++ [BitVec.ofNat 8 a] ++ sci

/-- The length of a suite's key. -/
def Sa.keyLen (x : Sa) : Nat := if x.suite % 2 = 1 then 32 else 16

/-- The SA of the generation after x, installed at index j (R352, R353, R354). -/
def Sa.successor (x : Sa) (j : Nat) : Sa :=
  let inp := ratchetInput (x.gen + 1) (j % 4) (slice x.desc 4 8)
  let rk := kmac256 32 x.rk inp "GY-RATCHET-RK"
  let tx := x.saType == 1
  { saType := x.saType, func := x.func, pinned := x.pinned, desc := putAt x.desc 28 (toLE 8 1)
    key := kmac256 x.keyLen rk inp "GY-RATCHET-SAK", rk := rk, gen := x.gen + 1, next := 1, lapn := 1
    blocks := if tx then x.nextGen.toList else [], derived := true, pendingGen := !tx }

/-- The next generation's key is derived and installed (R353, R354): a transmitting one does not yet send. The step uses both contexts
(R225). -/
def State.ratchetInstall (s : State) (i : Nat) : State := match s.sa i with
  | some x =>
    let j := nextGenIndex i
    if (s.sa j).isSome then s.ratchetBlocked i
    else
      let s := (s.setSa i (some { x with deriving_ := false, nextGen := none })).touchSa i
      let s := (s.storeSa j (x.successor j)).touchSa j
      let s := if x.saType = 1 ∧ x.nextGen.isNone then s.reservePn j else s
      s.mirrorSa j
  | none => s

/-- A transmitting channel moves to its next generation after PN RATCHET_COUNT (R353): TX_AN moves, the old SA is removed and
its RK erased with it. -/
def State.ratchetSwitch (s : State) (i : Nat) : State :=
  let j := nextGenIndex i
  let s := s.modLine fun l => { l with txAn := Sparse.set (fun _ => 0) l.txAn (baseOf i) (j % 4) }
  let s := (s.removeSa i).modSa j fun x => { x with pendingGen := false }
  (s.lceCount Reg.lceRatchetsLo).raise Reg.lceEvent 8

/-- A receiving channel adopts the generation of index j (R354): the generation before it keeps accepting for the overlap, and
the one after it is derived. -/
def State.ratchetAdopt (s : State) (j : Nat) : State :=
  let prev := baseOf j + (j + 3) % 4
  let s := s.modSa prev fun x => { x with overlap := true, rk := [] }
  (s.modSa j fun x => { x with pendingGen := false }).beginRatchet j

/-- The SA whose transmitting channel's turn it is under a base, after a due change of generation (R335, R353). -/
def State.txIndex (s : State) (base : Nat) : Nat × State :=
  let i := base + s.txAn base
  match s.sa i with
  | some x =>
    let j := nextGenIndex i
    let ready := match s.sa j with | some z => z.derived && z.gen == x.gen + 1 | none => false
    if x.saType == 1 && x.ratchets && !x.blocked && decide (x.ratchetCount < x.next) && ready then (j, s.ratchetSwitch i)
    else (i, s)
  | none => (i, s)

end Sys2Proof.Machine
end

