-- ==== Sys2Proof/Machine/JournalCore.lean ====
section
/-!
DEFINITION. The evidence journal as the line job, the Comb and the trunk use it (chapter 15): opening and completing records
(R391 to R394), the chain (R395, R401), and taking, signing and committing checkpoints (R396 to R399).
-/
namespace Sys2Proof.Machine
open Sys2Proof

/-- The state with the journal changed. -/
def State.modEvj (s : State) (f : Evj → Evj) : State := { s with evj := f s.evj }

/-! ### Own Comb jobs (R33) -/

/-- A Comb job of the device's own waits for the forager with its key (R33). -/
def State.startOwn (s : State) (job : OwnJob) (op : Nat) (k : KeySlot) (input params : Bytes) (drbg : Bool) : State :=
  let n := s.comb.ownSeq
  let p := s.program op
  let o : CombOp := {
    id := 8192 + n, src := .own job, entryOp := op, opcode := op, kind := engineKind op,
    classC := match p with | some p => p.classC | none => true
    iterating := match p with | some p => p.iterating | none => false
    iterMax := match p with | some p => p.iterMax | none => 0
    drbg := drbg, order := n, waitFrom := s.free, input := input, params := fit 16 params, keySlot := noSlot, key := k.content, tr := k.tr }
  let s := { s with comb := { s.comb with ownSeq := n + 1 } }
  s.setOps (s.comb.ops ++ [o])

/-- A deterministic, pure ML-DSA-65 signature by slot 4 under a context (R397, R399, R413). -/
def State.startSign (s : State) (job : OwnJob) (ctx : String) (msg : Bytes) : State :=
  s.startOwn job 0x115 (s.slot 4) (ascii ctx ++ msg) [1, BitVec.ofNat 8 ctx.length] false

/-! ### Sequence numbers (R394) -/

/-- The block size: 2^JRN_LOG2 (R418). -/
def State.jrnBlockSize (s : State) : Nat := 2 ^ clamp 12 16 (field (s.reg Reg.trkBlockCfg) 20 16)

/-- The next journal block is reserved and, unless blocks are confirmed on reservation, mirrored. -/
def State.reserveJrn (s : State) : State :=
  let a := match s.evj.blocks.getLast? with
    | some b => b.stop
    | none => s.evj.nextSeq
  let b : Block := ⟨a, a + s.jrnBlockSize, s.confirmsLocally⟩
  let s := s.modEvj fun e => { e with blocks := e.blocks ++ [b] }
  if b.confirmed then s else s.mirror (.jrnBlock b.start b.stop)

/-- A JRN_BLOCK that the target has acknowledged is confirmed. -/
def State.confirmJrn (s : State) (start : Nat) : State :=
  s.modEvj fun e => { e with blocks := e.blocks.map fun b => if b.start = start then { b with confirmed := true } else b }

/-- The next SEQ, when it lies in a confirmed block. -/
def Evj.seqReady (e : Evj) : Bool :=
  e.blocks.any fun b => b.confirmed && decide (b.start ≤ e.nextSeq) && decide (e.nextSeq < b.stop)

/-- A SEQ is used, and the next block reserved at half of one. -/
def State.useSeq (s : State) : State :=
  let n := s.evj.nextSeq
  let last := s.evj.blocks.getLast?
  let s := s.modEvj fun e => { e with nextSeq := n + 1, blocks := e.blocks.filter fun b => decide (n + 1 < b.stop) || some b == last }
  match last with
  | some b => if b.start ≤ n ∧ b.stop - b.start ≤ 2 * (n + 1 - b.start) then s.reserveJrn else s
  | none => s

/-! ### The chain and the rings (R395, R401) -/

/-- Items that the device holds and the host has not consumed lose their oldest when a ring is full. -/
def State.overwritten (s : State) : State :=
  ((s.count Reg.evjOverwritten).raise Reg.evjEvent 1).modEvj fun e => { e with overflow := true }

/-- A chained record enters the record ring (R401). -/
def State.pushRecord (s : State) (seq : Nat) (body : Bytes) : State :=
  let full := decide ((s.reg Reg.evjRingCap).toNat ≤ s.evj.ring.length)
  let s := s.modEvj fun e => { e with
    ring := (if full then e.ring.drop 1 else e.ring) ++ [({ seq := seq, body := body } : HeldRec)] }
  if full then s.overwritten else s

/-- Completed records are chained in SEQ order (R391, R395): C ← SHA3-256(C ‖ record). Past 65,536 records they wait for the checkpoint that is
due (R396, R398). -/
def chainRecords : List OpenRec → State → State
  | [], s => s
  | r :: rest, s =>
    if r.done = true ∧ s.evj.chained < 65536 then
      let c := sha3_256 (s.evj.chain ++ r.body)
      let s := s.modEvj fun e => { e with chain := c, chained := e.chained + 1, endSeq := r.seq + 1, queue := rest }
      chainRecords rest (s.pushRecord r.seq r.body)
    else s

/-- Every record that can be chained is chained. -/
def State.chainReady (s : State) : State := chainRecords s.evj.queue s

/-- A record opens with the fields known at its opening; none when no confirmed SEQ or no place is left (R391). -/
def State.openRecord (s : State) (fields : Nat → Bytes) : Option (Nat × State) :=
  if s.evj.seqReady ∧ s.evj.queue.length < 4096 then
    let n := s.evj.nextSeq
    let s := s.useSeq.modEvj fun e => { e with queue := e.queue ++ [({ seq := n, body := fields n } : OpenRec)] }
    some (n, s)
  else none

/-- A record is completed with the bytes known at its end. -/
def State.completeRecord (s : State) (seq : Nat) (fill : Bytes → Bytes) : State :=
  (s.modEvj fun e => { e with queue := e.queue.map fun r => if r.seq = seq then { r with body := fill r.body, done := true } else r })
    |>.chainReady

/-- A record that describes no frame: the BOOT record (R393, R398). -/
def State.bootRecord (s : State) (digest : Bytes) : State :=
  match s.openRecord fun n => toLE 8 n ++ s.stampNow.compact ++ zeros 11 ++ [0x80] ++ zeros 12 ++ fit 24 digest with
  | some (n, t) => t.completeRecord n id
  | none => s

/-! ### Checkpoints (R396 to R399) -/

/-- Slot 4 holds the journal key. -/
def State.jrnKey (s : State) : Bool := (s.slot 4).valid

/-- MIXED_RING: COMMITTED is below the highest CAP_MAX of a member known here (R430). -/
def State.mixedRing (s : State) : Bool :=
  s.trk.map.isSome && decide (s.trk.committed < max 2 (max s.trk.east.peerCapMax s.trk.west.peerCapMax))

/-- The body of a checkpoint taken now, PREV_CP zero until it is filled (Table 15.3). -/
def State.cpBody (s : State) (trigger : Nat) : Bytes :=
  let e := s.evj
  let flags := b2n e.bootCp + 2 * b2n (e.bootCp && e.anchorLost) + 4 * b2n e.overflow + 8 * b2n s.mixedRing + 16 * b2n (s.slot 4).test
  toLE 4 0x50435947 ++ toLE 2 1 ++ [BitVec.ofNat 8 flags, BitVec.ofNat 8 trigger] ++ s.serialBytes ++ toLE 8 e.nextCp ++
    toLE 8 e.prevEnd ++ toLE 8 e.endSeq ++ toLE 4 e.chained ++ toLE 4 (if s.trk.map.isSome then s.trk.committed else 0) ++
    s.stampNow.full s.qualityCode ++ zeros 4 ++ e.chain ++ zeros 32

/-- The state with a checkpoint entry changed. -/
def State.modCp (s : State) (num : Nat) (f : CpEntry → CpEntry) : State :=
  s.modEvj fun e => { e with cps := e.cps.map fun c => if c.num = num then f c else c }

/-- Both countersignature blocks of an entry are settled (R399). -/
def CpEntry.complete (c : CpEntry) : Bool := c.stage == .committed && c.west.status != 3 && c.east.status != 3

/-- A countersignature block (R400). -/
def Csig.bytes (c : Csig) : Bytes :=
  toBE 8 c.serial ++ [BitVec.ofNat 8 (if c.status = 3 then 0 else c.status), BitVec.ofNat 8 (b2n c.test)] ++ zeros 6 ++
    fit 3309 c.sig

/-- The 16,384 bytes of a checkpoint entry (Table 15.4). -/
def CpEntry.bytes (c : CpEntry) : Bytes :=
  fit 3456 (c.body ++ c.sig) ++ fit 3328 c.west.bytes ++ fit 9600 c.east.bytes

/-- JRN_READ_CP entries that waited for an entry's countersignatures complete (R405). -/
def State.serveReaders (s : State) (num : Nat) : State := match s.evj.cps.find? fun c => c.num == num with
  | some c =>
    if c.complete then
      let mine := s.evj.readWait.filter fun w => w.2 == num
      let s := s.modEvj fun e => { e with readWait := e.readWait.filter fun w => w.2 != num }
      mine.foldl (fun s w => s.complete w.1 St.ok 0 c.bytes) s
    else s
  | none => s

/-- The block of a neighbour at a commit: awaited, and D_cp sent to it, while a map is in force; else NONE (R397, R399). -/
def State.askCsig (s : State) (west : Bool) (digest : Bytes) : Csig × State := match s.trk.map with
  | some m =>
    ({ serial := m.serial (m.neighbour west), status := 3 },
      s.trkSend west 0x40 0xFF false (digest ++ toBE 8 s.lcs.otp.serial.toNat))
  | none => ({}, s)

/-- The checkpoint ring holds 1,024 entries; its oldest unconsumed one is overwritten (R401). -/
def State.trimCps (s : State) : State :=
  if 1024 < s.evj.cps.length then (s.modEvj fun e => { e with cps := e.cps.drop 1 }).overwritten else s

/-- A checkpoint commits with its signature, or unsigned (R397): MRG30 is extended, the anchor written, D_cp sent to both
neighbours, and the commands that waited for the commit complete. -/
def State.commitCp (s : State) (c : CpEntry) (sig : Option Bytes) : State :=
  let body := match sig with
    | some _ => c.body
    | none => putAt c.body 6 [byteAt c.body 6 ||| 0x20]
  let sg := fit 3309 (sig.getD [])
  let d := sha3_256 (body ++ sg)
  let s := if sig.isNone then (s.count Reg.evjUnsignedCp).raise Reg.evjEvent 4 else s
  let s := s.mrgOwn 30 (d ++ toLE 8 c.num ++ zeros 8)
  let s := s.modEvj fun e => { e with
    lastDigest := d, anchor := some { e.anchor.getD {} with commitNum := c.num, commitDigest := d } }
  let w := s.askCsig true d
  let e := w.2.askCsig false d
  let s := e.2.modCp c.num fun _ => { c with
    body := body, sig := sg, digest := d, stage := .committed, west := w.1, east := e.1 }
  let mine := s.evj.cpWait.filter fun x => x.2 == c.num
  let s := s.modEvj fun e => { e with cpWait := e.cpWait.filter fun x => x.2 != c.num }
  (mine.foldl (fun s x => s.complete x.1 St.ok 0 (toLE 8 c.num)) s).serveReaders c.num

/-- The first checkpoint that is not committed. -/
def Evj.firstOpen (e : Evj) : Option CpEntry := e.cps.find? fun c => c.stage != .committed

/-- An entry with the digest of the one before it in PREV_CP (R396). -/
def State.withPrev (s : State) (c : CpEntry) : CpEntry := { c with body := putAt c.body 96 (fit 32 s.evj.lastDigest) }

/-- Checkpoints are signed and committed in order, one at a time; without a journal key they commit unsigned (R397). -/
def advanceCps : Nat → State → State
  | 0, s => s
  | n + 1, s => match s.evj.firstOpen with
    | some c =>
      if c.stage = .signing then s
      else
        let c := s.withPrev c
        let s := s.readOwn 4
        if s.jrnKey then
          (s.modCp c.num fun _ => { c with stage := .signing }).startSign (.cpSign c.num) "GY-JRN" c.body
        else advanceCps n (s.commitCp c none)
    | none => s

/-- The signing of checkpoints goes on as far as it can. -/
def State.advance (s : State) : State := advanceCps (s.evj.cps.length + 1) s

/-- The oldest checkpoint that awaits its signature is committed unsigned, and its job, if any, ended. -/
def State.commitOldest (s : State) : State := match s.evj.firstOpen with
  | some c => ((s.dropOwn (.cpSign c.num)).commitCp (s.withPrev c) none)
  | none => s

/-- A checkpoint is taken (R396 to R398): its body is fixed, the anchor's TAKEN fields written, and at most 8 await signature. -/
def State.takeCheckpoint (s : State) (trigger : Nat) : State :=
  let e := s.evj
  let c : CpEntry := { num := e.nextCp, body := s.cpBody trigger }
  let a := if e.bootCp && e.anchorLost then {} else e.anchor.getD {}
  let s := s.modEvj fun e => { e with
    cps := e.cps ++ [c], nextCp := e.nextCp + 1, chained := 0, prevEnd := e.endSeq, bootCp := false, overflow := false
    anchorErased := false
    anchor := some { a with takenNum := c.num, takenEnd := e.endSeq, takenChain := e.chain } }
  let waiting := (s.evj.cps.filter fun c => c.stage != .committed).length
  let s := s.trimCps
  (if 8 < waiting then s.commitOldest else s).advance.chainReady

/-- A checkpoint's signature leaves the Comb (R397). -/
def State.cpSigned (s : State) (num : Nat) (sig : Bytes) : State := match s.evj.cps.find? fun c => c.num == num with
  | some c => (s.commitCp c (some sig)).advance
  | none => s

end Sys2Proof.Machine
end

