-- ==== Sys2Proof/Machine/Parse.lean ====
section
/-!
DEFINITION. The classifier's parser: the headers of Table 12.2 in a frame's first 256 bytes, the key of Table 12.3, and the
places of the headers that later units rewrite (R320).
-/
namespace Sys2Proof.Machine
open Sys2Proof

/-- What the parser has found: the fields of Table 12.3, and the offsets of the headers. -/
structure Parsed where
  vlan : Bool := false
  qinq : Bool := false
  hsr : Bool := false
  prp : Bool := false
  limit : Bool := false
  etype : Nat := 0
  vid : Nat := 0
  appid : Nat := 0
  proto : Nat := 0
  udp : Bool := false
  routable : Bool := false
  dport : Nat := 0
  spi : Nat := 0
  sci : Bytes := zeros 8
  /-- the EtherType of the SecTAG, of the payload -/
  sectag : Option Nat := none
  etOff : Nat := 12
  /-- the IP header, and whether it is IPv6; the end of its extensions; the byte that names the protocol -/
  ip : Option (Nat × Bool) := none
  l4 : Nat := 0
  protoOff : Nat := 0
  fragment : Bool := false
  esp : Bool := false
  udpOff : Option Nat := none
  ptp : Option Nat := none
  /-- 1 GOOSE, 2 SV, over Layer 2 or routable -/
  app : Nat := 0
  deriving DecidableEq, Repr

/-- A header of n bytes at an offset lies within the first 256 bytes. -/
def inReach (off n : Nat) : Bool := decide (off + n ≤ 256)

/-- One VLAN tag, if there is one. -/
def parseVlan (f : Bytes) (p : Parsed) : Parsed :=
  let et := beAt f p.etOff 2
  if et = 0x8100 ∨ et = 0x88A8 then
    if inReach p.etOff 6 then
      let tci := beAt f (p.etOff + 2) 2
      if p.vlan then { p with qinq := true, etOff := p.etOff + 4 }
      else { p with vlan := true, vid := tci % 0x1000 + tci / 0x2000 * 0x2000, etOff := p.etOff + 4 }
    else { p with limit := true }
  else p

/-- The HSR tag: parsing continues after it. -/
def parseHsr (f : Bytes) (p : Parsed) : Parsed :=
  if beAt f p.etOff 2 = 0x892F then
    if inReach p.etOff 8 then { p with hsr := true, etOff := p.etOff + 6 } else { p with limit := true }
  else p

/-- TCI of a SecTAG whose EtherType stands at an offset. -/
def tciAt (f : Bytes) (off : Nat) : Nat := natAt f (off + 2)

/-- The length of a SecTAG: 16 bytes with an explicit SCI, else 8. -/
def secTagLen (f : Bytes) (off : Nat) : Nat := if bitOf (tciAt f off) 5 then 16 else 8

/-- The SecTAG: its SCI, explicit or formed from the source address and port 1. An integrity-only frame is parsed on. -/
def parseSecTag (f : Bytes) (p : Parsed) : Parsed :=
  if beAt f p.etOff 2 = 0x88E5 then
    let n := secTagLen f p.etOff
    if inReach p.etOff n then
      let sci := if n = 16 then slice f (p.etOff + 8) 8 else slice f 6 6 ++ [0, 1]
      let q := { p with sectag := some p.etOff, sci := sci }
      if bitOf (tciAt f p.etOff) 3 then q else { q with etOff := p.etOff + n }
    else { p with limit := true }
  else p

/-- IPv6 extension headers that the parser passes over. -/
def isExtension (n : Nat) : Bool := n == 0 || n == 43 || n == 44 || n == 60 || n == 51 || n == 135

/-- The length of an extension header. -/
def extensionLen (f : Bytes) (n off : Nat) : Nat :=
  if n = 44 then 8 else if n = 51 then (natAt f (off + 1) + 2) * 4 else (natAt f (off + 1) + 1) * 8

/-- At most `k` extension headers: the next header after them, where it is named, and where it starts; none past the limit. -/
def parseExtensions (f : Bytes) : Nat → Nat → Nat → Nat → Bool → Option (Nat × Nat × Nat × Bool)
  | k, nh, named, off, frag =>
    if isExtension nh then
      match k with
      | 0 => none
      | k + 1 =>
        let n := extensionLen f nh off
        if inReach off n then parseExtensions f k (natAt f off) off (off + n) (frag || nh == 44) else none
    else some (nh, named, off, frag)

/-- The IP header. -/
def parseIp (f : Bytes) (p : Parsed) : Parsed :=
  let off := p.etOff + 2
  if beAt f p.etOff 2 = 0x0800 then
    let n := natAt f off % 16 * 4
    if inReach off (max 20 n) then
      { p with ip := some (off, false), l4 := off + max 20 n, proto := natAt f (off + 9), protoOff := off + 9
               fragment := beAt f (off + 6) 2 % 0x4000 != 0 }
    else { p with limit := true }
  else if beAt f p.etOff 2 = 0x86DD then
    if inReach off 40 then
      match parseExtensions f 2 (natAt f (off + 6)) (off + 6) (off + 40) false with
      | some (nh, named, l4, frag) =>
        { p with ip := some (off, true), l4 := l4, proto := nh, protoOff := named, fragment := frag }
      | none => { p with ip := some (off, true), limit := true, l4 := 256 }
    else { p with limit := true }
  else p

/-- A PTP header at an offset: messageType and domainNumber (Table 12.2). -/
def parsePtp (f : Bytes) (off : Nat) (p : Parsed) : Parsed :=
  if inReach off 34 then { p with ptp := some off, appid := natAt f off % 16 + 256 * natAt f (off + 4) } else { p with limit := true }

/-- What lies above IP: UDP with its PTP and routable sessions, or ESP. -/
def parseL4 (f : Bytes) (p : Parsed) : Parsed :=
  if p.ip.isNone then p
  else if p.proto = 50 then
    if inReach p.l4 8 then { p with esp := true, spi := beAt f p.l4 4 } else { p with limit := true }
  else if p.proto = 17 ∧ p.fragment = false then
    if inReach p.l4 8 then
      let dport := beAt f (p.l4 + 2) 2
      let p := { p with udp := true, udpOff := some p.l4, dport := dport }
      if dport = 319 ∨ dport = 320 then parsePtp f (p.l4 + 8) p
      else if dport = 102 ∧ Config.stdHolds .session905 0 [f.drop (p.l4 + 8)] = true then
        { p with routable := true, appid := Config.stdCount .sessionAppid 0 [f.drop (p.l4 + 8)] % 2 ^ 16
                 app := Config.stdCount .session905 0 [f.drop (p.l4 + 8)] % 3 }
      else p
    else { p with limit := true }
  else p

/-- What the EtherType names directly: GOOSE, SV or PTP. -/
def parseL2 (f : Bytes) (p : Parsed) : Parsed :=
  let et := beAt f p.etOff 2
  let p := { p with etype := et }
  if et = 0x88B8 ∨ et = 0x88BA then
    if inReach p.etOff 4 then { p with appid := beAt f (p.etOff + 2) 2, app := et - 0x88B8 - (et - 0x88B8) / 2 + 1 }
    else { p with limit := true }
  else if et = 0x88F7 then parsePtp f (p.etOff + 2) p
  else p

/-- A PRP trailer: the frame ends in 0x88FB, and its LSDU size agrees (IEC 62439-3). -/
def hasPrp (f : Bytes) : Bool := beAt f (f.length - 2) 2 == 0x88FB && Config.stdHolds .prpTrailerOk 0 [f]

/-- The parser. Once the limit is met, what lies beyond stays zero (R320). -/
def parseFrame (f : Bytes) : Parsed :=
  let next (k : Bytes → Parsed → Parsed) (p : Parsed) : Parsed := if p.limit then p else k f p
  let p := next parseSecTag (next parseHsr (next parseVlan (next parseVlan {})))
  let p := if inReach p.etOff 2 then next parseL4 (next parseIp (next parseL2 p)) else { p with limit := true }
  { p with prp := hasPrp f }

/-- The key of Table 12.3. -/
def Parsed.key (p : Parsed) (f : Bytes) (group port : Nat) (pass2 : Bool) : Bytes :=
  let v6 := match p.ip with | some (_, six) => six | none => false
  let hdrs := [p.vlan, p.qinq, p.sectag.isSome, p.hsr, p.prp, p.ip.isSome && !v6, v6, p.limit]
  let l4 := [p.udp, p.routable, pass2]
  let bits (l : List Bool) : Byte := BitVec.ofNat 8 (l.foldr (fun b n => b2n b + 2 * n) 0)
  [BitVec.ofNat 8 (group + 8 * port), bits hdrs] ++ toLE 2 p.etype ++ toLE 2 p.vid ++ toLE 2 p.appid ++ slice f 0 6 ++
    [BitVec.ofNat 8 p.proto, bits l4] ++ toLE 2 p.dport ++ [0, 0] ++ toLE 4 p.spi ++ fit 8 p.sci

/-- The frame shows encryption: a SecTAG with E = 1, or ESP (R323). -/
def Parsed.encrypted (p : Parsed) (f : Bytes) : Bool :=
  p.esp || match p.sectag with | some o => bitOf (tciAt f o) 3 | none => false

end Sys2Proof.Machine
end

