-- ==== Sys2Proof/Machine/LineCrypto.lean ====
section
/-!
DEFINITION. What the cipher pipelines and the MAUs do to a frame (chapter 13): MACsec (R336, R345), ESP (R337, R346), and the
IEC 62351-6 authentication value (R338, R350, R351).
-/
namespace Sys2Proof.Machine
open Sys2Proof

/-! ### MACsec -/

/-- The IV of a PN (IEEE 802.1AE-2018): SCI ‖ PN, or (SSCI ‖ 64-bit PN) ⊕ SALT for XPN suites. -/
def Sa.macIv (x : Sa) (pn : Nat) : Bytes :=
  if x.xpn then xorBytes (slice x.desc 12 4 ++ toBE 8 pn) (slice x.desc 16 12) else slice x.desc 4 8 ++ toBE 4 (pn % 2 ^ 32)

/-- CONFIDENTIAL. -/
def Sa.confidential (x : Sa) : Bool := bitOf x.flags 1

/-- The bytes of the secure data that stay in clear (CONF_OFFSET), all of them without CONFIDENTIAL. -/
def clearLen (confidential : Bool) (offset n : Nat) : Nat := if confidential then min offset n else n

/-- A frame protected under AN `an` with a PN: the SecTAG after the source address, the ICV at the end. -/
def Sa.macProtect (x : Sa) (an pn : Nat) (f : Bytes) : Bytes :=
  let data := f.drop 12
  let tci := an + 12 * b2n x.confidential + 32 * b2n (bitOf x.flags 2) + 64 * b2n (bitOf x.flags 3)
  let tag := [0x88, 0xE5, BitVec.ofNat 8 tci, BitVec.ofNat 8 (if data.length < 48 then data.length else 0)] ++
    toBE 4 (pn % 2 ^ 32) ++ if bitOf x.flags 2 then slice x.desc 4 8 else []
  let n := clearLen x.confidential (natAt x.desc 2) data.length
  let aad := f.take 12 ++ tag ++ data.take n
  aad ++ gcmSeal x.key (x.macIv pn) aad (data.drop n)

/-- A SecTAG that IEEE 802.1AE-2018 calls valid, and room for the ICV (R348). -/
def secTagValid (f : Bytes) (off : Nat) : Bool :=
  let t := tciAt f off
  let sl := natAt f (off + 3)
  let es := bitOf t 6
  let sc := bitOf t 5
  let scb := bitOf t 4
  let n := secTagLen f off
  !bitOf t 7 && !(sc && (es || scb)) && !(bitOf t 3 && !bitOf t 2) && decide (sl < 48) && decide (off + n + 16 ≤ f.length) &&
    (sl == 0 || decide (off + n + sl + 16 ≤ f.length))

/-- The wire PN of a SecTAG. -/
def wirePn (f : Bytes) (off : Nat) : Nat := beAt f (off + 4) 4

/-- The PN that a wire PN stands for, with LAPN for XPN suites (IEEE 802.1AE-2018). -/
def Sa.recoverPn (x : Sa) (pn : Nat) : Nat :=
  if x.xpn then
    let high := x.lapn / 2 ^ 32 + if bitOf x.lapn 31 && !bitOf pn 31 then 1 else 0
    high * 2 ^ 32 + pn
  else pn

/-- The clear part and the sealed part of a protected frame, by its own E bit. -/
def Sa.macParts (x : Sa) (f : Bytes) (off : Nat) : Bytes × Bytes :=
  let start := off + secTagLen f off
  let sl := natAt f (off + 3)
  let body := if sl = 0 then f.drop start else slice f start (sl + 16)
  let n := clearLen (bitOf (tciAt f off) 3) (natAt x.desc 2) (body.length - 16)
  (f.take start ++ body.take n, body.drop n)

/-- The ICV of a protected frame holds. -/
def Sa.macOk (x : Sa) (f : Bytes) (off pn : Nat) : Bool :=
  let p := x.macParts f off
  gcmOk x.key (x.macIv pn) p.1 p.2

/-- The frame without SecTAG and ICV, decrypted. -/
def Sa.macOpen (x : Sa) (f : Bytes) (off pn : Nat) : Bytes :=
  let p := x.macParts f off
  f.take off ++ p.1.drop (off + secTagLen f off) ++ gcmOpen x.key (x.macIv pn) p.1 p.2

/-! ### IP headers -/

/-- The ones' complement sum of 16-bit words. -/
def onesSum : Bytes → Nat → Nat
  | a :: b :: l, acc => let t := acc + (a.toNat * 256 + b.toNat); onesSum l (t % 65536 + t / 65536)
  | [a], acc => let t := acc + a.toNat * 256; t % 65536 + t / 65536
  | [], acc => acc

/-- An IPv4 header with its checksum. -/
def withChecksum (h : Bytes) : Bytes := let z := putAt h 10 [0, 0]; putAt z 10 (toBE 2 (65535 - onesSum z 0))

/-- The IP packet of a frame, Ethernet padding and trailers apart. -/
def ipPacket (f : Bytes) (ip : Nat) (six : Bool) : Bytes :=
  slice f ip (if six then 40 + beAt f (ip + 4) 2 else beAt f (ip + 2) 2)

/-- A frame's headers up to `l4` with the protocol and the length for `n` bytes behind them (R337). -/
def ipHeaders (f : Bytes) (ip : Nat) (six : Bool) (protoOff l4 proto n : Nat) : Bytes :=
  let h := putAt (f.take l4) protoOff [BitVec.ofNat 8 proto]
  if six then putAt h (ip + 4) (toBE 2 (l4 - ip - 40 + n))
  else h.take ip ++ withChecksum (putAt (h.drop ip) 2 (toBE 2 (l4 - ip + n)))

/-! ### ESP -/

/-- ESN. -/
def Sa.esn (x : Sa) : Bool := bitOf (natAt x.desc 1) 0

/-- The authenticated data of RFC 4106. -/
def Sa.espAad (x : Sa) (spi : Bytes) (seq : Nat) : Bytes := spi ++ if x.esn then toBE 8 seq else toBE 4 (seq % 2 ^ 32)

/-- The ESP packet over a payload (RFC 4303, RFC 4106): padded to four bytes, IV equal to the sequence number. -/
def Sa.espSeal (x : Sa) (seq nextHeader : Nat) (payload : Bytes) : Bytes :=
  let pad := (4 - (payload.length + 2) % 4) % 4
  let pt := payload ++ (List.range pad).map (fun i => BitVec.ofNat 8 (i + 1)) ++ [BitVec.ofNat 8 pad, BitVec.ofNat 8 nextHeader]
  let spi := slice x.desc 4 4
  spi ++ toBE 4 (seq % 2 ^ 32) ++ toBE 8 seq ++ gcmSeal x.key (slice x.desc 8 4 ++ toBE 8 seq) (x.espAad spi seq) pt

/-- The outer header of tunnel mode (Table 13.3); `ident` is the IPv4 identification or the IPv6 flow label, which the spec
leaves open. -/
def Sa.outerHeader (x : Sa) (inner : Bytes) (six : Bool) (ident n : Nat) : Bytes :=
  let tc := if six then beAt inner 0 2 / 16 % 256 else natAt inner 1
  let dscp := if bitOf (natAt x.desc 57) 6 then tc / 4 else natAt x.desc 57 % 64
  let outer := dscp * 4 + tc % 4
  if natAt x.desc 0 = 1 then
    withChecksum ([0x45, BitVec.ofNat 8 outer] ++ toBE 2 (20 + n) ++ toBE 2 ident ++
      [if bitOf (natAt x.desc 58) 0 then 0x40 else 0, 0, byteAt x.desc 56, 50, 0, 0] ++ slice x.desc 24 4 ++ slice x.desc 40 4)
  else toBE 4 (6 * 2 ^ 28 + outer * 2 ^ 20 + ident % 2 ^ 20) ++ toBE 2 n ++ [50, byteAt x.desc 56] ++ slice x.desc 24 16 ++
    slice x.desc 40 16

/-- A frame that carries IP, protected by ESP with a sequence number (R337). -/
def Sa.espProtect (x : Sa) (seq ident : Nat) (f : Bytes) (p : Parsed) : Bytes := match p.ip with
  | none => f
  | some (ip, six) =>
    let packet := ipPacket f ip six
    if natAt x.desc 0 = 0 then
      let esp := x.espSeal seq p.proto (packet.drop (p.l4 - ip))
      ipHeaders f ip six p.protoOff p.l4 50 esp.length ++ esp
    else
      let esp := x.espSeal seq (if six then 41 else 4) packet
      f.take (ip - 2) ++ (if natAt x.desc 0 = 1 then [0x08, 0x00] else [0x86, 0xDD]) ++
        x.outerHeader packet six ident esp.length ++ esp

/-- The ESP packet in a frame. -/
def espBytes (f : Bytes) (p : Parsed) : Bytes := match p.ip with
  | some (ip, six) => (ipPacket f ip six).drop (p.l4 - ip)
  | none => []

/-- The 64-bit sequence number of an ESP packet, its high part inferred from T with ESN (RFC 4303 Appendix A2.2); none when it
lies before the first. -/
def Sa.espSeq (x : Sa) (low : Nat) : Option Nat :=
  if x.esn = false then some low
  else
    let w := max 1 x.espWin
    let tl := x.next % 2 ^ 32
    let th := x.next / 2 ^ 32
    if w ≤ tl + 1 then some (if tl + 1 - w ≤ low then th * 2 ^ 32 + low else (th + 1) * 2 ^ 32 + low)
    else if 2 ^ 32 + tl + 1 - w ≤ low then (if th = 0 then none else some ((th - 1) * 2 ^ 32 + low))
    else some (th * 2 ^ 32 + low)

/-- The ICV of an ESP packet holds. -/
def Sa.espOk (x : Sa) (esp : Bytes) (seq : Nat) : Bool :=
  gcmOk x.key (slice x.desc 8 4 ++ slice esp 8 8) (x.espAad (esp.take 4) seq) (esp.drop 16)

/-- The frame that an ESP packet carried, none when its padding or its next header does not fit it (R337). -/
def Sa.espOpen (x : Sa) (f : Bytes) (p : Parsed) (esp : Bytes) (seq : Nat) : Option Bytes := match p.ip with
  | none => none
  | some (ip, six) =>
    let pt := gcmOpen x.key (slice x.desc 8 4 ++ slice esp 8 8) (x.espAad (esp.take 4) seq) (esp.drop 16)
    let pad := natAt pt (pt.length - 2)
    let nh := natAt pt (pt.length - 1)
    if pt.length < pad + 2 then none
    else
      let payload := pt.take (pt.length - 2 - pad)
      if natAt x.desc 0 = 0 then some (ipHeaders f ip six p.protoOff p.l4 nh payload.length ++ payload)
      else if nh = 4 ∧ natAt payload 0 / 16 = 4 then some (f.take (ip - 2) ++ [0x08, 0x00] ++ payload)
      else if nh = 41 ∧ natAt payload 0 / 16 = 6 then some (f.take (ip - 2) ++ [0x86, 0xDD] ++ payload)
      else none

/-- A frame of at least 64 bytes with its FCS: shorter ones are padded with zeros (IEEE 802.3). -/
def padFrame (f : Bytes) : Bytes := f ++ zeros (60 - f.length)

/-! ### Message authentication units -/

/-- KEY_ID. -/
def Sa.keyId (x : Sa) : Bytes := slice x.desc 4 4

/-- The frame with the security extension of IEC 62351-6 and its authentication value (R350). -/
def Sa.mauBuild (x : Sa) (f : Bytes) : Bytes :=
  let alg := natAt x.desc 0
  Config.std .mauBuild alg [f, x.keyId, stdOut 16 .mauValue alg [x.key, x.keyId, f]]

/-- The frame carries a security extension. -/
def mauHasExt (f : Bytes) : Bool := Config.stdHolds .mauHasExt 0 [f]

/-- KEY_ID, algorithm and value of a frame's extension hold (R351). -/
def Sa.mauOk (x : Sa) (f : Bytes) : Bool :=
  let alg := natAt x.desc 0
  Config.stdHolds .mauKeyIdOk 0 [f, x.keyId] && Config.stdHolds .mauAlgOk alg [f] && Config.stdHolds .mauValueOk alg [x.key, f]

/-! ### The transparent clock's rewriting (R373) -/

/-- A correctionField with a residence in 2^-16 ns added; on overflow the largest positive value. -/
def addCorrection (old : Bytes) (r : Int) : Bytes :=
  let sum := (BitVec.ofNat 64 (beNat old)).toInt + r
  if 2 ^ 63 ≤ sum then 0x7F :: List.replicate 7 0xFF else toBE 8 (BitVec.ofInt 64 sum).toNat

/-- The UDP checksum after eight bytes changed (incremental update); an IPv4 checksum of zero stays zero. -/
def updateChecksum (old : Nat) (six : Bool) (before after : Bytes) : Nat :=
  if old = 0 ∧ six = false then 0
  else
    let c := 65535 - onesSum (after ++ before.map (fun b => 255 - b)) (65535 - old)
    if c = 0 then 65535 else c

/-- A PTP message with a residence added to its correctionField, and its UDP checksum updated (R373). -/
def correctFrame (f : Bytes) (p : Parsed) (r : Int) : Bytes := match p.ptp with
  | none => f
  | some off =>
    let old := slice f (off + 8) 8
    let new := addCorrection old r
    let g := putAt f (off + 8) new
    match p.udpOff with
    | some u =>
      let six := match p.ip with | some (_, six) => six | none => false
      putAt g (u + 6) (toBE 2 (updateChecksum (beAt f (u + 6) 2) six old new))
    | none => g

end Sys2Proof.Machine
end

