-- ==== Sys2Proof/Machine/Line.lean ====
section
/-!
DEFINITION. The path of a line frame (R21 to R24, chapters 12 to 15): reception, classification, the cipher pipeline and the
MAU, the egress queue, the journal record, the transparent clock and PTP capture.
-/
namespace Sys2Proof.Machine
open Sys2Proof

/-! ### Ports (R315 to R319) -/

/-- Port group g. -/
def State.group (s : State) (g : Nat) : Group := s.line.groups.getD g {}

/-- The state with a port group changed. -/
def State.modGroup (s : State) (g : Nat) (f : Group → Group) : State :=
  s.modLine fun l => { l with groups := l.groups.modify g f }

/-- The ports of a mode (Table 12.1). -/
def modePorts (mode : Nat) : Nat := if mode = 1 then 1 else if mode = 2 then 2 else if within mode 3 6 then 4 else 0

/-- A mode's PCS uses FEC (Table 12.1). -/
def Group.usesFec (g : Group) : Bool := within g.mode 1 4 || (g.mode == 5 && g.fec25)

/-- Port p of group g. -/
def State.port (s : State) (g p : Nat) : Port := (s.group g).ports.getD p {}

/-- The frame limit that MAX_FRAME sets (R319, Table 12.7). -/
def Port.frameLimit (p : Port) : Nat := clamp 1518 9600 p.maxFrame

/-- The state with a port changed. -/
def State.modPort (s : State) (g p : Nat) (f : Port → Port) : State :=
  s.modGroup g fun x => { x with ports := x.ports.modify p f }

/-- A port group has power (R496, R497). -/
def State.groupPowered (s : State) (g : Nat) : Bool := decide (s.pwr.state ≤ 1) && bitOf s.pwr.portOn g

/-- The link of a port is up. -/
def State.linkIsUp (s : State) (g p : Nat) : Bool :=
  decide (g < 8) && decide (p < modePorts (s.group g).mode) && (s.port g p).link && s.groupPowered g

/-- One event of a port's counter, given by its LO word on page 0. -/
def State.prtCount (s : State) (g p r : Nat) : State := s.wideAdd (4 * (r + 0x10000 * g) + p) 1

/-- GCTL.STATUS.LINE_ACTIVE (Table 1.9). -/
def State.lineActive (s : State) : Bool :=
  flag (s.reg Reg.gctlCtrl) 0 && s.lcs.phase == .done && !s.halted && decide (s.pwr.state ≤ 1) && s.line.fenced != 0xFFFF &&
    s.rng.ready && (List.range 16).any fun c => (s.rng.chans.getD c {}).seeded

/-- PAIR_EN of the pair that a group belongs to (R316). -/
def State.pairEn (s : State) (g : Nat) : Bool := flag (s.reg (Reg.prtGroupCtrl + 0x10000 * (g % 4))) 8

/-- Both groups of a pair have the same MODE, and in mode 5 the same FEC25 (R316). -/
def State.pairAgrees (s : State) (g : Nat) : Bool :=
  let a := s.group (g % 4)
  let b := s.group (g % 4 + 4)
  a.mode == b.mode && (a.mode != 5 || a.fec25 == b.fec25)

/-- The frame entered line-facing (R316). -/
def Flight.fromLine (fl : Flight) : Bool := decide (fl.group < 4)

/-- The group that a frame leaves on (R21). -/
def Flight.egress (fl : Flight) : Nat := (fl.group + 4) % 8

/-- A frame on its way is remembered, in its place among the others. -/
def State.putFlight (s : State) (fl : Flight) : State :=
  s.modLine fun l => { l with
    flights := if l.flights.any (·.id == fl.id) then l.flights.map (fun x => if x.id = fl.id then fl else x) else l.flights ++ [fl] }

/-- A frame is on its way no more. -/
def State.dropFlight (s : State) (fl : Flight) : State := s.modLine fun l => { l with flights := l.flights.filter (·.id != fl.id) }

/-! ### The classification table (R321) -/

/-- An entry of the table. -/
def State.clsEntry (s : State) (i : Nat) : Bytes := Sparse.get (fun _ => zeros 80) s.line.cls i

/-- A key matches a valid entry. -/
def clsMatches (key e : Bytes) : Bool :=
  bitOf (natAt e 75) 0 &&
    (List.range 32).all fun i => byteAt key i &&& byteAt e (32 + i) == byteAt e i &&& byteAt e (32 + i)

/-- The result of an entry (Table 12.4). -/
def clsResult (i : Nat) (e : Bytes) : ClsResult := ⟨i, leAt e 64 3, leAt e 68 3, natAt e 72, natAt e 73, natAt e 74⟩

/-- The entry of lowest index that matches. -/
def State.lookup (s : State) (key : Bytes) : Option ClsResult :=
  (s.line.cls.find? fun p => clsMatches key p.2).map fun p => clsResult p.1 p.2

/-! ### PTP (R371 to R376) -/

/-- An enabled entry of TC_DOMAIN names the domain. -/
def State.domainOn (s : State) (d : Nat) : Bool :=
  (List.range 4).any fun i => flag (s.reg Reg.tsuCtrl) (i + 1) && field (s.reg Reg.tsuTcDomain) (8 * i + 7) (8 * i) == d

/-- The PTP message of a frame: its offset, messageType and domainNumber. -/
def ptpOf (f : Bytes) : Option (Parsed × Nat × Nat × Nat) :=
  let p := parseFrame f
  p.ptp.map fun off => (p, off, natAt f off % 16, natAt f (off + 4))

/-- The transparent clock acts on a message: it is on, the domain is enabled, the version is 2 (R371). -/
def State.tcActs (s : State) (f : Bytes) (off domain : Nat) : Bool :=
  flag (s.reg Reg.tsuCtrl) 0 && s.domainOn domain && natAt f (off + 1) % 16 == 2

/-- twoStepFlag. -/
def twoStep (f : Bytes) (off : Nat) : Bool := bitOf (natAt f (off + 6)) 1

/-- A message whose own residence is written in flight (Table 14.3). -/
def oneStep (f : Bytes) (off typ : Nat) : Bool := typ == 1 || typ == 2 || ((typ == 0 || typ == 3) && !twoStep f off)

/-- A follow-up takes the held residence of its message, if one is held (R371, R372). -/
def State.followUp (s : State) (fl : Flight) : Flight × State := match ptpOf fl.frame with
  | none => (fl, s)
  | some (p, off, typ, domain) =>
    if s.tcActs fl.frame off domain && (typ == 8 || typ == 10) then
      match s.line.tc.find? fun e => e.pair == fl.group % 4 * 4 + fl.port && e.fromLine == fl.fromLine && e.domain == domain &&
          e.source == slice fl.frame (off + 20) 10 && e.seqId == slice fl.frame (off + 30) 2 with
      | some e => ({ fl with frame := correctFrame fl.frame p e.residence, corrected := true }, s.modReg Reg.tsuTcCorrected (· + 1))
      | none => (fl, s.count Reg.tsuTcFuUnmatched)
    else (fl, s)

/-- TC_LAUNCH.US. -/
def State.launchUs (s : State) : Nat := clamp 2 1000 (field (s.reg Reg.tsuTcLaunch) 9 0)

/-- A one-step message that is to be encrypted takes the residence TC_LAUNCH and is held for its launch (R374). -/
def State.launchHold (s : State) (fl : Flight) : Flight × State := match ptpOf fl.frame with
  | none => (fl, s)
  | some (p, off, typ, domain) =>
    if s.tcActs fl.frame off domain && oneStep fl.frame off typ then
      ({ fl with frame := correctFrame fl.frame p (s.launchUs * 1000 * 65536 : Nat), corrected := true, launched := true },
        s.modReg Reg.tsuTcCorrected (· + 1))
    else (fl, s)

/-- A held residence joins the table: 64 entries per port pair and direction, the oldest giving way (R372). -/
def State.holdResidence (s : State) (e : TcEntry) : State :=
  let mine := s.line.tc.filter fun x => x.pair == e.pair && x.fromLine == e.fromLine
  let old := if 64 ≤ mine.length then mine.head? else none
  s.modLine fun l => { l with tc := l.tc.filter (fun x => some x != old) ++ [e] }

/-- The capture record of a frame, if it is an event message of an enabled domain (R376, R377): its stamps, PORT and CORRECTED. -/
def State.captureOf (s : State) (plain : Bytes) (tIn : Stamp) (quality : Nat) (tOut : Option Stamp) (port : Nat) (corrected : Bool) : State :=
  match ptpOf plain with
  | none => s
  | some (_, off, typ, domain) =>
    let ctrl := s.reg Reg.tsuCapCtrl
    if flag ctrl 8 && decide (typ < 4) && s.domainOn domain then
      let depth := 2 ^ s.tsu.capLog2
      let prod := s.reg Reg.tsuCapProd
      if depth ≤ (prod - s.reg Reg.tsuCapCons).toNat then s.count Reg.tsuCapOverflow
      else
        let rec32 := tIn.full quality ++ (match tOut with | some t => t.full s.qualityCode | none => zeros 12) ++
          [BitVec.ofNat 8 port, BitVec.ofNat 8 typ, BitVec.ofNat 8 domain, BitVec.ofNat 8 (b2n corrected)] ++ slice plain (off + 30) 2 ++ slice plain (off + 28) 2
        let ring := (s.reg Reg.tsuCapRingLo &&& 0xFFFFF000).toNat + 2 ^ 32 * (s.reg Reg.tsuCapRingHi).toNat
        (s.hostWrite .device 0 0 ⟨0, ring + 32 * (prod.toNat % depth), rec32⟩).setReg Reg.tsuCapProd (prod + 1)
    else s

/-- The capture record of a line frame, of its plaintext. -/
def State.capture (s : State) (fl : Flight) (tOut : Option Stamp) : State :=
  s.captureOf (if fl.fromLine then fl.frame else fl.wire) fl.tIn fl.quality tOut (fl.group + 8 * fl.port) fl.corrected

/-! ### Journal records of frames (R391 to R393) -/

/-- KIND and ROUTABLE of a record, in FLAGS (Table 15.1). -/
def kindFlags (p : Parsed) : Nat := (if p.app = 1 then 0 else if p.app = 2 then 8 else 16) + 32 * b2n p.routable

/-- The fields that opening fills (Table 15.1). -/
def Flight.openFields (fl : Flight) (p : Parsed) (r : ClsResult) (seq : Nat) : Bytes :=
  toLE 8 seq ++ fl.tIn.compact ++ zeros 8 ++ [BitVec.ofNat 8 (fl.group + 8 * fl.port), 0, 0, 0] ++
    toLE 2 (fl.wire.length + 4) ++ toLE 2 (if p.app = 0 then 0 else p.appid) ++
    toLE 4 (if r.action = 2 then 2 ^ 24 else r.sa) ++ toLE 4 (p.vid % 4096 + 4096 * r.index) ++ zeros 24

/-- The record of a frame is completed (R391, R392): a line-facing frame is digested as sent, or as on the wire while it is
not decrypted. -/
def State.endRecord (s : State) (fl : Flight) (tOut : Option Stamp) : State := match fl.seq with
  | none => s
  | some n =>
    let wire := fl.sys.isNone
    let flags := b2n (!fl.fromLine) + 2 * b2n wire + 4 * b2n fl.stomped + fl.kind
    let digest := (sha3_256 (fl.sys.getD fl.wire)).take 24
    s.completeRecord n fun b => fit 16 b ++ (match tOut with | some t => t.compact | none => zeros 8) ++ slice b 24 1 ++
      [BitVec.ofNat 8 flags, BitVec.ofNat 8 fl.quality, BitVec.ofNat 8 fl.verdict] ++ slice b 28 12 ++ digest

/-- A frame is dropped with a verdict. -/
def State.kill (s : State) (fl : Flight) (verdict : Nat) : State :=
  let fl := { fl with verdict := verdict }
  ((s.dropFlight fl).endRecord fl none).capture fl none

/-- The record of a frame whose class is PROTECTION opens, if it has none; none when the EVJ cannot open it (R24, R391). -/
def State.journal (s : State) (fl : Flight) (p : Parsed) (r : ClsResult) : Option (Flight × State) :=
  let fl := { fl with kind := kindFlags p }
  if r.cls ≠ 0 ∨ fl.seq.isSome = true then some (fl, s)
  else (s.openRecord (fl.openFields p r)).map fun x => ({ fl with seq := some x.1 }, x.2)

/-- A frame is dropped because its record cannot open (R391). -/
def State.noRecord (s : State) (fl : Flight) : State :=
  ((s.count Reg.evjNorecDrop).raise Reg.evjEvent 2).kill fl 0

/-! ### Egress (R327, R328) -/

/-- Bytes that frames of a class hold in a group's egress buffer, on one port or on all. -/
def State.buffered (s : State) (g : Nat) (p : Flight → Bool) : Nat :=
  ((s.line.flights.filter fun fl => fl.egress == g && (fl.stage == .queued || fl.stage == .launch || fl.stage == .wire) && p fl).map
    fun fl => fl.frame.length + 4).sum

/-- Room in the 4 MiB of an egress group: 256 KiB are PROTECTION's, shared equally by the ports of the mode, and it may use
the common part beyond them (R328). -/
def State.room (s : State) (fl : Flight) : Bool :=
  let g := fl.egress
  let n := fl.frame.length + 4
  let share := 2 ^ 18 / max 1 (modePorts (s.group g).mode)
  let prot (p : Nat) : Nat := s.buffered g fun x => x.result.cls == 0 && x.port == p
  let common := s.buffered g (fun x => x.result.cls != 0) + ((List.range 4).map fun p => prot p - share).sum
  if fl.result.cls = 0 ∧ prot fl.port + n ≤ share then true else decide (common + n ≤ 2 ^ 22 - 2 ^ 18)

/-- The queued frame of a class on a port of a group, the oldest first. -/
def State.nextFrame (s : State) (g p cls : Nat) : Option Flight :=
  s.line.flights.find? fun fl => fl.egress == g && fl.port == p && fl.stage == .queued && fl.result.cls == cls

/-- A frame is on the wire of a port. -/
def State.wireBusy (s : State) (g p : Nat) : Bool :=
  s.line.flights.any fun fl => fl.egress == g && fl.port == p && fl.stage == .wire

/-- A port whose wire is free sends the next frame of its four queues, in strict priority; a frame on the wire is not interrupted (R327). -/
def State.feedPort (s : State) (g p : Nat) : State :=
  if s.wireBusy g p then s
  else match [0, 1, 2, 3].findSome? (s.nextFrame g p) with
    | some fl => s.putFlight { fl with stage := .wire }
    | none => s

/-- The frame's transmission has begun ahead of its verdicts: it cuts through to a port whose wire is free (R327). -/
def State.cutThrough (s : State) (fl : Flight) : Bool :=
  fl.result.cls == 0 && fl.began && !s.wireBusy fl.egress fl.port

/-- A frame enters the egress queue of its port, or is dropped there (R318, R319, R328). -/
def State.toEgress (s : State) (fl : Flight) : State :=
  let g := fl.egress
  let drop (s : State) (verdict : Nat) : State := (s.prtCount g fl.port Reg.prtTxDropLo).kill fl verdict
  if s.linkIsUp g fl.port = false then drop s 0x0A
  else if fl.wire.length < fl.frame.length ∧ (s.port g fl.port).frameLimit < fl.frame.length + 4 then drop s 9
  else if s.room fl = false then
    drop (if fl.result.cls = 0 then s.prtCount g fl.port Reg.prtTxDropProtLo else s) 9
  else (s.putFlight { fl with stage := if fl.launched then .launch else .queued }).feedPort g fl.port

/-- A check fails on a frame: a PROTECTION frame whose transmission has begun is ended with an inverted FCS, any other frame
is dropped (R327). -/
def State.failFrame (s : State) (fl : Flight) (verdict : Nat) : State :=
  if s.cutThrough fl then
    (s.prtCount fl.egress fl.port Reg.prtTxStompedLo).toEgress { fl with verdict := verdict, stomped := true }
  else s.kill fl verdict

/-- A drop that an ingress counter records. -/
def State.ingressDrop (s : State) (fl : Flight) (r verdict : Nat) : State := (s.prtCount fl.group fl.port r).kill fl verdict

/-! ### The MAU (R324, R349 to R351) -/

/-- The SA at MAU_SA, when it is one of a MAU type. -/
def State.mauSa (s : State) (i : Nat) : Option Sa := match s.sa i with
  | some x => if x.saType = 5 ∨ x.saType = 6 then some x else none
  | none => none

/-- A context is read, unless it must be fetched from HBM first. -/
def State.needsFetch (s : State) (i : Nat) : Bool := (s.sa i).isSome && !s.isCached i

/-- The MAU's check of a line-facing frame, and the egress (R351). -/
def State.mauCheck (s : State) (fl : Flight) : State :=
  if fl.result.mau = 0 then s.toEgress fl
  else match s.mauSa fl.result.mauSa with
    | none => s.ingressDrop fl Reg.prtNoSaLo 6
    | some x =>
      let s := s.touchSa fl.result.mauSa
      if mauHasExt fl.frame = false then (s.lceCount Reg.lceMauMissingLo).failFrame fl 2
      else if x.mauOk fl.frame = false then (s.lceCount Reg.lceMauFailLo).failFrame fl 2
      else s.toEgress fl

/-- A line-facing frame reaches its MAU: it waits while the context is fetched. -/
def State.toMau (s : State) (fl : Flight) : State :=
  let f := s.followUp fl
  let s := f.2
  let fl := { f.1 with sys := some f.1.frame }
  if fl.result.mau != 0 && s.needsFetch fl.result.mauSa then
    s.putFlight { fl with stage := .secondRead, awaits := [fl.result.mauSa] }
  else s.mauCheck fl

/-- The MAU adds its value to a system-facing frame; none when the frame is dropped (R350). -/
def State.mauAdd (s : State) (fl : Flight) : Sum State (Flight × State) :=
  if fl.result.mau = 0 then .inr (fl, s)
  else match s.mauSa fl.result.mauSa with
    | none => .inl (s.ingressDrop fl Reg.prtNoSaLo 6)
    | some x =>
      let s := s.touchSa fl.result.mauSa
      if mauHasExt fl.frame then .inl ((s.lceCount Reg.lceMauPresentLo).kill fl 2)
      else .inr ({ fl with frame := x.mauBuild fl.frame }, s)

/-! ### Protection (R335, R341 to R344) -/

/-- The MACSEC_TX SA of the block at an index, under its TX_AN. -/
def State.macTx (s : State) (i : Nat) : Option (Nat × Sa) × State :=
  let t := s.txIndex i
  match t.2.sa t.1 with
  | some x => if x.saType = 1 then (some (t.1, x), t.2) else (none, s)
  | none => (none, s)

/-- The transmitting SA that an index names: an ESP_OUT SA there, or the SA under TX_AN of the block there. -/
def State.txSa (s : State) (i : Nat) : Option (Nat × Sa) × State :=
  match s.sa i with
  | some x => if x.saType = 3 then (some (i, x), s) else s.macTx i
  | none => s.macTx i

/-- A frame that needs a value finds none confirmed (R343, R528). -/
def State.pnHold (s : State) (i : Nat) (x : Sa) : State :=
  let s := (s.lceCount Reg.lcePnHoldDropLo).raise Reg.lceEvent 4
  if x.held then s else (s.modSa i fun x => { x with held := true }).logEvent 0x2003 i 0

/-- A frame of a group passes the cipher pipelines (R358). -/
def State.framePass (s : State) (g n : Nat) : State := s.cipherPass ((s.group g).mode == 1) n

/-- The cipher pipeline protects a system-facing frame. Its SA is read with the MAU's (Table 13.7). -/
def State.protect (s : State) (fl : Flight) : State :=
  let r := s.txSa fl.result.sa
  match r.1 with
  | none => s.ingressDrop fl Reg.prtNoSaLo 6
  | some (i, x) =>
    let p := parseFrame fl.frame
    if x.saType = 3 ∧ p.ip.isNone = true then r.2.ingressDrop fl Reg.prtNoSaLo 6
    else match (r.2.touchSa i).mauAdd fl with
      | .inl t => t
      | .inr (fl, s) =>
        let l := s.launchHold fl
        let s := l.2
        match x.nextValue with
        | .hold => (s.pnHold i x).kill l.1 7
        | .exhausted => (s.lceCount Reg.lcePnExhDropLo).kill l.1 8
        | .value n =>
          let s := s.framePass fl.group l.1.frame.length
          if x.saType = 3 then
            let id := s.freeNat
            (id.2.usePn i).toEgress { l.1 with frame := padFrame (x.espProtect n id.1 l.1.frame (parseFrame l.1.frame)) }
          else (s.usePn i).toEgress { l.1 with frame := x.macProtect (i % 4) n l.1.frame }

/-! ### Verification (R323, R345 to R348) -/

/-- A frame fails before its ICV is known: it is dropped and counted. -/
def State.lceDrop (s : State) (fl : Flight) (r verdict : Nat) : State := (s.lceCount r).kill fl verdict

/-- The second lookup decides an encrypted frame (R323, R325); `verdict` is that of its ICV. -/
def State.secondLookup (s : State) (fl : Flight) (verdict : Nat) : State :=
  let p := parseFrame fl.frame
  match s.lookup (p.key fl.frame fl.group fl.port true) with
  | none => s.ingressDrop fl Reg.prtClsMissLo 0x0B
  | some r => match s.journal fl p { r with sa := fl.result.sa, action := fl.result.action } with
    | none => s.noRecord fl
    | some (fl, s) =>
      let fl := { fl with result := { r with sa := fl.result.sa }, sys := some fl.frame }
      if verdict ≠ 0 then s.failFrame fl verdict
      else if r.action = 0 then s.ingressDrop fl Reg.prtRxDropLo 0x0B
      else if p.app ≠ 0 ∧ Config.stdHolds .apduLenOk p.app [fl.frame] = false then s.ingressDrop fl Reg.prtLenMismatchLo 1
      else s.toMau fl

/-- A frame leaves the cipher pipeline in clear, its ICV good or bad. -/
def State.opened (s : State) (fl : Flight) (encrypted : Bool) (plain : Bytes) (ok : Bool) : State :=
  let s := if ok then s else s.lceCount Reg.lceIcvFailLo
  let fl := { fl with frame := padFrame plain }
  if encrypted then
    if ok = false ∧ (fl.began = false ∨ s.wireBusy fl.egress fl.port = true) then s.kill fl 3
    else s.secondLookup fl (if ok then 0 else 3)
  else if ok then s.toMau fl
  else s.failFrame { fl with sys := some fl.frame } 3

/-- A MACsec frame on its receive SA (R345). Once the SA has accepted PN_MAX, every later frame counts in REPLAY, whatever REPLAY_PROTECT. -/
def State.macVerify (s : State) (fl : Flight) (i : Nat) (x : Sa) (off : Nat) (encrypted : Bool) : State :=
  let f := fl.wire
  let s := s.touchSa i
  if secTagValid f off = false ∨ wirePn f off = 0 then s.lceDrop fl Reg.lceInvalidLo 5
  else
    let pn := x.recoverPn (wirePn f off)
    let top := pnMax x.saType x.desc
    if top < x.next ∨ top < pn ∨ (bitOf x.flags 4 = true ∧ pn < x.lapn) then s.lceDrop fl Reg.lceReplayLo 4
    else
      let ok := x.macOk f off pn
      let s := s.framePass fl.group f.length
      let s := if ok then
          let next := max x.next (pn + 1)
          let s := s.modSa i fun y => { y with next := next, lapn := if top < next then top + 1 else max x.lapn (next - x.macWin) }
          if x.pendingGen then s.ratchetAdopt i else s
        else s
      s.opened fl encrypted (x.macOpen f off pn) ok

/-- The window of an ESP_IN SA after it has validated a number (R346, Table 13.6). -/
def Sa.espAccept (x : Sa) (n : Nat) : Sa :=
  let t := max x.next n
  { x with next := t, seen := (n :: x.seen.filter (· != n)).filter fun m => decide (t < m + x.espWin) }

/-- An ESP frame on its receive SA (R346, R348). -/
def State.espVerify (s : State) (fl : Flight) (i : Nat) (x : Sa) (p : Parsed) : State :=
  let esp := espBytes fl.wire p
  let s := s.touchSa i
  let low := beAt esp 4 4
  if p.fragment = true ∨ esp.length < 32 ∨ (low = 0 ∧ x.esn = false) then s.lceDrop fl Reg.lceInvalidLo 5
  else
    let guarded := bitOf (natAt x.desc 1) 1 && x.espWin != 0
    match x.espSeq low with
    | none => s.lceDrop fl Reg.lceReplayLo 4
    | some n =>
      if guarded = true ∧ (n + x.espWin ≤ x.next ∨ x.seen.contains n = true) then s.lceDrop fl Reg.lceReplayLo 4
      else
        let ok := x.espOk esp n
        let s := s.framePass fl.group fl.wire.length
        let s := if ok then s.modSa i fun y => y.espAccept n else s
        match x.espOpen fl.wire p esp n with
        | some plain => s.opened fl true plain ok
        | none => if ok then s.lceDrop fl Reg.lceInvalidLo 5 else s.opened fl true fl.wire false

/-- The receive SA that an index names for a frame: an ESP_IN SA there, or the SA of the frame's AN in the block there. -/
def State.rxIndex (s : State) (i : Nat) (f : Bytes) (p : Parsed) : Nat := match s.sa i, p.sectag with
  | some x, some off => if x.saType = 4 then i else i + tciAt f off % 4
  | none, some off => i + tciAt f off % 4
  | _, none => i

/-- A receive MACsec channel lies at a base. -/
def State.rxChannel (s : State) (i : Nat) : Bool := (List.range 4).any fun a => match s.sa (i + a) with
  | some x => x.saType == 2
  | none => false

/-- The cipher pipeline verifies a line-facing frame (R324, R345 to R348). -/
def State.verify (s : State) (fl : Flight) : State :=
  let p := parseFrame fl.wire
  let i := s.rxIndex fl.result.sa fl.wire p
  let noSa := s.ingressDrop fl Reg.prtNoSaLo 6
  match s.sa i with
  | some x =>
    if x.saType = 4 then
      if p.esp && p.sectag.isNone then s.espVerify fl i x p else s.lceDrop fl Reg.lceInvalidLo 5
    else if x.saType = 2 then
      match p.sectag with
      | some off => s.macVerify fl i x off (p.encrypted fl.wire)
      | none => s.lceDrop fl Reg.lceInvalidLo 5
    else noSa
  | none => if p.sectag.isNone && s.rxChannel fl.result.sa then s.lceDrop fl Reg.lceInvalidLo 5 else noSa

/-! ### From the first lookup on -/

/-- The contexts that a frame reads at stage 4 (Tables 1.2 and 13.7). -/
def State.firstContexts (s : State) (fl : Flight) : List Nat :=
  let mau := if fl.result.mau ≠ 0 then [fl.result.mauSa] else []
  if fl.fromLine then
    if fl.result.action = 1 then [s.rxIndex fl.result.sa fl.wire (parseFrame fl.wire)] else []
  else if fl.result.action = 1 then (match (s.txSa fl.result.sa).1 with | some x => [x.1] | none => []) ++ mau
  else mau

/-- The cipher pipeline and the MAU, in the order of R23, once the contexts are read. -/
def State.cipherStage (s : State) (fl : Flight) : State :=
  if fl.fromLine then
    if fl.result.action = 1 then s.verify fl else s.toMau fl
  else
    let f := s.followUp fl
    if fl.result.action = 1 then f.2.protect f.1
    else match f.2.mauAdd f.1 with
      | .inl t => t
      | .inr (fl, s) => s.toEgress fl

/-- A frame reaches stage 4: it waits while a context is fetched. -/
def State.readContexts (s : State) (fl : Flight) : State :=
  let need := (s.firstContexts fl).filter s.needsFetch
  if need.isEmpty then s.cipherStage fl else s.putFlight { fl with stage := .firstRead, awaits := need }

/-- The first lookup (R321 to R325). -/
def State.classify (s : State) (fl : Flight) : State :=
  let p := parseFrame fl.wire
  match s.lookup (p.key fl.wire fl.group fl.port false) with
  | none => s.ingressDrop fl Reg.prtClsMissLo 0
  | some r => match s.journal fl p r with
    | none => s.noRecord fl
    | some (fl, s) =>
      let fl := { fl with result := r }
      if r.action = 0 then s.ingressDrop fl Reg.prtRxDropLo 0x0B
      else if (fl.fromLine = false ∨ p.encrypted fl.wire = false) ∧ p.app ≠ 0 ∧
          Config.stdHolds .apduLenOk p.app [fl.wire] = false then s.ingressDrop fl Reg.prtLenMismatchLo 1
      else s.readContexts fl

/-- FRAME_RECEIVE: `frame` runs to the last byte before the FCS; `began` says that, should the frame cut through, its
transmission begins before its verdicts are known; a frame that fails the interconnect's integrity code on its way from the port is
discarded and counts for source 4 (R21, R22, R316, R319, R327, R438). -/
def execFrameReceive (group port : Nat) (frame : Bytes) (check : FrameCheck) (began : Bool) (s : State) : Answer :=
  answer s <|
    if s.linkIsUp group port = false then s
    else
      let n := frame.length + 4
      let s := (s.prtCount group port Reg.prtRxFramesLo).wideAdd (4 * (Reg.prtRxBytesLo + 0x10000 * group) + port) n
      if check = .fcsError then s.prtCount group port Reg.prtRxFcsErrLo
      else if n < 64 ∨ (s.port group port).frameLimit < n ∨ s.lineActive = false ∨ s.pairEn group = false ∨
          s.pairAgrees group = false then s.prtCount group port Reg.prtRxDropLo
      else if check = .integrityError then { s with tem := { s.tem with icode := s.tem.icode + 1 } }
      else
        let fl : Flight := {
          id := s.line.nextFlight, group := group, port := port, frame := frame, wire := frame
          tIn := s.ingressStamp group, quality := s.qualityCode, inFree := s.free, began := began
          sys := if group < 4 then none else some frame }
        (s.modLine fun l => { l with nextFlight := l.nextFlight + 1 }).classify fl

/-- Frames in the order in which the pipelines, and the MAU, serve them: PROTECTION, TIMING and CONTROL, BULK (R27, R349). -/
def byClass (l : List Flight) : List Flight :=
  l.filter (·.result.cls == 0) ++ l.filter (fun fl => within fl.result.cls 1 2) ++ l.filter fun fl => decide (3 ≤ fl.result.cls)

/-- A frame goes on with one context fewer to wait for. -/
def State.resumeFrame (sa : Nat) (s : State) (fl : Flight) : State :=
  let fl := { fl with awaits := fl.awaits.filter (· != sa) }
  if fl.awaits.isEmpty = false then s.putFlight fl
  else if fl.stage = .secondRead then (s.dropFlight fl).mauCheck { fl with stage := .queued }
  else (s.dropFlight fl).readContexts { fl with stage := .queued }

/-- SA_CONTEXT_FETCH_DONE: a context enters the cache, and the frames that waited for it go on in the order of R27, also where its SA has gone
meanwhile; an uncorrectable read costs the frame and the SA (R225, R330, R479). -/
def execSaContextFetchDone (sa : Nat) (read : HbmRead) (s : State) : Answer :=
  answer s <|
    let mine := s.line.flights.filter (·.awaits.contains sa)
    if s.needsFetch sa = false ∧ mine.isEmpty = true then s
    else match read.failed with
      | some u =>
        let t := s.hbmUe 1 u
        mine.foldl (fun s fl => (s.count Reg.memSaUeDrop).kill fl 6) (if s.needsFetch sa then t.removeSa sa else t)
      | none =>
        let t := s.noteRead read
        (byClass mine).foldl (State.resumeFrame sa) (if s.needsFetch sa then (t.loadSa sa).touchSa sa else t)

/-! ### The end of a frame -/

/-- The FCS of a frame, inverted on a stomped one (R327). -/
def fcsOf (f : Bytes) (stomped : Bool) : Bytes :=
  let c := f.foldl (fun x b => crcByte 32 0x04C11DB7 true x b.toNat) 0xFFFFFFFF
  let v := reflect 32 c
  toLE 4 (if stomped then v else 0xFFFFFFFF - v)

/-- The transparent clock at egress (R371, Table 14.3): a one-step message takes its residence, a two-step one leaves it for
its follow-up. -/
def State.tcEgress (s : State) (fl : Flight) : Flight × State :=
  let plain := if fl.fromLine then fl.frame else fl.wire
  match ptpOf plain with
  | none => (fl, s)
  | some (p, off, typ, domain) =>
    if s.tcActs plain off domain && !fl.corrected && !fl.stomped then
      let r := s.residence fl.inFree fl.group fl.egress
      if oneStep plain off typ then
        ({ fl with frame := correctFrame fl.frame p r, corrected := true }, s.modReg Reg.tsuTcCorrected (· + 1))
      else if typ = 0 ∨ typ = 3 then
        (fl, s.holdResidence ⟨fl.group % 4 * 4 + fl.port, fl.fromLine, domain, slice plain (off + 20) 10, slice plain (off + 30) 2, r⟩)
      else (fl, s)
    else (fl, s)

/-- FRAME_EGRESS_END: the last byte of the frame on a port's wire leaves, or it is dropped because its link has fallen; its journal record is
completed, and the port turns to its next frame (R318, R327, R391). -/
def execFrameEgressEnd (frame : Nat) (s : State) : Answer :=
  answer s <| match s.line.flights.find? fun fl => fl.id == frame && fl.stage == .wire with
  | none => s
  | some fl =>
    let g := fl.egress
    if s.linkIsUp g fl.port = false then ((s.prtCount g fl.port Reg.prtTxDropLo).kill fl 0x0A).feedPort g fl.port
    else
      let t := s.tcEgress fl
      let fl := { t.1 with sys := if fl.fromLine then some t.1.frame else t.1.sys }
      let s := (t.2.dropFlight fl).emit (.frame (g + 8 * fl.port) (fl.frame ++ fcsOf fl.frame fl.stomped))
      let s := (s.prtCount g fl.port Reg.prtTxFramesLo).wideAdd (4 * (Reg.prtTxBytesLo + 0x10000 * g) + fl.port) (fl.frame.length + 4)
      let out := some (s.egressStamp g)
      ((s.endRecord fl out).capture fl out).feedPort g fl.port

/-- TC_LAUNCH: a held message is launched at its instant, or dropped when its port could not begin it (R374). -/
def execTcLaunch (frame : Nat) (onTime : Bool) (s : State) : Answer :=
  answer s <| match s.line.flights.find? fun fl => fl.id == frame && fl.stage == .launch with
  | none => s
  | some fl =>
    if onTime = true ∧ s.wireBusy fl.egress fl.port = false then s.putFlight { fl with stage := .wire }
    else (s.count Reg.tsuTcLate).kill fl 9

/-- TC_ENTRY_LAPSE: the oldest held residence of a port pair and direction lapses (R372). -/
def execTcEntryLapse (pair : Nat) (fromLine : Bool) (s : State) : Answer :=
  answer s <|
    let old := s.line.tc.find? fun e => e.pair == pair && e.fromLine == fromLine
    s.modLine fun l => { l with tc := l.tc.filter fun e => some e != old }

end Sys2Proof.Machine
end

