-- ==== Sys2Proof/Machine/Ports.lean ====
section
/-!
DEFINITION. Register accesses and events of the ports and the cipher pipelines: LINE_EN, GROUP_CTRL, PORT_CFG, the 64-bit counters
(R22, R315 to R319, R333, R365), the ratchet's timed steps (R352 to R354), the pipeline self-test (R359, R360), and the SA ranges
(R304).
-/
namespace Sys2Proof.Machine
open Sys2Proof

/-! ### PRT -/

/-- LINE_EN_WRITE: frames already past the classifier complete their path (R22). -/
def execLineEnWrite (value : W32) (s : State) : Answer :=
  answer s (s.regWrite Reg.gctlCtrl (s.plainWrite Reg.gctlCtrl value))

/-- The key of group g's register. -/
def prtReg (g r : Nat) : Nat := r + 0x10000 * g

/-- The port that a page's PORT_SEL selects. -/
def State.selPort (s : State) (g : Nat) : Nat := field (s.reg (prtReg g Reg.prtPortSel)) 1 0

/-- Every frame queued for a port whose link is down is dropped (R317, R318). -/
def State.dropQueued (s : State) (g p : Nat) : State :=
  (s.line.flights.filter fun fl => fl.egress == g && fl.port == p && (fl.stage == .queued || fl.stage == .launch || fl.stage == .wire)).foldl
    (fun s fl => (s.prtCount g p Reg.prtTxDropLo).kill fl 0x0A) s

/-- A link of a port falls: one more in LINK_DOWNS, which saturates, and the frames routed to it are dropped (R318). -/
def State.linkFalls (s : State) (g p : Nat) : State :=
  if (s.port g p).link then
    let k := 4 * prtReg g Reg.prtLinkDowns + p
    let s := s.modLine fun l => { l with
      wide := Sparse.set (fun _ => 0) l.wide k (BitVec.ofNat 64 (satAdd (2 ^ 32 - 1) (Sparse.get (fun _ => 0) l.wide k).toNat 1)) }
    (s.modPort g p fun x => { x with link := false }).dropQueued g p
  else s

/-- The defaults of RX_DELAY and TX_DELAY for a mode and FEC, which the spec does not give (R370; log entry 90). -/
def delayDefault (mode : Nat) (fec tx : Bool) : W32 :=
  BitVec.ofNat 32 (Config.stdCount .portDelay mode [[BitVec.ofNat 8 (b2n fec), BitVec.ofNat 8 (b2n tx)]])

/-- Every link of a group falls, and its ports start anew. -/
def State.groupDown (s : State) (g : Nat) : State :=
  (List.range 4).foldl (fun s p => (s.linkFalls g p).modPort g p fun x => { maxFrame := x.maxFrame }) s

/-- A write of GROUP_CTRL: PAIR_EN, in PG0 to PG3 alone, acts at once (R316); APPLY takes the links down and applies MODE, FEC25
and MEDIA, and writes the group's default delays (R317, R370). No frame of the model stands before the classifier: reception and the first
lookup are one step. -/
def State.groupCtrlWrite (s : State) (g : Nat) (v : W32) : State :=
  let s := s.setReg (prtReg g Reg.prtGroupCtrl) (v &&& if g < 4 then 0x13F else 0x3F)
  if flag v 9 then
    let mode := field v 3 0
    let mode := if 6 < mode then 0 else mode
    let s := (s.groupDown g).modGroup g fun x => { x with mode := mode, fec25 := flag v 4, media := field v 5 5, applying := true }
    let fec := (s.group g).usesFec
    (s.setReg (0x300100 + 8 * g) (delayDefault mode fec false)).setReg (0x300104 + 8 * g) (delayDefault mode fec true)
  else s

/-- APPLY (R317). -/
def execApplyGroup (group : Nat) (value : W32) (s : State) : Answer :=
  answer s <| if 8 ≤ group then s
    else s.regWrite (prtReg group Reg.prtGroupCtrl) (s.groupCtrlWrite group (setBits value 0x200))

/-- APPLY_DONE: APPLYING clears (R317). -/
def execApplyDone (group : Nat) (s : State) : Answer :=
  answer s (s.modGroup group fun x => { x with applying := false })

/-- The keys of a port's counters in `wide`. -/
def portCounter (g p k : Nat) : Bool :=
  decide (prtReg g Reg.prtRxFramesLo ≤ k / 4) && decide (k / 4 ≤ prtReg g Reg.prtLinkDowns) && k % 4 == p

/-- A write of PORT_CFG for the selected port: MAX_FRAME, and with CLEAR its counters and latches become 0 (R319, R333). -/
def State.portCfgWrite (s : State) (g : Nat) (v : W32) : State :=
  let p := s.selPort g
  let s := s.modPort g p fun x => { x with maxFrame := field v 13 0 }
  if flag v 16 then s.modLine fun l => { l with
    wide := l.wide.filter fun e => !portCounter g p e.1, latch := l.latch.filter fun e => !portCounter g p e.1 }
  else s

/-- PORT_COUNTER_CLEAR (R333). -/
def execPortCounterClear (group : Nat) (value : W32) (s : State) : Answer :=
  answer s <| if 8 ≤ group then s
    else s.regWrite (prtReg group Reg.prtPortCfg) (s.portCfgWrite group (setBits value 0x10000))

/-- The counter in `wide` that a LO word's register shows: the selected port's on a PRT page, or LCE's; none elsewhere. -/
def State.counterOf (s : State) (key : Nat) : Option Nat :=
  let o := tableOffset key
  if Reg.prtRxFramesLo ≤ o ∧ o ≤ Reg.prtTxStompedLo ∧ o % 8 = 0 then
    some (4 * key + s.selPort (pageOf key - 0x10))
  else if Reg.lceIcvFailLo ≤ o ∧ o ≤ Reg.lceLkaBytesLo ∧ o % 8 = 0 then some (4 * key)
  else none

/-- A 64-bit counter's value. -/
def State.wideOf (s : State) (k : Nat) : W64 := Sparse.get (fun _ => 0) s.line.wide k

/-- COUNTER_LO_READ: the LO word is returned and the HI word latched (R333, R365). -/
def execCounterLoRead (key : Nat) (s : State) : Answer :=
  answer s <| match s.counterOf key with
  | some k => s.regRead key <|
    let v := (s.wideOf k).toNat
    (s.modLine fun l => { l with latch := Sparse.set (fun _ => 0) l.latch k (BitVec.ofNat 32 (v / 2 ^ 32)) }).emit
      (.readData (BitVec.ofNat 32 v))
  | none => s

/-! ### The ratchet's timed steps -/

/-- RATCHET_DERIVE_DONE (R352 to R355). -/
def execRatchetDeriveDone (sa : Nat) (s : State) : Answer :=
  answer s <| match s.sa sa with
  | some x => if x.deriving_ then s.ratchetInstall sa else s
  | none => s

/-- RATCHET_OVERLAP_END: the old generation's receive SA is removed (R354). -/
def execRatchetOverlapEnd (sa : Nat) (s : State) : Answer :=
  answer s <| match s.sa sa with
  | some x => if x.overlap then s.removeSa sa else s
  | none => s

/-! ### Pipelines -/

/-- A pipeline fails its test: it leaves the pool, and the event is recorded and signalled (R360). -/
def State.pipeFail (s : State) (p : Nat) : State :=
  let s := s.modLine fun l => { l with fenced := l.fenced ||| BitVec.ofNat 16 (2 ^ p) }
  (s.raise Reg.lceEvent 0x20).logEvent 0x2005 p 0

/-- A periodic test of a pipeline in service: its verdict, or none where the pipeline found no idle slot and defers (R359). A fenced pipeline
runs no periodic test. -/
def State.pipeTested (s : State) (pipe : Nat) (result : Option Bool) : State :=
  if 16 ≤ pipe ∨ bitOf s.line.fenced.toNat pipe = true then s
  else match result with
    | none => s.lceCount Reg.lceStDeferredLo
    | some true => s
    | some false => s.pipeFail pipe

/-- PIPE_UNFENCE: each pipeline named is tested again; `passes` says which pass, and they return to the pool (R360). -/
def execPipeUnfence (value : W32) (passes : W32) (s : State) : Answer :=
  answer s <| s.regWrite Reg.lcePipeUnfence <|
    (List.range 16).foldl (fun s p =>
      if flag value p then
        if flag passes p then s.modLine fun l => { l with fenced := l.fenced &&& ~~~BitVec.ofNat 16 (2 ^ p) } else s.pipeFail p
      else s) s

/-! ### SA ranges (R304) -/

/-- Two index ranges share an index. -/
def rangesMeet (a n b m : Nat) : Bool := decide (0 < n) && decide (0 < m) && decide (a < b + m) && decide (b < a + n)

/-- The range of another function shares an index with a new one. -/
def State.saRangeTaken (s : State) (f base count : Nat) : Bool :=
  (List.range 256).any fun g => g != f && rangesMeet base count (s.func g).saBase (s.func g).saCount

/-- SA_COUNT_WRITE: the staged base and the count written become the selected function's range, or the pair is refused (R304). -/
def execSaCountWrite (value : W32) (s : State) : Answer :=
  answer s <| s.regWrite Reg.vfcSaCount <|
    let f := field (s.reg Reg.vfcFuncSel) 7 0
    let base := s.saStage
    let count := field value 24 0
    let leaves := s.saList.any fun p => p.2.func == f && !(decide (base ≤ p.1) && decide (p.1 < base + count))
    if s.saRangeTaken f base count ∨ 16777216 < base + count ∨ leaves = true then s.raise Reg.vfcErrStatus 1
    else s.setFunc f { s.func f with saBase := base, saCount := count }

end Sys2Proof.Machine
end

