-- ==== Sys2Proof/Machine/SaCommands.lean ====
section
/-!
DEFINITION. The SA and classifier commands 0x0800 to 0x0813 (R331, R332, R334 to R340).
-/
namespace Sys2Proof.Machine
open Sys2Proof

/-! ### Descriptors (Tables 13.2 to 13.4) -/

/-- A MACsec descriptor's fields lie in Table 13.2 (R336, R339). -/
def macsecDescOk (tx : Bool) (d : Bytes) : Bool :=
  let suite := natAt d 0
  let fl := natAt d 1
  let off := natAt d 2
  let next := leAt d 28 8
  let max := pnMax 1 d
  let count := leAt d 44 8
  decide (suite ≤ 3) && decide (fl < 64) && (if tx then !bitOf fl 4 else !bitOf fl 0 && !bitOf fl 2 && !bitOf fl 3) &&
    !(bitOf fl 2 && bitOf fl 3) && (off == 0 || ((off == 30 || off == 50) && bitOf fl 1)) && natAt d 3 == 0 &&
    (decide (2 ≤ suite) || allZero (slice d 12 16)) && decide (1 ≤ next) && decide (next ≤ max) &&
    (if tx then leAt d 36 4 == 0 else decide (suite < 2) || decide (leAt d 36 4 ≤ 2 ^ 30)) &&
    (if bitOf fl 5 then decide (2 ^ 16 ≤ count) && decide (count < max) && decide (next < count)
     else leAt d 40 4 == 0 && count == 0) &&
    allZero (slice d 52 12)

/-- An ESP descriptor's fields lie in Table 13.3 (R337, R339); the tunnel fields bind an outbound tunnel SA alone. -/
def espDescOk (out : Bool) (d : Bytes) : Bool :=
  let mode := natAt d 0
  let fl := natAt d 1
  let win := leAt d 20 2
  decide (mode ≤ 2) && decide (fl < if out then 2 else 4) && allZero (slice d 2 2) && decide (256 ≤ beAt d 4 4) &&
    (if out then decide (1 ≤ leAt d 12 8) && win == 0
     else leAt d 12 8 == 0 && (win == 0 || (decide (32 ≤ win) && decide (win ≤ 4096) && win % 32 == 0))) &&
    allZero (slice d 22 2) && allZero (slice d 59 5) &&
    (!(out && mode != 0) ||
      ((mode == 2 || (allZero (slice d 28 12) && allZero (slice d 44 12))) && natAt d 56 != 0 && decide (natAt d 57 < 128) &&
        (mode == 2 || decide (natAt d 58 < 2))))

/-- A descriptor's fields lie in its type's table; ALG of a MAU descriptor matches the type (R338). -/
def descOk (saType : Nat) (d : Bytes) : Bool :=
  if isMacsec saType then macsecDescOk (saType == 1) d
  else if saType = 3 ∨ saType = 4 then espDescOk (saType == 3) d
  else natAt d 0 == saType - 4 && allZero (slice d 1 3) && allZero (slice d 8 56)

/-- The KIND that SRC_SLOT must have (Table 13.1). -/
def saKeyKind (saType : Nat) (d : Bytes) : Nat := if isMacsec saType && natAt d 0 % 2 == 0 then 1 else 2

/-- The SAs of a block agree in SA_TYPE, SUITE, SCI, CONF_OFFSET and the flags other than TX_START (R335). -/
def blockAgrees (saType : Nat) (d : Bytes) (x : Sa) : Bool :=
  x.saType == saType && slice x.desc 0 1 == slice d 0 1 && slice x.desc 4 8 == slice d 4 8 && slice x.desc 2 1 == slice d 2 1 &&
    x.flags / 2 == natAt d 1 / 2

/-- The SAs installed in the block of an index. -/
def State.blockSas (s : State) (i : Nat) : List Sa := (List.range 4).filterMap fun a => s.sa (baseOf i + a)

/-- An SA of a new block's size finds room in the SA partition (R340). -/
def State.saRoom (s : State) (lines : Nat) : Bool := decide ((s.saLines + lines) * 128 ≤ s.partBytes Reg.memPartSa)

/-! ### SA commands -/

/-- The SA index lies in the function's range (R332). -/
def State.saInRange (s : State) (t : Track) : Option (Nat × Nat) :=
  let f := s.func t.func
  chk (decide (f.saBase ≤ t.entry.keySlot) && decide (t.entry.keySlot < f.saBase + f.saCount)) St.keyPolicy 0xB0

/-- The SA that a descriptor and its keys make. -/
def newSa (saType f : Nat) (pin : Bool) (d key rk : Bytes) : Sa :=
  let first := if isMacsec saType then leAt d 28 8 else if saType = 3 then leAt d 12 8 else 0
  { saType := saType, func := f, pinned := pin, desc := d, key := key, rk := rk, next := first, lapn := first }

/-- TX_AN after an install into a transmit block (R335). -/
def State.setTxAn (s : State) (i : Nat) (empty : Bool) (d : Bytes) : State :=
  if empty || bitOf (natAt d 1) 0 then
    s.modLine fun l => { l with txAn := Sparse.set (fun _ => 0) l.txAn (baseOf i) (i % 4) }
  else s

/-- An SA is installed: it enters the cache, is mirrored, reserves its first block, and a channel that ratchets starts to derive its
next key where it is due (R225, R335, R342, R353, R354, R419). -/
def State.installSa (s : State) (i : Nat) (x : Sa) : State :=
  let empty := (s.blockSas i).isEmpty
  let s := ((s.storeSa i x).touchSa i).mirrorSa i
  let s := if x.saType = 1 then s.setTxAn i empty x.desc else s
  let s := if isTx x.saType then s.reservePn i else s
  if x.ratchets && (x.saType == 2 || x.ratchetDue) then s.beginRatchet i else s

/-- SA_INSTALL (R334, R335, R339, R340). The slots are read once, at admission. -/
def execSaInstall (slot : Nat) (s : State) : Answer :=
  answer s <| s.onEntry slot 0x800 0x800 fun t =>
    let e := t.entry
    let i := e.keySlot
    let src := e.pLE 40 4
    let typ := e.p8 44
    let pin := bitOf e.flags.toNat 3
    let d := fit 64 t.input
    let ratchet := isMacsec typ && bitOf (natAt d 1) 5
    let rslot := leAt d 40 4
    let lines := if typ = 4 ∧ 128 < leAt d 20 2 then 5 else 1
    s.checked slot ([
      chk (e.zeroFrom 45 55) St.badParam 0, s.saInRange t, chk (within typ 1 6) St.badParam 0xB4,
      chk (isSlot src) St.badParam 0x41, chk (s.sa i).isNone St.keyPolicy 0xB5] ++
      s.sourceKey t.func src Usage.sa noDevice (fun k => if isMacsec typ then within k 1 2 else k == 2) ++ [
      t.dmaFail, chk (e.msgLen == 64) St.badLength 0xB4, chk (descOk typ d) St.badParam 0xB4,
      chk ((s.slot src).kind == saKeyKind typ d) St.keyPolicy 0x50] ++
      (if ratchet then s.sourceKey t.func rslot Usage.sa noDevice (· == 2) else []) ++ [
      chk (!isMacsec typ || (s.blockSas i).all (blockAgrees typ d)) St.badParam 0xB5,
      chk (!pin || decide (s.pinnedSas < 16384)) St.badParam 0xB2, chk (s.saRoom lines) St.badParam 0xB6])
      (s.readSlots slot (src :: if ratchet then [rslot] else []) <|
        (s.installSa i (newSa typ t.func pin d (s.slot src).content (if ratchet then (s.slot rslot).content else []))).complete
          slot St.ok 0 [])

/-- An SA must be installed at the index. -/
def State.saPresent (s : State) (t : Track) : Option (Nat × Nat) := chk (s.sa t.entry.keySlot).isSome St.keyEmpty 0xB0

/-- A receive channel that the SA at an index blocked derives again (R355). -/
def State.unblockRatchet (s : State) (i : Nat) : State :=
  let prev := baseOf i + (i + 3) % 4
  match s.sa prev with
  | some x => if x.saType = 2 ∧ x.blocked = true then (s.modSa prev fun x => { x with blocked := false }).beginRatchet prev else s
  | none => s

/-- SA_REMOVE: a pinned SA is unpinned and removed (R331). -/
def execSaRemove (slot : Nat) (s : State) : Answer :=
  answer s <| s.onEntry slot 0x801 0x801 fun t =>
    let e := t.entry
    s.checked slot [chk (e.zeroFrom 40 55) St.badParam 0, e.noInput, s.saInRange t, s.saPresent t, t.dmaFail]
      (((s.removeSa e.keySlot).unblockRatchet e.keySlot).complete slot St.ok 0 [])

/-- SA_PIN (R330 to R332). A pin or an unpin is no use of the context (R225): it moves nothing in the cache. -/
def execSaPin (slot : Nat) (s : State) : Answer :=
  answer s <| s.onEntry slot 0x802 0x802 fun t =>
    let e := t.entry
    let pin := bitOf (e.p8 40) 0
    let already := match s.sa e.keySlot with | some x => x.pinned | none => false
    s.checked slot [
      chk (decide (e.p8 40 < 2) && e.zeroFrom 41 55) St.badParam 0, e.noInput, s.saInRange t, s.saPresent t,
      chk (!pin || already || decide (s.pinnedSas < 16384)) St.badParam 0xB2, t.dmaFail]
      ((s.modSa e.keySlot fun x => { x with pinned := pin }).complete slot St.ok 0 [])

/-- SA_QUERY (Table 12.5). -/
def execSaQuery (slot : Nat) (s : State) : Answer :=
  answer s <| s.onEntry slot 0x803 0x803 fun t =>
    let e := t.entry
    s.checked slot [chk (e.zeroFrom 40 55) St.badParam 0, e.noInput, s.saInRange t, t.dmaFail, e.outHolds 16]
      (s.complete slot St.ok 0 (match s.sa e.keySlot with
        | some x => [BitVec.ofNat 8 (1 + 2 * b2n x.pinned + 4 * b2n (s.isCached e.keySlot)), BitVec.ofNat 8 x.saType] ++
            toLE 2 x.func ++ zeros 12
        | none => zeros 16))

/-! ### Classifier commands -/

/-- FIRST. -/
def WorkEntry.first (e : WorkEntry) : Nat := e.pLE 40 2
/-- COUNT. -/
def WorkEntry.count (e : WorkEntry) : Nat := e.pLE 42 2

/-- An entry may be written (R321, R332): its reserved bits are zero, its values in range, and a PROTECTION entry that bypasses the
cipher pipeline is authenticated. MASK may cover reserved bits of PORT and L4, as in the chapter's example. -/
def clsEntryOk (x : Bytes) : Bool :=
  decide (natAt x 0 < 32) && decide (natAt x 15 < 8) && allZero (slice x 18 2) && allZero (slice x 50 2) &&
    natAt x 67 == 0 && natAt x 71 == 0 && decide (natAt x 75 < 2) && allZero (slice x 76 4) &&
    decide (natAt x 72 ≤ 3) && decide (natAt x 73 ≤ 2) && decide (natAt x 74 ≤ 2) &&
    !(natAt x 72 == 0 && natAt x 73 == 2 && natAt x 74 == 0)

/-- The state with a table entry written. -/
def State.setCls (s : State) (i : Nat) (x : Bytes) : State :=
  s.modLine fun l => { l with cls := Sparse.set (fun _ => zeros 80) l.cls i x }

/-- CLS_WRITE: MSG_LEN is held before FIRST + N, which needs it. -/
def execClsWrite (slot : Nat) (s : State) : Answer :=
  answer s <| s.onEntry slot 0x810 0x810 fun t =>
    let e := t.entry
    let n := e.msgLen / 80
    let item (i : Nat) : Bytes := fit 80 (slice t.input (80 * i) 80)
    s.checked slot [
      chk (e.zeroFrom 42 55) St.badParam 0, e.noKey, chk (decide (0 < e.msgLen) && e.msgLen % 80 == 0) St.badLength 0xB0,
      chk (decide (e.first + n ≤ 16384)) St.badParam 0xB1, t.dmaFail,
      chk ((List.range n).all fun i => clsEntryOk (item i)) St.badParam 0xB3]
      (((List.range n).foldl (fun s i => s.setCls (e.first + i) (item i)) s).complete slot St.ok 0 [])

/-- CLS_READ. -/
def execClsRead (slot : Nat) (s : State) : Answer :=
  answer s <| s.onEntry slot 0x811 0x811 fun t =>
    let e := t.entry
    s.checked slot [
      chk (e.zeroFrom 44 55) St.badParam 0, e.noKey, e.noInput,
      chk (within e.count 1 256 && decide (e.first + e.count ≤ 16384)) St.badParam 0xB1, t.dmaFail, e.outHolds (80 * e.count)]
      (s.complete slot St.ok 0 ((List.range e.count).flatMap fun i => s.clsEntry (e.first + i)))

/-- CLS_CLEAR: VALID becomes 0. -/
def execClsClear (slot : Nat) (s : State) : Answer :=
  answer s <| s.onEntry slot 0x812 0x812 fun t =>
    let e := t.entry
    let clear (s : State) (i : Nat) : State :=
      let x := s.clsEntry (e.first + i)
      s.setCls (e.first + i) (putAt x 75 [byteAt x 75 &&& 0xFE])
    s.checked slot [
      chk (e.zeroFrom 44 55) St.badParam 0, e.noKey, e.noInput,
      chk (within e.count 1 16384 && decide (e.first + e.count ≤ 16384)) St.badParam 0xB1, t.dmaFail]
      (((List.range e.count).foldl clear s).complete slot St.ok 0 [])

/-- CLS_INFO. -/
def execClsInfo (slot : Nat) (s : State) : Answer :=
  answer s <| s.onEntry slot 0x813 0x813 fun t =>
    let e := t.entry
    let valid := (s.line.cls.filter fun p => bitOf (natAt p.2 75) 0).length
    s.checked slot [chk (e.zeroFrom 40 55) St.badParam 0, e.noKey, e.noInput, t.dmaFail, e.outHolds 16]
      (s.complete slot St.ok 0 (toLE 4 valid ++ toLE 4 s.pinnedSas ++ toLE 4 s.saList.length ++ zeros 4))

end Sys2Proof.Machine
end

