-- ==== Sys2Proof/Machine/Lookaside.lean ====
section
/-!
DEFINITION. The symmetric lookaside commands 0x0700 to 0x070C (R361 to R363): their checks and admission, and their end on the
pipelines.
-/
namespace Sys2Proof.Machine
open Sys2Proof

/-- AAD_LEN. -/
def WorkEntry.aadLen (e : WorkEntry) : Nat := e.pLE 52 2
/-- TAG_LEN. -/
def WorkEntry.tagLen (e : WorkEntry) : Nat := e.p8 54

/-- TAG_LEN is 12 to 16 (R362). -/
def WorkEntry.tagOk (e : WorkEntry) : Bool := within e.tagLen 12 16

/-- MSG_LEN is at most 16 MiB and as Table 13.8 gives it. -/
def WorkEntry.lkaLen (e : WorkEntry) (ok : Bool) : Option (Nat × Nat) := chk (ok && decide (e.msgLen ≤ 2 ^ 24)) St.badLength 0xC1

/-- The checks on KEY2_SLOT: a tweak key of the same kind and of another value (R362). -/
def State.key2Checks (s : State) (t : Track) : List (Option (Nat × Nat)) :=
  let a := t.entry.keySlot
  let b := t.entry.pLE 48 4
  s.sourceKey t.func b Usage.cipher noDevice (fun _ => true) ++
    [chk (a != b && (s.slot a).kind == (s.slot b).kind && (s.slot a).content != (s.slot b).content) St.keyPolicy 0xC1]

/-- A lookaside command is checked (steps 1 to 6 of Table 5.7), takes its keys, and goes to the pipelines (R361, R362). -/
def State.lkaStart (s : State) (slot : Nat) (t : Track) (zero params : Bool) (key2 : Bool) (lens : List (Option (Nat × Nat))) : State :=
  let e := t.entry
  let k2 := e.pLE 48 4
  s.checked slot ([
    chk zero St.badParam 0, chk params St.badParam 0xC0, e.aSlot, chk (!key2 || isSlot k2) St.badParam 0x41] ++
    s.sourceKey t.func e.keySlot Usage.cipher noDevice (fun _ => true) ++
    [chk (within (s.slot e.keySlot).kind 1 2) St.keyPolicy 0xC0] ++ (if key2 then s.key2Checks t else []) ++
    [t.dmaFail] ++ lens)
    (s.readSlots slot (e.keySlot :: if key2 then [k2] else []) <|
      let c : LkaCmd := { slot := slot, key := (s.slot e.keySlot).content, key2 := if key2 then (s.slot k2).content else [] }
      (s.modLine fun l => { l with lka := l.lka ++ [c] }).busy slot)

/-- AES_GCM_ENCRYPT. -/
def execAesGcmEncrypt (slot : Nat) (s : State) : Answer :=
  answer s <| s.onEntry slot 0x700 0x700 fun t =>
    let e := t.entry
    s.lkaStart slot t (e.zeroFrom 55 55) e.tagOk false
      [e.lkaLen true, chk (decide (e.aadLen ≤ e.msgLen)) St.badLength 0xC3, e.outHolds (e.msgLen - e.aadLen + e.tagLen)]

/-- AES_GCM_DECRYPT. -/
def execAesGcmDecrypt (slot : Nat) (s : State) : Answer :=
  answer s <| s.onEntry slot 0x701 0x701 fun t =>
    let e := t.entry
    s.lkaStart slot t (e.zeroFrom 55 55) e.tagOk false
      [e.lkaLen true, chk (decide (e.aadLen + e.tagLen ≤ e.msgLen)) St.badLength 0xC3,
        e.outHolds (e.msgLen - e.aadLen - e.tagLen)]

/-- AES_GMAC_GEN. -/
def execAesGmacGen (slot : Nat) (s : State) : Answer :=
  answer s <| s.onEntry slot 0x702 0x702 fun t =>
    let e := t.entry
    s.lkaStart slot t (e.zeroFrom 55 55) (e.tagOk && e.aadLen == 0) false [e.lkaLen true, e.outHolds e.tagLen]

/-- AES_GMAC_VERIFY. -/
def execAesGmacVerify (slot : Nat) (s : State) : Answer :=
  answer s <| s.onEntry slot 0x703 0x703 fun t =>
    let e := t.entry
    s.lkaStart slot t (e.zeroFrom 55 55) (e.tagOk && e.aadLen == 0) false
      [e.lkaLen true, chk (decide (e.tagLen ≤ e.msgLen)) St.badLength 0xC3]

/-- AES_CTR. -/
def execAesCtr (slot : Nat) (s : State) : Answer :=
  answer s <| s.onEntry slot 0x704 0x704 fun t =>
    s.lkaStart slot t true true false [t.entry.lkaLen true, t.entry.outHolds t.entry.msgLen]

/-- The checks of the two CBC commands. -/
def State.lkaCbc (s : State) (slot : Nat) (t : Track) : State :=
  s.lkaStart slot t true true false [t.entry.lkaLen (t.entry.msgLen % 16 == 0), t.entry.outHolds t.entry.msgLen]

/-- AES_CBC_ENCRYPT. -/
def execAesCbcEncrypt (slot : Nat) (s : State) : Answer := answer s <| s.onEntry slot 0x705 0x705 fun t => s.lkaCbc slot t

/-- AES_CBC_DECRYPT. -/
def execAesCbcDecrypt (slot : Nat) (s : State) : Answer := answer s <| s.onEntry slot 0x706 0x706 fun t => s.lkaCbc slot t

/-- The checks of the two XTS commands: one data unit of 16 bytes or more. -/
def State.lkaXts (s : State) (slot : Nat) (t : Track) : State :=
  s.lkaStart slot t (t.entry.zeroFrom 52 55) true true
    [t.entry.lkaLen (decide (16 ≤ t.entry.msgLen)), t.entry.outHolds t.entry.msgLen]

/-- AES_XTS_ENCRYPT. -/
def execAesXtsEncrypt (slot : Nat) (s : State) : Answer := answer s <| s.onEntry slot 0x707 0x707 fun t => s.lkaXts slot t

/-- AES_XTS_DECRYPT. -/
def execAesXtsDecrypt (slot : Nat) (s : State) : Answer := answer s <| s.onEntry slot 0x708 0x708 fun t => s.lkaXts slot t

/-- The checks of a wrap: data of at least `low` bytes, a multiple of `m`; `n` bytes out. -/
def State.lkaWrap (s : State) (slot : Nat) (t : Track) (m low n : Nat) : State :=
  s.lkaStart slot t (t.entry.zeroFrom 40 55) true false
    [t.entry.lkaLen (t.entry.msgLen % m == 0 && decide (low ≤ t.entry.msgLen)), t.entry.outHolds n]

/-- AES_KW_WRAP. -/
def execAesKwWrap (slot : Nat) (s : State) : Answer :=
  answer s <| s.onEntry slot 0x709 0x709 fun t => s.lkaWrap slot t 8 16 (t.entry.msgLen + 8)

/-- AES_KW_UNWRAP. -/
def execAesKwUnwrap (slot : Nat) (s : State) : Answer :=
  answer s <| s.onEntry slot 0x70A 0x70A fun t => s.lkaWrap slot t 8 24 (t.entry.msgLen - 8)

/-- AES_KWP_WRAP. -/
def execAesKwpWrap (slot : Nat) (s : State) : Answer :=
  answer s <| s.onEntry slot 0x70B 0x70B fun t => s.lkaWrap slot t 1 1 (roundUp t.entry.msgLen 8 + 8)

/-- AES_KWP_UNWRAP: the length of the unpadded data is known only after the unwrap, and is held against OUT_CAP there. -/
def execAesKwpUnwrap (slot : Nat) (s : State) : Answer :=
  answer s <| s.onEntry slot 0x70C 0x70C fun t => s.lkaWrap slot t 8 16 0

/-- What a lookaside command ends with (Table 13.8, R362): its STATUS and EXT_STATUS, and its output. -/
def lkaResult (e : WorkEntry) (c : LkaCmd) (inp : Bytes) : (Nat × Nat) × Bytes :=
  let iv := e.params.take 12
  let n := inp.length
  let tag := e.tagLen
  let aad := inp.take e.aadLen
  let op := e.opcode
  if op = 0x700 then ((0, 0), stdOut (n - e.aadLen + tag) .aesGcmEnc tag [c.key, iv, aad, inp.drop e.aadLen])
  else if op = 0x701 then
    let ct := slice inp e.aadLen (n - e.aadLen - tag)
    if Config.stdHolds .aesGcmTag tag [c.key, iv, aad, ct, inp.drop (n - tag)] then
      ((0, 0), stdOut ct.length .aesGcmDec tag [c.key, iv, aad, ct])
    else ((St.verifyFail, 0xC0), [])
  else if op = 0x702 then ((0, 0), stdOut tag .aesGcmEnc tag [c.key, iv, inp, []])
  else if op = 0x703 then
    if Config.stdHolds .aesGcmTag tag [c.key, iv, inp.take (n - tag), [], inp.drop (n - tag)] then ((0, 0), [])
    else ((St.verifyFail, 0xC0), [])
  else if op = 0x704 then ((0, 0), stdOut n .aesCtr 0 [c.key, e.params, inp])
  else if op = 0x705 then ((0, 0), stdOut n .aesCbcEnc 0 [c.key, e.params, inp])
  else if op = 0x706 then ((0, 0), stdOut n .aesCbcDec 0 [c.key, e.params, inp])
  else if op = 0x707 then ((0, 0), stdOut n .aesXtsEnc 0 [c.key, c.key2, e.params.take 8, inp])
  else if op = 0x708 then ((0, 0), stdOut n .aesXtsDec 0 [c.key, c.key2, e.params.take 8, inp])
  else if op = 0x709 then ((0, 0), stdOut (n + 8) .aesKwWrap 0 [c.key, inp])
  else if op = 0x70A then
    if Config.stdHolds .aesKwOk 0 [c.key, inp] then ((0, 0), stdOut (n - 8) .aesKwUnwrap 0 [c.key, inp])
    else ((St.verifyFail, 0xC1), [])
  else if op = 0x70B then ((0, 0), stdOut (roundUp n 8 + 8) .aesKwpWrap 0 [c.key, inp])
  else if Config.stdHolds .aesKwpOk 0 [c.key, inp] then
    let out := (Config.std .aesKwpUnwrap 0 [c.key, inp]).take (n - 8)
    if out.length ≤ e.outCap then ((0, 0), out) else ((St.badLength, 0x41), [])
  else ((St.verifyFail, 0xC1), [])

/-- The commands whose output is held until their check has passed (R363). -/
def isHeldOut (op : Nat) : Bool := op == 0x701 || op == 0x70A || op == 0x70C

/-- LOOKASIDE_CIPHER_END: `read` is its access to the decryption hold (R362, R363, R479). Without a pipeline in the pool
nothing ends. -/
def execLookasideCipherEnd (slot : Nat) (read : HbmRead) (s : State) : Answer :=
  answer s <| match s.line.lka.find? (fun c => c.slot == slot), s.track slot with
  | some c, some t =>
    if s.line.fenced = 0xFFFF then s
    else
      let s := (s.cipherPass false t.input.length).modLine fun l => { l with lka := l.lka.filter (·.slot != slot) }
      let s := s.wideAdd (4 * Reg.lceLkaBytesLo) t.input.length
      let r := lkaResult t.entry c t.input
      if isHeldOut t.entry.opcode then match read.failed with
        | some u => (s.hbmUe 2 u t.entry.tag).complete slot St.memUncorrectable 0x38 []
        | none => (s.noteRead read).complete slot r.1.1 r.1.2 r.2
      else s.complete slot r.1.1 r.1.2 r.2
  | _, _ => s

end Sys2Proof.Machine
end

