-- ==== Sys2Proof/Machine/Journal.lean ====
section
/-!
DEFINITION. The evidence journal's events, export and commands (R396 to R405).
-/
namespace Sys2Proof.Machine
open Sys2Proof

/-- The EVJ takes checkpoints: it runs, and the device is not in P3 (R396). -/
def State.cpRuns (s : State) : Bool := s.evj.on && decide (s.pwr.state < 3)

/-- CHECKPOINT_COUNT: 65,536 records have been chained (R396). -/
def execCheckpointCount (s : State) : Answer :=
  answer s (if s.cpRuns && decide (65536 ≤ s.evj.chained) then s.takeCheckpoint 0 else s)

/-- CHECKPOINT_TIMER: 100 ms have passed (R396). -/
def execCheckpointTimer (s : State) : Answer := answer s (if s.cpRuns then s.takeCheckpoint 1 else s)

/-- The countersignature block of a neighbour in an entry. -/
def CpEntry.csig (c : CpEntry) (west : Bool) : Csig := if west then c.west else c.east

/-- The entry with the block of a neighbour replaced. -/
def CpEntry.setCsig (c : CpEntry) (west : Bool) (x : Csig) : CpEntry :=
  if west then { c with west := x } else { c with east := x }

/-- CSIG_TIMEOUT: a block still awaited is marked TIMEOUT, and the entry may thereby be complete (R399). -/
def execCsigTimeout (cp : Nat) (west : Bool) (s : State) : Answer :=
  answer s <| match s.evj.cps.find? fun c => c.num == cp with
  | some c =>
    if c.stage = .committed ∧ (c.csig west).status = 3 then
      let s := s.modCp cp fun c => c.setCsig west { c.csig west with status := 2 }
      ((s.count Reg.evjCsigTimeouts).raise Reg.evjEvent 8).serveReaders cp
    else s
  | none => s

/-! ### Export (R402) -/

/-- The address that a register pair holds; bits [11:0] are 0. -/
def State.ringBase (s : State) (lo hi : Nat) : Nat := (s.reg lo &&& 0xFFFFF000).toNat + 2 ^ 32 * (s.reg hi).toNat

/-- The next record is copied to its export ring; one that cannot be read is copied as read (R479). -/
def State.exportRecord (s : State) (read : HbmRead) : State :=
  let prod := s.reg Reg.evjExpRecProd
  let depth := 2 ^ s.evj.recLog2
  match s.evj.ring.find? fun r => r.copied.isNone with
  | some r =>
    if flag (s.reg Reg.evjExpCtrl) 0 = true ∧ (prod - s.reg Reg.evjExpRecCons).toNat < depth then
      let s := match read.failed with | some u => (s.hbmUe 3 u).raise Reg.memEvent 8 | none => s.noteRead read
      let s := s.hostWrite .device 0 0 ⟨0, s.ringBase Reg.evjExpRecLo Reg.evjExpRecHi + 64 * (prod.toNat % depth), r.body⟩
      (s.setReg Reg.evjExpRecProd (prod + 1)).modEvj fun e =>
        { e with ring := e.ring.map fun x => if x.seq = r.seq then { x with copied := some prod } else x }
    else s
  | none => s

/-- The next checkpoint entry is copied once it is complete; one that cannot be read is skipped (R479). -/
def State.exportCp (s : State) (read : HbmRead) : State :=
  let prod := s.reg Reg.evjExpCpProd
  let depth := 2 ^ s.evj.cpLog2
  match s.evj.cps.find? fun c => c.copied.isNone with
  | some c =>
    if c.complete = true ∧ flag (s.reg Reg.evjExpCtrl) 1 = true ∧ (prod - s.reg Reg.evjExpCpCons).toNat < depth then
      let t := (s.noteRead read).modCp c.num fun c => { c with copied := some prod }
      match read.failed with
      | some u => ((t.hbmUe 3 u).count Reg.evjOverwritten).modEvj fun e => { e with overflow := true }
      | none => (t.hostWrite .device 0 0
          ⟨0, s.ringBase Reg.evjExpCpLo Reg.evjExpCpHi + 16384 * (prod.toNat % depth), c.bytes⟩).setReg Reg.evjExpCpProd (prod + 1)
    else s
  | none => s

/-- EXPORT_COPY (R402). -/
def execExportCopy (cp : Bool) (read : HbmRead) (s : State) : Answer :=
  answer s (if cp then s.exportCp read else s.exportRecord read)

/-- An item copied as number n has been consumed under a CONS value. -/
def consumed (cons : W32) (n : Option W32) : Bool := match n with
  | some k => decide ((cons - k - 1).toNat < 2 ^ 31)
  | none => false

/-- A write of EXP_REC_CONS consumes the records before it (R401, R402). -/
def State.consumeRecords (s : State) (v : W32) : State :=
  (s.setReg Reg.evjExpRecCons v).modEvj fun e => { e with ring := e.ring.filter fun r => !consumed v r.copied }

/-- A write of EXP_CP_CONS consumes the entries before it. -/
def State.consumeCps (s : State) (v : W32) : State :=
  (s.setReg Reg.evjExpCpCons v).modEvj fun e => { e with cps := e.cps.filter fun c => !consumed v c.copied }

/-- EXP_CTRL_WRITE: a 1 in REC_EN or CP_EN restarts that ring from the oldest item not consumed; the depth written is applied where the bit
becomes 1 (R402, Table 15.7). -/
def execExpCtrlWrite (value : W32) (s : State) : Answer :=
  answer s <| s.regWrite Reg.evjExpCtrl <|
    let old := s.reg Reg.evjExpCtrl
    let recLog2 := if flag old 0 then s.evj.recLog2 else clamp 10 24 (field value 12 8)
    let cpLog2 := if flag old 1 then s.evj.cpLog2 else clamp 4 10 (field value 19 16)
    let s := s.plainWrite Reg.evjExpCtrl value
    let s := if flag value 0 then ((s.setReg Reg.evjExpRecProd 0).setReg Reg.evjExpRecCons 0).modEvj fun e => { e with
        recLog2 := recLog2, ring := e.ring.map fun (r : HeldRec) => { r with copied := none } } else s
    if flag value 1 then ((s.setReg Reg.evjExpCpProd 0).setReg Reg.evjExpCpCons 0).modEvj fun e => { e with
        cpLog2 := cpLog2, cps := e.cps.map fun (c : CpEntry) => { c with copied := none } } else s

/-! ### Commands (R404, R405) -/

/-- The first checks of the journal commands: reserved bytes, MSG_LEN and KEY_SLOT. -/
def jrnFields (t : Track) (zero : Bool) : List (Option (Nat × Nat)) :=
  [chk zero St.badParam 0, t.entry.noInput, t.entry.noKey]

/-- JRN_PUBKEY. -/
def execJrnPubkey (slot : Nat) (s : State) : Answer :=
  answer s <| s.onEntry slot 0x910 0x910 fun t =>
    let k := s.slot 4
    s.checked slot (jrnFields t (t.entry.zeroFrom 40 55) ++ [chk k.valid St.keyEmpty 0x72, t.dmaFail, t.entry.outHolds 1968])
      (s.readSlots slot [4] <| s.complete slot St.ok 0 <|
        stdOut 1952 .mldsaKeyGen 1 [k.content] ++ s.serialBytes ++ [BitVec.ofNat 8 (b2n k.test)] ++ zeros 7)

/-- JRN_READ: a record whose read is uncorrectable is returned as read (R479). -/
def execJrnRead (slot : Nat) (read : HbmRead) (s : State) : Answer :=
  answer s <| s.onEntry slot 0x911 0x911 fun t =>
    let e := t.entry
    let first := e.pLE 40 8
    let n := e.pLE 48 4
    let oldest := match s.evj.ring.head? with | some r => r.seq | none => 0
    s.checked slot (jrnFields t (e.zeroFrom 52 55) ++ [
      chk (within n 1 65536) St.badParam 0x40, chk (decide (oldest ≤ first)) St.badParam 0xD8, t.dmaFail, e.outHolds (64 * n)])
      (let out := ((s.evj.ring.filter fun r => decide (first ≤ r.seq)).take n).flatMap fun r => r.body
       match read.failed with
       | some u => ((s.hbmUe 3 u e.tag).raise Reg.memEvent 8).complete slot St.memUncorrectable 0x39 out
       | none => (s.noteRead read).complete slot St.ok 0 out)

/-- JRN_CHECKPOINT: it completes at the commit. -/
def execJrnCheckpoint (slot : Nat) (s : State) : Answer :=
  answer s <| s.onEntry slot 0x912 0x912 fun t =>
    s.checked slot (jrnFields t (t.entry.zeroFrom 40 55) ++ [t.dmaFail, t.entry.outHolds 8])
      (((s.busy slot).modEvj fun e => { e with cpWait := e.cpWait ++ [(slot, e.nextCp)] }).takeCheckpoint 2)

/-- JRN_READ_CP: it waits for an entry's countersignatures; one that cannot be read gives nothing (R479). -/
def execJrnReadCp (slot : Nat) (read : HbmRead) (s : State) : Answer :=
  answer s <| s.onEntry slot 0x913 0x913 fun t =>
    let e := t.entry
    let num := e.pLE 40 8
    let c := s.evj.cps.find? fun c => c.num == num
    s.checked slot (jrnFields t (e.zeroFrom 48 55) ++ [chk c.isSome St.badParam 0xD8, t.dmaFail, e.outHolds 16384])
      (match read.failed with
       | some u => (s.hbmUe 3 u e.tag).complete slot St.memUncorrectable 0x39 []
       | none => (((s.noteRead read).busy slot).modEvj fun e => { e with readWait := e.readWait ++ [(slot, num)] }).serveReaders num)

end Sys2Proof.Machine
end

