-- ==== Sys2Proof/Machine/Trunk.lean ====
section
/-!
DEFINITION. Trunk frames as they arrive (R408, R409), keying (R413, R431), heartbeats (R415), mirroring and its
acknowledgement (R417 to R421), and the epochs that go round the ring (R427 to R430).
-/
namespace Sys2Proof.Machine
open Sys2Proof

/-! ### Arrival (R408, R409) -/

/-- A trunk message: its header (Table 16.2) and payload. -/
structure TrkMsg where
  version : Nat
  typ : Nat
  len : Nat
  ringId : Nat
  src : Nat
  dst : Nat
  ttl : Nat
  flags : Nat
  lseq : Nat
  payload : Bytes
  deriving DecidableEq, Repr

/-- The message that the bytes behind EtherType 0x88B5 spell. -/
def parseTrk (b : Bytes) : TrkMsg where
  version := natAt b 0
  typ := natAt b 1
  len := leAt b 2 2
  ringId := leAt b 4 4
  src := natAt b 8
  dst := natAt b 9
  ttl := natAt b 10
  flags := natAt b 11
  lseq := leAt b 12 4
  payload := b.drop 16

/-- The listed TYPEs (Table 16.3). -/
def trkTypes : List Nat := [0x01, 0x02, 0x10, 0x20, 0x21, 0x22, 0x23, 0x30, 0x31, 0x40, 0x41, 0x50, 0x51]

/-- The length of the kind data of EPOCH_PREPARE (Table 16.7, R414). -/
def kindLen (kind : Nat) : Nat := [40, 12, 1].getD kind 0

/-- The payload has the fixed length of its TYPE (Table 16.3); MIRROR has none. -/
def trkLenOk (typ : Nat) (p : Bytes) : Bool :=
  if typ = 0x20 then true
  else if typ = 0x30 then decide (natAt p 0 ≤ 2) && p.length == 24 + kindLen (natAt p 0)
  else p.length == (if typ = 0x01 then 6461 else if typ = 0x02 then 6365 else if typ = 0x10 then 36 else if typ = 0x21 then 4
    else if typ = 0x22 ∨ typ = 0x23 then 24 else if typ = 0x31 then 16 else if typ = 0x40 then 40 else if typ = 0x41 then 3349
    else if typ = 0x50 then 16 else if typ = 0x51 then 9 else p.length)

/-- The key under which a received AN is accepted: the one in use, the next ring key once prepared, and the old one for as long
as it is kept (R427). -/
def State.rxKey (s : State) (west : Bool) (an : Nat) : Option Bytes :=
  let l := s.trkLink west
  if an = l.an then some (s.trkKey west)
  else if an = (l.an + 1) % 4 ∧ l.nextKey ≠ [] then some l.nextKey
  else if an = (l.an + 3) % 4 ∧ l.oldKey ≠ [] then some l.oldKey
  else none

/-- The 64-bit PN that 32 received bits stand for, next to the lowest acceptable one (IEEE 802.1AE XPN). -/
def fullPn (low next : Nat) : Nat :=
  let hi := next / 2 ^ 32
  if next % 2 ^ 32 ≤ low then hi * 2 ^ 32 + low
  else if next % 2 ^ 32 < 2 ^ 31 then hi * 2 ^ 32 + low
  else if low < 2 ^ 31 then (hi + 1) * 2 ^ 32 + low
  else hi * 2 ^ 32 + low

/-- What is behind the SecTAG of a protected frame, opened, and the state that has noted its PN; none when its ICV fails or its
number is not in strict order (R408). -/
def State.trkOpen (s : State) (west : Bool) (f : Bytes) : Option (Bytes × State) :=
  let l := s.trkLink west
  let an := natAt f 14 % 4
  let sl := natAt f 15 % 64
  let pn := fullPn (beAt f 16 4) (l.rxPn.getD an 1)
  let n := if sl = 0 then f.length - 44 else sl
  let port := if west then 1 else 2
  match s.rxKey west an with
  | none => none
  | some key =>
    let iv := trunkIv key port pn
    let ct := slice f 28 (n + 16)
    let sci := slice f 6 6 ++ toBE 2 port
    if l.keyed && decide (44 + n ≤ f.length) && slice f 20 8 == sci && gcmOk key iv (f.take 28) ct &&
        decide (l.rxPn.getD an 1 ≤ pn) then
      some (gcmOpen key iv (f.take 28) ct, s.modLink west fun l => { l with rxPn := l.rxPn.set an (pn + 1) })
    else none

/-- The body of a received frame behind its Ethernet header: protected, or, of a HELLO or HELLO_ACK alone, in the clear. -/
def State.trkBody (s : State) (west : Bool) (f : Bytes) : Option (Bytes × State) :=
  if beAt f 12 2 = 0x88E5 then s.trkOpen west f
  else if beAt f 12 2 = 0x88B5 ∧ (natAt f 15 = 1 ∨ natAt f 15 = 2) then some (f.drop 12, s)
  else none

/-- A message is relayed on the other link with its TTL lowered; one at 0 is dropped (Table 16.2, R409). -/
def State.trkRelay (s : State) (west : Bool) (m : TrkMsg) : State :=
  let out := !west
  if m.ttl = 0 ∨ (s.trkLink out).keyed = false then s
  else
    let h := [BitVec.ofNat 8 m.version, BitVec.ofNat 8 m.typ] ++ toLE 2 m.payload.length ++ toLE 4 m.ringId ++
      [BitVec.ofNat 8 m.src, BitVec.ofNat 8 m.dst, BitVec.ofNat 8 (m.ttl - 1), BitVec.ofNat 8 m.flags] ++ toLE 4 m.lseq
    s.trkFrame out false (h ++ m.payload)

/-- A trunk frame has come in: a PTP event message leaves its capture record (R376), and a protected frame passes the pipelines (R409). -/
def State.trkNoted (s : State) (west : Bool) (f : Bytes) : State :=
  let s := s.captureOf f (s.ingressStamp (if west then 9 else 8)) s.qualityCode none (if west then 0x21 else 0x20) false
  if beAt f 12 2 = 0x88E5 then s.cipherPass false (f.length - 28) else s

/-- A trunk frame arrives: dropped and counted in the cases of R409, relayed when it is not for this member, and otherwise given to
`k`. A frame longer than the port accepts is lost (R407). A frame of another TYPE than the event's is not acted on. -/
def State.trkReceive (s : State) (west : Bool) (f : Bytes) (typ : Nat) (k : RingMap → TrkMsg → State → State) : State :=
  if s.trk.on = false ∨ (s.trkLink west).up = false ∨ 9600 < f.length + 4 then s
  else
    let s := s.trkNoted west f
    match s.trkBody west f with
    | none => s.count Reg.trkAuthDrop
    | some (body, t) =>
      let m := parseTrk (body.drop 2)
      let hello := m.typ == 1 || m.typ == 2
      if body.length ≠ 18 + m.len ∨ trkLenOk m.typ m.payload = false then t.count Reg.trkLenDrop
      else if (!hello && decide (max 1 t.trk.committed < m.version)) || beAt body 0 2 != 0x88B5 then t.count Reg.trkFmtDrop
      else match t.trk.map with
        | none => t.count Reg.trkFmtDrop
        | some map =>
          if m.ringId ≠ map.ringId ∨ trkTypes.contains m.typ = false then t.count Reg.trkFmtDrop
          else if m.typ ≠ typ then s
          else if m.dst ≠ map.ownPos ∧ m.dst ≠ 0xFF then t.trkRelay west m
          else k map m t

/-! ### Mirroring from here (R417 to R421) -/

/-- The records of a list go out in MIRROR messages of at most 50 records. -/
def mirrorChunks : Nat → List TrkRecord → State → State
  | 0, _, s => s
  | n + 1, rs, s => if rs = [] then s else mirrorChunks n (rs.drop 50) (s.mirrorAll (rs.take 50))

/-- Records are mirrored, in as many messages as they take. -/
def State.mirrorMany (s : State) (rs : List TrkRecord) : State := mirrorChunks rs.length rs s

/-- The mirrored SAs. -/
def State.mirroredSas (s : State) : List (Nat × Sa) := s.saList.filter fun p => s.mirrored p.1

/-- SA_STATE of every mirrored SA, once a ring key can wrap its keys (R419). -/
def State.saStates (s : State) : List TrkRecord :=
  if (s.slot 6).valid then s.mirroredSas.map fun p => s.saStateRecord p.1 p.2 else []

/-- The block records of every block in hand that `keep` selects. -/
def State.blockRecords (s : State) (keep : Bool → Bool) : List TrkRecord :=
  let pn := s.saList.flatMap fun p => ((p.2.blocks.filter fun b => keep b.confirmed).map fun b =>
      TrkRecord.pnBlock p.1 b.start b.stop) ++
    ((p.2.nextGen.toList.filter fun b => keep b.confirmed).map fun b => TrkRecord.pnBlock (nextGenIndex p.1) b.start b.stop)
  let lms := s.kst.slots.filterMap fun q => match q.2.tree with
    | some d => match d.block with
      | some b => if keep b.mirrorOk then some (TrkRecord.lmsBlock q.2.lmsId b.first b.stop) else none
      | none => none
    | none => none
  let jrn := (s.evj.blocks.filter fun b => keep b.confirmed).map fun b => TrkRecord.jrnBlock b.start b.stop
  pn ++ lms ++ jrn

/-- The whole present state goes to the target, ending with SYNC_END (R420); messages sent before are void with their link. -/
def State.fullSync (s : State) : State :=
  let s := s.modTrk fun t => { t with pending := [] }
  if s.target.isNone then
    if s.confirmsLocally = false ∧ s.blockRecords not ≠ [] then s.raise Reg.trkEvent 0x40 else s
  else
    let rs := s.saStates ++ s.blockRecords fun _ => true
    (s.modTrk fun t => { t with syncing := true }).mirrorMany (rs ++ [.syncEnd rs.length])

/-- The block of a record is confirmed (R418). -/
def State.confirmRecord (s : State) (r : TrkRecord) : State := match r with
  | .pnBlock sa start _ => s.confirmPn sa start
  | .lmsBlock id start _ => s.ackLms id start
  | .jrnBlock start _ => s.confirmJrn start
  | _ => s

/-- The records of messages are confirmed, in order. -/
def State.confirmMessages (s : State) (ms : List MirrorMsg) : State :=
  (ms.flatMap (·.records)).foldl State.confirmRecord s

/-- A message of a list carries SYNC_END. -/
def endsSync (ms : List MirrorMsg) : Bool :=
  ms.any fun m => m.records.any fun r => match r with
    | .syncEnd _ => true
    | _ => false

/-- Every MIRROR message up to an LSEQ is acknowledged (Table 16.3): their blocks are confirmed, during a sync only once its
SYNC_END is acknowledged (R420). -/
def State.mirrorAcked (s : State) (lseq : Nat) : State :=
  let marked := s.trk.pending.map fun (m : MirrorMsg) => if m.lseq ≤ lseq then { m with acked := true } else m
  let done := marked.filter (·.acked)
  if s.trk.syncing && !endsSync done then s.modTrk fun t => { t with pending := marked }
  else (s.modTrk fun t => { t with pending := marked.filter fun m => !m.acked, syncing := false }).confirmMessages done

/-- All reserved blocks are confirmed: no map is in force, or SOLO was set (R155, R342, R394, R421). -/
def State.confirmAll (s : State) : State :=
  let s := s.modTrk fun t => { t with pending := [], syncing := false }
  (s.blockRecords not).foldl State.confirmRecord s

/-- The target has changed: the sync to it begins anew, with every block that is not yet confirmed in it (R417, R432). -/
def State.retarget (s : State) (before : Option Nat) : State :=
  if s.target = before ∧ s.target.isSome then s else s.fullSync

/-- RX_STATE of every mirrored receive SA (R419): NEXT_RX_PN of a MACsec SA, T of an ESP SA. -/
def State.rxStates (s : State) : List TrkRecord :=
  (s.mirroredSas.filter fun p => isRx p.2.saType).map fun p => TrkRecord.rxState p.1 p.2.next

/-- RX_STATE_SEND: under format 2, every 1 ms (R419). -/
def execRxStateSend (s : State) : Answer :=
  answer s (if 2 ≤ s.trk.committed then s.mirrorMany s.rxStates else s)

/-- MIRROR_ACK (R418). -/
def execMirrorAck (west : Bool) (frame : Bytes) (s : State) : Answer :=
  answer s <| s.trkReceive west frame 0x21 fun _ m s => s.mirrorAcked (leAt m.payload 0 4)

/-! ### Partner state (R420) -/

/-- The records of a MIRROR payload; what does not parse ends the list. -/
def parseRecords : Nat → Bytes → List TrkRecord
  | 0, _ => []
  | n + 1, b =>
    let typ := natAt b 0
    let len := leAt b 2 2
    let x := slice b 4 len
    if b.length < 4 + len ∨ b = [] then []
    else
      let rest := parseRecords n (b.drop (4 + len))
      if typ = 1 ∧ len = 20 then .pnBlock (leAt x 0 4) (leAt x 4 8) (leAt x 12 8) :: rest
      else if typ = 2 ∧ len = 24 then .lmsBlock (x.take 16) (leAt x 16 4) (leAt x 20 4) :: rest
      else if typ = 3 ∧ len = 16 then .jrnBlock (leAt x 0 8) (leAt x 8 8) :: rest
      else if typ = 4 ∧ len = 156 then
        .saState (leAt x 0 4) (natAt x 4) (leAt x 8 4) (slice x 12 64) (slice x 76 40) (slice x 116 40) :: rest
      else if typ = 5 ∧ len = 4 then .saRemove (leAt x 0 4) :: rest
      else if typ = 6 ∧ len = 4 then .syncEnd (leAt x 0 4) :: rest
      else if typ = 7 ∧ len = 12 then .rxState (leAt x 0 4) (leAt x 4 8) :: rest
      else rest

/-- The SA index of an SA_STATE record. -/
def TrkRecord.saIndex : TrkRecord → Option Nat
  | .saState sa .. => some sa
  | _ => none

/-- The partner state after a record: the latest of each kind is kept (R420). -/
def Partner.take (p : Partner) (r : TrkRecord) : Partner := match r with
  | .pnBlock sa _ stop => { p with pn := (p.pn.filter fun x => x.1 != sa) ++ [(sa, stop)] }
  | .lmsBlock id start stop => { p with lms := (p.lms.filter fun x => x.1 != id) ++ [(id, start, stop)] }
  | .jrnBlock start stop => { p with jrn := some (start, stop) }
  | .saState sa .. => { p with sas := (p.sas.filter fun x => x.saIndex != some sa) ++ [r] }
  | .saRemove sa => { p with sas := p.sas.filter fun x => x.saIndex != some sa, pn := p.pn.filter fun x => x.1 != sa,
                             rx := p.rx.filter fun x => x.1 != sa }
  | .syncEnd _ => { p with synced := true }
  | .rxState sa v => { p with rx := (p.rx.filter fun x => x.1 != sa) ++ [(sa, v)] }

/-- A trunk link falls, and the target may move with it (R413, R417). -/
def State.trunkFalls (s : State) (west : Bool) : State :=
  let t := s.linkDown west
  if s.target = t.target then t else t.fullSync

/-- MIRROR: partner state is updated and the message acknowledged, on the link that it came by (R418, R420). While a takeover
from that member is in progress its state is frozen (Table 16.6). Partner state that cannot be read takes the west link down, and is discarded once
that link keys again (R479). -/
def execMirror (west : Bool) (arrival : StoredFrame) (s : State) : Answer :=
  answer s <| s.trkReceive west arrival.frame 0x20 fun map m s => match arrival.read.failed with
    | some u => ((s.hbmUe 5 u).raise Reg.memEvent 4).trunkFalls true
    | none =>
      let s := s.noteRead arrival.read
      let serial := map.serial m.src
      let p := if s.trk.partner.serial = serial then s.trk.partner else { serial := serial }
      let s := if s.trk.takeover.isSome then s
        else s.modTrk fun t => { t with partner := (parseRecords m.payload.length m.payload).foldl Partner.take p }
      s.trkSend west 0x21 (if m.dst = 0xFF then 0xFF else m.src) (bitOf m.flags 0) (toLE 4 m.lseq)

/-! ### Epochs as their keeper sends them (R427, R429) -/

/-- A ring key in slot 6 or 7 (R213). -/
def State.ringSlot (s : State) (n : Nat) (key : Bytes) : State := s.setSlot n (deviceSlot n key s.lcs.testRoot)

/-- The next ring key is known: in slot 7, and in each link (R213, R427). -/
def State.nextRingKey (s : State) (key : Bytes) : State :=
  let give (l : TrkLink) : TrkLink := { l with nextKey := key }
  ((s.ringSlot 7 key).modLink false give).modLink true give

/-- The next ring key is discarded. -/
def State.dropNextKey (s : State) : State :=
  let drop (l : TrkLink) : TrkLink := { l with nextKey := [] }
  ((s.emptySlot 7).modLink false drop).modLink true drop

/-- The bytes of an EPOCH_COMMIT. -/
def epochHead (kind num : Nat) : Bytes := BitVec.ofNat 8 kind :: zeros 7 ++ toLE 8 num

/-- The data that EPOCH_PREPARE carries on a link: the next ring key under the link key, the keeper's egress stamp, or TARGET. -/
def State.epochData (s : State) (west : Bool) (e : Epoch) : Bytes :=
  if e.kind = 0 then stdOut 40 .aesKwpWrap 0 [(s.trkLink west).linkKey, e.key]
  else if e.kind = 1 then (s.egressStamp (if west then 9 else 8)).full s.qualityCode
  else [BitVec.ofNat 8 e.target]

/-- The message of an epoch's pass on a link. -/
def State.sendPass (s : State) (west : Bool) (e : Epoch) : State :=
  if e.commit then s.trkSend west 0x31 0xFF false (epochHead e.kind e.num)
  else s.trkSend west 0x30 0xFF false (epochHead e.kind e.num ++ zeros 8 ++ s.epochData west e)

/-- A pass goes out: east round a whole ring, and along both arms of a broken one (R427). -/
def State.startPass (s : State) (e : Epoch) : State :=
  let whole := match s.trk.map with | some m => (List.range m.count).all (s.inService m) | none => false
  let outs := if whole then [false] else [false, true].filter fun w => (s.trkLink w).keyed
  let e := { e with arms := outs.length, began := s.free }
  outs.foldl (fun s w => s.sendPass w e) (s.modTrk fun t => { t with epoch := some e })

/-- KEY commits here: MACsec moves to the next AN under the new ring key, the old key being kept for a while; SA_STATE goes out
again under the new mirror key (R414, R419, R427). -/
def State.keyCommit (s : State) : State :=
  if (s.slot 7).valid = false then s
  else
    let kE := s.trkKey false
    let kW := s.trkKey true
    let next (old : Bytes) (l : TrkLink) : TrkLink :=
      if l.keyed then
        let an := (l.an + 1) % 4
        { l with an := an, txPn := 1, rxPn := l.rxPn.set an 1, ringKeyed := true, ringKey := l.nextKey, oldKey := old }
      else l
    let s := s.ringSlot 6 (s.slot 7).content
    let s := ((s.modLink false (next kE)).modLink true (next kW)).dropNextKey
    s.mirrorMany s.saStates

/-- COMMITTED takes a value; a change sets EVENT.VERSION (R430, R431). -/
def State.setCommitted (s : State) (n : Nat) : State :=
  if s.trk.committed = n then s else (s.modTrk fun t => { t with committed := n }).raise Reg.trkEvent 0x80

/-- What a COMMIT does at this member (Table 16.7). -/
def State.commitEpoch (s : State) (kind : Nat) : State :=
  if kind = 0 then s.keyCommit
  else if kind = 2 ∧ s.trk.epochTarget ≠ 0 then s.setCommitted s.trk.epochTarget
  else s

/-- An epoch of a kind begins at the keeper: NUM rises by one, a KEY epoch draws the next ring key into slot 7, and the PREPARE
pass goes out (R427). It cannot begin while DRBG instance 1 does not serve its key. -/
def State.startEpoch (s : State) (kind target : Nat) (slot : Option Nat) : State :=
  if kind = 0 ∧ s.drbgServes 1 = false then s
  else
    let num := s.trk.epochNums.getD kind 0 + 1
    let d := if kind = 0 then s.draw 1 32 else ([], s)
    let s := if kind = 0 then d.2.nextRingKey d.1 else d.2
    let s := s.modTrk fun t => { t with epochNums := t.epochNums.set kind num, epochTarget := if kind = 2 then target else t.epochTarget }
    s.startPass { kind := kind, num := num, target := target, key := d.1, slot := slot }

/-- The smallest CAP_MAX that this member knows of: its own and its keyed neighbours'. -/
def State.leastCap (s : State) : Nat :=
  let cap (l : TrkLink) : Nat := if l.keyed then l.peerCapMax else 2
  min 2 (min (cap s.trk.east) (cap s.trk.west))

/-- The keeper does what is due and not running: a VERSION_COMMIT once a neighbour's range no longer covers COMMITTED, and a KEY
epoch while some link still runs under its link key (R414, R431). -/
def State.keeperAct (s : State) : State :=
  if s.isKeeper = false ∨ s.trk.epoch.isSome ∨ s.trk.east.keyed = false ∨ s.trk.west.keyed = false then s
  else if s.leastCap < s.trk.committed then s.startEpoch 2 s.leastCap none
  else if s.trk.east.ringKeyed && s.trk.west.ringKeyed then s
  else s.startEpoch 0 0 none

/-- An entry's answer when its epoch ends: NUM and T_round (Table 16.9). -/
def State.epochAnswer (s : State) (slot : Option Nat) (num : Nat) : State := match slot with
  | some n => s.complete n St.ok 0 (toLE 8 num ++ toLE 4 s.trk.tRound ++ zeros 4)
  | none => s

/-- The target of a VERSION_COMMIT as requested: 0 means the highest (Table 16.9). -/
def State.versionTarget (s : State) (t : Nat) : Nat := if t = 0 then s.leastCap else t

/-- A RING_EPOCH begins its epoch, or ends in a case of R434. One whose ring key DRBG instance 1 does not deliver ends or waits at the
entropy step as any user of that instance (R188, R189, R195). -/
def State.runEpoch (s : State) (slot : Nat) : State := match s.track slot with
  | none => s
  | some t =>
    let kind := t.entry.p8 40
    if s.trk.map.isNone then s.fail slot (St.badParam, 0xE3)
    else if s.isKeeper = false then s.fail slot (St.badParam, 0xE2)
    else if kind = 1 ∧ s.trk.committed < 2 then s.fail slot (St.ringVersion, 0xE4)
    else if kind = 2 ∧ s.leastCap < t.entry.p8 41 then s.fail slot (St.ringVersion, 0xE5)
    else if kind = 0 ∧ s.drbgServes 1 = false then (s.setTrack slot (some { t with phase := .ready })).entropyStep slot 1 s
    else s.startEpoch kind (if kind = 2 then s.versionTarget (t.entry.p8 41) else 0) (some slot)

/-- The RING_EPOCHs that wait are taken in turn until one begins its epoch; with none left the keeper does what is due. -/
def runWaiting : List Nat → State → State
  | [], s => s.keeperAct
  | slot :: rest, s =>
    let s := (s.modTrk fun t => { t with waiting := rest }).runEpoch slot
    if s.trk.epoch.isSome then s else runWaiting rest s

/-- The next RING_EPOCH that waits begins, if no epoch runs (R427). -/
def State.nextEpoch (s : State) : State := if s.trk.epoch.isSome then s else runWaiting s.trk.waiting s

/-- An epoch has ended. -/
def State.epochOver (s : State) : State := (s.modTrk fun t => { t with epoch := none }).nextEpoch

/-- An epoch fails (R429): its command completes with TIMEOUT. A PREPARE that failed ends it; a COMMIT goes on being repeated. -/
def State.failEpoch (s : State) (e : Epoch) : State :=
  let s := s.raise Reg.trkEvent 0x10
  let s := if e.commit then s.modTrk fun t => { t with epoch := some { e with failed := true, slot := none } }
    else (if e.kind = 0 then s.dropNextKey else s).modTrk fun t => { t with epoch := none }
  let s := match e.slot with
    | some n => s.fail n (St.timeout, 0xE0)
    | none => s
  s.nextEpoch

/-- A pass has returned by every arm: T_round is taken; a PREPARE is followed by its COMMIT, except for TIME (Table 16.7). A
VERSION_COMMIT that came back with a lower TARGET is prepared again with it, unless the request named its TARGET (R430, R434). -/
def State.passReturned (s : State) (e : Epoch) (target : Nat) : State :=
  let s := s.modTrk fun t => { t with tRound := (s.free - e.began).toNat * 5 / 4 }
  if e.commit then (s.epochAnswer e.slot e.num).epochOver
  else if e.kind = 1 then (s.epochAnswer e.slot e.num).epochOver
  else if e.kind = 2 ∧ target < e.target then
    let named := match e.slot with
      | some n => match s.track n with | some t => t.entry.p8 41 != 0 | none => false
      | none => false
    if named then
      let s := match e.slot with | some n => s.fail n (St.ringVersion, 0xE5) | none => s
      s.epochOver
    else (s.modTrk fun t => { t with epoch := none }).startEpoch 2 target e.slot
  else (s.commitEpoch e.kind).startPass { e with commit := true, resent := false }

/-- An arm of the running pass has come back (R427). -/
def State.armReturned (s : State) (commit : Bool) (kind num target : Nat) : State := match s.trk.epoch with
  | some e =>
    if e.kind = kind ∧ e.num = num ∧ e.commit = commit then
      let e := { e with arms := e.arms - 1 }
      let low := min target s.trk.epochTarget
      let s := s.modTrk fun t => { t with epoch := some e, epochTarget := if kind = 2 then low else t.epochTarget }
      if e.arms = 0 then s.passReturned e low else s
    else s
  | none => s

/-! ### Epochs at a member -/

/-- The mean of a link's delay samples, in ns (R415). -/
def TrkLink.delay (l : TrkLink) : Nat := if l.samples = [] then 0 else l.samples.sum / l.samples.length / 256

/-- A pass goes on by the other link, or, at the end of an arm, back by the one it came on; it keeps its originator (R427). -/
def State.passOn (s : State) (west : Bool) (m : TrkMsg) (payload : Bool → Bytes) : State :=
  let out := if (s.trkLink !west).keyed then !west else west
  if m.ttl = 0 then s
  else
    let l := s.trkLink out
    let p := payload out
    let h := trunkHeader m.typ p.length m.ringId m.src 0xFF (m.ttl - 1) m.flags l.txLseq
    (s.modLink out fun l => { l with txLseq := l.txLseq + 1 }).trkFrame out false (h ++ p)

/-- TIME compares this member's ingress stamp with the keeper's stamp plus ACC (R428); n is the port number of the link. -/
def State.compareTime (s : State) (n : Nat) (map : RingMap) (stamp : Stamp) (acc : Nat) : State :=
  let diff := ((s.ingressStamp n).count - stamp.count) / 256 - (acc : Int)
  if max 1 (field (s.reg Reg.trkTimeTol) 15 0) < diff.natAbs then
    (s.raise Reg.trkEvent 0x20).logEvent 0x4803 ((s.keeper map).getD map.ownPos) (BitVec.ofInt 64 diff).toNat
  else s

/-- EPOCH_PREPARE (R427, R428). A member that has acted on this NUM already only passes it on. -/
def execEpochPrepare (west : Bool) (frame : Bytes) (s : State) : Answer :=
  answer s <| s.trkReceive west frame 0x30 fun map m s =>
    let kind := natAt m.payload 0
    let num := leAt m.payload 8 8
    let data := m.payload.drop 24
    if m.src = map.ownPos then s.armReturned false kind num (natAt data 0)
    else
      let fresh := decide (s.trk.epochNums.getD kind 0 < num)
      let s := if fresh then s.modTrk fun t => { t with epochNums := t.epochNums.set kind num } else s
      let n := if west then 9 else 8
      let acc := leAt m.payload 16 8 + (s.trkLink west).delay
      if kind = 0 then
        let key := stdOut 32 .aesKwpUnwrap 0 [(s.trkLink west).linkKey, data]
        let s := if fresh then s.nextRingKey key else s
        let key := if (s.slot 7).valid then (s.slot 7).content else key
        s.passOn west m fun out =>
          m.payload.take 24 ++ stdOut 40 .aesKwpWrap 0 [(s.trkLink out).linkKey, key]
      else if kind = 1 then
        let s := if fresh then s.compareTime n map (readStamp data) acc else s
        s.passOn west m fun out =>
          let o := if out then 9 else 8
          let stay := ((s.egressStamp o).count - (s.ingressStamp n).count) / 256
          m.payload.take 16 ++ toLE 8 (acc + stay.toNat) ++ data
      else
        let target := min 2 (natAt data 0)
        let s := if fresh then s.modTrk fun t => { t with epochTarget := target } else s
        s.passOn west m fun _ => m.payload.take 24 ++ [BitVec.ofNat 8 target]

/-- EPOCH_COMMIT (R427): a member commits what it prepared under this NUM and passes it on. -/
def execEpochCommit (west : Bool) (frame : Bytes) (s : State) : Answer :=
  answer s <| s.trkReceive west frame 0x31 fun map m s =>
    let kind := natAt m.payload 0
    let num := leAt m.payload 8 8
    if m.src = map.ownPos then s.armReturned true kind num s.trk.epochTarget
    else
      let s := if s.trk.epochNums.getD kind 0 = num then s.commitEpoch kind else s
      s.passOn west m fun _ => m.payload

/-- EPOCH_PASS_TIMEOUT: a pass that has not returned is sent once more, and then fails; a member that runs no epoch and has prepared a KEY epoch
discards the next ring key (R429). -/
def execEpochPassTimeout (s : State) : Answer :=
  answer s <| match s.trk.epoch with
  | some e =>
    if e.failed then s
    else if e.resent then s.failEpoch e
    else s.startPass { e with resent := true }
  | none => if (s.slot 7).valid then s.dropNextKey else s

/-- EPOCH_RETRY: every 10 ms the keeper starts the key epoch that is due, and repeats a COMMIT that failed (R414, R429). -/
def execEpochRetry (s : State) : Answer :=
  answer s <| match s.trk.epoch with
  | some e => if e.failed then s.startPass e else s
  | none => s.keeperAct

/-- OLD_RING_KEY_EXPIRE: 100 µs after a key epoch commits the old key is no longer accepted (R427). -/
def execOldRingKeyExpire (s : State) : Answer :=
  let drop (l : TrkLink) : TrkLink := { l with oldKey := [] }
  answer s ((s.modLink false drop).modLink true drop)

/-! ### Keying (R413, R431) -/

/-- A link is keyed (R413, R420, R421, R431): its counts start over; a neighbour that was lost is back; the first link after boot
takes COMMITTED from its neighbour; partner state held is discarded when the west member keys; and a target that keys ends SOLO
and receives the whole present state. -/
def State.keyLink (s : State) (west : Bool) : State := match s.trk.map with
  | none => s
  | some map =>
    let before := s.target
    let p := map.neighbour west
    let s := s.modLink west fun l => { l with
      keyed := true, handshake := false, helloSeed := [], txLseq := 1, txPn := 1, rxPn := [1, 1, 1, 1], an := 0,
      ringKeyed := false, ringKey := [], oldKey := [], hbTx := [], hbRx := [], lost := false, probe := none }
    let s := s.modTrk fun t => { t with lostPos := t.lostPos.filter (· != p), reached := t.reached.filter (· != p) }
    let c := (s.trkLink west).peerCommitted
    let s := if s.trk.fresh then (s.setCommitted (if within c 1 2 then c else 1)).modTrk fun t => { t with fresh := false } else s
    let s := if west then s.modTrk fun t => { t with partner := {} } else s
    let s := if s.target.isSome ∧ (west = false ∨ before.isNone) then (s.modReg Reg.trkCtrl (clearBits · 8)).fullSync else s
    s.keeperAct

/-- The first six fields of HELLO (Table 16.3). -/
def State.helloFields (s : State) (map : RingMap) : Bytes :=
  s.serialBytes ++ toLE 4 map.ringId ++ [BitVec.ofNat 8 map.ownPos, 1, 2, BitVec.ofNat 8 s.trk.committed]

/-- The journal public key: the public half of slot 4. -/
def State.journalKey (s : State) : Bytes := stdOut 1952 .mldsaKeyGen 1 [(s.slot 4).content]

/-- An ML-DSA signature in pure mode holds. -/
def mldsaHolds (i : Nat) (pk sig : Bytes) (ctx : String) (msg : Bytes) : Bool :=
  Config.stdHolds .mldsaVerify i [pk, sig, [0, 0], ascii ctx, msg]

/-- A job of a link's HELLO is in the Comb. -/
def State.helloRuns (s : State) (west : Bool) : Bool :=
  s.comb.ops.any fun o => o.src == .own (.helloKey (linkNo west)) || o.src == .own (.helloSign (linkNo west))

/-- The bytes of a HELLO before its signature: header and payload (Tables 16.2, 16.3). -/
def State.helloBody (s : State) (map : RingMap) (west : Bool) : Bytes :=
  trunkHeader 1 6461 map.ringId map.ownPos 0xFF 24 0 0 ++ s.helloFields map ++ s.journalKey ++
    stdOut 1184 .mlkemKeyGen 1 [(s.trkLink west).helloSeed]

/-- HELLO_SEND: an unkeyed link that is up under a map sends HELLO (R413). Its signature and, the first time, its ML-KEM key are Comb jobs (R33),
so the frame leaves when they have ended; a link whose last HELLO is still being made starts no other. DESIGN CHOICE (log entry 79): one ML-KEM
key serves every HELLO of a link until it is keyed or falls. -/
def execHelloSend (west : Bool) (s : State) : Answer :=
  answer s <| match s.trk.map with
  | some map =>
    let l := s.trkLink west
    let s := s.readOwn 4
    if l.up = false ∨ l.keyed = true ∨ s.jrnKey = false ∨ (s.engineCheck 0x115).isSome ∨ s.helloRuns west = true then s
    else if l.helloSeed ≠ [] then s.startSign (.helloSign (linkNo west)) "GY-TRK" (s.helloBody map west)
    else if (s.engineCheck 0x101).isSome then s
    else s.startOwn (.helloKey (linkNo west)) 0x101 {} [] [] true
  | none => s

/-- The ML-KEM key of a link's HELLOs has been generated: the HELLO goes to be signed (R413). -/
def State.helloKeyed (s : State) (west : Bool) (seed : Bytes) : State :=
  let l := s.trkLink west
  match s.trk.map with
  | some map =>
    if l.up && !l.keyed && s.jrnKey then
      let s := s.modLink west fun l => { l with helloSeed := seed }
      s.startSign (.helloSign (linkNo west)) "GY-TRK" (s.helloBody map west)
    else s
  | none => s

/-- A HELLO has been signed: it leaves (R413). -/
def State.helloReady (s : State) (west : Bool) (msg sig : Bytes) : State :=
  let l := s.trkLink west
  if l.up && !l.keyed then s.trkFrame west true (msg ++ sig) else s

/-- The checks on a HELLO or HELLO_ACK by R411 and R413: none of them failed, another member's (ignored), or a failed handshake. -/
inductive HelloCheck where
  | good | otherMember | failed
  deriving DecidableEq, Repr

/-- A HELLO or HELLO_ACK is checked: ring, position and serial of the neighbour (R411), its journal key, its format range, and its
signature over header and payload (R413). -/
def helloCheck (map : RingMap) (west : Bool) (m : TrkMsg) : HelloCheck :=
  let x := m.payload
  let p := map.neighbour west
  let e := map.members.getD p (0, [])
  let pk := slice x 16 1952
  let n := x.length - 3309
  let h := trunkHeader m.typ m.len m.ringId m.src m.dst m.ttl m.flags m.lseq
  if leAt x 8 4 ≠ map.ringId ∨ natAt x 12 ≠ p ∨ beAt x 0 8 ≠ e.1 then .otherMember
  else if sha3_256 pk = e.2 ∧ natAt x 13 ≤ 1 ∧ 1 ≤ natAt x 14 ∧ mldsaHolds 1 pk (x.drop n) "GY-TRK" (h ++ x.take n) = true then .good
  else .failed

/-- A handshake fails (R413). -/
def State.helloFails (s : State) (west : Bool) (m : TrkMsg) : State :=
  (s.raise Reg.trkEvent 8).logEvent 0x4801 (linkNo west) (beAt m.payload 0 8)

/-- The neighbour's formats are noted (R430, R431). -/
def State.notePeer (s : State) (west : Bool) (m : TrkMsg) : State :=
  s.modLink west fun l => { l with
    peerCapMin := natAt m.payload 13, peerCapMax := natAt m.payload 14, peerCommitted := natAt m.payload 15 }

/-- HELLO: the member of lower position encapsulates to the key in it, as a Comb job (R413). -/
def execHello (west : Bool) (frame : Bytes) (s : State) : Answer :=
  answer s <| s.trkReceive west frame 1 fun map m s =>
    let l := s.trkLink west
    if l.keyed then s
    else match helloCheck map west m with
      | .otherMember => s
      | .failed => s.helloFails west m
      | .good =>
        let s := (s.notePeer west m).readOwn 4
        if map.ownPos < map.neighbour west ∧ l.handshake = false ∧ s.jrnKey = true ∧ (s.engineCheck 0x105).isNone then
          (s.modLink west fun l => { l with handshake := true }).startOwn (.helloKem (linkNo west)) 0x105 {}
            (slice m.payload 1968 1184) [] true
        else s

/-- The link key (R413). -/
def linkKeyOf (map : RingMap) (west : Bool) (ss : Bytes) : Bytes :=
  let p := map.neighbour west
  kmac256 32 ss (toBE 8 (map.serial (min map.ownPos p)) ++ toBE 8 (map.serial (max map.ownPos p))) "GY-LINK"

/-- The encapsulation for a HELLO has ended: the link key is derived, and HELLO_ACK goes to be signed (R413). -/
def State.helloEncapsulated (s : State) (west : Bool) (ct ss : Bytes) : State := match s.trk.map with
  | some map =>
    let h := trunkHeader 2 6365 map.ringId map.ownPos 0xFF 24 0 0
    let s := s.readOwn 4
    if s.jrnKey then
      (s.modLink west fun l => { l with linkKey := linkKeyOf map west ss }).startSign (.helloAck (linkNo west)) "GY-TRK"
        (h ++ s.helloFields map ++ s.journalKey ++ ct)
    else s.modLink west fun l => { l with handshake := false }
  | none => s

/-- HELLO_ACK has been signed: it leaves, and the link is keyed (R413). -/
def State.helloSigned (s : State) (west : Bool) (msg sig : Bytes) : State :=
  let l := s.trkLink west
  if l.up && l.handshake then (s.trkFrame west true (msg ++ sig)).keyLink west else s

/-- HELLO_ACK: the member of higher position decapsulates, as a Comb job (R413). -/
def execHelloAck (west : Bool) (frame : Bytes) (s : State) : Answer :=
  answer s <| s.trkReceive west frame 2 fun map m s =>
    let l := s.trkLink west
    if l.keyed = true ∨ l.helloSeed = [] ∨ l.handshake = true ∨ map.ownPos < map.neighbour west then s
    else match helloCheck map west m with
      | .otherMember => s
      | .failed => s.helloFails west m
      | .good =>
        if (s.engineCheck 0x109).isSome then s
        else ((s.notePeer west m).modLink west fun l => { l with handshake := true }).startOwn (.ackOpen (linkNo west)) 0x109
          { content := l.helloSeed } (slice m.payload 1968 1088) [] false

/-- The key in a HELLO_ACK has been decapsulated: the link is keyed (R413). -/
def State.ackOpened (s : State) (west : Bool) (ss : Bytes) : State :=
  let l := s.trkLink west
  match s.trk.map with
  | some map =>
    if l.up && l.handshake && !l.keyed then (s.modLink west fun l => { l with linkKey := linkKeyOf map west ss }).keyLink west else s
  | none => s

/-! ### Heartbeats (R415) -/

/-- The port number of a trunk link in the stamps of R370. -/
def trunkPort (west : Bool) : Nat := if west then 9 else 8

/-- HEARTBEAT_SEND: every 1 µs on a keyed link (R415). -/
def execHeartbeatSend (west : Bool) (s : State) : Answer :=
  answer s <|
    let l := s.trkLink west
    if l.keyed then
      s.trkSend west 0x10 0xFF false ((s.egressStamp (trunkPort west)).full s.qualityCode ++ fit 12 l.hbTx ++ fit 12 l.hbRx)
    else s

/-- HEARTBEAT: a sample of the link's delay, once the neighbour has one of ours to echo (R415). -/
def execHeartbeat (west : Bool) (frame : Bytes) (s : State) : Answer :=
  answer s <| s.trkReceive west frame 0x10 fun _ m s =>
    let t4 := s.ingressStamp (trunkPort west)
    let tx := readStamp m.payload
    let echoTx := slice m.payload 12 12
    let d := ((t4.count - (readStamp echoTx).count) - (tx.count - (readStamp (slice m.payload 24 12)).count)) / 2
    s.modLink west fun l => { l with
      hbTx := m.payload.take 12, hbRx := t4.full s.qualityCode, probe := none
      samples := if allZero echoTx then l.samples else (d.toNat :: l.samples).take 1024 }

/-! ### Countersignatures (R399, R400) -/

/-- CSIG_REQ: a Comb job signs the neighbour's digest with slot 4 (R399). -/
def execCsigReq (west : Bool) (frame : Bytes) (s : State) : Answer :=
  answer s <| s.trkReceive west frame 0x40 fun _ m s =>
    let s := s.readOwn 4
    if s.jrnKey then s.startSign (.csig (linkNo west) (m.payload.take 32)) "GY-CSIG" m.payload else s

/-- A countersignature has been signed: it goes back to its originator (R399). -/
def State.csigSigned (s : State) (west : Bool) (digest sig : Bytes) : State :=
  s.trkSend west 0x41 0xFF false (digest ++ s.serialBytes ++ sig)

/-- CSIG_RESP: the block is stored in its checkpoint entry (R399, R400). Whether the signer's slot 4 is under the test root does
not travel in the message: a free value. -/
def execCsigResp (west : Bool) (frame : Bytes) (s : State) : Answer :=
  answer s <| s.trkReceive west frame 0x41 fun _ m s =>
    let d := m.payload.take 32
    match s.evj.cps.find? fun c => c.stage == .committed && c.digest == d && (c.csig west).status == 3 with
    | some c =>
      let f := s.freeNat
      let x : Csig := { serial := beAt m.payload 32 8, status := 1, test := f.1 % 2 == 1, sig := m.payload.drop 40 }
      (f.2.modCp c.num fun c => c.setCsig west x).serveReaders c.num
    | none => s

end Sys2Proof.Machine
end

