-- ==== Sys2Proof/Machine/Ring.lean ====
section
/-!
DEFINITION. Silence, probes, loss and takeover (R422 to R426), the ring commands (R410, R412, R433, R434), and the writes of TRK.CTRL
(R407, R421).
-/
namespace Sys2Proof.Machine
open Sys2Proof

/-! ### Loss (R421, R422) -/

/-- The next ring key is discarded: a takeover ends a KEY epoch that was prepared (R432). -/
def State.dropKeyEpoch (s : State) : State := match s.trk.epoch with
  | some e => if e.kind = 0 ∧ e.commit = false then s.failEpoch e else s
  | none => s.dropNextKey

/-- A neighbour is declared lost (R422): its link is no longer keyed; the loss of the west neighbour begins a takeover of the
partner state as it stands, that of the east neighbour moves the target. -/
def State.loseNeighbour (s : State) (west : Bool) : State := match s.trk.map with
  | none => s
  | some map =>
    let before := s.target
    let p := map.neighbour west
    let s := s.modLink west fun l => { l.unkeyed with lost := true, probe := none, hbTx := [], hbRx := [] }
    let s := s.modTrk fun t => { t with
      lostPos := t.lostPos.filter (· != p) ++ [p], reached := t.reached.filter (· != p) }
    let s := s.raise Reg.trkEvent (if west then 1 else 2)
    let s := if west ∧ s.trk.takeover.isNone then
        (s.modTrk fun t => { t with takeover := some (map.serial p, t.partner.sas.filterMap TrkRecord.saIndex) }).dropKeyEpoch
      else s
    s.retarget before

/-- HEARTBEAT_SILENCE: no heartbeat has arrived for SILENCE_US; a PROBE goes the long way (R422). Where no keyed link leads the
long way round, none can leave and none will be answered. -/
def execHeartbeatSilence (west : Bool) (s : State) : Answer :=
  answer s <| match s.trk.map with
  | some map =>
    let l := s.trkLink west
    if l.hbTx = [] ∨ l.lost = true ∨ l.probe.isSome then s
    else
      let n := s.freeNat
      let nonce := n.1 % 2 ^ 64
      let p := map.neighbour west
      (n.2.modLink west fun l => { l with probe := some nonce }).trkSend (!west) 0x22 p true
        (s.serialBytes ++ toBE 8 (map.serial p) ++ toLE 8 nonce)
  | none => s

/-- PROBE: the member probed answers, and is in service for having been reached (R411, R422). -/
def execProbe (west : Bool) (frame : Bytes) (s : State) : Answer :=
  answer s <| s.trkReceive west frame 0x22 fun map m s =>
    let s := s.modTrk fun t => { t with reached := t.reached.filter (· != map.ownPos) ++ [map.ownPos] }
    s.trkSend west 0x23 m.src (bitOf m.flags 0) m.payload

/-- PROBE_REPLY: only the link has failed; the neighbour stays in service, reached by detour (R422). -/
def execProbeReply (west : Bool) (frame : Bytes) (s : State) : Answer :=
  answer s <| s.trkReceive west frame 0x23 fun map m s =>
    let mine (w : Bool) : Bool := (s.trkLink w).probe == some (leAt m.payload 16 8) &&
      beAt m.payload 8 8 == map.serial (map.neighbour w)
    match [true, false].find? mine with
    | some w =>
      let before := s.target
      let p := map.neighbour w
      let s := s.modLink w fun l => { l.unkeyed with probe := none, hbTx := [], hbRx := [] }
      let s := s.modTrk fun t => { t with reached := t.reached.filter (· != p) ++ [p], lostPos := t.lostPos.filter (· != p) }
      let s := s.raise Reg.trkEvent 4
      if w then s.retarget before else s.fullSync
    | none => s

/-- PROBE_TIMEOUT: no reply within 24 µs (R422). -/
def execProbeTimeout (west : Bool) (s : State) : Answer :=
  answer s (if (s.trkLink west).probe.isSome then s.loseNeighbour west else s)

/-- LEAVE: its sender, the neighbour on the link, is lost at once (R422, R432). -/
def execLeave (west : Bool) (frame : Bytes) (s : State) : Answer :=
  answer s <| s.trkReceive west frame 0x51 fun _ _ s => s.loseNeighbour west

/-- The target has not answered three repetitions: it counts as lost (R418, R421). -/
def State.loseTarget (s : State) (p : Nat) : State :=
  let before := s.target
  let s := s.modTrk fun t => { t with lostPos := t.lostPos.filter (· != p) ++ [p], reached := t.reached.filter (· != p) }
  let east := match s.trk.map with | some m => m.neighbour false == p | none => false
  (if east then s.raise Reg.trkEvent 2 else s).retarget before

/-- A MIRROR message goes out again under its LSEQ (R418). -/
def State.resendMirror (s : State) (m : MirrorMsg) : State := match s.trk.map, s.target with
  | some map, some p =>
    let west := s.detour
    let body := m.records.flatMap TrkRecord.bytes
    let h := trunkHeader 0x20 body.length map.ringId map.ownPos (if p = map.neighbour west then 0xFF else p) 24 (b2n west) m.lseq
    if (s.trkLink west).keyed then s.trkFrame west false (h ++ body) else s
  | _, _ => s

/-- MIRROR_ACK_TIMEOUT: the oldest message without an acknowledgement is sent again, up to three times; then the target is lost
(R418). -/
def execMirrorAckTimeout (s : State) : Answer :=
  answer s <| match s.trk.pending.find? (fun m => !m.acked), s.target with
  | some m, some p =>
    if m.tries < 3 then
      let s := s.modTrk fun t => { t with
        pending := t.pending.map fun (x : MirrorMsg) => if x.lseq = m.lseq then { x with tries := x.tries + 1 } else x }
      (s.count Reg.trkMirrorRetx).resendMirror m
    else s.loseTarget p
  | _, _ => s

/-! ### The map (R410, R412) -/

/-- The members that a map's bytes list. -/
def mapMembers (b : Bytes) (n : Nat) : List (Nat × Bytes) :=
  (List.range n).map fun p => (beAt b (16 + 48 * p) 8, slice b (24 + 48 * p) 32)

/-- No number stands twice. -/
def allDistinct : List Nat → Bool
  | [] => true
  | x :: l => !l.contains x && allDistinct l

/-- The map that bytes spell, if it is valid (R410, Table 16.4). -/
def State.readMap (s : State) (b : Bytes) : Option RingMap :=
  let n := natAt b 4
  let own := natAt b 5
  let ms := mapMembers b n
  if within n 2 24 && b.length == 16 + 48 * n && leAt b 0 4 != 0 && decide (own < n) && allDistinct (ms.map (·.1)) &&
      beAt b (16 + 48 * own) 8 == s.lcs.otp.serial.toNat && allZero (slice b 6 10) &&
      (List.range n).all (fun p => allZero (slice b (56 + 48 * p) 8)) then
    some { ringId := leAt b 0 4, ownPos := own, members := ms }
  else none

/-- A map comes into force (R412): links to neighbours that it keeps stay keyed, other links are keyed again; partner state is kept
only with the west neighbour; no block is confirmed before a new east neighbour has keyed. -/
def State.applyMap (s : State) (m : RingMap) : State :=
  let same (west : Bool) : Bool := match s.trk.map with
    | some old => old.serial (old.neighbour west) == m.serial (m.neighbour west)
    | none => false
  let rekey (l : TrkLink) : TrkLink := { l.unkeyed with
    helloSeed := [], handshake := false, hbTx := [], hbRx := [], lost := false, probe := none }
  let keepE := same false
  let keepW := same true
  let s := if keepE then s else (s.modLink false rekey).dropHandshake false
  let s := if keepW then s else (s.modLink true rekey).dropHandshake true
  let s := s.modTrk fun t => { t with
    map := some m, lostPos := [], reached := [], tookOver := false
    committed := if t.committed = 0 then 1 else t.committed
    partner := if keepW then t.partner else {}
    pending := if keepE then t.pending else [], syncing := if keepE then t.syncing else true }
  s.keeperAct

/-! ### Takeover (R423 to R425) -/

/-- An index lies in the range of a VF. -/
def State.inVfRange (s : State) (i : Nat) : Bool :=
  (List.range 255).any fun n => decide ((s.func (n + 1)).saBase ≤ i) && decide (i < (s.func (n + 1)).saBase + (s.func (n + 1)).saCount)

/-- The SA that a partner's records describe, as the standby takes it over (R423, R424): a transmit SA starts at the END of its last
PN_BLOCK, a receive SA from its last RX_STATE, and otherwise from its descriptor. -/
def State.takenSa (s : State) (p : Partner) (i typ gen : Nat) (desc wk wrk : Bytes) : Sa :=
  let mk := s.mirrorKey p.serial s.lcs.otp.serial.toNat
  let un (n : Nat) (w : Bytes) : Bytes := if allZero w then [] else stdOut n .aesKwpUnwrap 0 [mk, w]
  let keyLen := if isMacsec typ && natAt desc 0 % 2 == 0 then 16 else 32
  let x := newSa typ 0 false desc (un keyLen wk) (un 32 wrk)
  let tx := (p.pn.find? fun e => e.1 == i).map (·.2)
  let rx := (p.rx.find? fun e => e.1 == i).map (·.2)
  let x := { x with gen := gen }
  if isTx typ then { x with next := tx.getD x.next }
  else match rx with
    | none => x
    | some v =>
      if typ = 4 then { x with next := v, seen := (List.range (min v (max 1 x.espWin))).map fun k => v - k }
      else { x with next := v, lapn := v - x.macWin }

/-- One SA of the lost member is installed, or skipped and counted: one that cannot be read, whose index holds an SA or lies in a VF's
range, or for which no room is left (R423, R484). -/
def State.takeSa (s : State) (p : Partner) (bad : List Nat) (r : TrkRecord) : State := match r with
  | .saState i typ gen desc wk wrk =>
    let x := s.takenSa p i typ gen desc wk wrk
    if bad.contains i || (s.sa i).isSome || s.inVfRange i || !s.saRoom x.lines then s.count Reg.trkTakeoverSkipped
    else s.installSa i x
  | _ => s

/-- TAKEOVER_DONE: the lost member's SAs are installed and everything else of its state is kept as R425 says; nothing is installed
from a state whose sync had not ended (R479). `bad` names the SAs whose partner state could not be read. -/
def execTakeoverDone (bad : List Nat) (read : HbmRead) (s : State) : Answer :=
  answer s <| match s.trk.takeover, s.trk.map with
  | some (serial, _), some map =>
    let p := s.trk.partner
    let s := match read.failed with
      | some u => (s.hbmUe 5 u).raise Reg.memEvent 4
      | none => s.noteRead read
    let before := s.saList.length
    let s := if p.serial = serial ∧ p.synced = true then p.sas.foldl (fun s r => s.takeSa p bad r) s
      else p.sas.foldl (fun s _ => s.count Reg.trkTakeoverSkipped) s
    let s := s.modTrk fun t => { t with
      heldLms := t.heldLms ++ p.lms.map fun x => (x.1, x.2.2)
      jrnEnd := match p.jrn with | some b => b.2 | none => t.jrnEnd
      partner := {}, takeover := none, tookOver := true }
    let s := s.trkSend false 0x50 map.ownPos false (s.serialBytes ++ toBE 8 serial)
    let s := ((s.logEvent 0x4802 (s.saList.length - before) serial).count Reg.trkTakeovers).raise Reg.trkEvent 0x100
    match s.trk.mapWait with
    | some (m, slot) => ((s.modTrk fun t => { t with mapWait := none }).applyMap m).complete slot St.ok 0 []
    | none => s.keeperAct
  | _, _ => s

/-- TAKEOVER_NOTICE goes on round the ring until it is back at its taker (R423). -/
def execTakeoverNotice (west : Bool) (frame : Bytes) (s : State) : Answer :=
  answer s <| s.trkReceive west frame 0x50 fun _ _ s => s

/-! ### The registers -/

/-- TRK.STATUS (Table 16.11). -/
def State.trkStatus (s : State) : W32 :=
  let t := s.trk
  let (pos, n) := match t.map with | some m => (m.ownPos, m.count) | none => (0, 0)
  BitVec.ofNat 32 (b2n t.map.isSome + 2 * pos + 2 ^ 6 * n + 2 ^ 11 * b2n t.east.up + 2 ^ 12 * b2n t.west.up +
    2 ^ 13 * b2n t.east.keyed + 2 ^ 14 * b2n t.west.keyed + 2 ^ 15 * b2n s.detour + 2 ^ 16 * b2n s.solo + 2 ^ 17 * b2n s.isKeeper +
    2 ^ 18 * b2n t.tookOver + 2 ^ 19 * b2n s.mixedRing)

/-- TRK.FORMAT: COMMITTED reads 0 without a map. -/
def State.trkFormat (s : State) : W32 := BitVec.ofNat 32 (0x201 + 2 ^ 16 * (if s.trk.map.isSome then s.trk.committed else 0))

/-- TRK.LINK_DELAY. -/
def State.trkLinkDelay (s : State) : W32 := BitVec.ofNat 32 (min 65535 s.trk.east.delay + 2 ^ 16 * min 65535 s.trk.west.delay)

/-- A write of TRK.CTRL (R407, R421): EN = 1 applies MODE, EN = 0 takes the links down; SOLO = 1 confirms the blocks in hand. -/
def State.trkCtrlWrite (s : State) (v : W32) : State :=
  let was := s.solo
  let s := s.plainWrite Reg.trkCtrl v
  let mode := field v 2 1
  let down (s : State) : State := s.linksFall
  let s := if flag v 0 = false then (down s).modTrk fun t => { t with on := false }
    else
      let s := if s.trk.on = false ∨ s.trk.mode ≠ mode then down s else s
      s.modTrk fun t => { t with on := decide (mode = 1 ∨ mode = 2), mode := mode }
  if flag v 3 && !was then s.confirmAll else s

/-- TRK_ENABLE (R407). -/
def execTrkEnable (value : W32) (s : State) : Answer := answer s (s.regWrite Reg.trkCtrl (s.trkCtrlWrite (setBits value 1)))

/-- SOLO_WRITE (R421). -/
def execSoloWrite (value : W32) (s : State) : Answer := answer s (s.regWrite Reg.trkCtrl (s.trkCtrlWrite (setBits value 8)))

/-! ### Links (R318, R407) -/

/-- LINK_DOWN: a link falls, and is counted (R318). A trunk link that falls loses its keys, and the target may move with it
(R413, R417). -/
def execLinkDown (group port : Nat) (pcsLock fecLock localFault remoteFault : Bool) (s : State) : Answer :=
  answer s <|
    if group < 8 then
      (s.linkFalls group port).modPort group port fun x => { x with
        pcsLock := pcsLock, fecLock := fecLock, localFault := localFault, remoteFault := remoteFault }
    else if group < 10 then s.trunkFalls (group == 9)
    else s

/-! ### Commands (R433, R434) -/

/-- Checks common to the ring commands. -/
def ringFields (t : Track) (zero : Bool) : List (Option (Nat × Nat)) := [chk zero St.badParam 0, t.entry.noKey]

/-- RING_MAP_SET: the map comes into force, after a takeover in progress (R410, R412, R432, R434). -/
def execRingMapSet (slot : Nat) (s : State) : Answer :=
  answer s <| s.onEntry slot 0xA00 0xA00 fun t =>
    s.checked slot (ringFields t (t.entry.zeroFrom 40 55) ++ [t.dmaFail, chk (s.readMap t.input).isSome St.badParam 0xE1])
      (match s.readMap t.input with
       | some m =>
         if s.trk.takeover.isSome then (s.busy slot).modTrk fun x => { x with mapWait := some (m, slot) }
         else (s.applyMap m).complete slot St.ok 0 []
       | none => s)

/-- The map, the partner state and the ring keys are discarded (R412); entries that wait for an epoch find no map. -/
def State.clearMap (s : State) : State :=
  let s := s.sendLeave 2
  let forget (l : TrkLink) : TrkLink := { l.unkeyed with
    helloSeed := [], handshake := false, hbTx := [], hbRx := [], lost := false, probe := none }
  let s := (((s.modLink false forget).modLink true forget).dropHandshake false).dropHandshake true
  let e := s.trk.epoch
  let wait := s.trk.waiting
  let s := s.modTrk fun t => { t with
    map := none, partner := {}, heldLms := [], jrnEnd := 0, lostPos := [], reached := [], committed := 0, epoch := none, waiting := []
    tookOver := false, takeover := none }
  let s := ((s.emptySlot 6).emptySlot 7).confirmAll
  let s := match e with
    | some x => match x.slot with
      | some n => (s.raise Reg.trkEvent 0x10).fail n (St.timeout, 0xE0)
      | none => s
    | none => s
  wait.foldl (fun s n => s.fail n (St.badParam, 0xE3)) s

/-- RING_MAP_CLEAR (R412). -/
def execRingMapClear (slot : Nat) (s : State) : Answer :=
  answer s <| s.onEntry slot 0xA01 0xA01 fun t =>
    s.checked slot (ringFields t (t.entry.zeroFrom 40 55) ++ [t.entry.noInput, t.dmaFail])
      (let s := s.clearMap.complete slot St.ok 0 []
       match s.trk.mapWait with
       | some (m, n) => ((s.modTrk fun x => { x with mapWait := none }).applyMap m).complete n St.ok 0 []
       | none => s)

/-- The 64 bytes of RING_STATUS (R433). -/
def State.ringStatus (s : State) : Bytes :=
  let t := s.trk
  let stop := match t.partner.jrn with | some b => b.2 | none => t.jrnEnd
  fit 64 (toLE 4 s.trkStatus.toNat ++ toLE 4 s.trkFormat.toNat ++ toLE 8 (t.epochNums.getD 0 0) ++ toBE 8 t.partner.serial ++
    toLE 8 stop ++ toLE 4 t.partner.sas.length ++ toLE 4 t.partner.lms.length ++ toLE 4 s.trkLinkDelay.toNat ++ toLE 4 t.tRound)

/-- RING_STATUS (R433). -/
def execRingStatus (slot : Nat) (s : State) : Answer :=
  answer s <| s.onEntry slot 0xA02 0xA02 fun t =>
    s.checked slot (ringFields t (t.entry.zeroFrom 40 55) ++ [t.entry.noInput, t.dmaFail, t.entry.outHolds 64])
      (s.complete slot St.ok 0 s.ringStatus)

/-- RING_EPOCH: it waits while another epoch runs (R427, R434). -/
def execRingEpoch (slot : Nat) (s : State) : Answer :=
  answer s <| s.onEntry slot 0xA03 0xA03 fun t =>
    let e := t.entry
    let kind := e.p8 40
    s.checked slot (ringFields t (e.zeroFrom 42 55 && (kind == 2 || e.p8 41 == 0)) ++ [
        e.noInput, chk s.trk.map.isSome St.badParam 0xE3, chk s.isKeeper St.badParam 0xE2, chk (decide (kind ≤ 2)) St.badParam 0x40,
        chk (kind != 1 || decide (2 ≤ s.trk.committed)) St.ringVersion 0xE4,
        chk (kind != 2 || decide (e.p8 41 ≤ s.leastCap)) St.ringVersion 0xE5, t.dmaFail, e.outHolds 16])
      (((s.busy slot).modTrk fun x => { x with waiting := x.waiting ++ [slot] }).nextEpoch)

end Sys2Proof.Machine
end

