-- ==== Sys2Proof/Machine/Release.lean ====
section
/-!
DEFINITION. How operations in the Comb end: class P programs and public prefixes, class C bodies and their release (R94 to R97,
R139, R152, R161), interruptions and errors (R84, R85, R114, R121, R123), and the time limits of waiting operations (R155, R196).
-/
namespace Sys2Proof.Machine
open Sys2Proof

/-- The operation of a number (its tracker slot, or that of an own job). -/
def State.opById (s : State) (id : Nat) : Option CombOp := s.comb.ops.find? fun o => o.id == id

/-! ### Own jobs (R33) -/

/-- An own job ends without a result: a checkpoint is signed again from the start, a handshake waits for the next HELLO, and a
countersignature is not given (R399, R413). -/
def State.ownFailed (s : State) (job : OwnJob) : State := match job with
  | .cpSign n => (s.modCp n fun c => { c with stage := .waiting }).advance
  | .csig .. => s
  | .helloKem l | .helloAck l | .ackOpen l => s.modLink (l == 1) fun x => { x with handshake := false }
  | .helloKey _ | .helloSign _ => s

/-- The result of an own job goes to what raised it (R397, R399, R413). -/
def State.ownDone (s : State) (o : CombOp) (job : OwnJob) : State := match job with
  | .cpSign n => s.cpSigned n o.result.out
  | .csig l d => s.csigSigned (l == 1) d o.result.out
  | .helloKem l => s.helloEncapsulated (l == 1) (o.result.out.take 1088) (o.result.out.drop 1088)
  | .helloAck l => s.helloSigned (l == 1) (o.input.drop 6) o.result.out
  | .helloKey l => s.helloKeyed (l == 1) (o.result.content.getD [])
  | .helloSign l => s.helloReady (l == 1) (o.input.drop 6) o.result.out
  | .ackOpen l => s.ackOpened (l == 1) o.result.out

/-- An operation ends without a result, leaving its engine as `leave` says; an own job is told so. -/
def State.endFailedBy (s : State) (o : CombOp) (leave : State → State) (status ext : Nat) : State :=
  let s := s.endOpBy o leave status ext
  match o.src with
  | .own job => s.ownFailed job
  | .host _ => s

/-- An operation ends without a result, and its engine wipes or marks (R99, R100). -/
def State.endFailed (s : State) (o : CombOp) (status ext : Nat) : State := s.endFailedBy o (fun s => s.leaveEngine o) status ext

/-- An operation ends with an alarm (R84, R85, R114). -/
def State.endAlarmed (s : State) (o : CombOp) (leave : State → State) (status ext : Nat) : State :=
  (s.endFailedBy o leave status ext).degradeOp o (s.tagOfOp o) status ext

/-! ### Class P (R96, R100, R120, R139, R152) -/

/-- The public prefix has ended: a failed check ends the command at once; otherwise the class C body waits for its tick. LMS signing
draws its randomiser C, over which Q is formed (R139, R156). -/
def State.prefixEnds (s : State) (o : CombOp) : State := match o.prefixFail with
  | some e => s.endFailed o e.1 e.2
  | none => s.modOp o.src fun o => { o with stage := .tickWait }

/-- The tail of the last tree build has ended: the public key is written (R152), where OUT_CAP holds it (R134). -/
def State.tailEnds (s : State) (o : CombOp) (slot : Nat) : State :=
  let r := s.finishTree o
  let s := (r.2.dropOp o.src).sweepTree o
  (if s.outCapOf slot < r.1.length then s.fail slot (St.badLength, 0x41) else s.complete slot St.ok 0 r.1).leaveEngine o

/-- CLASS_P_END: a public prefix, a class P program or a tree-build tail ends; `read` is its access to the operand spill (R96,
R100, R479). A prefix and a tail run no program of the directory. A program that ends in a TRAP ends the operation with FAULT_DETECTED (Table 4.3);
DESIGN CHOICE (log entry 80): its EXT_STATUS is 0, and no alarm is raised. -/
def execClassPEnd (op : Nat) (read : HbmRead) (s : State) : Answer :=
  answer s <| match s.opById op with
  | none => s
  | some o =>
    if o.classPRun = false then s
    else
      let t := s.noteRead read
      match read.failed, o.stage, o.src with
      | some u, _, _ => (s.hbmUe 2 u (s.tagOfOp o)).endFailed o St.memUncorrectable 0x38
      | none, .prefixRun, _ => t.prefixEnds o
      | none, .tail, .host slot => t.tailEnds o slot
      | none, _, _ =>
        let r := t.runProgram o programBound
        if r.1 = .trapped then r.2.endFailed o St.faultDetected 0 else r.2.endFailed o o.verdict.1 o.verdict.2

/-! ### Class C (R94 to R97, R161, R175) -/

/-- A class C run has its result and waits for its release (R96). -/
def State.hold (s : State) (o : CombOp) (r : Outcome) : State := s.modOp o.src fun o => { o with stage := .ended, result := r }

/-- A class C run has ended without its engine, which wipes; its status waits for the release (R97, R114). -/
def State.detach (s : State) (o : CombOp) (status ext : Nat) : State :=
  let s := s.modOp o.src fun o => { o with stage := .ended, engine := none, result := { status := status, ext := ext } }
  match o.engine with
  | some e => s.wipeEngine e
  | none => s

/-- The block of a tree cache that a leaf lies in counts as unbuilt, and the tree as incomplete (R479). -/
def State.unbuild (s : State) (o : CombOp) : State :=
  let k := s.slot o.keySlot
  match k.tree, o.leaf with
  | some d, some leaf =>
    let b := buildBlock (o.opcode - 0x238) k.lmsH
    s.setSlot o.keySlot { k.setTreeState 1 with tree := some { d with built := d.built.filter fun base => !(decide (base ≤ leaf) && decide (leaf < base + b)) } }
  | _, _ => s

/-- EXT_STATUS of a failed check before commit (R161, R175). -/
def CombOp.checkExt (o : CombOp) (c : BodyCheck) : Nat := match c with
  | .integrity => 0x42
  | .curvePoint => if within o.opcode 0x300 0x30E then 0x44 else o.invariantExt
  | _ => o.invariantExt

/-- An iteration segment begins its ITER_MAX + 1-th pass (R121, R146). -/
def CombOp.passesOver (o : CombOp) : Bool := o.iterating && decide (o.iterMax < o.passes)

/-- A class C run past ITER_MAX: it completes at its release (R121). -/
def State.holdIterLimit (s : State) (o : CombOp) : State :=
  (s.raise Reg.mcsErrStatus 8).hold o { status := St.faultDetected, ext := 0x14 }

/-- CLASS_C_BODY_END: the program runs to its end; the checks before commit, and the result, which waits for its release (R96, R121, R161,
R175); `read` is its access to HBM (R479). A TRAP ends it as in execClassPEnd (log entry 80). -/
def execClassCBodyEnd (op : Nat) (check : BodyCheck) (read : HbmRead) (s : State) : Answer :=
  answer s <| match s.opById op with
  | none => s
  | some o =>
    if !o.classC || o.stage != .body then s
    else if o.passesOver then s.holdIterLimit o
    else
      let tag := s.tagOfOp o
      let r := (s.noteRead read).runProgram o programBound
      let s := r.2
      match read.failed, check with
      | some u, _ =>
        if o.isLmsSign then ((s.hbmUe 4 u tag).unbuild o).hold o { status := St.memUncorrectable, ext := 0x3A }
        else (s.hbmUe 2 u tag).hold o { status := St.memUncorrectable, ext := 0x38 }
      | none, .sound => s.hold o (if r.1 = .trapped then { status := St.faultDetected } else o.bodyOutcome)
      | none, c => (s.hold o { status := St.faultDetected, ext := o.checkExt c }).degradeOp o tag St.faultDetected (o.checkExt c)

/-- A shared secret or a decrypted message goes to its slot under the rule of R217. -/
def CombOp.toSecretSlot (o : CombOp) : Bool :=
  inRuns o.entryOp [(0x104, 0x10A), (0x244, 0x24A), (0x30C, 0x30E), (0x31A, 0x31B), (0x328, 0x32A)]

/-- ORIGIN of a key that a command commits (Table 8.1): generated, derived, unwrapped or imported. -/
def CombOp.origin (o : CombOp) : Nat :=
  if o.entryOp = 0x502 then 3 else if o.entryOp = 0x503 then 1 else if o.entryOp = 0x505 then 2 else 0

/-- The destination slot takes its content (R136, R217, R221). -/
def State.commitDest (s : State) (o : CombOp) : State := match o.dest, o.result.content with
  | some n, some c =>
    if o.toSecretSlot then s.commitSecret n c o.test
    else
      let k := s.slot n
      let s := if o.entryOp = 0x505 then s.setSlot n { k with attr := narrowed k.attr o.input } else s
      s.commitKey n (entering k.kind c) o.result.tr o.origin o.test
  | _, _ => s

/-- A host operation's result leaves (R96): its slot is written, then its output and status, and its engine wipes. -/
def State.releaseHost (s : State) (o : CombOp) (slot : Nat) : State := match s.track slot with
  | none => s
  | some t =>
    if t.entry.outCap < o.result.out.length then s.endOp o St.badLength 0x41
    else
      let s := ((((s.commitDest o).dropOp o.src).sweepTree o).complete slot St.ok 0 o.result.out)
      s.leaveEngine o

/-- A built block of an LMS tree is committed; after the last one the tail runs on the same engine (R152). -/
def State.releaseBlock (s : State) (o : CombOp) (slot : Nat) : State :=
  let r := s.commitBlock o
  if r.1 then r.2.modOp o.src fun o => { o with stage := .tail }
  else (((r.2.dropOp o.src).sweepTree o).complete slot St.ok 0 []).leaveEngine o

/-- CLASS_C_RELEASE: the result is handed on (R96); a run whose checks failed completes with its status and no output. -/
def execClassCRelease (op : Nat) (s : State) : Answer :=
  answer s <| match s.opById op with
  | none => s
  | some o =>
    if o.stage ≠ .ended then s
    else if o.result.status ≠ 0 then s.endFailed o o.result.status o.result.ext
    else match o.src with
      | .host slot => if within o.opcode 0x234 0x237 then s.releaseBlock o slot else s.releaseHost o slot
      | .own job => ((s.dropOp o.src).leaveEngine o).ownDone o job

/-! ### Interruptions (R84, R90, R97) -/

/-- An engine fences: at once while nothing occupies it, otherwise once its operation or its wipe ends (R103). -/
def State.fence (s : State) (e : Nat) : State :=
  if (s.runningOp e).isSome ∨ s.engineIs e (fun g => g.state == .wiping) = true then s.modEngine e fun g => { g with fenceDue := true }
  else s.fenceNow e

/-- The rate of an engine's corrected errors is tested against CE_FENCE: above it the engine fences (R90). -/
def State.testRate (s : State) (e : Nat) : State :=
  let limit := field (s.reg Reg.fgsBounds) 23 16
  if limit ≠ 0 ∧ s.engineIs e (fun g => !g.fenced && decide (limit < s.ceRate g)) = true then
    (s.modEngine e fun g => { g with ceDue := true }).fence e
  else s

/-- The rates of all engines are tested, after a write of CE_FENCE. -/
def State.testRates (s : State) : State := (List.range s.comb.engines.length).foldl State.testRate s

/-- A corrected operand-memory error is counted, and the engine's rate tested (R90). -/
def State.correctedError (s : State) (e : Nat) : State :=
  (s.modEngine e fun g => { g with ceTimes := (s.free :: g.ceTimes).take 255, ceTotal := satAdd 0xFFFF g.ceTotal 1 }).testRate e

/-- A fifth interruption abandons a class C run (R97): the first run is placed again, first in its priority, once its inputs are gathered again;
the second completes with TIMEOUT at its release. -/
def State.abandon (s : State) (o : CombOp) : State :=
  let s := (s.raise Reg.cmbErrStatus 2).count Reg.fgsOverrunCount
  if o.run = 0 then
    let gathers := match o.src with
      | .host slot => match s.track slot with | some t => t.entry.hasList | none => false
      | .own _ => false
    let s := s.modOp o.src fun o => { o with
      stage := if gathers then .regather else .waiting
      engine := none, run := 1, rank := 1, restarts := 0, waitFrom := s.free, draw := if o.isLmsSign then o.draw else [] }
    s.wipeOf o
  else s.detach o St.timeout 0x10

/-- Instructions that commit before an event: at least one, if any. -/
def State.someCommit (s : State) (o : CombOp) (any : Bool) : State :=
  if any then
    let n := s.freeNat
    (n.2.runProgram o (max 1 n.1)).2
  else s

/-- INSTRUCTION_INTERRUPT: the running instruction of an engine restarts, within the limits of R84; `committed` says that an
instruction has committed since the last restart. -/
def execInstructionInterrupt (engine : Nat) (cause : Interrupt) (committed : Bool) (s : State) : Answer :=
  answer s <| match s.runningOp engine with
  | none => s
  | some o =>
    let classC := o.classC && o.stage == .body
    if !classC && !o.classPRun then s
    else
      let s := match cause with
        | .corrected => s.correctedError engine
        | .underrun => s
      let s := s.someCommit o (committed && o.stage == .body)
      let n := (if !classC && committed then 0 else o.restarts) + 1
      if classC && decide (4 < n) then s.abandon o
      else if !classC && decide (16 < n) then
        (s.raise Reg.cmbErrStatus 2).endAlarmed o (fun s => s.leaveEngine o) St.faultDetected 0x12
      else s.modOp o.src fun o => { o with restarts := n }

/-! ### Errors of engines and stores -/

/-- OPERAND_MEMORY_UE: the operation ends at once and its engine wipes (R85, R139). -/
def execOperandMemoryUe (engine : Nat) (s : State) : Answer :=
  answer s <| match s.runningOp engine with
  | none => s
  | some o =>
    if o.stage = .tickWait then s
    else
      let s := (s.modEngine engine fun g => { g with ueCount := satAdd 255 g.ueCount 1 }).raise Reg.cmbErrStatus 1
      s.endAlarmed o (fun s => s.wipeOf o) St.faultDetected 0x11

/-- A master copy fails: every engine of its kind fences until the next reset (R114). -/
def State.masterFails (s : State) (kind : Nat) : State :=
  (List.range s.comb.engines.length).foldl (fun (s : State) e =>
    if s.engineIs e fun x => x.kind == kind then (s.modEngine e fun g => { g with fenceHeld := true }).fence e else s)
    (s.raise Reg.mcsErrStatus 2)

/-- CONTROL_STORE_UE: the operation ends, its engine wipes, is withdrawn, reloads its stores from the master copy and is tested; an error of the
master copy fences every engine of the kind (R114). -/
def execControlStoreUe (engine : Nat) (master : Bool) (s : State) : Answer :=
  answer s <| match s.engine engine with
  | none => s
  | some g =>
    if master then s.masterFails g.kind
    else match s.runningOp engine with
      | none => s
      | some o =>
        if o.stage = .tickWait ∨ o.stage = .ended then s
        else
          let tag := s.tagOfOp o
          let s := (s.modReg Reg.mcsCsErr fun w => setField w 23 16 (satAdd 255 (field w 23 16) 1)).raise Reg.mcsErrStatus 1
          let s := if o.classC && o.stage == .body then s.detach o St.faultDetected 0x15
            else s.endFailedBy o (fun s => s.wipeOf o) St.faultDetected 0x15
          let s := s.modEngine engine fun x => { x with stores := s.comb.stores.getD g.kind {} }
          (((s.replaceQueued engine).queueTest engine .afterReload).runTests).degradeOp o tag St.faultDetected 0x15

/-- WATCHDOG: a class P instruction has run 2^24 cycles without END; the engine marks its memory (R123). -/
def execWatchdog (engine : Nat) (s : State) : Answer :=
  answer s <| match s.runningOp engine with
  | none => s
  | some o =>
    if o.classPRun then
      (s.raise Reg.mcsErrStatus 4).endFailedBy o (fun s => (s.modEngine engine Engine.marked).engineFree engine) St.faultDetected 0x13
    else s

/-- ITER_LIMIT: an iteration segment starts its ITER_MAX + 1-th pass; a class C operation completes at its release (R121). -/
def execIterLimit (engine : Nat) (s : State) : Answer :=
  answer s <| match s.runningOp engine with
  | none => s
  | some o =>
    if o.iterating = false ∨ o.stage ≠ .body then s
    else if o.classC then if o.passesOver then s.holdIterLimit o else s
    else (s.raise Reg.mcsErrStatus 8).endFailed o St.faultDetected 0x14

/-! ### Time limits of waiting operations -/

/-- LMS_LEAF_WAIT_TIMEOUT: 1 ms has passed without a confirmed leaf (R155). -/
def execLmsLeafWaitTimeout (slot : Nat) (s : State) : Answer :=
  answer s <| match s.opOf slot with
  | some o =>
    if o.stage = .leafWait then
      let ring := match (s.slot o.keySlot).tree with
        | some d => match d.block with | some b => !b.mirrorOk | none => true
        | none => true
      s.endOp o St.mirrorUnconfirmed (if ring then 0x40 else 0x41)
    else s
  | none => s

/-- The DRBG instance that an entry outside the Comb draws on (Table 7.5). -/
def drbgOf (op : Nat) : Nat := if op = 0x400 then 2 else if op = 0x501 then 0 else 1

/-- STALL_TIMEOUT: RNG.STALL_TMO runs out for a host class C operation held by the fault, or for a user of a DRBG instance that has not
had its fresh block (R196, R197). Start-up gating sets no time limit (R192). -/
def execStallTimeout (slot : Nat) (s : State) : Answer :=
  answer s <| match s.opOf slot, s.track slot with
  | some o, _ =>
    let held := o.stage == .waiting || o.stage == .leafWait
    if held && o.classC && !o.drbg && s.rng.fault then s.endOp o St.entropyUnavailable 0x61
    else if held && o.drbg && o.step8 && s.rng.ready && !s.rng.fault && (s.drbg 0).stopped then
      s.endOp o St.entropyUnavailable 0x62
    else s
  | none, some t =>
    if t.step8 && t.phase == .ready && s.rng.ready && !s.rng.fault && (s.drbg (drbgOf t.entry.opcode)).stopped then
      (s.forgetUnit slot).fail slot (St.entropyUnavailable, 0x62)
    else s
  | none, none => s

end Sys2Proof.Machine
end

