-- ==== Sys2Proof/Machine/Tamper.lean ====
section
/-!
DEFINITION. The tamper sources' ticks and qualification (R436 to R442), what alarms do on the backup cell (R455), the tallies (R448 to
R450), the TEM registers, and the understorey's clock and log (R451 to R457).
-/
namespace Sys2Proof.Machine
open Sys2Proof

/-! ### Qualifiers (R439, R440) -/

/-- The greatest COUNT of a source; none for a fixed qualifier (Table 17.1). -/
def countCeiling (n : Nat) : Option Nat :=
  if n = 0 ∨ n = 12 ∨ n = 13 ∨ n = 14 then none
  else some ([2, 4, 16, 16, 64, 64, 32, 32, 32, 32, 64].getD n 64)

/-- The floor class of a source (Table 17.1). -/
def sourceFloor (n : Nat) : Nat := [3, 2, 1, 1, 1, 1, 0, 0, 0, 0, 2, 1, 0, 0, 1].getD n 0

/-- COUNT as it acts (R440). -/
def Source.needed (x : Source) (n : Nat) : Nat := match countCeiling n with
  | some c => clamp 1 c x.count
  | none => x.count

/-- WINDOW as it acts (R440). -/
def Source.span (x : Source) (n : Nat) : Nat := max x.window (x.needed n)

/-- The class as it acts (R440). -/
def Source.class_ (x : Source) (n : Nat) : Nat := max (sourceFloor n) x.cls

/-- Events within the window. -/
def Source.inWindow (x : Source) : Nat := x.history.sum

/-- A tick with its events passes: the source after it, and whether it qualifies. Once qualified it does so again only after a full
WINDOW with fewer than COUNT events (R439). -/
def Source.tick (x : Source) (n events : Nat) (active : Bool) : Source × Bool :=
  let h := (events :: x.history).take (x.span n)
  let enough := decide (x.needed n ≤ h.sum)
  let x := { x with history := h, active := active, since := x.since + 1 }
  if x.latched then
    if !enough && decide (x.span n ≤ x.since) then ({ x with latched := false }, false) else (x, false)
  else if enough then ({ x with latched := true, since := 0 }, true)
  else (x, false)

/-! ### Adaptive thresholds (R441, R442) -/

/-- The unit of the baselines held: 2^-20 of a code. -/
abbrev baseUnit : Int := 1048576

/-- TC as it acts (R442). -/
def Source.tcEff (x : Source) : Nat := clamp 4 20 x.tc

/-- A reading lies outside its threshold; for source 1 only the upward tests apply (R441). -/
def Source.trips (x : Source) (n : Nat) (base code : Int) : Bool :=
  let c := code * baseUnit
  let up := decide (base + x.margin * baseUnit < c) || decide (x.hardHi < code)
  let down := decide (c < base - x.margin * baseUnit) || decide (code < x.hardLo)
  if n = 1 then up else up || down

/-- A baseline held to its bounds (R441). -/
def Source.clampBase (x : Source) (b : Int) : Int := max (x.baseLo * baseUnit) (min (x.baseHi * baseUnit) b)

/-- The baselines with which a tick is judged: those held, or the first samples, clamped (R441). -/
def Source.basesFor (x : Source) (codes : List Int) : List Int :=
  let have_ := x.bases
  (List.range codes.length).map fun i => x.clampBase (have_.getD i (codes.getD i 0 * baseUnit))

/-- A tick of sampled codes: the source with its baselines moved, or frozen while an event holds them and for WINDOW ticks after it; the
first code that tripped; and whether the tick holds an event (R441). -/
def Source.sample (x : Source) (n : Nat) (codes : List Int) (fast : Bool) : Source × Int × Bool :=
  let bases := x.basesFor codes
  let tripped := (bases.zip codes).filter fun p => x.trips n p.1 p.2
  let event := fast || !tripped.isEmpty
  let move (p : Int × Int) : Int := x.clampBase (p.1 + (p.2 * baseUnit - p.1) / 2 ^ x.tcEff)
  let x := if event then { x with bases := bases, frozen := x.span n }
    else if 0 < x.frozen then { x with bases := bases, frozen := x.frozen - 1 }
    else { x with bases := (bases.zip codes).map move }
  let code := match tripped with | p :: _ => p.2 | [] => codes.headD 0
  (x, code, event)

/-! ### Alarms (R443, R455) -/

/-- Main power is present and the device is out of reset: responses can act. -/
def State.mainPower (s : State) : Bool := !s.ust.onBattery && s.lcs.phase != BootPhase.reset

/-- An alarm of an understorey source with no main power (R455): a log entry; at HALT or ZEROISE the latch; and at ZEROISE the BVR is
erased. -/
def State.batteryAlarm (s : State) (src cls : Nat) : State :=
  let s := s.battLog src cls 0 (decide (2 ≤ cls))
  let s := s.setSource src fun x => { x with quals := satAdd 255 x.quals 1 }
  let s := if 2 ≤ cls then { s with ust := { s.ust with
      latch := s.ust.latch.modify (sourceGroup src) (satAdd 15 1), latchZeroise := s.ust.latchZeroise || cls == 3 } } else s
  if cls = 3 ∧ s.kst.bvrState ≠ BvrState.none then { s with kst := { s.kst with bvr := [], bvrState := .erased } } else s

/-- The state with tamper source n replaced after a tick, and its alarm if it qualified. -/
def State.sourceTicked (s : State) (n : Nat) (r : Source × Bool) (code : Int) : State :=
  let s := s.setSource n fun _ => r.1
  if r.2 = false then s
  else if s.mainPower then
    let x := (BitVec.ofInt 16 code).toNat
    s.alarm n (r.1.class_ n) (if within n 1 3 then x else 0) (if within n 1 3 then x else 0)
  else s.batteryAlarm n (r.1.class_ n)

/-- A tick of a source that counts at most one event. -/
def State.tickOne (s : State) (n : Nat) (active : Bool) : State := match s.source n with
  | some x => s.sourceTicked n (x.tick n (b2n active) active) 0
  | none => s

/-- A tick of a source that counts every event (R439). -/
def State.tickMany (s : State) (n events : Nat) : State := match s.source n with
  | some x => s.sourceTicked n (x.tick n events (decide (0 < events))) 0
  | none => s

/-- A tick of an adaptive source. -/
def State.tickSampled (s : State) (n : Nat) (codes : List Int) (fast : Bool) : State := match s.source n with
  | some x =>
    let r := x.sample n codes fast
    s.sourceTicked n (r.1.tick n (b2n r.2.2) r.2.2) r.2.1
  | none => s

/-- Sources 0 to 4 at a main-power tick. -/
def State.mainTick (s : State) (mesh : Bool) (light : List Nat) (vdd : Nat) (vddFast : Bool) (clock : Int) (clockFast : Bool) : State :=
  let codes := (light.take 256).map fun (x : Nat) => (x : Int)
  let s := ((s.tickOne 0 mesh).tickSampled 1 codes false).tickSampled 2 [(vdd : Int)] vddFast
  let s := s.tickSampled 3 [clock] clockFast
  let n := s.tem.icode
  ({ s with tem := { s.tem with icode := 0 } }).tickMany 4 n

/-- The crystal's state after a tick, and the clock it drives (R454). -/
def State.clockTick (s : State) (stopped : Bool) (edges : Nat) : State :=
  let u := s.ust
  if stopped then { s with ust := { u with xtalOk := false, rtcValid := false } }
  else
    let n := u.rtcSub + edges
    { s with ust := { u with xtalOk := true, rtcSub := n % 32768, rtcSec := (u.rtcSec + n / 32768) % 2 ^ 48 } }

/-- Sources 6 to 13 at an understorey tick. -/
def State.ustTick (s : State) (inputs : Nat) (tempLow tempHigh xtalStop vbatLow : Bool) (edges : Nat) : State :=
  let s := s.clockTick xtalStop edges
  let s := { s with ust := { s.ust with vbatOk := !vbatLow } }
  let pol := (s.reg Reg.ustTmpCfg).toNat
  let s := (List.range 4).foldl (fun s i => s.tickOne (6 + i) (bitOf inputs i != bitOf pol i)) s
  (((s.tickOne 10 tempLow).tickOne 11 tempHigh).tickOne 12 xtalStop).tickOne 13 vbatLow

/-- TAMPER_TICK: the sources of a tick are sampled and judged (R436, R439, R441). Main-power sources run in P0 to P3. -/
def execTamperTick (tick : TamperTick) (s : State) : Answer :=
  let runs := s.mainPower && decide (s.pwr.state < 4)
  answer s <| match tick with
  | .main mesh light vdd vddFast clock clockFast => if runs then s.mainTick mesh light vdd vddFast clock clockFast else s
  | .burst =>
    if runs then
      let n := s.tem.internal
      ({ s with tem := { s.tem with internal := 0 } }).tickMany 5 n
    else s
  | .understorey inputs tempLow tempHigh xtalStop vbatLow edges => s.ustTick inputs tempLow tempHigh xtalStop vbatLow edges

/-! ### Tallies (R448, R449) -/

/-- PENDING is cleared in the oldest entry of a group that carries it. -/
def clearPending (group : Nat) : Sparse (Option BattEntry) → Sparse (Option BattEntry)
  | [] => []
  | (k, some e) :: l =>
    if e.pending && sourceGroup e.source == group then (k, some { e with pending := false }) :: l
    else (k, some e) :: clearPending group l
  | x :: l => x :: clearPending group l

/-- The log in its order of writing: the slots from NEXT on, then those before it. -/
def Ust.ordered (u : Ust) : Sparse (Option BattEntry) :=
  (u.log.filter fun e => decide (u.logNext ≤ e.1)) ++ u.log.filter fun e => decide (e.1 < u.logNext)

/-- A log in the order of its slots. -/
def inSlots (l : Sparse (Option BattEntry)) : Sparse (Option BattEntry) := l.foldl (fun m e => Sparse.insert m e.1 e.2) []

/-- TALLY_BURN_DONE: the bit is burnt, the latch count falls, and the entry is no longer pending (R449). -/
def execTallyBurnDone (group : Nat) (s : State) : Answer :=
  answer s <|
    if s.ust.latch.getD group 0 = 0 ∨ s.mainPower = false ∨ 1024 ≤ s.tem.tallies.getD group 0 then s
    else
      let u := s.ust
      { s with
        ust := { u with latch := u.latch.modify group (· - 1), log := inSlots (clearPending group u.ordered) }
        tem := { s.tem with tallies := s.tem.tallies.modify group (· + 1) } }

/-! ### TEM registers (R442, R444, R445, R456) -/

/-- RESP_CLEAR_DEGRADE (R444). -/
def execRespClearDegrade (value : W32) (s : State) : Answer :=
  answer s (s.regWrite Reg.temRespClear (if flag value 0 = true ∧ s.tem.resp = 1 then { s with tem := { s.tem with resp := 0 } } else s))

/-- TEM_LOCK: SRC_CFG and thresholds are frozen until cold reset (R445). -/
def execTemLock (value : W32) (s : State) : Answer :=
  answer s (s.regWrite Reg.temLock (if flag value 0 then { s with tem := { s.tem with locked := true } } else s))

/-- The source that SRC_SEL selects. -/
def State.selSource (s : State) : Nat := field (s.reg Reg.temSrcSel) 3 0

/-- A 16-bit threshold code: signed for source 3 (Table 17.2). -/
def codeOf (n v : Nat) : Int := if n = 3 then (BitVec.ofNat 16 v).toInt else (v : Int)

/-- A threshold write that leaves LO above HI is ignored and sets CFG_ERR; an accepted one clears it (R442). -/
def State.boundsWrite (s : State) (v : W32) (f : Source → Int → Int → Source) : State :=
  let n := s.selSource
  let lo := codeOf n (field v 15 0)
  let hi := codeOf n (field v 31 16)
  if s.tem.locked ∨ within n 1 3 = false then s
  else if hi < lo then { s with tem := { s.tem with cfgErr := true } }
  else
    let s := s.setSource n fun x => f x lo hi
    { s with tem := { s.tem with cfgErr := false } }

/-- A write of SRC_CFG for the selected source: a fixed qualifier keeps its COUNT and WINDOW (R440, R445). -/
def State.srcCfgWrite (s : State) (v : W32) : State :=
  let n := s.selSource
  if s.tem.locked ∨ 14 < n then s
  else s.setSource n fun x =>
    if (countCeiling n).isNone then { x with cls := field v 1 0 }
    else { x with cls := field v 1 0, count := field v 15 8, window := field v 31 16 }

/-- A write of THR_MARGIN: MARGIN and TC, and for source 1 the detector shown, which no lock freezes. -/
def State.marginWrite (s : State) (v : W32) : State :=
  let n := s.selSource
  let s := if n = 1 then s.modReg Reg.temThrMargin fun w => setField w 31 24 (field v 31 24) else s
  if s.tem.locked ∨ within n 1 3 = false then s
  else
    let s := s.setSource n fun x => { x with margin := field v 15 0, tc := field v 20 16 }
    { s with tem := { s.tem with cfgErr := false } }

/-- A write of THR_HARD. -/
def State.hardWrite (s : State) (v : W32) : State := s.boundsWrite v fun x lo hi => { x with hardLo := lo, hardHi := hi }

/-- A write of THR_BASE_LIM; BASE is clamped at the next tick (R442). -/
def State.baseLimWrite (s : State) (v : W32) : State := s.boundsWrite v fun x lo hi => { x with baseLo := lo, baseHi := hi }

/-- 16 bits of a code. -/
def code16 (v : Int) : Nat := (BitVec.ofInt 16 v).toNat

/-- TEM.STATUS (Table 17.8). -/
def State.temStatus (s : State) : W32 :=
  let t := s.tem
  BitVec.ofNat 32 (t.resp % 4 + 4 * b2n t.locked + 8 * b2n (t.tallies.any fun n => decide (1024 ≤ n)) + 16 * b2n t.cfgErr)

/-- What the registers of the selected source read; source 15 selects nothing (Table 17.8). -/
def State.sourceView (s : State) (f : Nat → Source → Nat) : W32 := match s.source s.selSource with
  | some x => BitVec.ofNat 32 (f s.selSource x)
  | none => 0

/-- SRC_CFG. -/
def State.srcCfgView (s : State) : W32 := s.sourceView fun _ x => x.cls + 2 ^ 8 * x.count + 2 ^ 16 * x.window
/-- SRC_STATUS. -/
def State.srcStatusView (s : State) : W32 :=
  s.sourceView fun n x => b2n x.active + 4 * sourceFloor n + 2 ^ 8 * x.quals + 2 ^ 16 * min 65535 x.inWindow
/-- THR_MARGIN. -/
def State.thrMarginView (s : State) : W32 :=
  s.sourceView fun n x => if within n 1 3 then
    x.margin + 2 ^ 16 * x.tc + if n = 1 then 2 ^ 24 * field (s.reg Reg.temThrMargin) 31 24 else 0 else 0
/-- THR_HARD. -/
def State.thrHardView (s : State) : W32 :=
  s.sourceView fun n x => if within n 1 3 then code16 x.hardLo + 2 ^ 16 * code16 x.hardHi else 0
/-- THR_BASE_LIM. -/
def State.thrBaseLimView (s : State) : W32 :=
  s.sourceView fun n x => if within n 1 3 then code16 x.baseLo + 2 ^ 16 * code16 x.baseHi else 0
/-- THR_BASE. -/
def State.thrBaseView (s : State) : W32 :=
  s.sourceView fun n x => if within n 1 3 then
    code16 (x.bases.getD (if n = 1 then field (s.reg Reg.temThrMargin) 31 24 else 0) 0 / baseUnit) else 0
/-- TALLY. -/
def State.tallyView (s : State) : W32 := BitVec.ofNat 32 (s.tem.tallies.getD (field (s.reg Reg.temTallySel) 2 0) 0)

/-! ### The understorey (R447, R451 to R457) -/

/-- The four words of a log entry (Table 17.6). -/
def BattEntry.words (e : BattEntry) : List W32 := [
  BitVec.ofNat 32 e.seconds,
  BitVec.ofNat 32 (e.seconds / 2 ^ 32 % 2 ^ 16 + 2 ^ 16 * (e.sub % 2 ^ 15)),
  BitVec.ofNat 32 (e.source + 2 ^ 8 * e.cls + 2 ^ 16 * (b2n e.onBattery + 2 * b2n e.pending + 4 * b2n e.rtcInvalid)),
  BitVec.ofNat 32 e.sample]

/-- The words of the entry that LOG_SEL selects; zero where none was written. -/
def State.selLog (s : State) : List W32 :=
  match Sparse.get (fun _ => none) s.ust.log (field (s.reg Reg.ustLogSel) 5 0) with
  | some e => e.words
  | none => [0, 0, 0, 0]

/-- RTC_SET: a write of RTC_CTRL; SET loads the clock (R454). -/
def execRtcSet (value : W32) (s : State) : Answer :=
  answer s <| s.regWrite Reg.ustRtcCtrl <|
    let s := s.plainWrite Reg.ustRtcCtrl value
    if flag value 0 then
      let sec := (s.reg Reg.ustRtcSetLo).toNat + 2 ^ 32 * field (s.reg Reg.ustRtcSetHi) 15 0
      { s with ust := { s.ust with rtcSec := sec, rtcSub := 0, rtcValid := true } }
    else s

/-- RTC_SYNC: at a TSU second boundary, with SYNC_EN and quality 0x00, the clock loads the TSU's seconds (R454). -/
def execRtcSync (s : State) : Answer :=
  answer s <|
    if flag (s.reg Reg.ustRtcCtrl) 1 = true ∧ s.qualityCode = 0 ∧ s.mainPower = true then
      { s with ust := { s.ust with rtcSec := s.tod.sec, rtcSub := 0, rtcValid := true } }
    else s

/-- RTC_SUB_READ: SUB is returned and the seconds latched (R457). -/
def execRtcSubRead (s : State) : Answer :=
  answer s (s.regRead Reg.ustRtcSub (({ s with ust := { s.ust with rtcLatch := s.ust.rtcSec } }).emit (.readData (BitVec.ofNat 32 s.ust.rtcSub))))

/-- LOG_DATA0_READ: the first word is returned and the others latched (R457). -/
def execLogData0Read (s : State) : Answer :=
  answer s (s.regRead Reg.ustLogData0 (({ s with ust := { s.ust with logLatch := s.selLog.drop 1 } }).emit (.readData (s.selLog.headD 0))))

/-- UST.STATUS (Table 17.10). -/
def State.ustStatus (s : State) : W32 :=
  let u := s.ust
  BitVec.ofNat 32 (b2n u.vbatOk + 2 * b2n u.rtcValid + 4 * b2n u.xtalOk + 8 * b2n u.latchSeenZeroise + 16 * b2n u.sramLost)

/-- UST.LOG_HEAD. -/
def State.logHead (s : State) : W32 := BitVec.ofNat 32 (s.ust.logNext + 2 ^ 8 * min (2 ^ 24 - 1) s.ust.logTotal)

/-- UST.LATCH_SEEN. -/
def State.latchSeenView (s : State) : W32 := BitVec.ofNat 32 (s.ust.latchSeen.foldr (fun n k => n + 16 * k) 0)

end Sys2Proof.Machine
end

