-- ==== Sys2Proof/Machine/Card.lean ====
section
/-!
DEFINITION. The custody card port (chapter 18): activation, T=1, the custody-card application, the ceremonies and the commands
0x0B00 to 0x0B22.
-/
namespace Sys2Proof.Machine
open Sys2Proof

/-- The state with the card port changed. -/
def State.modCrd (s : State) (f : Crd → Crd) : State := { s with crd := f s.crd }

/-- The state with the T=1 state changed. -/
def State.modT1 (s : State) (f : T1 → T1) : State := s.modCrd fun c => { c with t1 := f c.t1 }

/-! ### Answer to reset (R458 to R461) -/

/-- What the interface bytes of an ATR say. -/
structure AtrInfo where
  ta1 : Nat := 0x11
  ta2 : Option Nat := none
  t1 : Bool := false
  ifsc : Option Nat := none
  tb3 : Option Nat := none
  tc3 : Option Nat := none
  classes : Option Nat := none
  deriving DecidableEq, Repr

/-- The byte that bit `n` of a presence nibble announces, and the bytes after it; none where it is missing. -/
def takeIf (y n : Nat) (bs : Bytes) : Option (Option Nat × Bytes) :=
  if bitOf y n then match bs with
    | b :: rest => some (some b.toNat, rest)
    | [] => none
  else some (none, bs)

/-- The interface bytes of group i, which follow protocol `t`: the first group for T=1 past TD2 gives IFSC, TB3 and TC3, and the first for
T=15 the class indicator. The bytes left are the historical bytes and TCK. -/
def atrGroups : Nat → Nat → Nat → Nat → Bytes → AtrInfo → Option (AtrInfo × Bytes)
  | 0, _, _, _, _, _ => none
  | n + 1, i, t, y, bs, a => do
    let (ta, bs) ← takeIf y 0 bs
    let (tb, bs) ← takeIf y 1 bs
    let (tc, bs) ← takeIf y 2 bs
    let (td, bs) ← takeIf y 3 bs
    let a := if i = 1 then { a with ta1 := ta.getD 0x11 }
      else if i = 2 then { a with ta2 := ta }
      else if t = 1 then { a with ifsc := a.ifsc <|> ta, tb3 := a.tb3 <|> tb, tc3 := a.tc3 <|> tc }
      else if t = 15 then { a with classes := a.classes <|> ta }
      else a
    match td with
    | none => some (a, bs)
    | some d => atrGroups n (i + 1) (d % 16) (d / 16) bs { a with t1 := a.t1 || d % 16 == 1 }

/-- XOR of bytes. -/
def xorAll (bs : Bytes) : Byte := bs.foldl (· ^^^ ·) 0

/-- An ATR that ISO/IEC 7816-3 allows and that offers T=1: at most 33 bytes, the length that T0 and the TD bytes give, TCK right, and an
IFSC in range. -/
def parseAtr (bs : Bytes) : Option AtrInfo :=
  let t0 := natAt bs 1
  if (natAt bs 0 = 0x3B ∨ natAt bs 0 = 0x3F) ∧ within bs.length 3 33 = true ∧ xorAll (bs.drop 1) = 0 then
    match atrGroups 16 1 0 (t0 / 16) (bs.drop 2) {} with
    | some (a, rest) =>
      let offers : Bool := match a.ta2 with | some x => x % 16 == 1 | none => a.t1
      if offers ∧ rest.length = t0 % 16 + 1 ∧ within (a.ifsc.getD 32) 1 254 = true then some a else none
    | none => none
  else none

/-- Fi 372 or 512 with Di 1 to 32 (R460). -/
def pairSupported (ta1 : Nat) : Bool := (ta1 / 16 == 1 || ta1 / 16 == 9) && within (ta1 % 16) 1 6

/-- The class in force is one of those that the card indicates (R458). -/
def classAllowed (classes : Option Nat) (classB : Bool) : Bool := match classes with
  | some x => bitOf x (if classB then 1 else 2)
  | none => true

/-! ### T=1 blocks (R461, R462) -/

/-- The error-detection code of a block: LRC, or the CRC of ISO/IEC 13239. -/
def edcOf (crc : Bool) (bs : Bytes) : Bytes := if crc then stdOut 2 .t1Crc 0 [bs] else [xorAll bs]

/-- A block with NAD 0x00. -/
def t1Block (crc : Bool) (pcb : Nat) (inf : Bytes) : Bytes :=
  let b := [0, BitVec.ofNat 8 pcb, BitVec.ofNat 8 inf.length] ++ inf
  b ++ edcOf crc b

/-- A block leaves for the card, and is kept for its repetition. -/
def State.sendBlock (s : State) (pcb : Nat) (inf : Bytes) : State :=
  let b := t1Block s.crd.crc pcb inf
  (s.emit (.card b)).modT1 fun t => { t with last := b }

/-- The I-block of the first INF field that waits, M set while more follow. -/
def State.sendI (s : State) : State := match s.crd.t1.out with
  | inf :: rest => s.sendBlock (64 * s.crd.t1.ns + 32 * b2n (!rest.isEmpty)) inf
  | [] => s

/-- An R-block: N(R) and an error code. -/
def State.sendR (s : State) (err : Nat) : State := s.sendBlock (0x80 + 16 * s.crd.t1.nr + err) []

/-- A string cut into fields of at most n bytes. -/
def chunks : Nat → Nat → Bytes → List Bytes
  | 0, _, _ => []
  | f + 1, n, bs => if bs.length ≤ n then [bs] else bs.take n :: chunks f n (bs.drop n)

/-- The command APDU of an exchange: extended length where the data or the answer needs it, and an Le field only where there is no command
data (log entry 13). -/
def apduBytes (header data : Bytes) (answer : Nat) : Bytes :=
  if data.isEmpty then header ++ (if answer = 0 then [] else if answer ≤ 256 then [0] else [0, 0, 0])
  else header ++ (if data.length ≤ 255 then [BitVec.ofNat 8 data.length] else 0 :: toBE 2 data.length) ++ data

/-- An exchange begins: its APDU goes out in I-blocks of at most IFSC bytes (R461). -/
def State.sendApdu (s : State) (kind : CardApdu) (apdu : Bytes) : State :=
  let l := chunks (apdu.length + 1) (max 1 s.crd.ifsc) apdu
  let s := s.modCrd fun c => { c with
    apdu := kind, wait := .apdu, begun := true,
    t1 := { c.t1 with out := l, all := l, inp := [], fails := 0, resyncs := 0, resync := false, waited := 0 } }
  s.sendI

/-! ### Ends of a command -/

/-- The card command in progress ends. -/
def State.cardEnd (s : State) (status ext len : Nat) (out : Bytes) : State :=
  let t := s.modCrd fun c => { c with slot := none, begun := false, wait := .idle }
  match s.crd.slot with
  | some slot => t.completeLen slot status ext len out
  | none => t

/-- The command ends with a status and no output. -/
def State.cardFail (s : State) (status ext : Nat) : State := s.cardEnd status ext 0 []

/-- The command ends OK with its output. -/
def State.cardDone (s : State) (out : Bytes) : State := s.cardEnd St.ok 0 out.length out

/-- A CARD_PROTOCOL ending that deactivates the card (R458, R459, R462). -/
def State.cardBroken (s : State) (ext : Nat) : State :=
  (s.cardOff.raise Reg.crdEvent 4).cardFail St.cardProtocol ext

/-! ### Share arithmetic (R466) -/

/-- Multiplication in GF(2^8) with x^8 + x^4 + x^3 + x + 1: n bits of b remain. -/
def gfMulGo : Nat → Byte → Byte → Byte
  | 0, _, _ => 0
  | n + 1, a, b =>
    (if b.toNat % 2 = 1 then a else 0) ^^^
      gfMulGo n ((a <<< 1) ^^^ (if 128 ≤ a.toNat then 0x1B else 0)) (b >>> 1)

/-- The product of two field elements. -/
def gfMul (a b : Byte) : Byte := gfMulGo 8 a b

/-- a to the power n. -/
def gfPow (a : Byte) : Nat → Byte
  | 0 => 1
  | n + 1 => gfMul a (gfPow a n)

/-- The inverse of a field element. -/
def gfInv (a : Byte) : Byte := gfPow a 254

/-- The polynomial with constant term `cs` and the coefficients after it, at x, for each byte. -/
def shareAt (cs : Bytes) (coeffs : List Bytes) (x : Byte) : Bytes :=
  xorBytes cs ((coeffs.foldr (fun c acc => (xorBytes c acc).map (gfMul x ·)) (zeros cs.length)))

/-- The Lagrange factor at 0 of the share at x among others. -/
def lagrange (x : Byte) (others : List Byte) : Byte :=
  others.foldl (fun acc y => gfMul acc (gfMul y (gfInv (x ^^^ y)))) 1

/-- The secret that shares rebuild, 32 bytes. -/
def combine (shares : List (Nat × Bytes)) : Bytes :=
  shares.foldl (fun acc p =>
    let x := BitVec.ofNat 8 p.1
    let others := (shares.filter (·.1 != p.1)).map fun q => BitVec.ofNat 8 q.1
    xorBytes acc (p.2.map (gfMul (lagrange x others) ·))) (zeros 32)

/-- CSCV of a custody secret (Table 18.2). -/
def cscvOf (cs : Bytes) : Bytes := (kmac256 32 cs [] "GY-CSCV").take 8

/-- The custody secret of this device, while it can be formed (R466). -/
def State.custodySecret (s : State) : Option Bytes := match s.lcs.state with
  | .owned => s.ownerRoot
  | .provisioned => s.duk.map fun k => kmac256 32 k [] "GY-PCS"
  | _ => none

/-- The share record of the card with this INDEX (Table 18.2). -/
def State.shareRecord (s : State) (c : Ceremony) (cs : Bytes) (index : Nat) : Bytes :=
  fit 256 (ascii "GYSH" ++ [BitVec.ofNat 8 (b2n (s.lcs.state != .owned)), BitVec.ofNat 8 c.m, BitVec.ofNat 8 c.n, BitVec.ofNat 8 index] ++
    s.serialBytes ++ shareAt cs c.coeffs (BitVec.ofNat 8 index) ++ cscvOf cs)

/-! ### The exchanges of a command (R464, R465, R468) -/

/-- The AID of the custody-card application. -/
def custodyAid : Bytes := [0xF0, 0x47, 0x59, 0x43, 0x55, 0x53, 0x54, 0x01]

/-- The IV of a secure message: direction, three zero bytes, and the message count (R464). -/
def cardIv (fromCard : Bool) (count : Nat) : Bytes := [BitVec.ofNat 8 (b2n fromCard), 0, 0, 0] ++ toBE 8 count

/-- The card entry in progress. -/
def State.cardTrack (s : State) : Option Track := match s.crd.slot with
  | some slot => s.track slot
  | none => none

/-- The block number of a sealed exchange: BLOCK of a sealed command, 0 in a ceremony. -/
def State.cardBlock (s : State) : Nat := match s.cardTrack with
  | some t => if t.entry.opcode = 0xB11 then 0 else t.entry.p8 40
  | none => 0

/-- CLA INS P1 P2 of an exchange (Table 18.1). -/
def State.apduHeader (s : State) (kind : CardApdu) : Bytes := match kind with
  | .raw => []
  | .select => [0x00, 0xA4, 0x04, 0x00]
  | .info => [0x80, 0xCA, 0x00, 0x00]
  | .openSession => [0x80, 0x8A, 0x00, 0x00]
  | .readSealed => [0x84, 0xB0, 0x00, BitVec.ofNat 8 s.cardBlock]
  | .writeSealed => [0x84, 0xD6, 0x00, BitVec.ofNat 8 s.cardBlock]
  | .counter => [0x84, 0xC4, 0x00, 0x00]

/-- A secure message goes out: its data as AES-256-GCM ciphertext and tag under K_s; a message without data carries none. -/
def State.sendSecure (s : State) (kind : CardApdu) (data : Bytes) (answer : Nat) : State :=
  let h := s.apduHeader kind
  let body := if data.isEmpty then [] else gcmSeal (s.crd.session.getD []) (cardIv false s.crd.sent) h data
  (s.modCrd fun c => { c with sent := c.sent + 1 }).sendApdu kind (apduBytes h body (answer + 16))

/-- The first secure exchange of a command whose session is open: SEALED_WRITE and a share-out read the counter first (R468), a ceremony turns
away a card that has served (R467). -/
def State.sealedOp (s : State) : State := match s.cardTrack with
  | none => s.cardFail St.badParam 0xF8
  | some t =>
    if t.entry.opcode = 0xB20 then s.sendSecure .readSealed [] 260
    else if t.entry.opcode = 0xB11 then match s.crd.cer with
      | some c =>
        if c.cards.contains s.crd.serial then s.cardFail St.badParam 0xF7
        else if c.kind = 0 then s.sendSecure .counter [] 4
        else s.sendSecure .readSealed [] 260
      | none => s.cardFail St.badParam 0xF8
    else s.sendSecure .counter [] 4

/-- A CEREMONY_CARD ends: the card counts as done. -/
def State.cardServed (s : State) (share : Option (Nat × Bytes)) : State :=
  let c := s.crd
  let s := s.modCrd fun c => { c with cer := c.cer.map fun (x : Ceremony) => { x with
    cards := x.cards ++ [c.serial], shares := x.shares ++ share.toList } }
  let done := match s.crd.cer with | some x => x.cards.length | none => 0
  s.cardDone (toBE 8 c.serial ++ toLE 4 c.counter ++ [BitVec.ofNat 8 done, 0, 0, 0])

/-- A share record that a ceremony has read: it agrees with the ceremony and with the records before it, or the command fails (R467,
Table 18.3). -/
def State.takeRecord (s : State) (c : Ceremony) (b : Bytes) : State :=
  let cscv := slice b 48 8
  let source := natAt b 4
  let index := natAt b 7
  let first := c.shares.isEmpty
  let ok := b.take 4 == ascii "GYSH" && natAt b 5 == c.m && within index 1 (natAt b 6) && !(c.shares.any (·.1 == index)) &&
    (first || (cscv == c.cscv && source == c.source)) && (c.kind != 1 || source == 0)
  if ok then
    (s.modCrd fun x => { x with cer := some { c with cscv := cscv, source := source } }).cardServed (some (index, slice b 16 32))
  else s.cardFail St.verifyFail 0xF6

/-- A secure answer's data has been verified and deciphered: the command goes on, or ends. -/
def State.secureAnswer (s : State) (op : Nat) (kind : CardApdu) (data : Bytes) : State :=
  let s := s.modCrd fun c => { c with counter := leAt data 0 4 }
  match kind with
  | .readSealed =>
    if op = 0xB11 then match s.crd.cer with
      | some c => s.takeRecord c (data.drop 4)
      | none => s.cardFail St.badParam 0xF8
    else s.cardDone data
  | .writeSealed => if op = 0xB11 then s.cardServed none else s.cardDone data
  | _ =>
    if op = 0xB22 then s.cardDone data
    else
      let next := toLE 4 (s.crd.counter + 1)
      if op = 0xB21 then match s.cardTrack with
        | some t => s.sendSecure .writeSealed (next ++ t.input) 4
        | none => s.cardFail St.badParam 0xF8
      else match s.crd.cer, s.custodySecret with
        | some c, some cs => s.sendSecure .writeSealed (next ++ s.shareRecord c cs (c.cards.length + 1)) 4
        | _, _ => s.cardFail St.badParam 0xF8

/-- The response data of a secure exchange, in bytes. -/
def secureLen (kind : CardApdu) : Nat := if kind = .readSealed then 260 else 4

/-- K_s of R465. -/
def State.sessionKey (s : State) (cardNonce : Bytes) : Bytes :=
  kmac256 32 s.crd.secret (s.crd.nonce.drop 32 ++ cardNonce ++ toBE 8 s.crd.serial ++ s.serialBytes) "GY-CARD"

/-- The APDU that CARD_APDU carries is one of Table 18.1. -/
def chapterApdu (a : Bytes) : Bool :=
  let h := a.take 4
  (h == [0x00, 0xA4, 0x04, 0x00] && slice a 5 8 == custodyAid) || h == [0x80, 0xCA, 0x00, 0x00] || h == [0x80, 0x8A, 0x00, 0x00] ||
    h == [0x80, 0x2A, 0x00, 0x00]

/-- The answer to an exchange has arrived whole: SW other than 90 00 ends the command, but for a CARD_APDU whose APDU is not of this
chapter (R465). -/
def State.apduAnswered (s : State) : State :=
  let r := s.crd.t1.inp
  let n := r.length - 2
  let sw := beAt r n 2
  let data := r.take n
  match s.cardTrack with
  | none => s.modCrd fun c => { c with wait := .idle }
  | some t =>
    let raw := t.entry.opcode == 0xB02
    if sw ≠ 0x9000 ∧ (!raw || chapterApdu t.input) = true then
      (s.raise Reg.crdEvent 4).cardEnd St.cardProtocol 0xF5 sw []
    else if raw then
      if r.length ≤ t.entry.outCap then s.cardDone r else s.cardFail St.badLength 0x41
    else match s.crd.apdu with
      | .raw | .select => s.sendApdu .info (apduBytes (s.apduHeader .info) [] 8419)
      | .info =>
        let keys := slice data 16 3776
        if data.length = 8419 ∧ Config.stdHolds .cardAttest 2 [data.take 8 ++ keys, data.drop 3792] = true then
          let e := stdOut 1120 .mlkemEncaps 1 [slice data 16 1184, s.crd.nonce.take 32]
          let s := s.modCrd fun c => { c with
            serial := beAt data 0 8, counter := leAt data 8 4, cardKey := slice data 16 1184, secret := e.drop 1088 }
          s.sendApdu .openSession (apduBytes (s.apduHeader .openSession) (e.take 1088 ++ s.crd.nonce.drop 32) 0)
        else s.cardFail St.verifyFail 0xF3
      | .openSession =>
        let k := s.sessionKey (data.take 32)
        if data.length = 48 ∧ data.drop 32 = kmac256 16 k [] "GY-CARD-CNF" then
          (s.modCrd fun c => { c with session := some k, secret := [], sent := 0, got := 0 }).sealedOp
        else s.cardFail St.verifyFail 0xF4
      | kind =>
        let key := s.crd.session.getD []
        let iv := cardIv true s.crd.got
        let aad := s.apduHeader kind
        let s := s.modCrd fun c => { c with got := c.got + 1 }
        if data.length = secureLen kind + 16 ∧ gcmOk key iv aad data = true then
          s.secureAnswer t.entry.opcode kind (gcmOpen key iv aad data)
        else s.cardFail St.verifyFail 0xF4

/-! ### Receiving blocks (R461, R462) -/

/-- Resynchronisation is asked for, up to three times (R462). -/
def State.resync (s : State) : State :=
  if 3 ≤ s.crd.t1.resyncs then s.cardBroken 0xF1
  else ((s.modT1 fun t => { t with resyncs := t.resyncs + 1, resync := true, fails := 0 }).count Reg.crdRetries).sendBlock 0xC0 []

/-- A failed attempt on the present block: an R-block with its error code, or where the port had sent an S-block that block again; after three,
resynchronisation (R461, R462). -/
def State.badBlock (s : State) (err : Nat) : State :=
  if s.crd.t1.resync then s.resync
  else if 3 ≤ s.crd.t1.fails + 1 then s.resync
  else
    let s := (s.modT1 fun t => { t with fails := t.fails + 1 }).count Reg.crdRetries
    if s.crd.wait = .ifs then s.sendBlock 0xC1 [254] else s.sendR err

/-- The block last sent goes out again. -/
def State.repeatBlock (s : State) : State :=
  if 3 ≤ s.crd.t1.fails + 1 then s.resync
  else ((s.modT1 fun t => { t with fails := t.fails + 1 }).count Reg.crdRetries).emit (.card s.crd.t1.last)

/-- The 40 bytes that CARD_ACTIVATE returns (Table 18.5). -/
def Crd.activation (c : Crd) : Bytes :=
  fit 33 c.atr ++ [BitVec.ofNat 8 c.atr.length, BitVec.ofNat 8 c.ta1, BitVec.ofNat 8 c.ifsc, BitVec.ofNat 8 c.tb3,
    BitVec.ofNat 8 (b2n c.crc), BitVec.ofNat 8 (b2n c.classB), 0]

/-- A valid block with its PCB and INF. -/
def State.takeBlock (s : State) (pcb : Nat) (inf : Bytes) : State :=
  let t := s.crd.t1
  if t.resync then
    if pcb = 0xE0 ∧ inf = [] then
      let s := s.modT1 fun t => { t with ns := 0, nr := 0, out := t.all, inp := [], resync := false, waited := 0 }
      if s.crd.wait = .ifs then s.sendBlock 0xC1 [254] else s.sendI
    else s.badBlock 2
  else if pcb = 0xC1 ∧ inf.length = 1 ∧ within (natAt inf 0) 1 254 = true then
    (s.modCrd fun c => { c with ifsc := natAt inf 0 }).sendBlock 0xE1 inf
  else if pcb = 0xC3 ∧ inf.length = 1 then s.sendBlock 0xE3 inf
  else if pcb = 0xC2 ∧ inf = [] then s.sendBlock 0xE2 []
  else if s.crd.wait = .ifs then
    if pcb = 0xE1 ∧ inf = [254] then
      let s := s.modCrd fun c => { c with active := true, wait := .idle, t1 := {} }
      s.cardDone s.crd.activation
    else s.badBlock 2
  else if pcb / 128 = 0 ∧ pcb % 32 = 0 then
    if pcb / 64 = t.nr ∧ t.out.length ≤ 1 then
      let s := s.modT1 fun t => { t with
        ns := if t.out.isEmpty then t.ns else 1 - t.ns
        nr := 1 - t.nr, out := [], inp := t.inp ++ inf, fails := 0, waited := 0 }
      if bitOf pcb 5 then s.sendR 0 else s.apduAnswered
    else s.badBlock 2
  else if pcb / 64 = 2 ∧ inf = [] ∧ pcb % 64 / 32 = 0 then
    match t.out with
    | _ :: next :: rest =>
      if pcb / 16 % 2 ≠ t.ns then
        (s.modT1 fun t => { t with ns := 1 - t.ns, out := next :: rest, fails := 0, waited := 0 }).sendI
      else s.repeatBlock
    | _ => s.repeatBlock
  else s.badBlock 2

/-- A block as received: LEN, EDC and parity are checked before its PCB (R461). -/
def State.t1Receive (s : State) (b : Bytes) (parityOk : Bool) : State :=
  let e := if s.crd.crc then 2 else 1
  let n := natAt b 2
  let ok := parityOk && decide (3 + e ≤ b.length) && b.drop (b.length - e) == edcOf s.crd.crc (b.take (b.length - e))
  if !ok then s.badBlock 1
  else if natAt b 0 ≠ 0 ∨ b.length ≠ 3 + n + e ∨ 254 < n then s.badBlock 2
  else s.takeBlock (natAt b 1) (slice b 3 n)

/-- The port asks for IFSD 254 once the parameters are in force: the clock in service is CLK_PER ÷ 40 (R460, R461). -/
def State.askIfs (s : State) : State :=
  (s.modCrd fun c => { c with wait := .ifs, clkDiv := 40, t1 := {} }).sendBlock 0xC1 [254]

/-- A PPS that proposes T=1 and a TA1. -/
def ppsRequest (ta1 : Nat) : Bytes :=
  let b : Bytes := [0xFF, 0x11, BitVec.ofNat 8 ta1]
  b ++ [xorAll b]

/-- The ATR has arrived (R458 to R461). -/
def State.atrReceive (s : State) (b : Bytes) (parityOk : Bool) : State :=
  let s := s.modCrd fun c => { c with atr := b, rx := b }
  match parityOk, parseAtr b with
  | true, some a =>
    let s := s.modCrd fun c => { c with
      ta1 := a.ta1, ifsc := a.ifsc.getD 32, tb3 := a.tb3.getD 0x4D, crc := bitOf (a.tc3.getD 0) 0 }
    if classAllowed a.classes s.crd.classB = false then s.cardBroken 0xF0
    else match a.ta2 with
      | some x => if pairSupported a.ta1 ∧ bitOf x 4 = false then s.askIfs else s.cardBroken 0xF0
      | none =>
        let ta1 := if pairSupported a.ta1 then a.ta1 else 0x11
        (s.modCrd fun c => { c with wait := .pps, ta1 := ta1 }).emit (.card (ppsRequest ta1))
  | _, _ => s.cardBroken 0xF0

/-- The answer to the PPS: the proposal itself, or T=1 with the default Fi and Di. -/
def State.ppsReceive (s : State) (b : Bytes) (parityOk : Bool) : State :=
  if parityOk ∧ b = ppsRequest s.crd.ta1 then s.askIfs
  else if parityOk ∧ b = [0xFF, 0x01, 0xFE] then (s.modCrd fun c => { c with ta1 := 0x11 }).askIfs
  else s.cardBroken 0xF0

/-- T1_BLOCK_RECEIVE: the ATR, the answer to the PPS, or a T=1 block. While CTRL.MONITOR is 1 what follows the ATR is copied too (R472). -/
def execT1BlockReceive (block : Bytes) (parityOk : Bool) (s : State) : Answer :=
  answer s <|
    let copied (s : State) : State :=
      if flag (s.reg Reg.crdCtrl) 0 then s.modCrd fun c => { c with rx := c.rx ++ block } else s
    match s.crd.wait with
    | .idle => s
    | .atr => s.atrReceive block parityOk
    | .pps => (copied s).ppsReceive block parityOk
    | .ifs | .apdu => (copied s).t1Receive block parityOk

/-- T1_WAIT_TIMEOUT: a wait has run out after so many milliseconds on the present block; past WTX_LIMIT.MS the card is deactivated, and before
it the block counts as invalid (R461, R462). -/
def execT1WaitTimeout (ms : Nat) (s : State) : Answer :=
  answer s <| match s.crd.wait with
  | .idle | .atr => s
  | .pps => s.cardBroken 0xF0
  | .ifs | .apdu =>
    let s := s.modT1 fun t => { t with waited := t.waited + ms }
    if max 1 (field (s.reg Reg.crdWtxLimit) 15 0) < s.crd.t1.waited then s.cardBroken 0xF2 else s.badBlock 2

/-- ATR_WAIT_TIMEOUT (R459). -/
def execAtrWaitTimeout (s : State) : Answer :=
  answer s <| if s.crd.wait = .atr then s.cardBroken 0xF0 else s

/-! ### Presence (R463) -/

/-- CARD_INSERT: after its debounce; the board's supply gives the class (R458). -/
def execCardInsert (classB : Bool) (s : State) : Answer :=
  answer s <|
    if s.crd.present then s
    else (s.modCrd fun c => { c with present := true, classB := classB }).raise Reg.crdEvent 1

/-- CARD_REMOVE: the card is deactivated, the removal counted, and the command in progress ends (R463, R468). -/
def execCardRemove (s : State) : Answer :=
  answer s <|
    if s.crd.present then
      (((s.cardOff.modCrd fun c => { c with present := false }).raise Reg.crdEvent 2).count Reg.crdRemovals).cardFail
        St.cardRemoved 0
    else s

/-- CEREMONY_LAPSE: 600 s have passed without a CEREMONY_CARD (R467). -/
def execCeremonyLapse (s : State) : Answer := answer s s.lapseCeremony

/-- CRD_RX_DATA_READ: the next byte, or UNDERRUN (R16, R472). -/
def execCrdRxDataRead (s : State) : Answer :=
  answer s <| s.regRead Reg.crdRxData <|
    match s.crd.rx with
    | b :: rest => (s.modCrd fun c => { c with rx := rest }).emit (.readData (BitVec.ofNat 32 b.toNat))
    | [] => (s.raise Reg.crdRxStatus 1).emit (.readData 0)

/-! ### Commands (R470, R471) -/

/-- No earlier entry of range 0x0Bxx is still to run, and the port is free (R470). -/
def State.cardTurn (s : State) (t : Track) : Bool :=
  s.crd.slot.isNone && s.crd.wait == .idle && s.tracker.all fun p => match p.2 with
    | some x => x.entry.opcode / 256 != 0xB || decide (t.order ≤ x.order) || x.phase == .held
    | none => true

/-- A card command in its turn, with the checks that all share: reserved bytes, KEY_SLOT, parameters, order and state, input length,
output capacity, and an active card. -/
def State.cardEntry (s : State) (slot op : Nat) (zero : WorkEntry → Bool) (params : WorkEntry → Bool) (more : List (Option (Nat × Nat)))
    (inOk : Nat → Bool) (outLen : Nat) (needsCard : Bool) (k : Track → State) : State :=
  s.onEntry slot op op fun t =>
    if s.cardTurn t then
      s.checked slot ([chk (zero t.entry) St.badParam 0, t.entry.noKey, chk (params t.entry) St.badParam 0xF8] ++ more ++
        [t.dmaFail, chk (inOk t.entry.msgLen) St.badLength 0xF0, t.entry.outHolds outLen,
         chk (!needsCard || s.crd.active) St.cardRemoved 1]) (k t)
    else s

/-- No input. -/
def noBytes : Nat → Bool := fun n => n == 0

/-- The card command of a tracker slot begins. -/
def State.cardStart (s : State) (slot : Nat) : State := (s.busy slot).modCrd fun c => { c with slot := some slot, begun := false }

/-- CARD_ACTIVATE: the card is reset and its ATR awaited (R459). -/
def execCardActivate (slot : Nat) (s : State) : Answer :=
  answer s <| s.cardEntry slot 0xB00 (·.zeroFrom 40 55) (fun _ => true) [] noBytes 40 false fun _ =>
    (s.cardOff.cardStart slot).modCrd fun c => { c with wait := .atr, clkDiv := 50, rx := [], atr := [] }

/-- CARD_DEACTIVATE. -/
def execCardDeactivate (slot : Nat) (s : State) : Answer :=
  answer s <| s.cardEntry slot 0xB01 (·.zeroFrom 40 55) (fun _ => true) [] noBytes 0 false fun _ =>
    s.cardOff.complete slot St.ok 0 []

/-- CARD_APDU: an APDU that is not of the secure class and does not name block 0 (R471). -/
def execCardApdu (slot : Nat) (s : State) : Answer :=
  answer s <| s.onEntry slot 0xB02 0xB02 fun t =>
    let a := t.input
    let sealed := natAt a 0 == 0x84 || ((natAt a 1 == 0xB0 || natAt a 1 == 0xD6) && natAt a 3 == 0)
    s.cardEntry slot 0xB02 (·.zeroFrom 40 55) (fun _ => !(decide (4 ≤ a.length) && sealed)) [] (within · 4 4105) 2 true fun _ =>
      (s.cardStart slot).sendApdu .raw a

/-- A sealed exchange begins: with a session open at once; without one the application is selected first, with 64 bytes of instance 1 drawn for
the encapsulation and the nonce (R465, R470). -/
def State.sealedStart (s : State) (slot : Nat) : State :=
  if s.crd.session.isSome then (s.cardStart slot).sealedOp
  else s.entropyStep slot 1
    (let d := s.draw 1 64
     ((d.2.cardStart slot).modCrd fun c => { c with nonce := d.1 }).sendApdu .select
       (apduBytes (s.apduHeader .select) custodyAid 0))

/-- CEREMONY_CARD: one card of the open ceremony (R467). -/
def execCeremonyCard (slot : Nat) (s : State) : Answer :=
  answer s <| s.cardEntry slot 0xB11 (·.zeroFrom 40 55) (fun _ => true)
    [chk (match s.crd.cer with
      | some c => decide (c.cards.length < if c.kind = 0 then c.n else 8) && (c.kind != 0 || s.custodySecret.isSome)
      | none => false) St.badParam 0xF8] noBytes 16 true fun _ =>
    s.sealedStart slot

/-- SEALED_READ. -/
def execSealedRead (slot : Nat) (s : State) : Answer :=
  answer s <| s.cardEntry slot 0xB20 (·.zeroFrom 41 55) (fun e => decide (e.p8 40 ≤ 15)) [] noBytes 260 true fun _ => s.sealedStart slot

/-- SEALED_WRITE (R468). -/
def execSealedWrite (slot : Nat) (s : State) : Answer :=
  answer s <| s.cardEntry slot 0xB21 (·.zeroFrom 41 55) (fun e => within (e.p8 40) 1 15) [] (· == 256) 4 true fun _ => s.sealedStart slot

/-- SEALED_COUNTER. -/
def execSealedCounter (slot : Nat) (s : State) : Answer :=
  answer s <| s.cardEntry slot 0xB22 (·.zeroFrom 40 55) (fun _ => true) [] noBytes 4 true fun _ => s.sealedStart slot

/-- A kind is permitted in the state in force (Table 18.3). -/
def State.kindAllowed (s : State) (kind : Nat) : Bool := match s.lcs.state with
  | .provisioned => kind == 0 || kind == 2
  | .owned => (kind == 0 && s.ownerRoot.isSome) || (kind == 1 && s.bvrPolicy) || kind == 2
  | _ => false

/-- Ceremony key and coefficients of a share-out, drawn at BEGIN from instance 1 (R213, R466). -/
def ceremonyDraw (kind m : Nat) : Nat := if kind = 0 then 32 * m else 32

/-- CEREMONY_BEGIN (R467). -/
def execCeremonyBegin (slot : Nat) (s : State) : Answer :=
  answer s <| s.onEntry slot 0xB10 0xB10 fun t =>
    let e := t.entry
    let kind := e.p8 40
    let m := e.p8 41
    let n := e.p8 42
    s.cardEntry slot 0xB10 (·.zeroFrom 43 55)
      (fun _ => decide (kind ≤ 2) && within m 2 8 && (if kind = 0 then decide (m ≤ n) && decide (n ≤ 8) else n == 0))
      [chk s.crd.cer.isNone St.badParam 0xF8, chk (s.kindAllowed kind) St.lcsForbids 2] noBytes 0 true fun _ =>
      s.entropyStep slot 1
        (let d := s.draw 1 (ceremonyDraw kind m)
         let coeffs := if kind = 0 then (List.range (m - 1)).map fun i => slice d.1 (32 * (i + 1)) 32 else []
         let s := d.2.setSlot 9 (deviceSlot 9 (d.1.take 32) s.lcs.testRoot)
         (s.modCrd fun c => { c with cer := some { kind := kind, m := m, n := n, coeffs := coeffs } }).complete slot St.ok 0 [])

/-- The battery-held root is written and the owner root and its device keys appear (R216). -/
def State.restoreBvr (s : State) (cs : Bytes) : State := match s.rootB with
  | some b => ({ s with kst := { s.kst with bvr := xorBytes cs b, bvrState := .valid } }).fillDevices [1, 2, 3, 4]
  | none => s

/-- CEREMONY_END: abandoned, or closed with its result; a rebuilt secret that fails its check leaves the ceremony as it is (R467,
Table 18.3). -/
def execCeremonyEnd (slot : Nat) (s : State) : Answer :=
  answer s <| s.onEntry slot 0xB12 0xB12 fun t =>
    let abandon := decide (t.entry.p8 40 = 1)
    let ready := match s.crd.cer with
      | some c => abandon || decide ((if c.kind = 0 then c.n else c.m) ≤ c.cards.length)
      | none => false
    s.cardEntry slot 0xB12 (fun e => decide (e.p8 40 ≤ 1) && e.zeroFrom 41 55) (fun _ => true) [chk ready St.badParam 0xF8] noBytes 0 true fun _ =>
      match s.crd.cer with
      | none => s
      | some c =>
        let cs := combine (c.shares.take c.m)
        let done := s.dropCeremony
        if abandon ∨ c.kind = 0 then done.complete slot St.ok 0 []
        else if c.kind = 1 then
          if cscvOf cs = c.cscv then (done.restoreBvr cs).complete slot St.ok 0 []
          else s.fail slot (St.verifyFail, 0xF6)
        else if s.custodySecret = some cs then
          ({ done with lcs := { done.lcs with returnAuth := true } }).complete slot St.ok 0 []
        else s.fail slot (St.verifyFail, 0xF6)

/-! ### Register views (Table 18.7) -/

/-- CRD.STATUS. -/
def State.cardStatus (s : State) : W32 :=
  let c := s.crd
  let cer := match c.cer with | some x => 16 + 32 * x.kind + 256 * (x.cards.length % 16) | none => 0
  BitVec.ofNat 32 (b2n c.present + 2 * b2n c.active + 4 * b2n c.classB + 8 * b2n c.session.isSome + cer)

/-- CRD.CLK_DIV. -/
def State.cardClkDiv (s : State) : W32 := BitVec.ofNat 32 s.crd.clkDiv

end Sys2Proof.Machine
end

