-- ==== Sys2Proof/Machine/OuterCode.lean ====
section
/-!
DEFINITION. The outer code of an HBM line, RS(72,64) over GF(2^8), as R478 gives it: the field x^8 + x^4 + x^3 + x^2 + 1, the roots α^0 to
α^7, and a decoder that corrects up to four bytes.
-/
namespace Sys2Proof.Machine
open Sys2Proof

/-- A field element times α = x. -/
def rsDouble (a : Nat) : Nat := if a < 128 then 2 * a else (2 * a) ^^^ 0x11D

/-- The product of two elements: `n` bits of b remain. -/
def rsMulGo : Nat → Nat → Nat → Nat
  | 0, _, _ => 0
  | n + 1, a, b => (if b % 2 = 1 then a else 0) ^^^ rsMulGo n (rsDouble a) (b / 2)

/-- The product of two elements of the field. -/
def rsMul (a b : Nat) : Nat := rsMulGo 8 a b

/-- The square of an element, n times. -/
def rsSquares : Nat → Nat → Nat
  | 0, a => a
  | n + 1, a => rsSquares n (rsMul a a)

/-- The inverse, a^254 = a^2 · a^4 · … · a^128; 0 of 0. -/
def rsInv (a : Nat) : Nat := (List.range 7).foldl (fun x i => rsMul x (rsSquares (i + 1) a)) 1

/-- α^n. -/
def rsAlpha : Nat → Nat
  | 0 => 1
  | n + 1 => rsDouble (rsAlpha n)

/-- A polynomial at a point; coefficients from the constant term on. -/
def rsEval (p : List Nat) (x : Nat) : Nat := p.foldr (fun c acc => c ^^^ rsMul x acc) 0

/-- The sum of two polynomials. -/
def rsAdd : List Nat → List Nat → List Nat
  | [], q => q
  | p, [] => p
  | a :: p, b :: q => (a ^^^ b) :: rsAdd p q

/-- The product of two polynomials. -/
def rsConv (p q : List Nat) : List Nat := p.foldr (fun c acc => rsAdd (q.map (rsMul c)) (0 :: acc)) []

/-- The generator polynomial: the product of x + α^j for j from 0 to 7. -/
def rsGenerator : List Nat := (List.range 8).foldl (fun g j => rsConv g [rsAlpha j, 1]) [1]

/-- The remainder of a message by the generator, highest coefficients first: the shift register of a systematic encoder. -/
def rsRemainder (msg : List Nat) : List Nat :=
  let taps := (rsGenerator.take 8).reverse
  msg.foldl (fun r m =>
    let f := m ^^^ r.headD 0
    ((r.drop 1 ++ [0]).zip taps).map fun (p : Nat × Nat) => p.1 ^^^ rsMul f p.2) (List.replicate 8 0)

/-- The eight check bytes of a line. The line's bytes are the message, byte 0 the coefficient of the highest power (DESIGN CHOICE, log
entry 91). -/
def checkBytes (line : Bytes) : Bytes := (rsRemainder (line.map (·.toNat))).map (BitVec.ofNat 8 ·)

/-- The coefficients of a 72-byte word, the constant term first: its bytes in reverse order. -/
def rsWord (b : Bytes) : List Nat := (b.map (·.toNat)).reverse

/-- The eight syndromes of a word. -/
def rsSyndromes (w : List Nat) : List Nat := (List.range 8).map fun j => rsEval w (rsAlpha j)

/-- The search for the shortest recurrence of the syndromes: the present locator and its length, the last locator before its length grew, with
that one's discrepancy and the shift since. -/
structure Recurrence where
  loc : List Nat := [1]
  len : Nat := 0
  old : List Nat := [1]
  oldDisc : Nat := 1
  shift : Nat := 1
  deriving DecidableEq, Repr

/-- One syndrome is taken in. -/
def Recurrence.step (syn : List Nat) (r : Recurrence) (n : Nat) : Recurrence :=
  let disc := (List.range (r.len + 1)).foldl (fun d i => d ^^^ rsMul (r.loc.getD i 0) (syn.getD (n - i) 0)) 0
  if disc = 0 then { r with shift := r.shift + 1 }
  else
    let corr := List.replicate r.shift 0 ++ r.old.map (rsMul (rsMul disc (rsInv r.oldDisc)))
    let next := rsAdd r.loc corr
    if 2 * r.len ≤ n then { loc := next, len := n + 1 - r.len, old := r.loc, oldDisc := disc, shift := 1 }
    else { r with loc := next, shift := r.shift + 1 }

/-- The error locator of the syndromes, and its degree. -/
def rsLocator (syn : List Nat) : Recurrence := (List.range 8).foldl (Recurrence.step syn) {}

/-- The positions, as powers, at which the locator finds an error. -/
def rsPositions (loc : List Nat) : List Nat := (List.range 72).filter fun i => rsEval loc (rsInv (rsAlpha i)) == 0

/-- The odd terms of the locator: its formal derivative times x. -/
def rsOdd (loc : List Nat) : List Nat := loc.mapIdx fun i c => if i % 2 = 1 then c else 0

/-- The error value at a position: X · Ω(X⁻¹) ÷ Λ'(X⁻¹), where x · Λ'(x) is the locator's odd part. -/
def rsValue (syn loc : List Nat) (i : Nat) : Nat :=
  let x := rsInv (rsAlpha i)
  let omega := (rsConv syn loc).take 8
  rsMul (rsEval omega x) (rsInv (rsEval (rsOdd loc) x))

/-- What the outer decoder makes of a 72-byte word: the 64 data bytes and the number of bytes that it corrected, none where it fails. -/
def rsDecode (b : Bytes) : Option (Bytes × Nat) :=
  let w := rsWord b
  let syn := rsSyndromes w
  if syn.all (· == 0) then some (b.take 64, 0)
  else
    let r := rsLocator syn
    let at_ := rsPositions r.loc
    if r.len ≤ 4 ∧ at_.length = r.len then
      let fixed := w.mapIdx fun i c => if at_.contains i then c ^^^ rsValue syn r.loc i else c
      if (rsSyndromes fixed).all (· == 0) then some (((fixed.reverse.map (BitVec.ofNat 8 ·)).take 64), r.len) else none
    else none

end Sys2Proof.Machine
end

