-- ==== Sys2Proof/Machine/Memory.lean ====
section
/-!
DEFINITION. HBM as the controllers run it (chapter 19): the verdict of a read, patrol scrubbing, stack temperature, and the register
views of the MEM block.
-/
namespace Sys2Proof.Machine
open Sys2Proof

/-- What the two codes make of a read (R478). -/
inductive ReadVerdict where
  | clean | inner | outer | uncorrectable
  deriving DecidableEq, Repr

/-- The verdict on a read: `corrected` is the count of bytes that the outer decoder corrects, none where it fails; `severity` is the
stack's report: 0 no error, 1 corrected single-bit, 2 corrected multi-bit, 3 uncorrectable (R478). -/
def readVerdict (corrected : Option Nat) (severity : Nat) : ReadVerdict := match corrected with
  | none => .uncorrectable
  | some n =>
    if n = 0 then (if severity = 1 ∨ severity = 2 then .inner else .clean)
    else if n ≤ 2 ∨ (n ≤ 4 ∧ severity ≠ 3) then .outer
    else .uncorrectable

/-- Every stack is trained. -/
def State.hbmTrained (s : State) : Bool := s.mem.hbm.all (·.trained)

/-- The scrubber runs: the stacks are trained and active, and no ZEROISE has stopped it (R483, R484). -/
def State.scrubActive (s : State) : Bool := s.hbmTrained && !s.mem.selfRefresh && !s.mem.scrubStopped && decide (s.pwr.state ≤ 2)

/-- Lines of the 96 GiB (R480). -/
abbrev hbmLines : Nat := 1610612736

/-- A line with its check bytes as the stack returns it: `flips` are the bits that stand wrong. -/
def stackWord (line flips : Bytes) : Bytes := ((line ++ checkBytes line).zip (fit 72 flips)).map fun (p : Byte × Byte) => p.1 ^^^ p.2

/-- The scrubber meets line n: the verdict on it, and a line that the outer code corrects is written back as corrected, without any key (R476,
R478). -/
def State.scrubLine (s : State) (n : Nat) (flips : Bytes) (severity : Nat) : State :=
  let d := rsDecode (stackWord (s.storedLine (64 * n)) flips)
  match readVerdict (d.map (·.2)) severity with
  | .clean => s
  | .inner => s.count Reg.memCeInner
  | .outer => (s.count Reg.memCeOuter).storeLine (64 * n) (match d with | some r => r.1 | none => [])
  | .uncorrectable => s.hbmUe 0 ⟨64 * n, severity == 3⟩

/-- PATROL_SCRUB: the next line is read and judged, and the position moves on (R478, R480). -/
def execPatrolScrub (flips : Bytes) (severity : Nat) (s : State) : Answer :=
  answer s <|
    if s.scrubActive then
      let t := s.scrubLine s.mem.scrubPos flips severity
      let next := s.mem.scrubPos + 1
      if next < hbmLines then t.modMem fun m => { m with scrubPos := next }
      else (t.modMem fun m => { m with scrubPos := 0 }).modReg Reg.memScrubPasses (· + 1)
    else s

/-- HOT_REFRESH_CHANGE: a stack reports its temperature; above 85 °C its refresh rate is doubled (R481). -/
def execHotRefreshChange (stack : Nat) (temp : Int) (s : State) : Answer :=
  answer s (s.modMem fun m => { m with hbm := m.hbm.modify stack fun (x : Stack) => { x with temp := temp, hot := decide (85 < temp) } })

/-! ### Register views (Table 19.4) -/

/-- One bit per stack. -/
def State.stackBits (s : State) (f : Stack → Bool) : Nat := s.mem.hbm.foldr (fun x n => b2n (f x) + 2 * n) 0

/-- MEM.STATUS. -/
def State.memStatus (s : State) : W32 :=
  BitVec.ofNat 32 (s.stackBits (·.trained) + 16 * s.stackBits (fun x => x.trained && s.mem.selfRefresh) +
    256 * b2n s.mem.key.isSome + 512 * b2n s.scrubActive)

/-- MEM.SCRUB_POS. -/
def State.scrubPosView (s : State) : W32 := BitVec.ofNat 32 s.mem.scrubPos

/-- MEM.STACK_STATUS of the selected stack. -/
def State.stackStatus (s : State) : W32 :=
  let x := s.mem.hbm.getD (field (s.reg Reg.memStackSel) 1 0) {}
  BitVec.ofNat 32 ((BitVec.ofInt 8 x.temp).toNat + 256 * b2n x.trained + 512 * b2n x.trainFail + 1024 * b2n x.hot)

end Sys2Proof.Machine
end

