-- ==== Sys2Proof/Machine/Loops.lean ====
section
/-!
DEFINITION. The adaptive loops of chapter 21: supply voltage, droop response, receive equalisation, and the calibration commands.
-/
namespace Sys2Proof.Machine
open Sys2Proof

/-- The state with the loops changed. -/
def State.modAdl (s : State) (f : Adl → Adl) : State := { s with adl := f s.adl }

/-! ### Supply voltage (R511 to R514) -/

/-- VMIN_MV and VMAX_MV as they act (Table 21.3). -/
def State.vddBounds (s : State) : Nat × Nat :=
  let w := s.reg Reg.adlAvsBounds
  (clamp 680 860 (field w 9 0), clamp 680 860 (field w 25 16))

/-- STEP_MV as it acts. -/
def State.avsStepMv (s : State) : Nat := clamp 1 10 (field (s.reg Reg.adlAvsCtrl) 19 16)

/-- BOOST_N as it acts. -/
def State.boostLimit (s : State) : Nat := max 1 (field (s.reg Reg.adlDroopCfg) 15 8)

/-- v of R511. -/
def State.avsMv (s : State) : Nat := field (s.reg Reg.adlAvsVout) 9 0

/-- An AVS_CALIBRATE runs. -/
def State.avsCalibrating (s : State) : Bool := match s.adl.calib with
  | some c => !c.serdes
  | none => false

/-- The loop is stepping: from PLL lock on, but for the time that a warm reset takes, and until P4 is prepared (R511, R514). -/
def State.avsRuns (s : State) : Bool := s.lcs.phase != .reset && !s.lcs.warm && decide (s.pwr.state ≤ 3)

/-- The least slack over the monitors of powered blocks: two in each cell group, in group order, and all others of powered blocks (R511). -/
def State.leastSlack (s : State) (x : Slacks) : Int :=
  ((x.comb.zipIdx.filter fun p => bitOf s.pwr.cellOn (p.2 / 2)).map (·.1)).foldl min x.others

/-- A droop boost is due: more episodes in the period than BOOST_N (R511). -/
def State.boostDue (s : State) : Bool := decide (s.boostLimit < s.adl.boosts)

/-- The most by which a period raises v. -/
def State.avsRise (s : State) : Nat := if s.boostDue then 2 * s.avsStepMv else s.avsStepMv

/-- The target that a period's least slack asks for, before the bounds: a droop boost, a step up, a step down but while a calibration runs,
or none (R511, R519). -/
def State.avsWanted (s : State) (slack : Int) : Int :=
  let v : Int := s.avsMv
  let step : Int := s.avsStepMv
  let target : Int := field (s.reg Reg.adlAvsSlack) 7 0
  let hyst : Int := field (s.reg Reg.adlAvsSlack) 15 8
  if s.boostDue then v + 2 * step
  else if slack < target then v + step
  else if target + hyst < slack ∧ s.avsCalibrating = false then v - step
  else v

/-- The target held to its bounds; a point that a write has left outside comes back by at most a step, or two on a boost (R510, R511). -/
def State.avsTarget (s : State) (slack : Int) : Nat :=
  let want := s.avsWanted slack
  let v : Int := s.avsMv
  let step : Int := s.avsStepMv
  let lo : Int := s.vddBounds.1
  let hi : Int := s.vddBounds.2
  let x :=
    if hi < v then max lo (min want (max hi (v - step)))
    else if v < lo then min hi (max want (min lo (v + s.avsRise)))
    else max lo (min hi want)
  x.toNat

/-- Ten periods with negative slack at VMAX_MV raise a DEGRADE-class alarm (R512). -/
def State.avsBelow (s : State) (slack : Int) : State :=
  if slack < 0 ∧ s.vddBounds.2 ≤ s.avsMv then
    let n := s.adl.below + 1
    let s := s.modAdl fun a => { a with below := n }
    if n = 10 then s.degradeBare else s
  else s.modAdl fun a => { a with below := 0 }

/-- A voltage write fails three times: the loop holds (R513). -/
def State.avsFails (s : State) : State :=
  if s.adl.hold then s
  else
    let s := ((s.modAdl fun a => { a with hold := true }).raise Reg.adlEvent 1).count Reg.adlAvsFails
    (s.logEvent 0x0301 0 s.avsMv).degradeBare

/-- AVS_STEP: a period of the loop with the slacks it read; `answered` says whether the regulator took the write within its two
retries. While it holds, the last value is written again (R511 to R513). -/
def execAvsStep (slacks : Slacks) (answered : Bool) (s : State) : Answer :=
  answer s <|
    if s.avsRuns = false then s
    else if s.adl.hold then
      (s.emit (.avs s.avsMv)).modAdl fun a => { a with hold := !answered, boosts := 0 }
    else
      let slack := s.leastSlack slacks
      let boosted := s.boostDue && decide (s.avsMv < s.avsTarget slack)
      let up := decide ((s.avsMv : Int) < s.avsWanted slack)
      let s := s.setReg Reg.adlAvsMinSlack (BitVec.ofNat 32 (BitVec.ofInt 16 slack).toNat)
      let s := if boosted then s.raise Reg.adlEvent 4 else s
      let s := if up && decide (s.avsMv = s.vddBounds.2) then s.raise Reg.adlEvent 2 else s
      let s := (s.avsBelow slack).setReg Reg.adlAvsVout (BitVec.ofNat 32 (s.avsTarget slack))
      let s := (s.modAdl fun a => { a with boosts := 0 }).emit (.avs s.avsMv)
      if answered then s else s.avsFails

/-! ### Droop response (R515) -/

/-- DROOP_EPISODE_BEGIN: CLK_LINE and CLK_COMB stretch, and the episode counts. -/
def execDroopEpisodeBegin (s : State) : Answer :=
  answer s <|
    if s.adl.stretched = true ∨ s.lcs.phase = .reset then s
    else (s.modAdl fun a => { a with stretched := true, boosts := a.boosts + 1 }).count Reg.adlDroopCount

/-- DROOP_EPISODE_END: the clocks return to their own dividers. -/
def execDroopEpisodeEnd (s : State) : Answer := answer s (s.modAdl fun a => { a with stretched := false })

/-! ### Receive equalisation (R516, R517) -/

/-- The state with a lane changed. -/
def State.modLane (s : State) (n : Nat) (f : Lane → Lane) : State := s.modAdl fun a => { a with lanes := a.lanes.modify n f }

/-- The lane has power: its port group's, or the trunk's. -/
def State.lanePowered (s : State) (n : Nat) : Bool :=
  if n < 32 then s.groupPowered (n / 4) else decide (s.pwr.state ≤ 1) && s.pwr.trunkOn

/-- A tap of a lane. -/
def Lane.tap (x : Lane) (k : Nat) : Int := Sparse.get (fun _ => 0) x.taps k

/-- One step of one code on one parameter: 0 is CTLE, k + 1 is DFE tap k. It stays within its bounds, and comes back toward them from
outside (R510, R516). -/
def Lane.step (x : Lane) (param : Nat) (up : Bool) : Lane :=
  if param = 0 then
    let want := if up then x.ctle + 1 else x.ctle - 1
    { x with ctle :=
        if x.ctle < x.ctleMin then x.ctle + 1 else if x.ctleMax < x.ctle then x.ctle - 1 else clamp x.ctleMin x.ctleMax want }
  else
    let k := param - 1
    let v := x.tap k
    let lim : Int := x.dfeLimit
    let want := if up then v + 1 else v - 1
    let next := if v < -lim then v + 1 else if lim < v then v - 1 else max (-lim) (min lim want)
    { x with taps := Sparse.set (fun _ => 0) x.taps k next }

/-- The parameter of a lane that a write of its bounds has left outside them, if any (R510). -/
def Lane.stray (x : Lane) : Option Nat :=
  if x.ctle < x.ctleMin ∨ x.ctleMax < x.ctle then some 0
  else (x.taps.find? fun (p : Nat × Int) => decide (x.dfeLimit < p.2.natAbs)).map fun p => p.1 + 1

/-- A lane's step of a millisecond: the parameter that lies outside its bounds, otherwise the one that widens the eye; a frozen lane holds its
values (R510, R516). -/
def Lane.adapt (x : Lane) (move : Option (Nat × Bool)) : Lane :=
  if x.freeze then x
  else match x.stray, move with
    | some k, _ => x.step k true
    | none, some m => x.step m.1 m.2
    | none, none => x

/-- A lane's eye is measured: a fall below EYE_MIN is recorded (R517). -/
def State.eyeMeasured (s : State) (n eye : Nat) : State := match s.adl.lanes[n]? with
  | none => s
  | some x =>
    let low := decide (eye < field (s.reg Reg.adlEyeMin) 15 0)
    let s := s.modLane n fun x => { x with eye := eye, low := low }
    if low && !x.low then (s.raise Reg.adlEvent 8).logEvent 0x0302 n eye else s

/-- SERDES_ADAPT_STEP: `move` is the parameter and direction that widen the eye, if any (R516). -/
def execSerdesAdaptStep (lane : Nat) (move : Option (Nat × Bool)) (eye : Nat) (s : State) : Answer :=
  answer s <|
    if s.regsOpen && s.lanePowered lane then (s.modLane lane fun x => x.adapt move).eyeMeasured lane eye else s

/-- The lanes that a port of a mode uses (R315). -/
def portLanes (mode p : Nat) : List Nat :=
  if mode = 1 then [0, 1, 2, 3] else if mode = 2 then [2 * p, 2 * p + 1] else if within mode 3 6 then [p] else []

/-- The first of the lane numbers of a TARGET (R517). -/
def laneBase (target : Nat) : Nat := if target < 8 then 4 * target else 32 + 2 * (target - 8)

/-- A lane starts its adaptation from what link-up leaves, which the spec does not give: a CTLE code and taps within its bounds (R516). -/
def State.freshLanes (s : State) (target : Nat) (lanes : List Nat) : State :=
  lanes.foldl (fun s l =>
    let a := s.freeNat
    let b := a.2.freeNat
    b.2.modLane (laneBase target + l) fun x => { x with
      ctle := clamp x.ctleMin x.ctleMax a.1, taps := Sparse.set (fun _ => 0) [] 0 (min x.dfeLimit b.1 : Nat) }) s

/-- LINK_UP: PCS, FEC and fault conditions hold on a port, or on a trunk link (group 8 TKE, 9 TKW) (R318, R407). -/
def execLinkUp (group port : Nat) (remoteFault : Bool) (s : State) : Answer :=
  answer s <|
    if s.regsOpen = false then s
    else if group < 8 then
      let g := s.group group
      if decide (port < modePorts g.mode) && !g.applying && s.groupPowered group then
        (s.freshLanes group (portLanes g.mode port)).modPort group port fun x => { x with
          link := true, pcsLock := true, fecLock := g.usesFec, anDone := g.media == 1, trained := g.media == 1
          localFault := false, remoteFault := remoteFault }
      else s
    else if group < 10 ∧ s.trk.on = true ∧ s.pwr.trunkOn = true then
      if (s.trkLink (group == 9)).up then s else (s.freshLanes group [0, 1]).modLink (group == 9) fun l => { l with up := true }
    else s

/-! ### Calibration (R518 to R520) -/

/-- The lanes of a TARGET that LANES may name: those of the group's mode, or two of a trunk port; none where it has no power or its mode
no port (R520). -/
def State.targetLanes (s : State) (target : Nat) : Nat :=
  if target < 8 then (if s.groupPowered target ∧ 0 < modePorts (s.group target).mode then 15 else 0)
  else if target < 10 ∧ s.pwr.state ≤ 1 ∧ s.pwr.trunkOn = true ∧ s.trk.on = true then 3 else 0

/-- It is an entry's turn to calibrate: none runs and no earlier calibration waits (R520). -/
def State.calibTurn (s : State) (t : Track) : Bool :=
  s.adl.calib.isNone && s.tracker.all fun p => match p.2 with
    | some x => !within x.entry.opcode 0x0D20 0x0D21 || decide (t.order ≤ x.order) || x.phase == .held
    | none => true

/-- Checks that both share. -/
def calibFields (t : Track) (zero : Bool) : List (Option (Nat × Nat)) :=
  [chk zero St.badParam 0, chk (t.entry.msgLen == 0 && t.entry.keySlot == noSlot) St.badParam 0x41]

/-- AVS_CALIBRATE. -/
def execAvsCalibrate (slot : Nat) (s : State) : Answer :=
  answer s <| s.onEntry slot 0xD20 0xD20 fun t =>
    s.checked slot (calibFields t (t.entry.zeroFrom 40 55) ++ [t.dmaFail, t.entry.outHolds 8])
      (if s.calibTurn t then (s.busy slot).modAdl fun a => { a with calib := some { slot := slot, serdes := false } } else s)

/-- The offset of a monitor. -/
def Adl.offset (a : Adl) (n : Nat) : Int := Sparse.get (fun _ => 0) a.offsets n

/-- The change of largest magnitude that a calibration makes to an offset; the first of equals. -/
def Adl.largestChange (a : Adl) (l : List (Nat × Int)) : Int :=
  l.foldl (fun best p => let d := p.2 - a.offset p.1; if best.natAbs < d.natAbs then d else best) 0

/-- AVS_CALIBRATION_END: the monitors calibrated, with the offsets that the replica delay line gives them (R519). -/
def execAvsCalibrationEnd (monitors : List Nat) (offsets : List Int) (s : State) : Answer :=
  answer s <| match s.adl.calib with
  | some c =>
    if c.serdes then s
    else
      let results := monitors.zip offsets
      let largest := s.adl.largestChange results
      (s.modAdl fun a => { a with
        calib := none, offsets := results.foldl (fun m p => Sparse.set (fun _ => 0) m p.1 p.2) a.offsets }).complete c.slot St.ok 0
        (toLE 2 results.length ++ toLE 2 (BitVec.ofInt 16 largest).toNat ++ zeros 4)
  | none => s

/-- A restart takes the ports of the named lanes, or the trunk link, down (R519). -/
def State.restartLanes (s : State) (target lanes : Nat) : State :=
  if target < 8 then
    let mode := (s.group target).mode
    (List.range (modePorts mode)).foldl (fun s p =>
      if (portLanes mode p).any (bitOf lanes ·) then
        (s.linkFalls target p).modPort target p fun x => { maxFrame := x.maxFrame }
      else s) s
  else s.trunkFalls (target == 9)

/-- SERDES_RECAL. -/
def execSerdesRecal (slot : Nat) (s : State) : Answer :=
  answer s <| s.onEntry slot 0xD21 0xD21 fun t =>
    let e := t.entry
    let lanes := e.p8 41
    let may := s.targetLanes (e.p8 40)
    s.checked slot (calibFields t (e.zeroFrom 43 55) ++
        [chk (decide (e.p8 42 ≤ 1)) St.badParam 0x40, chk (lanes != 0 && lanes &&& may == lanes) St.badParam 0x9A, t.dmaFail, e.outHolds 16])
      (if s.calibTurn t then
        let s := (s.busy slot).modAdl fun a => { a with
          calib := some { slot := slot, serdes := true, target := e.p8 40, lanes := lanes, restart := e.p8 42 == 1 } }
        if e.p8 42 = 1 then s.restartLanes (e.p8 40) lanes else s
      else s)

/-- The links of a calibration's target that its lanes carry are up. -/
def State.targetUp (s : State) (c : Calib) : Bool :=
  if c.target < 8 then
    let mode := (s.group c.target).mode
    (List.range (modePorts mode)).all fun p => !((portLanes mode p).any (bitOf c.lanes ·)) || s.linkIsUp c.target p
  else (s.trkLink (c.target == 9)).up

/-- What a recalibration arrives at, within the lane's bounds; a frozen lane holds its values (R516, R519). -/
def Lane.settle (x : Lane) (ctle : Nat) (tap : Int) : Lane :=
  if x.freeze then x
  else { x with
    ctle := clamp x.ctleMin x.ctleMax ctle, taps := Sparse.set (fun _ => 0) x.taps 0 (max (-(x.dfeLimit : Int)) (min x.dfeLimit tap)) }

/-- SERDES_RECAL_END: what the named lanes arrived at, lane by lane: CTLE code, first DFE tap, eye height. A restart ends only once its link is
up again (Table 21.1). -/
def execSerdesRecalEnd (results : List (Nat × Int × Nat)) (s : State) : Answer :=
  answer s <| match s.adl.calib with
  | some c =>
    if c.serdes = false ∨ (c.restart = true ∧ s.targetUp c = false) then s
    else
      let base := laneBase c.target
      let s := (List.range 4).foldl (fun s l => match results[l]? with
        | some (ctle, tap, eye) =>
          if bitOf c.lanes l then
            (s.modLane (base + l) fun x => x.settle ctle tap).eyeMeasured (base + l) eye
          else s
        | none => s) s
      let eye (l : Nat) : Nat := if c.target < 8 ∨ l < 2 then (s.adl.lanes.getD (base + l) {}).eye else 0
      (s.modAdl fun a => { a with calib := none }).complete c.slot St.ok 0
        (((List.range 4).map fun l => toLE 2 (eye l)).flatten ++ zeros 8)
  | none => s

/-! ### Registers (Table 21.3) -/

/-- The lane that LANE_SEL selects. -/
def State.selLane (s : State) : Nat := field (s.reg Reg.adlLaneSel) 5 0

/-- A write of AVS_BOUNDS: refused when VMIN_MV is above VMAX_MV (R510). -/
def State.avsBoundsWrite (s : State) (v : W32) : State :=
  if field v 25 16 < field v 9 0 then s.modAdl fun a => { a with cfgErr := true }
  else (s.plainWrite Reg.adlAvsBounds v).modAdl fun a => { a with cfgErr := false }

/-- A write of LANE_CFG for the selected lane: refused when CTLE_MIN is above CTLE_MAX (R510). -/
def State.laneCfgWrite (s : State) (v : W32) : State :=
  if field v 7 4 < field v 3 0 then s.modAdl fun a => { a with cfgErr := true }
  else (s.modLane s.selLane fun x => { x with
    ctleMin := field v 3 0, ctleMax := field v 7 4, dfeLimit := field v 13 8, freeze := flag v 16 }).modAdl fun a => { a with cfgErr := false }

/-- ADL.STATUS. -/
def State.adlStatus (s : State) : W32 :=
  BitVec.ofNat 32 (b2n (s.avsRuns && !s.adl.hold) + 2 * b2n s.adl.hold + 4 * b2n s.adl.calib.isSome + 8 * b2n s.adl.cfgErr)

/-- LANE_CFG of the selected lane; 0 above 35. -/
def State.laneCfgView (s : State) : W32 := match s.adl.lanes[s.selLane]? with
  | some x => BitVec.ofNat 32 (x.ctleMin + 16 * x.ctleMax + 256 * x.dfeLimit + 65536 * b2n x.freeze)
  | none => 0

/-- LANE_STATUS of the selected lane. -/
def State.laneStatusView (s : State) : W32 := match s.adl.lanes[s.selLane]? with
  | some x => BitVec.ofNat 32 (x.ctle % 16 + 256 * ((x.tap 0).natAbs % 64) + 65536 * (x.eye % 65536))
  | none => 0

end Sys2Proof.Machine
end

