-- ==== Sys2Proof/Machine/Images.lean ====
section
/-!
DEFINITION. Images: their format and the checks of R58, the layout body (R76, R77), and the microcode loader with its patches
(R125 to R130).
-/
namespace Sys2Proof.Machine
open Sys2Proof

/-! ### Image format (Table 2.5) -/

/-- TYPE. -/
def imgType (b : Bytes) : Nat := leAt b 4 2
/-- IMAGE_VER. -/
def imgVer (b : Bytes) : Nat := leAt b 8 4
/-- SVN. -/
def imgSvn (b : Bytes) : Nat := leAt b 12 4
/-- BODY_LEN. -/
def imgBodyLen (b : Bytes) : Nat := leAt b 16 4
/-- SIGNER. -/
def imgSigner (b : Bytes) : Nat := natAt b 20
/-- The span that the signature covers and that a measurement takes: header, public key and body (R56, Table 2.8). -/
def imgSpan (b : Bytes) : Bytes := b.take (2656 + imgBodyLen b)

/-- SHA-384, by its code of Table 5.3. -/
def sha384 (b : Bytes) : Bytes := stdOut 48 .hash 2 [b]

/-- The header is one that the table allows: MAGIC, HDR_VER, STEP, lengths, SIGNER, ENC, LAYOUT and reserved bytes (check 1 of R58). -/
def imgHeaderOk (b : Bytes) : Bool :=
  let t := imgType b
  b.take 4 == ascii "GENY" && within t 1 4 && leAt b 6 2 == 1 && natAt b 23 == 0x11 && imgBodyLen b % 16 == 0 &&
    b.length == 2656 + imgBodyLen b + 4627 && decide (imgSvn b < 64) && (imgSigner b == 0 || (imgSigner b == 1 && t == 2)) &&
    (natAt b 21 == 1 || (natAt b 21 == 0 && t == 1)) && (t == 2 || natAt b 22 == 0) && allZero (slice b 52 12)

/-- The hash that the signer's public key must have (R56): none for an owner image outside OWNED. -/
def State.signerHash (s : State) (signer : Nat) : Option Bytes :=
  if signer = 0 then some s.lcs.otp.vendorKeyHash
  else if s.lcs.state = LcState.owned then s.lcs.otp.ownerRecord.map (·.imageKeyHash)
  else none

/-- The minimum SVN of a TYPE in OTP (R59). -/
def State.svnMin (s : State) (t : Nat) : Nat := if t = 1 then s.lcs.otp.svnFw else if t = 2 then s.lcs.otp.svnLayout else s.lcs.otp.svnMcode

/-- The image key (R57). -/
def State.imageKey (s : State) (b : Bytes) : Option Bytes :=
  (if imgSigner b = 0 then some s.lcs.otp.vendorImageSecret else s.ownerRoot).map fun k =>
    kmac256 32 k (toLE 2 (imgType b) ++ toLE 4 (imgVer b)) "GY-IMG"

/-- Checks 1 to 5 of R58 on an image of a TYPE: the code of Table 2.6 of the first that fails. -/
def State.imageFail (s : State) (t : Nat) (b : Bytes) : Option Nat :=
  let body := slice b 2656 (imgBodyLen b)
  if imgHeaderOk b = false ∨ imgType b ≠ t then some 3
  else if s.signerHash (imgSigner b) ≠ some (sha384 (slice b 64 2592)) then some 3
  else if mldsaHolds 2 (slice b 64 2592) (b.drop (2656 + imgBodyLen b)) "" (imgSpan b) = false then some 4
  else if imgSvn b < s.svnMin t then some 5
  else if natAt b 21 = 0 then none
  else match s.imageKey b with
    | some k => if Config.stdHolds .aesGcmTag 16 [k, slice b 24 12, b.take 24, body, slice b 36 16] then none else some 6
    | none => some 6

/-- The body of an accepted image, deciphered. -/
def State.imageBody (s : State) (b : Bytes) : Bytes :=
  let body := slice b 2656 (imgBodyLen b)
  if natAt b 21 = 0 then body
  else stdOut body.length .aesGcmDec 16 [(s.imageKey b).getD [], slice b 24 12, b.take 24, body]

/-! ### The layout body (R76, R77) -/

/-- KIND, FIRST_CELL, MASK_CH and the reserved byte of each engine. -/
def layoutEngines (b : Bytes) : List (Nat × Nat × Nat × Nat) :=
  (List.range (natAt b 2)).map fun i => (natAt b (64 + 4 * i), natAt b (65 + 4 * i), natAt b (66 + 4 * i), natAt b (67 + 4 * i))

/-- Partition sizes in MiB, in the order SA, JRN, SPILL, OWN. -/
def layoutParts (b : Bytes) : List Nat := [leAt b 8 4, leAt b 12 4, leAt b 16 4, leAt b 20 4]

/-- The partitions meet Table 19.1 and R475. -/
def partsOk (l : List Nat) : Bool := match l with
  | [sa, jrn, spill, own] =>
    l.all (· % 16 == 0) && within sa 256 8192 && within jrn 32 65552 && decide (1024 ≤ spill) && decide (4096 ≤ own) &&
      decide (l.sum ≤ 98304)
  | _ => false

/-- The loader accepts a layout body (R77). -/
def layoutOk (b : Bytes) : Bool :=
  let n := natAt b 2
  let mask := leAt b 0 2
  let es := layoutEngines b
  let cells (e : Nat × Nat × Nat × Nat) : List Nat := (List.range (kindCells e.1)).map (e.2.1 + ·)
  decide (n ≤ 96) && b.length == roundUp (64 + 4 * n) 16 && allZero (b.drop (64 + 4 * n)) && decide (mask < 4096) &&
    decide (natAt b 3 < 2) && allZero (slice b 4 4) && allZero (slice b 24 40) && partsOk (layoutParts b) &&
    es.all (fun e => decide (e.1 ≤ 3) && decide (e.2.2.1 ≤ 3) && e.2.2.2 == 0 && e.2.1 % kindCells e.1 == 0 &&
      decide (e.2.1 + kindCells e.1 ≤ 192) && bitOf mask (e.2.1 / 16)) &&
    allDistinct (es.map cells).flatten

/-! ### The shipped layouts (R79) -/

/-- n engines of a kind side by side from a cell on: their kinds and first cells. -/
def engineRun (kind first n : Nat) : List (Nat × Nat) := (List.range n).map fun i => (kind, first + kindCells kind * i)

/-- KIND and FIRST_CELL of each engine of a shipped layout (Table 3.5). -/
def shippedCells (layout : Nat) : List (Nat × Nat) :=
  if layout = 0 then engineRun 0 0 24 ++ engineRun 1 96 12 ++ engineRun 2 128 4 ++ engineRun 3 120 1 ++ engineRun 3 160 4
  else if layout = 1 then engineRun 0 0 36 ++ engineRun 1 144 12 ++ engineRun 3 168 1 ++ engineRun 3 176 2
  else engineRun 0 0 12 ++ engineRun 1 48 8 ++ engineRun 2 64 2 ++ engineRun 3 80 2

/-- MASK_CH of engine i: its position within its group modulo 4 (R79). -/
def shippedMaskCh (es : List (Nat × Nat)) (i : Nat) : Nat :=
  let group (j : Nat) : Nat := (es.getD j (0, 0)).2 / 16
  ((List.range i).filter fun j => group j == group i).length % 4

/-- The body of a shipped layout image, but for its partition sizes, which the release states. -/
def shippedBody (layout : Nat) (parts : Bytes) : Bytes :=
  let es := shippedCells layout
  let row (i : Nat) : Bytes :=
    let e := es.getD i (0, 0)
    [BitVec.ofNat 8 e.1, BitVec.ofNat 8 e.2, BitVec.ofNat 8 (shippedMaskCh es i), 0]
  let body := toLE 2 (if layout = 2 then 0x3F else 0xFFF) ++ [BitVec.ofNat 8 es.length, if layout = 2 then 0 else 1] ++ zeros 4 ++
    fit 16 parts ++ zeros 40 ++ (List.range es.length).flatMap row
  fit (roundUp body.length 16) body

/-! ### The microcode loader (R125 to R130) -/

/-- Bytes from `at_` up to the next multiple of 16 after `n` bytes: the padding of a section's part. -/
def padOf (b : Bytes) (at_ n : Nat) : Bytes := slice b (at_ + n) (roundUp n 16 - n)

/-- The stores of section k of a body; none where its descriptor or its parts do not meet Table 4.8. -/
def sectionOf (b : Bytes) (k : Nat) : Option StoreSet :=
  let d := 16 + 16 * k
  let off := leAt b d 4
  let cs := leAt b (d + 4) 2
  let progs := leAt b (d + 6) 2
  let ps := leAt b (d + 8) 2
  let dirAt := off + 4096 + roundUp (4 * cs) 16
  let psAt := dirAt + 16 * progs
  if off % 16 = 0 ∧ 80 ≤ off ∧ within cs 1 16384 = true ∧ progs ≤ 256 ∧ ps ≤ 8192 ∧ allZero (slice b (d + 10) 6) = true ∧
      psAt + roundUp (8 * ps) 16 ≤ b.length ∧ allZero (padOf b (off + 4096) (4 * cs) ++ padOf b psAt (8 * ps)) = true then
    some { entry := slice b off 4096, control := slice b (off + 4096) (4 * cs),
           directory := (List.range progs).map fun i => slice b (dirAt + 16 * i) 16, program := slice b psAt (8 * ps) }
  else none

/-- The headers of the directories of a list of stores, each with its kind, in the order of kinds and of their directories. -/
def servedHeaders (l : List StoreSet) : List (Nat × Bytes) :=
  ((List.range 4).map fun k => (l.getD k {}).directory.map fun h => (k, h)).flatten

/-- The first header whose opcode an earlier header lists: rule 0x0C, with the header's kind and its program's first index. -/
def listedTwice : List (Nat × Bytes) → List Nat → Option LoadRefusal
  | [], _ => none
  | (k, h) :: l, seen =>
    if seen.contains (hdrField h 15 0) then some ⟨0xC, k, hdrField h 29 16⟩ else listedTwice l (hdrField h 15 0 :: seen)

/-- The first refusal of a whole set of master stores. -/
def storesRefusal (mask : Nat) (l : List StoreSet) : Option LoadRefusal :=
  ((List.range 4).findSome? fun k => if bitOf mask k then (l.getD k {}).refusal k else none).or (listedTwice (servedHeaders l) [])

/-- A microcode body: KIND_MASK and the stores it loads, or its refusal (Table 4.8). -/
def loadMicrocode (b : Bytes) : Sum LoadRefusal (Nat × List StoreSet) :=
  let mask := natAt b 2
  if leAt b 0 2 ≠ 1 ∨ 16 ≤ mask ∨ allZero (slice b 3 13) = false then .inl ⟨1, 0, 0⟩
  else
    let secs := (List.range 4).map fun k =>
      if bitOf mask k then sectionOf b k else if allZero (slice b (26 + 16 * k) 6) then some {} else none
    match (List.range 4).find? fun k => (secs.getD k none).isNone with
    | some k => .inl ⟨1, k, 0⟩
    | none =>
      let l := secs.map fun x => x.getD {}
      match storesRefusal mask l with
      | some e => .inl e
      | none => .inr (mask, l)

/-- A string with items written at an index in units of n bytes, filled with zeros up to it. -/
def writeItems (n : Nat) (store : Bytes) (at_ : Nat) (items : Bytes) : Bytes :=
  putAt (if store.length < n * at_ then fit (n * at_) store else store) (n * at_) items

/-- One directory header replaces the header of its OPCODE, or is appended (R129). -/
def putHeader (l : List Bytes) (h : Bytes) : List Bytes :=
  if l.any fun x => hdrField x 15 0 == hdrField h 15 0 then l.map fun x => if hdrField x 15 0 = hdrField h 15 0 then h else x
  else l ++ [h]

/-- A patch record applied to a kind's stores; none where it lies outside its store (rule 0x0E). -/
def StoreSet.patch (x : StoreSet) (rtype at_ count : Nat) (items : Bytes) : Option StoreSet :=
  if rtype = 1 ∧ at_ + count ≤ 16384 then some { x with control := writeItems 4 x.control at_ items }
  else if rtype = 2 ∧ at_ + count ≤ 1024 then some { x with entry := writeItems 4 x.entry at_ items }
  else if rtype = 3 then
    let l := (List.range count).foldl (fun l i => putHeader l (slice items (16 * i) 16)) x.directory
    if l.length ≤ 256 then some { x with directory := l } else none
  else if rtype = 4 ∧ at_ + count ≤ 8192 then some { x with program := writeItems 8 x.program at_ items }
  else none

/-- Bytes of an item of each RTYPE. -/
def itemBytes (rtype : Nat) : Nat := [0, 4, 4, 16, 8].getD rtype 0

/-- The records of a patch, in order, applied to a working copy (R129). -/
def applyRecords (mask : Nat) : Nat → Bytes → List StoreSet → Sum LoadRefusal (List StoreSet)
  | 0, _, l => .inr l
  | n + 1, b, l =>
    let rtype := natAt b 0
    let k := natAt b 1
    let count := leAt b 2 2
    let size := itemBytes rtype * count
    if bitOf mask k = false ∨ 4 ≤ k ∨ b.length < 8 + size then .inl ⟨0xE, k % 4, 0⟩
    else match (l.getD k {}).patch rtype (leAt b 4 4) count (slice b 8 size) with
      | some x => applyRecords mask n (b.drop (roundUp (8 + size) 8)) (l.set k x)
      | none => .inl ⟨0xE, k, leAt b 4 4⟩

/-- A patch body applied to a working copy of the stores, which every rule must then hold of (R129). -/
def applyPatch (base mask : Nat) (l : List StoreSet) (b : Bytes) : Sum LoadRefusal (List StoreSet) :=
  if allZero (slice b 6 10) = false then .inl ⟨1, 0, 0⟩
  else if leAt b 0 4 ≠ base then .inl ⟨0xD, 0, 0⟩
  else match applyRecords mask (leAt b 4 2) (b.drop 16) l with
    | .inl e => .inl e
    | .inr l => match storesRefusal mask l with
      | some e => .inl e
      | none => .inr l

/-- MCS.LOAD_DIAG for a refusal (Table 4.11). -/
def loadDiag (e : LoadRefusal) (patch : Option Nat) : W32 :=
  BitVec.ofNat 32 (e.rule + 32 * b2n patch.isSome + 64 * e.kind + 256 * (e.addr % 16384) + 2 ^ 22 * (patch.getD 0 % 256))

/-- The programs of a set of stores. -/
def programsOf (l : List StoreSet) : List Program :=
  ((List.range 4).map fun k => (l.getD k {}).directory.map ((l.getD k {}).programOf k)).flatten

/-- The master stores in force become `l`, each control-store word with its check bits; a copy goes to every engine of its kind (R113, R114). -/
def State.takeStores (s : State) (mask : Nat) (l : List StoreSet) : State :=
  let l := l.map StoreSet.coded
  { s with comb := { s.comb with
    engines := s.comb.engines.map fun (g : Engine) => { g with stores := l.getD g.kind {} }
    stores := l, kindLoaded := mask, programs := programsOf l, csWords := l.map fun (x : StoreSet) => x.control.length / 4 } }

end Sys2Proof.Machine
end

