-- ==== Sys2Proof/Machine/Boot.lean ====
section
/-!
DEFINITION. Boot: the life-cycle codes and progress marks (R38, R39, R47 to R49), what a cold reset keeps (Table 20.2), the steps of
Table 2.7 (R61 to R66), the pending-evidence latch (R450), battery SRAM (R452), the journal's start (R398), the warm reset (R493) and
recovery (R67).
-/
namespace Sys2Proof.Machine
open Sys2Proof

/-! ### Codes and marks -/

/-- Bitwise majority of three copies (R38). -/
def majority (a b c : W32) : W32 := (a &&& b) ||| (a &&& c) ||| (b &&& c)

/-- The index of a state (Table 2.1). -/
def lcIndex : LcState → Nat
  | .blank => 0
  | .manufacture => 1
  | .provisioned => 2
  | .owned => 3
  | .returned => 4
  | .terminated => 5

/-- The state of an index. -/
def lcOfIndex (n : Nat) : Option LcState :=
  [LcState.blank, .manufacture, .provisioned, .owned, .returned, .terminated][n]?

/-- The code of a state (Table 2.1). -/
def lcCode : LcState → W32
  | .blank => 0x00000000
  | .manufacture => 0x0000FFFF
  | .provisioned => 0x00FFFFFF
  | .owned => 0x0FFFFFFF
  | .returned => 0x3FFFFFFF
  | .terminated => 0xFFFFFFFF

/-- The state of a decoded code; none where it is no code of Table 2.1 (R39). -/
def stateOfCode (w : W32) : Option LcState :=
  [LcState.blank, .manufacture, .provisioned, .owned, .returned, .terminated].find? fun x => lcCode x == w

/-- The decoded code of the three copies. -/
def Otp.code (o : Otp) : W32 := majority o.lc0 o.lc1 o.lc2

/-- The decoded mark entries (R47). -/
def Otp.decoded (o : Otp) : List W32 := o.marks.map fun (m : W32 × W32 × W32) => majority m.1 m.2.1 m.2.2

/-- TARGET of a mark (Table 2.3). -/
def markTarget (w : W32) : Nat := field w 2 0
/-- STEPS. -/
def markSteps (w : W32) : Nat := field w 8 4
/-- DONE. -/
def markDone (w : W32) : Bool := flag w 14

/-- Mark entry i as decoded. -/
def State.mark (s : State) (i : Nat) : W32 := s.lcs.otp.decoded.getD i 0

/-- The state with the OTP store changed. -/
def State.modOtp (s : State) (f : Otp → Otp) : State := { s with lcs := { s.lcs with otp := f s.lcs.otp } }

/-- The state with the life-cycle block changed. -/
def State.modLcs (s : State) (f : Lcs → Lcs) : State := { s with lcs := f s.lcs }

/-- Bits are burnt in all three copies of a mark entry. -/
def State.burnMark (s : State) (i : Nat) (mask : W32) : State :=
  s.modOtp fun o => { o with marks := o.marks.modify i fun (m : W32 × W32 × W32) => (m.1 ||| mask, m.2.1 ||| mask, m.2.2 ||| mask) }

/-- A mark is open: TARGET ≠ 0 and DONE = 0. -/
def markOpen (w : W32) : Bool := markTarget w != 0 && !markDone w

/-- The entries that are open, in entry order (R48). -/
def State.openMarks (s : State) : List Nat := (List.range 8).filter fun i => markOpen (s.mark i)

/-- The first empty entry. One whose TARGET decodes to 0 but whose copies are not blank is passed over (R49). -/
def State.emptyMark (s : State) : Option Nat := s.lcs.otp.marks.findIdx? (· == (0, 0, 0))

/-- LCS.PROGRESS: the latest non-empty entry. -/
def State.progressView (s : State) : W32 := (s.lcs.otp.decoded.reverse.find? fun w => markTarget w != 0).getD 0

/-- LCS.STATE (Table 2.10). -/
def State.lcsStateView (s : State) : W32 :=
  let l := s.lcs
  BitVec.ofNat 32 (lcIndex l.state + 16 * (match l.pending with | some p => lcIndex p | none => 7) + 256 * b2n l.debugEn +
    512 * b2n l.testRoot + 1024 * b2n l.resumed + 2048 * b2n l.decodeInvalid + 4096 * b2n l.xferActive)

/-- LCS.SVN_MIN (Table 2.11). -/
def State.svnMinView (s : State) : W32 :=
  BitVec.ofNat 32 (s.lcs.otp.svnFw % 64 + 2 ^ 8 * (s.lcs.otp.svnLayout % 64) + 2 ^ 16 * (s.lcs.otp.svnMcode % 64))

/-- The life-cycle code is decoded, and the state put in force: debug is open in BLANK, and the test root stands in for the roots in BLANK,
MANUFACTURE and RETURN (R38, R39, R41, Table 2.4). -/
def State.decodeLifeCycle (s : State) : State :=
  let st := stateOfCode s.lcs.otp.code
  let x := st.getD LcState.terminated
  s.modLcs fun l => { l with
    state := x, decodeInvalid := st.isNone, debugEn := x == .blank, testRoot := x == .blank || x == .manufacture || x == .returned }

/-! ### Cold reset (R492, Table 20.2) -/

/-- The device is held in cold reset: by PORST_N, by TESTMODE, by its supply monitor, or for want of main power (R488, R541). -/
def State.held (s : State) : Bool := s.pwr.porstLow || s.pwr.testmode || s.pwr.supplyHold || s.ust.onBattery

/-- The sources after a cold reset: those of the understorey keep their settings in battery SRAM and run on (R451). -/
def keptSources (l : List Source) : List Source := sourcesReset.take 6 ++ ((l.drop 6).take 8 ++ sourcesReset.drop 14)

/-- What a cold reset leaves: the Reset column, with the understorey, battery SRAM, OTP, flash and the board's levels kept. The bank that
IMAGE_ACTIVATE named becomes active (R60). -/
def State.cold (s : State) (cause : W32) : State :=
  let regs := s.regs.filter fun (r : Nat × W32) => pageOf r.1 == 4
  let p := s.pwr
  let t : State := { State.reset with
    pending := s.pending, out := s.out, freeUsed := s.freeUsed, regs := regs
    lcs := { otp := s.lcs.otp, flash := { s.lcs.flash with activeB := s.lcs.nextActiveB }, nextActiveB := s.lcs.nextActiveB,
             retryDue := s.lcs.retryDue }
    kst := { bvr := s.kst.bvr, bvrState := s.kst.bvrState }
    ust := s.ust
    tem := { sources := keptSources s.tem.sources, tallies := s.tem.tallies }
    evj := { anchor := s.evj.anchor, anchorErased := s.evj.anchorErased }
    pwr := { porstLow := p.porstLow, testmode := p.testmode, supplyHold := p.supplyHold, perstLow := p.perstLow, refOk := p.refOk, straps := p.straps } }
  t.setReg Reg.pwrResetCause cause

/-- A cold reset for a cause; one that comes while the device is held already leaves the cause as it was. -/
def State.coldReset (s : State) (cause : W32) : State :=
  if s.lcs.phase = .reset then s else s.cold cause

/-! ### Steps 1 to 3 -/

/-- Flash and OTP as boot finds them: flash that was written outside the device, and the factory's content while OTP holds none. -/
def State.takeBoard (s : State) (b : Board) : State :=
  let s := { s with pwr := { s.pwr with straps := b.straps } }
  let s := match b.flash with
    | some f => s.modLcs fun l => { l with flash := f, nextActiveB := f.activeB }
    | none => s
  match b.factory with
  | some x =>
    if s.lcs.otp.vendorKeyHash = [] then s.modOtp fun o => { o with
      serial := x.serial, vendorKeyHash := x.vendorKeyHash, vendorImageSecret := x.vendorImageSecret } else s
  | none => s

/-- Battery SRAM as its check values give it (R452): where every check fails, log and latch start empty, BVR and anchor are LOST, and the
settings of sources 6 to 13 and TMP_CFG return to their reset values; else BVR and anchor each stand by their own check. -/
def State.checkBattery (s : State) (b : Board) : State :=
  let lostBvr (s : State) : State := { s with kst := { s.kst with bvr := [], bvrState := .lost } }
  let anchorState (a : Option Anchor) (erased ok : Bool) : Nat :=
    if ok = false ∧ (a.isSome ∨ b.sram = false) then 1 else if a.isSome then 0 else if erased then 2 else 3
  let s := { s with evj := { s.evj with anchorState := anchorState s.evj.anchor s.evj.anchorErased (b.sram && b.anchor) } }
  if b.sram then
    let s := { s with ust := { s.ust with sramLost := false } }
    if b.bvr = false ∧ s.kst.bvrState = .valid then lostBvr s else s
  else
    let u := s.ust
    let s := (lostBvr s).setReg Reg.ustTmpCfg 0
    { s with
      ust := { u with log := [], logNext := 0, logTotal := 0, latch := List.replicate 8 0, latchZeroise := false, sramLost := true }
      tem := { s.tem with sources := sourcesReset } }

/-- The compact time of a battery entry (R450). -/
def BattEntry.time (e : BattEntry) : W64 := BitVec.ofNat 64 (e.seconds % 2 ^ 34 * 2 ^ 30 + e.sub * 10 ^ 9 / 32768)

/-- A PENDING entry as the error log takes it (Table 22.7). -/
def BattEntry.toLog (e : BattEntry) : LogEntry :=
  { time := e.time, code := 0x0502, object := e.source,
    detail := (e.words.getD 2 0).toNat + 2 ^ 32 * (e.words.getD 3 0).toNat }

/-- The pending-evidence latch at boot (R450). -/
def State.handleLatch (s : State) : State :=
  let u := s.ust
  let burn (g n : Nat) : Nat := min 1024 (n + u.latch.getD g 0)
  let pending := u.ordered.filterMap fun (e : Nat × Option BattEntry) => match e.2 with
    | some x => if x.pending then some x else none
    | none => none
  let clear (e : Nat × Option BattEntry) : Nat × Option BattEntry := (e.1, e.2.map fun (x : BattEntry) => { x with pending := false })
  let s := pending.foldl (fun (s : State) e => s.logAt e.toLog) s
  { s with
    tem := { s.tem with tallies := s.tem.tallies.mapIdx burn }
    ust := { u with
      latchSeen := u.latch, latchSeenZeroise := u.latchZeroise, latch := List.replicate 8 0, latchZeroise := false, log := u.log.map clear } }

/-- The journal starts from its anchor (R398). -/
def State.startJournal (s : State) : State :=
  let e := s.evj
  let a := e.anchor.getD {}
  if e.anchorState = 0 then
    let first := roundUp (a.takenEnd + 2 ^ 17) (2 ^ 16)
    s.modEvj fun e => { e with
      on := true, chain := a.takenChain, nextSeq := first, endSeq := first, prevEnd := first, nextCp := a.takenNum + 1, bootCp := true
      anchorLost := false, lastDigest := a.commitDigest }
  else
    let first := s.ust.rtcSec * 2 ^ 32
    s.modEvj fun e => { e with
      on := true, chain := sha3_256 (ascii "GY-JRN0" ++ s.serialBytes), nextSeq := first, endSeq := first, prevEnd := first, nextCp := 0
      bootCp := true, anchorLost := true, lastDigest := zeros 32 }

/-- Step 3 of Table 2.7: the life-cycle code, serial, evidence latch, MRG0, the time of day and the journal's start. -/
def State.bootRom (s : State) : State :=
  let s := s.decodeLifeCycle
  let o := s.lcs.otp
  let n := o.serial.toNat
  let s := (s.setReg Reg.gctlSerialLo (BitVec.ofNat 32 n)).setReg Reg.gctlSerialHi (BitVec.ofNat 32 (n / 2 ^ 32))
  let s := s.handleLatch
  let codes := toLE 4 o.code.toNat ++ toLE 4 o.lc0.toNat ++ toLE 4 o.lc1.toNat ++ toLE 4 o.lc2.toNat
  let s := (s.mrgUpdate 0 (sha384 (Config.std .bootRom 0 []))).mrgUpdate 0 (sha384 codes)
  (s.modTod fun t => { t with sec := s.ust.rtcSec, ns := 0, sub := 0 }).startJournal

/-! ### Images at boot (R61, R62) -/

/-- A bank. -/
def flashBank (f : Flash) (b : Bool) : FlashBank := if b then f.bankB else f.bankA

/-- A bank's image of a TYPE. -/
def bankImage (b : FlashBank) (t : Nat) : Bytes := if t = 1 then b.fw else if t = 2 then b.layout else b.mcode

/-- All checks of R58 on an image of TYPE 1 to 3, the loader's included. -/
def State.imageResult (s : State) (t : Nat) (b : Bytes) : Option Nat :=
  (s.imageFail t b).or
    (if t = 2 then (if layoutOk (s.imageBody b) then none else some 7)
     else if t = 3 then (match loadMicrocode (s.imageBody b) with | .inl _ => some 7 | .inr _ => none)
     else none)

/-- The result code of a TYPE and the image loaded: from the active bank, else from the other (R61). -/
def State.pickImage (s : State) (t : Nat) : Nat × Option Bytes :=
  let f := s.lcs.flash
  let a := bankImage (flashBank f f.activeB) t
  let b := bankImage (flashBank f !f.activeB) t
  match s.imageResult t a with
  | none => (1, some a)
  | some code => if (s.imageResult t b).isNone then (2, some b) else (code, none)

/-- A field of BOOT_STATUS. -/
def State.bootResult (s : State) (lo code : Nat) : State := s.modReg Reg.lcsBootStatus fun w => setField w (lo + 3) lo code

/-- The SVN of an image loaded at this boot is noted (R59). -/
def State.noteSvn (s : State) (t n : Nat) : State :=
  s.modLcs fun l => { l with loadedSvn :=
    if t = 1 then (n, l.loadedSvn.2) else if t = 2 then (l.loadedSvn.1, n, l.loadedSvn.2.2) else (l.loadedSvn.1, l.loadedSvn.2.1, n) }

/-- Step 6: where an entry is open, earlier open entries are closed and the transition of the last is resumed at its first step whose bit is 0
(R48); a move to RETURN whose confirmation failed in the boot before starts again at step 2 (R44). Otherwise boot waits for steps 7 and 8. DESIGN
CHOICE (log entry 81): that a retry is due is remembered from the failure until step 2 has been done again; the bytes that go into MRG6 are the 4 of
the decoded entry, little-endian, taken after earlier entries are closed and before any step. -/
def State.resume (s : State) : State := match s.openMarks.getLast? with
  | none => s.modLcs fun l => { l with phase := .waiting }
  | some i =>
    let s := (s.openMarks.filter (· != i)).foldl (fun s j => s.burnMark j 0x4000) s
    let w := s.mark i
    let target := (lcOfIndex (markTarget w)).getD LcState.terminated
    let next := ((List.range 5).find? fun n => !bitOf (markSteps w) n).getD 5
    let step := if target = .returned ∧ s.lcs.retryDue = true then 1 else next
    (s.mrgUpdate 6 (sha384 (toLE 4 w.toNat))).modLcs fun l => { l with
      phase := .resuming, resumed := true, xferActive := true, xferSlot := none, xferTarget := target, xferMark := i, xferStep := step }

/-- Firmware is running: MRG1, MRG2 and FW_VERSION, and boot continues at step 6. -/
def State.startFirmware (s : State) (b : Bytes) : State :=
  let f := s.lcs.flash
  let s := (s.mrgUpdate 1 (sha384 (imgSpan b))).mrgUpdate 2 (sha384 f.directory)
  ((s.setReg Reg.gctlFwVersion (BitVec.ofNat 32 (imgVer b))).noteSvn 1 (imgSvn b)).resume

/-- Step 5: the firmware image is loaded; where both banks fail, the boot ROM enters recovery, which TERMINATED does not open (R61, R67). -/
def State.loadFirmware (s : State) : State :=
  let r := s.pickImage 1
  let s := (s.modReg Reg.lcsBootStatus fun w => setField w 25 25 (b2n s.lcs.flash.activeB)).bootResult 0 r.1
  match r.2 with
  | some b => s.startFirmware b
  | none =>
    if s.lcs.state = .terminated then s.modLcs fun l => { l with phase := .stopped }
    else (s.raise Reg.lcsBootStatus 0x1000000).modLcs fun l => { l with phase := .rom }

/-! ### Steps 7 to 12 -/

/-- Roots whose copies all fail put the device in TERMINATED (R45). -/
def State.rootsOk (s : State) : Bool := match s.lcs.state with
  | .provisioned => s.duk.isSome
  | .owned => s.duk.isSome && s.ownerSeed.isSome
  | _ => true

/-- Step 7: the memory key is drawn from instance 1, the floor of entropy takes force, and the device slots are filled. -/
def State.bootKeys (s : State) : State :=
  let d := s.draw 1 64
  let s := (d.2.modMem fun m => { m with key := some d.1 }).armEntropy
  let s := if s.rootsOk then s else s.modLcs fun l => { l with state := .terminated, debugEn := false, testRoot := false }
  s.fillDevices bootSlots

/-- RING_CAP: records that the journal partition holds (R401, Table 19.1). -/
def ringCapacity (jrnMiB : Nat) : Nat := min (2 ^ 30) ((jrnMiB - 16) * 2 ^ 20 / 64)

/-- The engines of a layout body. -/
def layoutComb (body : Bytes) : List Engine :=
  (layoutEngines body).map fun (e : Nat × Nat × Nat × Nat) => { kind := e.1, firstCell := e.2.1, maskCh := e.2.2.1 }

/-- Step 9: the layout is loaded, the Comb composed, partitions set and cell groups powered (R77, R475). -/
def State.loadLayout (s : State) : State :=
  let r := s.pickImage 2
  let s := s.bootResult 4 r.1
  match r.2 with
  | none => s
  | some b =>
    let body := s.imageBody b
    let mask := leAt body 0 2
    let put (s : State) (k : Nat × Nat) : State := s.setReg k.1 (BitVec.ofNat 32 k.2)
    let parts := [Reg.memPartSa, Reg.memPartJrn, Reg.memPartSpill, Reg.memPartOwn].zip (layoutParts body)
    let s := parts.foldl put s
    let s := (s.setReg Reg.gctlLayoutId (BitVec.ofNat 32 (natAt b 22 + 2 ^ 16 * (imgVer b % 2 ^ 16)))).setReg Reg.evjRingCap
      (BitVec.ofNat 32 (ringCapacity (leAt body 12 4)))
    let s := { s with
      comb := { s.comb with groupMask := mask, engines := layoutComb body, dgeSlotEn := natAt body 3 == 1 }
      pwr := { s.pwr with cellOn := mask } }
    (s.noteSvn 2 (imgSvn b)).mrgUpdate 3 (sha384 (imgSpan b))

/-- The worse of two results among patches (Table 2.11). -/
def worsePatch (a b : Nat) : Nat := max a b

/-- A patch that is not loaded: its result, and the loader's refusal if it is the first of this boot. -/
def State.patchFails (s : State) (code : Nat) (diag : Option W32) : State :=
  let s := s.modReg Reg.lcsBootStatus fun w => setField w 15 12 (worsePatch (field w 15 12) code)
  match diag with
  | some d => if s.reg Reg.mcsLoadDiag = 0 then s.setReg Reg.mcsLoadDiag d else s
  | none => s

/-- One patch of the active bank, number i: skipped where it fails, else applied (R62, R129). DESIGN CHOICE (log entry 81): PATCH_COUNT saturates
at 255. -/
def State.loadPatch (s : State) (base i : Nat) (b : Bytes) : State := match s.imageFail 4 b with
  | some code => s.patchFails code none
  | none => match applyPatch base s.comb.kindLoaded s.comb.stores (s.imageBody b) with
    | .inl e => s.patchFails 7 (some (loadDiag e (some i)))
    | .inr l =>
      let s := (s.takeStores s.comb.kindLoaded l).patchFails 1 none
      (s.modReg Reg.lcsBootStatus fun w => setField w 23 16 (satAdd 255 (field w 23 16) 1)).mrgUpdate 5 (sha384 (imgSpan b))

/-- The patches of a list from number i on. -/
def loadPatches (base : Nat) : Nat → List Bytes → State → State
  | _, [], s => s
  | i, b :: l, s => loadPatches base (i + 1) l (s.loadPatch base i b)

/-- The loader's refusal of a microcode image, if it was the loader that refused it. -/
def State.microcodeDiag (s : State) (b : Bytes) : Option W32 :=
  if (s.imageFail 3 b).isSome then none
  else match loadMicrocode (s.imageBody b) with
    | .inl e => some (loadDiag e none)
    | .inr _ => none

/-- No layout is in force: what R61 gives a microcode image that fails in both banks too (log entry 58). -/
def State.dropLayout (s : State) : State :=
  let clear (s : State) (k : Nat) : State := s.setReg k 0
  let s := [Reg.memPartSa, Reg.memPartJrn, Reg.memPartSpill, Reg.memPartOwn, Reg.evjRingCap].foldl clear (s.setReg Reg.gctlLayoutId 0xFF)
  { s with
    comb := { s.comb with groupMask := 0, engines := [], dgeSlotEn := false }
    pwr := { s.pwr with cellOn := 0 } }

/-- Step 10: microcode and patches are loaded into every control store (R61, R62). LOAD_DIAG begins anew with the loader's first refusal of a
bank that was tried. -/
def State.loadMcode (s : State) : State :=
  let f := s.lcs.flash
  let r := s.pickImage 3
  let first := s.microcodeDiag (bankImage (flashBank f f.activeB) 3)
  let other := if r.1 = 1 then none else s.microcodeDiag (bankImage (flashBank f !f.activeB) 3)
  let s := (s.bootResult 8 r.1).setReg Reg.mcsLoadDiag ((first.or other).getD 0)
  match r.2 with
  | none => s.dropLayout
  | some b => match loadMicrocode (s.imageBody b) with
    | .inl _ => s
    | .inr p =>
      let s := (s.takeStores p.1 p.2).setReg Reg.mcsImageVer (BitVec.ofNat 32 (imgVer b))
      let s := (s.noteSvn 3 (imgSvn b)).mrgUpdate 4 (sha384 (imgSpan b))
      loadPatches (imgVer b) 0 (flashBank f f.activeB).patches s

/-- Step 11: known-answer tests of the lowest-numbered engine of each kind present and of every cipher pipeline begin (R65). -/
def State.beginKat (s : State) : State :=
  let engines := (List.range 4).filterMap fun k => s.comb.engines.findIdx? fun (e : Engine) => e.kind == k
  s.modLcs fun l => { l with phase := .testing, katEngines := engines, katPipes := List.range 16 }

/-- Step 12: BOOT_DONE, and what signing the journal awaits goes on (R493). -/
def State.bootDone (s : State) : State := (s.modLcs fun l => { l with phase := .done, warm := false }).advance

/-- The BOOT record (R398), for which a block of sequence numbers is reserved. -/
def State.firstRecord (s : State) : State :=
  s.reserveJrn.bootRecord (if s.evj.anchorState = 0 then s.evj.lastDigest.take 24 else zeros 24)

/-- Boot stops: no pair passed its start-up test, or a stack failed training twice (R193, R482). -/
def State.bootStops (s : State) : Bool :=
  (!s.rng.ready && s.rng.count == 0 && s.rng.pairs.all (·.starting.isNone)) || s.mem.hbm.any (·.trainFail)

/-- Boot goes on from steps 7 and 8 once start-up gating has ended and every stack is trained: to the end of step 10 and the tests. A warm
reset loads nothing again (R493). -/
def State.continueBoot (s : State) : State :=
  if s.lcs.phase = .waiting ∧ s.bootStops = true then s.modLcs fun l => { l with phase := .stopped }
  else if s.lcs.phase = .waiting ∧ s.rng.ready = true ∧ s.hbmTrained = true then
    if s.lcs.warm then s.beginKat
    else
      let s := s.bootKeys.loadLayout.loadMcode.firstRecord
      (s.mrgUpdate 7 (sha384 (toLE 4 (s.reg Reg.lcsBootStatus).toNat))).beginKat
  else s

/-- Boot begins, when nothing holds the device in reset: steps 1 to 6 of Table 2.7, with the start-up tests running alongside;
the first AVSBus transaction sets 0.80 V (R511). -/
def State.boot (s : State) (b : Board) : State :=
  if s.held ∨ s.lcs.phase ≠ .reset then s
  else ((((((s.takeBoard b).emit (.avs 800)).checkBattery b).bootRom).startEntropy .cold).loadFirmware)

/-! ### The warm reset (R493) -/

/-- A register keeps its value at a warm reset: an ROS register or a row that says so, the pages of ADL, UST, TEM, TRK and ERC, the
identity registers, the results of boot, the sizes in force and the PWR settings. -/
def keptAtWarm (key : Nat) : Bool :=
  let page := pageOf key
  page == 3 || page == 4 || page == 5 || (decide (0x480000 ≤ key) && decide (key < 0x500000)) ||
    (decide (0x700000 ≤ key) && decide (key < 0x800000)) ||
    [Reg.gctlSerialLo, Reg.gctlSerialHi, Reg.gctlFwVersion, Reg.gctlLayoutId, Reg.lcsBootStatus, Reg.mcsImageVer, Reg.memPartSa, Reg.memPartJrn,
      Reg.memPartSpill, Reg.memPartOwn, Reg.evjRingCap, Reg.pwrCfg, Reg.pwrThermCfg, Reg.pwrTj, Reg.pwrEventEn].contains key ||
    (match regRow key with | some r => r.kept | none => false)

/-- The device's own Comb jobs end without result: checkpoints wait for signature again, answers to neighbours are dropped (R493). -/
def State.dropOwnJobs (s : State) : State :=
  let again (c : CpEntry) : CpEntry := if c.stage = .signing then { c with stage := .waiting } else c
  let s := s.modEvj fun e => { e with cps := e.cps.map again }
  let idle (l : TrkLink) : TrkLink := { l with handshake := false, helloSeed := [] }
  (s.modLink false idle).modLink true idle

/-- An engine after a reset: free, no fence, its counts at zero, its memories clear, its stores loaded again from the master copies (R15, R103, R110,
R113). -/
def Engine.fresh (stores : List StoreSet) (e : Engine) : Engine :=
  { kind := e.kind, firstCell := e.firstCell, maskCh := e.maskCh, stores := stores.getD e.kind {} }

/-- A warm reset. -/
def State.warmReset (s : State) : State :=
  let s := s.resetAllFunctions.dropOwnJobs
  let c := s.comb
  let regs := s.regs.filter fun (r : Nat × W32) => keptAtWarm r.1
  let l := s.line
  let s := { s with
    regs := regs
    comb := { c with ops := [], engines := c.engines.map (Engine.fresh c.stores), testing := none, testPassed := false, testQueue := []
                     testRuns := [], fenceWait := [], nextTest := 0, gridSteps := 3, gridPending := false }
    line := { l with groups := List.replicate 8 {}, flights := [], tc := [], lka := [], fenced := 0, latch := []
                     wide := l.wide.filter fun (x : Nat × W64) => decide (0x200000 ≤ x.1 / 4) }
    dge := { s.dge with cmds := [], cvuOwned := [], cvuWait := [] }
    phw := { offset := s.phw.offset, gain := s.phw.gain }
    tsu := {}
    crd := { present := false }
    pwr := { s.pwr with state := 0, cellOn := c.groupMask, portOn := 0xFF, trunkOn := true, change := none, warmHeld := false
                        thermLimit := false, thermBelow := 0 }
    mem := { s.mem with selfRefresh := false, scrubPos := 0 } }
  let s := (s.count Reg.pwrWarmCount).raise Reg.pwrResetCause 8
  (s.startEntropy .warm).modLcs fun l => { l with phase := .waiting, warm := true, katEngines := [], katPipes := [] }

/-- A warm reset that had to wait begins once no transition and no power change is under way (R493). -/
def State.releaseWarm (s : State) : State :=
  if s.pwr.warmHeld ∧ s.lcs.xferActive = false ∧ s.pwr.change.isNone then s.warmReset else s

/-- WARM: a write of PWR.RESET_CTRL (R493). -/
def execWarm (value : W32) (s : State) : Answer :=
  answer s <| s.regWrite Reg.pwrResetCtrl <|
    if flag value 0 = true ∧ s.lcs.phase = .done ∧ s.pwr.state < 4 then ({ s with pwr := { s.pwr with warmHeld := true } }).releaseWarm else s

/-! ### Recovery (R67) -/

/-- The ROM waits for an image. -/
def State.inRecovery (s : State) : Bool := s.lcs.phase == .rom

/-- LCS.RECOVERY_CTRL with the bits of its register. -/
def State.recoveryCtrlView (s : State) : W32 := (s.reg Reg.lcsRecoveryCtrl &&& 4) ||| (if s.lcs.recoveryBusy then 8 else 0)

/-- RECOVERY_START. A write of RECOVERY_CTRL also clears ERROR where it writes 1 to it. DESIGN CHOICE (log entry 81): START is ignored whenever
the ROM does not wait for an image, also after it has left recovery while BOOT_STATUS.RECOVERY still reads 1. -/
def State.recoveryStart (s : State) : State :=
  let n := (s.reg Reg.lcsRecoveryLen).toNat
  if s.inRecovery = false then s
  else if n = 0 ∨ 8396800 < n then
    (s.raise Reg.lcsRecoveryCtrl 4).modLcs fun l => { l with recoveryBusy := false, recovery := [], recoveryWords := 0 }
  else s.modLcs fun l => { l with recoveryBusy := true, recovery := [], recoveryLen := n, recoveryWords := 0 }

/-- The load ends: the complete image is checked and run, or ERROR is set and the ROM waits again. -/
def State.recoveryDone (s : State) : State :=
  if s.inRecovery = false ∨ s.lcs.recoveryBusy = false then s
  else
    let l := s.lcs
    let image := l.recovery.take l.recoveryLen
    let s := s.modLcs fun l => { l with recoveryBusy := false, recovery := [], recoveryWords := 0 }
    if l.recoveryWords = (l.recoveryLen + 3) / 4 ∧ s.imageFail 1 image = none then (s.startFirmware image).continueBoot
    else s.raise Reg.lcsRecoveryCtrl 4

/-- A write of LCS.RECOVERY_CTRL: ERROR is cleared where a 1 is written, then START and DONE act. -/
def State.recoveryCtrlWrite (s : State) (v : W32) : State :=
  let s := s.modReg Reg.lcsRecoveryCtrl (clearBits · (v &&& 4))
  let s := if flag v 0 then s.recoveryStart else s
  if flag v 1 then s.recoveryDone else s

/-- RECOVERY_START (R67). -/
def execRecoveryStart (value : W32) (s : State) : Answer :=
  answer s (s.regWrite Reg.lcsRecoveryCtrl (s.recoveryCtrlWrite (setBits value 1)))

/-- RECOVERY_DATA_WRITE: a word joins the image; words beyond its end are discarded and the load will be rejected. -/
def execRecoveryDataWrite (value : W32) (s : State) : Answer :=
  answer s <| s.regWrite Reg.lcsRecoveryData <|
    if s.inRecovery && s.lcs.recoveryBusy then
      s.modLcs fun l => { l with
        recovery := if l.recoveryWords < (l.recoveryLen + 3) / 4 then l.recovery ++ toLE 4 value.toNat else l.recovery
        recoveryWords := l.recoveryWords + 1 }
    else s

/-- RECOVERY_DONE (R67). -/
def execRecoveryDone (value : W32) (s : State) : Answer :=
  answer s (s.regWrite Reg.lcsRecoveryCtrl (s.recoveryCtrlWrite (setBits value 2)))

end Sys2Proof.Machine
end

