-- ==== Sys2Proof/Machine/Digest.lean ====
section
/-!
DEFINITION. The meanings of the digest and check-value commands (chapter 9): 0x0600 to 0x0605, MRG_CTRL.LOCK, and the writes
of a CVU's CTRL, DATA8 and DATA32.
-/
namespace Sys2Proof.Machine
open Sys2Proof

/-! ### Admission (R246 to R248) -/

/-- The output length of an ALG code; 0 where it comes from OUT_BYTES or the code is none of Table 9.2. -/
def algLen (alg : Nat) : Nat := [0, 32, 48, 64, 32, 48, 64].getD alg 0

/-- The block of an ALG code (Table 9.1). -/
def algBlock (alg : Nat) : Nat := [0, 64, 128, 128, 136, 104, 72, 168, 136].getD alg 1

/-- TARGET. -/
def WorkEntry.target (e : WorkEntry) : Nat := e.p8 41
/-- OUT_BYTES or TAG_LEN. -/
def WorkEntry.outBytes (e : WorkEntry) : Nat := e.pLE 44 4
/-- DEST_SLOT of TARGET 2. -/
def WorkEntry.digestDest (e : WorkEntry) : Option Nat := if e.target = 2 then some (e.pLE 48 4) else none

/-- A TARGET that the function may use (Table 9.3). -/
def targetOk (f target : Nat) (slots : Bool) : Bool := target == 0 || (target == 1 && f == 0) || (target == 2 && slots)

/-- The length of a tag: TAG_LEN, or the full output for 0 (R240). -/
def tagLen (alg n : Nat) : Nat := if n = 0 then algLen alg else n

/-- An ALG code of HMAC with a TAG_LEN in range (R240). -/
def hmacOk (alg n : Nat) : Bool := within alg 1 6 && (n == 0 || within n 16 (algLen alg))

/-- The checks on a measurement register that TARGET 1 or MRG_EXTEND names, and on the result's length (R245). -/
def mrgChecks (extend : Bool) (m len : Nat) : List (Option (Nat × Nat)) :=
  [chk (!extend || within m 8 29 || m == 31) St.badParam 0x81, chk (!extend || len == 48) St.badParam 0x82]

/-- The result's length fits the destination's kind (R246). -/
def destFits (kind len : Nat) : Bool :=
  (kind == 1 && len == 16) || (kind == 2 && len == 32) || (kind == 3 && within len 16 255)

/-- The checks on a destination slot (R217, R246). -/
def State.digestDest (s : State) (f len : Nat) (d : Option Nat) : List (Option (Nat × Nat)) := match d with
  | some n => s.destKey f n (fun k => destFits k len)
  | none => []

/-- The slot path is open (R246). -/
def State.slotPath (s : State) (target : Nat) : Option (Nat × Nat) :=
  chk (target != 2 || s.comb.dgeSlotEn) St.engineUnavailable 4

/-- KEY_SLOT of a keyed command, and DEST_SLOT where TARGET is 2, name slots (step 4 of Table 5.7). -/
def WorkEntry.keyedSlots (e : WorkEntry) : List (Option (Nat × Nat)) := [e.aSlot, ssIsSlot e.digestDest]

/-- A command enters the DGE: its destination is claimed, and a free lane takes it or it waits (R234, R246). -/
def State.digestStart (s : State) (slot : Nat) (t : Track) (dest : Option Nat) (k : KeySlot) : State :=
  let s := match dest with
    | some n => s.claim n
    | none => s
  (s.busy slot).modDge fun d => Dge.fill { d with cmds := d.cmds ++ [
    { slot := slot, order := t.order, key := k.content, test := k.test, dest := dest }] }

/-- Raw block mode is open to the host (R239). -/
def State.rawOpen (s : State) : Bool := s.lcs.state == .manufacture || s.lcs.state == .returned

/-- The output length of HASH. -/
def hashLen (e : WorkEntry) : Nat := if within (e.p8 40) 7 8 then e.outBytes else algLen (e.p8 40)

/-- HASH (R237 to R239, R243 to R248). -/
def execHash (slot : Nat) (s : State) : Answer :=
  answer s <| s.onEntry slot 0x600 0x600 fun t =>
    let e := t.entry
    let alg := e.p8 40
    let raw := bitOf (e.p8 42) 0
    let len := hashLen e
    s.checked slot ([
      chk (decide (e.p8 42 ≤ 1) && e.zeroFrom 48 55) St.badParam 0,
      chk (!raw || s.rawOpen) St.lcsForbids 1,
      chk (within alg 1 8 && targetOk t.func e.target false && (!raw || e.target == 0) &&
        (if within alg 7 8 then within e.outBytes 1 65536 else e.outBytes == 0)) St.badParam 0x40] ++
      mrgChecks (e.target == 1) (e.p8 43) len ++ [
      e.noKey, t.dmaFail, chk (!raw || e.msgLen % algBlock alg == 0) St.badLength 0x80,
      e.outHolds (if e.target = 0 then len else 0)])
      (s.digestStart slot t none {})

/-- HMAC (R240, R243 to R248). -/
def execHmac (slot : Nat) (s : State) : Answer :=
  answer s <| s.onEntry slot 0x601 0x601 fun t =>
    let e := t.entry
    let len := tagLen (e.p8 40) e.outBytes
    s.checked slot ([
      chk (e.zeroFrom 42 42 && e.zeroFrom 52 55) St.badParam 0, s.slotPath e.target,
      chk (hmacOk (e.p8 40) e.outBytes && targetOk t.func e.target true) St.badParam 0x40] ++
      mrgChecks (e.target == 1) (e.p8 43) len ++ e.keyedSlots ++
      s.sourceKey t.func e.keySlot Usage.hmac noDevice (· == 3) ++ s.digestDest t.func len e.digestDest ++ [
      t.dmaFail, e.outHolds (if e.target = 0 then len else 0)])
      (s.readSlots slot [e.keySlot] (s.digestStart slot t e.digestDest (s.slot e.keySlot)))

/-- HMAC_VERIFY (R241, R247, R248). -/
def execHmacVerify (slot : Nat) (s : State) : Answer :=
  answer s <| s.onEntry slot 0x602 0x602 fun t =>
    let e := t.entry
    s.checked slot ([
      chk (e.zeroFrom 41 43 && e.zeroFrom 48 55) St.badParam 0, chk (hmacOk (e.p8 40) e.outBytes) St.badParam 0x40,
      e.aSlot] ++ s.sourceKey t.func e.keySlot Usage.hmac noDevice (· == 3) ++ [
      t.dmaFail, e.lenAtLeast (tagLen (e.p8 40) e.outBytes)])
      (s.readSlots slot [e.keySlot] (s.digestStart slot t none (s.slot e.keySlot)))

/-- KMAC (R242 to R248). -/
def execKmac (slot : Nat) (s : State) : Answer :=
  answer s <| s.onEntry slot 0x603 0x603 fun t =>
    let e := t.entry
    let len := e.outBytes
    s.checked slot ([
      chk (e.p8 42 == 0 || e.p8 42 == 2) St.badParam 0, chk (e.zeroFrom 53 55) St.badParam 0, s.slotPath e.target,
      chk (within (e.p8 40) 0xA 0xB && targetOk t.func e.target true && within len 1 65536) St.badParam 0x40] ++
      mrgChecks (e.target == 1) (e.p8 43) len ++ e.keyedSlots ++
      s.sourceKey t.func e.keySlot Usage.kmac noDevice (· == 3) ++ s.digestDest t.func len e.digestDest ++ [
      t.dmaFail, e.lenAtLeast (e.p8 52), e.outHolds (if e.target = 0 then len else 0)])
      (s.readSlots slot [e.keySlot] (s.digestStart slot t e.digestDest (s.slot e.keySlot)))

/-- MRG_EXTEND (R244, R245, R247, R248). -/
def execMrgExtend (slot : Nat) (s : State) : Answer :=
  answer s <| s.onEntry slot 0x604 0x604 fun t =>
    let e := t.entry
    s.checked slot ([chk (e.zeroFrom 40 42 && e.zeroFrom 44 55) St.badParam 0] ++ mrgChecks true (e.p8 43) 48 ++
      [e.noKey, t.dmaFail, e.lenIs 48])
      (s.digestStart slot t none {})

/-- CVU_RUN: the command holds its unit, or waits for the CVU_RUN that holds it (R247, R248, R254). -/
def execCvuRun (slot : Nat) (s : State) : Answer :=
  answer s <| s.onEntry slot 0x605 0x605 fun t =>
    let e := t.entry
    let n := e.p8 40
    s.checked slot [
      chk (decide (e.p8 41 < 4) && e.zeroFrom 42 43 && e.zeroFrom 52 55) St.badParam 0, chk (decide (n < 8)) St.badParam 0x40,
      e.noKey, t.dmaFail, e.outHolds 8]
      (let s := s.busy slot
       if (s.cvuOwner n).isSome then s.modDge fun d => { d with cvuWait := d.cvuWait ++ [(n, slot)] }
       else s.cvuTake n slot)

/-! ### Commit (R240 to R246, R249, R250, R253, R254) -/

/-- The result of a 0x0600 to 0x0603 command over its input stream: for HASH the digest, in raw block mode the first bytes of
the final state (R239); for HMAC the leftmost TAG_LEN bytes (R240); for KMAC its output,
whose length is an input of the function unless XOF is set (R242). -/
def digestResult (e : WorkEntry) (key input : Bytes) : Bytes :=
  let alg := e.p8 40
  if e.opcode = 0x600 then stdOut (hashLen e) .hash (alg + if bitOf (e.p8 42) 0 then 0x100 else 0) [input]
  else if e.opcode = 0x603 then
    let bits := if alg = 0xA then 128 else 256
    if bitOf (e.p8 42) 1 then stdOut e.outBytes .kmac bits [key, input.drop (e.p8 52), input.take (e.p8 52)]
    else kmacOf bits e.outBytes key (input.drop (e.p8 52)) (input.take (e.p8 52))
  else
    let n := tagLen alg e.outBytes
    (stdOut (algLen alg) .hmac alg [key, if e.opcode = 0x602 then input.drop n else input]).take n

/-- The commit step of a DGE command that its lane has finished. -/
def State.digestCommit (s : State) (c : DgeCmd) (t : Track) : State :=
  let e := t.entry
  let r := digestResult e c.key t.input
  if e.opcode = 0x604 then (s.mrgExtend (e.p8 43) t.input).complete c.slot St.ok 0 []
  else if e.opcode = 0x602 then
    if r = t.input.take r.length then s.complete c.slot St.ok 0 [] else s.fail c.slot (St.verifyFail, 0x80)
  else match c.dest with
    | some n =>
      let s := if (s.slot n).kind = 3 then s.commitSecret n r c.test else s.commitKey n r [] 1 c.test
      s.complete c.slot St.ok 0 []
    | none =>
      if e.target = 1 then (s.mrgExtend (e.p8 43) r).complete c.slot St.ok 0 []
      else s.complete c.slot St.ok 0 r

/-- The end of a CVU_RUN on unit n. -/
def State.cvuFinish (s : State) (n slot : Nat) (t : Track) : State :=
  let e := t.entry
  let check := bitOf (e.p8 41) 1
  let s := s.cvuAbsorb n t.input
  let s := s.cvuSet n Reg.cvuExpectLo (e.pLE 44 8)
  let s := if check then s.cvuCompare n else s
  let out := toLE 8 (s.cvuResult n)
  let bad := check && s.cvuResult n != s.cvuGet n Reg.cvuExpectLo
  let s := s.cvuLeave n
  if bad then s.fail slot (St.verifyFail, 0x83) else s.complete slot St.ok 0 out

/-- DIGEST_COMMIT: the lane or unit of a command, or of a KEY_DERIVE that waited for a lane, has finished its stream; `sound` is false when the lane's integrity check
failed (R249). -/
def execDigestCommit (slot : Nat) (sound : Bool) (s : State) : Answer :=
  answer s <| match s.track slot with
  | none => s
  | some t => match s.dge.cmds.find? fun c => c.slot == slot && c.lane.isSome, s.dge.cvuOwned.find? fun o => o.2 == slot with
    | some c, _ =>
      let s := s.dgeLeave slot
      if sound then
        if c.internal then match c.dest with
          | some n => (s.releaseDest c.dest).enterKey slot t n c.key [] 1 c.test
          | none => s
        else s.digestCommit c t
      else (((s.releaseDest c.dest).raise Reg.dgeErrStatus 1).fail slot (St.faultDetected, 0x84)).degrade
        St.faultDetected 0x84 0xFFFF t.entry.tag
    | none, some o => s.cvuFinish o.1 slot t
    | none, none => s

/-! ### Register writes with an effect -/

/-- MRG_LOCK: a 1 written to MRG_CTRL.LOCK fixes MRG_ALG (R244). -/
def execMrgLock (value : W32) (s : State) : Answer := answer s (s.regWrite Reg.dgeMrgCtrl (s.plainWrite Reg.dgeMrgCtrl value))

/-- A register write to a unit that a CVU_RUN holds is discarded, and WRITE_LOST set (R254). -/
def State.cvuGuard (s : State) (n : Nat) (k : State) : State :=
  if 8 ≤ n then s else if (s.cvuOwner n).isSome then s.raise (cvuReg n Reg.cvuStatus) 8 else k

/-- A write of a unit's CTRL: its settings, then START, then CHECK (R252, R253). -/
def State.cvuCtrlWrite (s : State) (n : Nat) (v : W32) : State :=
  s.cvuGuard n <|
    let s := s.setReg (cvuReg n Reg.cvuCtrl) (v &&& 0x1FF)
    let s := if flag v 9 then s.cvuInit n else s
    if flag v 10 then s.cvuCompare n else s

/-- CVU_START (R252). -/
def execCvuStart (unit : Nat) (value : W32) (s : State) : Answer := answer s (s.regWrite Reg.cvuCtrl (s.cvuCtrlWrite unit (value ||| 0x200)))

/-- CVU_CHECK (R253). -/
def execCvuCheck (unit : Nat) (value : W32) (s : State) : Answer := answer s (s.regWrite Reg.cvuCtrl (s.cvuCtrlWrite unit (value ||| 0x400)))

/-- CVU_DATA8_WRITE (R252, R254). -/
def execCvuData8Write (unit : Nat) (value : W32) (s : State) : Answer :=
  answer s (s.regWrite Reg.cvuCtrl (s.cvuGuard unit (s.cvuAbsorb unit (toLE 1 value.toNat))))

/-- CVU_DATA32_WRITE: four bytes, bits [7:0] first (R252, R254). -/
def execCvuData32Write (unit : Nat) (value : W32) (s : State) : Answer :=
  answer s (s.regWrite Reg.cvuCtrl (s.cvuGuard unit (s.cvuAbsorb unit (toLE 4 value.toNat))))

end Sys2Proof.Machine
end

