-- ==== Sys2Proof/Machine/LifeCycle.lean ====
section
/-!
DEFINITION. Life-cycle transitions step by step (R42 to R51), the LCS challenge and debug unlock (R52 to R55), staging and activating images
and raising the minimum SVN (R59, R60), and the commands 0x0Cxx (R69, R70).
-/
namespace Sys2Proof.Machine
open Sys2Proof

/-! ### The steps of Table 2.2 -/

/-- One step of a transition. -/
inductive XferStep where
  | clearVendor | genDuk | confirmDuk | burnRecord | burnSeedA | burnSeedB | stopWork | erase | confirmErase | burnSeeds | burnRoots | writeCode
  deriving DecidableEq, Repr

/-- The steps of the move to a state. -/
def xferSteps : LcState → List XferStep
  | .blank => []
  | .manufacture => [.writeCode]
  | .provisioned => [.clearVendor, .genDuk, .confirmDuk, .writeCode]
  | .owned => [.burnRecord, .burnSeedA, .burnSeedB, .writeCode]
  | .returned => [.stopWork, .erase, .confirmErase, .burnSeeds, .writeCode]
  | .terminated => [.stopWork, .erase, .burnRoots, .writeCode]

/-- A root copy burnt to all ones, its check value too. -/
def onesCopy : Option RootCopy := some ⟨List.replicate 32 0xFF, List.replicate 4 0xFF⟩

/-- The next life-cycle code copy is written; its bits are set on top of those already burnt. -/
def Otp.writeCopy (o : Otp) (code : W32) : Otp :=
  if o.lc0 ≠ o.lc0 ||| code then { o with lc0 := o.lc0 ||| code }
  else if o.lc1 ≠ o.lc1 ||| code then { o with lc1 := o.lc1 ||| code }
  else { o with lc2 := o.lc2 ||| code }

/-- Every copy carries a code. -/
def Otp.codeWritten (o : Otp) (code : W32) : Bool := o.lc0 ||| code == o.lc0 && o.lc1 ||| code == o.lc1 && o.lc2 ||| code == o.lc2

/-- The erasure of volatile secrets (R43), complete when the step ends: every operand memory and register of the Comb is clear, and what the
encrypted partitions of HBM hold is unreadable. The journal partition is not encrypted and stays readable (Table 19.1). -/
def State.eraseSecrets (s : State) : State :=
  let s := s.dropOwnJobs
  let bvr : BvrState := if s.kst.bvrState = BvrState.none then BvrState.none else BvrState.erased
  let s := { s with
    comb := { s.comb with ops := [], engines := s.comb.engines.map Engine.wiped }
    kst := { s.kst with slots := [], bvr := [], bvrState := bvr }
    line := { s.line with sas := [], txAn := [], cached := [] }
    mem := { s.mem with key := none }
    evj := { s.evj with anchor := none, anchorErased := true }
    trk := { s.trk with partner := {} } }
  (List.range s.comb.engines.length).foldl State.engineFree s

/-- LINE_EN is cleared and all work aborted. -/
def State.stopWork (s : State) : State :=
  (s.modReg Reg.gctlCtrl (clearBits · 1)).abortWhere (fun _ => true) St.aborted 0

/-- The transition's entry completes, if it still holds its slot. -/
def State.xferEnds (s : State) (status : Nat) : State :=
  let slot := s.lcs.xferSlot
  let s := s.modLcs fun l => { l with xferActive := false, xferSlot := none, xferRecord := none, xferSeed := [] }
  match slot with
  | some n => s.complete n status 0 []
  | none => s

/-- A resumed transition has ended: the code is decoded again, and boot continues in the state that it gives (R48). -/
def State.endResume (s : State) : State :=
  if s.lcs.phase = .resuming then ((s.modLcs fun l => { l with phase := .waiting }).decodeLifeCycle).continueBoot else s

/-- The outstanding challenge lapses (R54). -/
def State.dropChallenge (s : State) : State := s.modLcs fun l => { l with challenge := none, lapsed := l.challenge.toList ++ l.lapsed }

/-- A transition to RETURN or TERMINATED takes effect at its end; in TERMINATED no lane stays out of reset (R40, R46). -/
def State.enterState (s : State) (x : LcState) : State :=
  let s := (s.dropChallenge).modLcs fun l => { l with state := x, debugEn := false, testRoot := l.unlocked || x == .returned }
  if x = .returned then s.fillDevices bootSlots
  else { s.linksFall.emptyDevices with line := { s.line with groups := s.line.groups.map fun (g : Group) => { g with ports := [{}, {}, {}, {}] } } }

/-- The last step of a transition is done (R46). DESIGN CHOICE (log entry 81): an LCS_TRANSITION to RETURN whose third failed confirmation made
it a move to TERMINATED (R44) completes OK when that move ends. -/
def State.xferDone (s : State) : State :=
  let target := s.lcs.xferTarget
  let s := s.burnMark s.lcs.xferMark 0x4000
  if s.lcs.phase = .resuming then (s.xferEnds St.ok).endResume
  else
    let s := if target = .returned ∨ target = .terminated then s.enterState target else s.modLcs fun l => { l with pending := some target }
    (s.xferEnds St.ok).releaseWarm

/-- A step is done: its bit is burnt, and after the last the transition ends. -/
def State.stepDone (s : State) : State :=
  let n := s.lcs.xferStep
  let s := (s.burnMark s.lcs.xferMark (bit32 (4 + n))).modLcs fun l => { l with xferStep := n + 1, retryDue := l.retryDue && n != 1 }
  if (xferSteps s.lcs.xferTarget).length ≤ n + 1 then s.xferDone else s

/-- A transition stops with FAULT_DETECTED and a DEGRADE alarm, its mark still open; boot, if it was resuming, goes on (R44). -/
def State.xferFails (s : State) : State := ((s.xferEnds St.faultDetected).degrade St.faultDetected 0 0xFFFF).endResume.releaseWarm

/-- A confirmation of a move to RETURN failed (R44): an ATTEMPT bit is burnt; the third failure turns it into a move to TERMINATED. -/
def State.confirmFails (s : State) : State :=
  let m := s.lcs.xferMark
  let attempts := field (s.mark m) 13 12
  let again (mask : W32) : State := ((s.burnMark m mask).modLcs fun l => { l with retryDue := true }).xferFails
  if attempts = 0 then again 0x1000
  else if attempts ≠ 3 then again 0x2000
  else match s.emptyMark with
    | some n =>
      ((s.burnMark n 0x35).burnMark m 0x4000).modLcs fun l => { l with xferTarget := .terminated, xferMark := n, xferStep := 2 }
    | none => s.xferFails

/-- Both copies of a root have failed: the device runs as TERMINATED, the mark still open (R45). -/
def State.rootFails (s : State) : State :=
  let tag := match s.lcs.xferSlot with | some n => s.tagOf n | none => 0
  let s := (s.xferEnds St.faultDetected).degrade St.faultDetected 0 0xFFFF tag
  if s.lcs.phase = .resuming then
    (s.modLcs fun l => { l with phase := .waiting, state := .terminated, debugEn := false, testRoot := l.unlocked }).continueBoot
  else (s.enterState .terminated).releaseWarm

/-- Thirty-two bytes of a secret being burnt: those drawn already, or fresh ones from instance 1; none while it does not serve. -/
def State.xferSecret (s : State) : Option (Bytes × State) :=
  if s.lcs.xferSeed ≠ [] then some (s.lcs.xferSeed, s)
  else if s.drbgServes 1 then
    let d := s.draw 1 32
    some (d.1, d.2.modLcs fun l => { l with xferSeed := d.1 })
  else none

/-- The DUK is generated and burnt into copy A, or into copy B if A fails its check (R45, Table 2.2). -/
def State.burnDuk (s : State) (good : Bool) : State :=
  let done (s : State) : State := (s.modLcs fun l => { l with xferSeed := [] }).stepDone
  match s.lcs.otp.dukA with
  | none => match s.xferSecret with
    | some (d, t) =>
      let t := t.modOtp fun o => { o with dukA := some (burntCopy dukLabel d good) }
      if good then done t else t
    | none => s
  | some a =>
    if a.ok dukLabel = true ∨ s.lcs.otp.dukB.isSome = true then done s
    else match s.xferSecret with
      | some (d, t) => done (t.modOtp fun o => { o with dukB := some (burntCopy dukLabel d good) })
      | none => s

/-- The DUK's check value is confirmed; where it fails, the copy in use is out, and copy B is burnt if it never was. -/
def State.confirmDuk (s : State) (good : Bool) : State :=
  if s.duk.isSome ∧ good = true then s.stepDone
  else
    let s := s.modOtp fun o => { o with
      dukA := o.dukA.map (RootCopy.spoilt dukLabel), dukB := o.dukB.map (RootCopy.spoilt dukLabel) }
    if s.lcs.otp.dukB.isNone then s.modLcs fun l => { l with xferStep := 1 } else s.rootFails

/-- Seed copy A is burnt from a fresh seed. -/
def State.burnSeedA (s : State) (good : Bool) : State := match s.lcs.otp.seedA with
  | some _ => s.stepDone
  | none => match s.xferSecret with
    | some (d, t) => (t.modOtp fun o => { o with seedA := some (burntCopy seedLabel d good) }).stepDone
    | none => s

/-- Seed copy B is burnt from the same seed; from a fresh one only where a power loss took the seed and copy A fails its check. -/
def State.burnSeedB (s : State) (good : Bool) : State :=
  let put (d : Bytes) (t : State) : State := (t.modOtp fun o => { o with seedB := some (burntCopy seedLabel d good) }).stepDone
  if s.lcs.otp.seedB.isSome then s.stepDone
  else match s.lcs.xferSeed, s.ownerSeed with
    | [], some d => put d s
    | _, _ => match s.xferSecret with
      | some (d, t) => put d t
      | none => s

/-- The next step of the transition that runs; `good` is the outcome of the check or confirmation in it. -/
def State.runStep (s : State) (good : Bool) : State := match (xferSteps s.lcs.xferTarget)[s.lcs.xferStep]? with
  | none => s.xferDone
  | some .clearVendor => (s.emptySlot 8).stepDone
  | some .genDuk => s.burnDuk good
  | some .confirmDuk => s.confirmDuk good
  | some .burnRecord =>
    (s.modOtp fun o => { o with ownerRecord := if o.ownerRecord.isSome then o.ownerRecord else s.lcs.xferRecord }).stepDone
  | some .burnSeedA => s.burnSeedA good
  | some .burnSeedB => s.burnSeedB good
  | some .stopWork => s.stopWork.stepDone
  | some .erase => s.eraseSecrets.stepDone
  | some .confirmErase => if good then s.stepDone else s.confirmFails
  | some .burnSeeds =>
    let s := s.modOtp fun o => { o with seedA := onesCopy, seedB := onesCopy }
    if good then s.stepDone else s.confirmFails
  | some .burnRoots => (s.modOtp fun o => { o with seedA := onesCopy, seedB := onesCopy, dukA := onesCopy, dukB := onesCopy }).stepDone
  | some .writeCode =>
    let code := lcCode s.lcs.xferTarget
    let s := s.modOtp fun o => o.writeCopy code
    if s.lcs.otp.codeWritten code then s.stepDone else s

/-! ### Authorisation (R42, R52 to R54) -/

/-- A transition is listed in Table 2.2. -/
def xferListed (a b : LcState) : Bool := match a, b with
  | .blank, .manufacture | .manufacture, .provisioned | .provisioned, .owned | .provisioned, .returned | .owned, .returned => true
  | x, .terminated => x != .terminated
  | _, _ => false

/-- What authorises it: a vendor signature; PF0 with an owner record; a RETURN ceremony; PF0 alone. -/
inductive XferAuth where
  | signature | record | ceremony | alone
  deriving DecidableEq, Repr

/-- The authorisation of a listed transition. -/
def xferAuth (a b : LcState) : XferAuth := match a, b with
  | _, .manufacture | _, .provisioned => .signature
  | _, .owned => .record
  | _, .returned | .owned, .terminated => .ceremony
  | _, _ => .alone

/-- A signature over the LCS challenge verifies under the public key of a hash. The command carries no public key, so what holds it is an
uninterpreted function of the hash (R53, log entry 14). -/
def lcsSigOk (keyHash sig challenge : Bytes) : Bool := Config.stdHolds .lcsSignature 2 [keyHash, sig, challenge]

/-- A challenge is consumed: MRG6 is extended by it (Table 2.8). -/
def State.useChallenge (s : State) (c : Bytes) : State := s.dropChallenge.mrgOwn 6 (sha384 c)

/-- Length of the input that a transition takes. -/
def XferAuth.inputLen : XferAuth → Nat
  | .signature => 4627
  | .record => 97
  | _ => 0

/-- Byte 41's policy bit and the reserved bytes of LCS_TRANSITION. -/
def xferParamsOk (e : WorkEntry) : Bool :=
  e.zeroFrom 42 55 && (if e.p8 40 = 3 then decide (e.p8 41 ≤ 1) else e.p8 41 == 0)

/-- The progress mark is written and the transition runs; the owner record of a move to OWNED is burnt with it. -/
def State.beginXfer (s : State) (slot i : Nat) (target : LcState) (record : Option OwnerRecord) : State :=
  let s := ((s.busy slot).burnMark i (BitVec.ofNat 32 (lcIndex target))).modLcs fun l => { l with
    xferActive := true, xferSlot := some slot, xferTarget := target, xferMark := i, xferStep := 0, xferRecord := record, xferSeed := []
    returnAuth := l.returnAuth && !(xferAuth l.state target == .ceremony) }
  if target = .owned then s.runStep true else s

/-- LCS_TRANSITION is admitted: its checks, and its authorisation (R42, R50, R70). -/
def State.admitXfer (s : State) (slot : Nat) (t : Track) : State :=
  let e := t.entry
  let target := (lcOfIndex (e.p8 40)).getD LcState.blank
  let auth := xferAuth s.lcs.state target
  let needsDraw := target = .provisioned || target = .owned
  s.checked slot [
    chk (xferParamsOk e) St.badParam 0, chk (xferListed s.lcs.state target) St.lcsForbids 1,
    chk (s.openMarks.isEmpty && s.emptyMark.isSome) St.lcsForbids 3, chk (auth != .ceremony || s.lcs.returnAuth) St.lcsForbids 2,
    t.dmaFail, chk (e.msgLen == auth.inputLen) St.badLength 0, chk (auth != .record || natAt t.input 96 == 0) St.badParam 0]
    (let i := s.emptyMark.getD 0
     let begin_ (u : State) (r : Option OwnerRecord) : State :=
       if needsDraw then s.entropyStep slot 1 (u.beginXfer slot i target r) else u.beginXfer slot i target r
     match auth with
     | .signature => match s.lcs.challenge with
       | none => s.fail slot (St.verifyFail, 5)
       | some c =>
         if lcsSigOk s.lcs.otp.vendorKeyHash t.input c then begin_ (s.useChallenge c) none
         else if s.lcs.lapsed.any (lcsSigOk s.lcs.otp.vendorKeyHash t.input) then s.fail slot (St.verifyFail, 5)
         else s.dropChallenge.fail slot (St.verifyFail, 0)
     | .record => begin_ s (some ⟨t.input.take 48, slice t.input 48 48, e.p8 41 == 1⟩)
     | _ => begin_ s none)

/-- LCS_TRANSITION: it begins, and while a transition runs each further event of its row is that transition's next step. Another entry that
comes meanwhile is refused (R50). -/
def execLcsTransition (slot : Nat) (good : Bool) (s : State) : Answer :=
  let other : Bool := match s.track slot with
    | some t => (t.phase == .ready || t.phase == .gather) && t.entry.opcode == 0xC01
    | none => false
  answer s <|
    if s.lcs.xferActive = true ∧ other = false then s.runStep good
    else s.onEntry slot 0xC01 0xC01 fun t =>
      if s.lcs.xferActive then s.fail slot (St.lcsForbids, 3) else s.admitXfer slot t

/-! ### Queries, challenge, debug -/

/-- The checks that a command without input or parameters makes: reserved bytes, its state, its input's length. -/
def lcsChecks (t : Track) (zero state : Bool) (ext : Nat) : List (Option (Nat × Nat)) :=
  [chk zero St.badParam 0, chk state St.lcsForbids ext, t.dmaFail, chk (t.entry.msgLen == 0) St.badLength 0]

/-- LCS_QUERY (R69). -/
def execLcsQuery (slot : Nat) (s : State) : Answer :=
  answer s <| s.onEntry slot 0xC00 0xC00 fun t =>
    let o := s.lcs.otp
    let word (w : W32) : Bytes := toLE 4 w.toNat
    s.checked slot (lcsChecks t (t.entry.zeroFrom 40 55) true 1 ++ [t.entry.outHolds 64])
      (s.complete slot St.ok 0 <|
        word s.lcsStateView ++ word o.lc0 ++ word o.lc1 ++ word o.lc2 ++ (o.decoded.map word).flatten ++ word (s.reg Reg.lcsBootStatus) ++
          word s.svnMinView ++ zeros 8)

/-- LCS_CHALLENGE (R54). -/
def execLcsChallenge (slot : Nat) (s : State) : Answer :=
  answer s <| s.onEntry slot 0xC02 0xC02 fun t =>
    let x := s.lcs.state
    s.checked slot (lcsChecks t (t.entry.zeroFrom 40 55) (x == .blank || x == .manufacture || x == .returned) 1 ++ [t.entry.outHolds 64])
      (s.entropyStep slot 1
        (let d := s.draw 1 32
         let c := d.1 ++ s.serialBytes ++ toLE 4 (s.reg Reg.gctlIdent).toNat ++ toLE 4 s.lcsStateView.toNat ++ zeros 16
         (d.2.dropChallenge.modLcs fun l => { l with challenge := some c }).complete slot St.ok 0 c))

/-- CHALLENGE_LAPSE (R54). -/
def execChallengeLapse (s : State) : Answer := answer s s.dropChallenge

/-- RETURN_AUTH_LAPSE (R42). -/
def execReturnAuthLapse (s : State) : Answer := answer s (s.modLcs fun l => { l with returnAuth := false })

/-- The signatures that open debug in a state (Table 2.4); none where it does not open. -/
def debugSigs : LcState → Option Nat
  | .manufacture => some 1
  | .returned => some 2
  | _ => none

/-- The signatures of a DEBUG_UNLOCK verify: the vendor's, and in RETURN also the owner's. -/
def State.debugSigsOk (s : State) (n : Nat) (input c : Bytes) : Bool :=
  lcsSigOk s.lcs.otp.vendorKeyHash (input.take 4627) c &&
    (n == 1 || match s.lcs.otp.ownerRecord with
      | some r => lcsSigOk r.debugKeyHash (input.drop 4627) c
      | none => false)

/-- Debug opens: the five actions of R55. -/
def State.openDebug (s : State) (t : Track) (c : Bytes) : State :=
  let s := (s.modReg Reg.gctlCtrl (clearBits · 1)).abortWhere (fun x => x != t) St.aborted 0
  let s := { s with
    kst := { s.kst with slots := [] }
    line := { s.line with sas := [], txAn := [], cached := [] }
    mem := { s.mem with key := none } }
  let s := s.modLcs fun l => { l with testRoot := true, unlocked := true, debugEn := true }
  (s.fillDevices bootSlots).useChallenge c

/-- DEBUG_UNLOCK (R52, R55). -/
def execDebugUnlock (slot : Nat) (s : State) : Answer :=
  answer s <| s.onEntry slot 0xC03 0xC03 fun t =>
    let e := t.entry
    let n := (debugSigs s.lcs.state).getD 0
    s.checked slot [chk (e.zeroFrom 40 55) St.badParam 0, chk (debugSigs s.lcs.state).isSome St.lcsForbids 4, t.dmaFail,
        chk (e.msgLen == 4627 * n) St.badLength 0]
      (match s.lcs.challenge with
       | none => s.fail slot (St.verifyFail, 5)
       | some c =>
         if s.debugSigsOk n t.input c then (s.openDebug t c).complete slot St.ok 0 []
         else if s.lcs.lapsed.any (s.debugSigsOk n t.input) then s.fail slot (St.verifyFail, 5)
         else s.dropChallenge.fail slot (St.verifyFail, 0))

/-- DEBUG_LOCK closes the TAP instructions at once; the test root stays (R55). -/
def execDebugLock (slot : Nat) (s : State) : Answer :=
  answer s <| s.onEntry slot 0xC04 0xC04 fun t =>
    s.checked slot (lcsChecks t (t.entry.zeroFrom 40 55) true 1)
      ((s.modLcs fun l => { l with debugEn := false }).complete slot St.ok 0 [])

/-! ### Images in service (R59, R60) -/

/-- The failure of a staged image as status and EXT_STATUS (R70), and LOAD_DIAG where the loader refused a patch (R130). DESIGN CHOICE (log
entry 81): code 0x3 for SIGNER = 1 outside OWNED, which R58 gives and for which no check of R70 is named, counts as a failed check 2, so it ends with
VERIFY_FAIL. -/
def State.stageFail (s : State) (b : Bytes) : Option (Nat × Nat) × Option W32 :=
  let t := imgType b
  match s.imageFail t b with
  | some 3 => (some (if imgHeaderOk b then (St.verifyFail, 0x0B) else (St.badParam, 0x0B)), none)
  | some 4 => (some (St.verifyFail, 0x0C), none)
  | some 5 => (some (St.badParam, 0x0D), none)
  | some _ => (some (St.verifyFail, 0x0E), none)
  | none =>
    if t = 4 then match applyPatch (s.reg Reg.mcsImageVer).toNat s.comb.kindLoaded s.comb.stores (s.imageBody b) with
      | .inl e => (some (St.badParam, 0x0F), some (loadDiag e (some 0)))
      | .inr _ => (none, none)
    else (none, none)

/-- A bank with an image of its TYPE written into it; patches join those it holds. -/
def putImage (k : FlashBank) (b : Bytes) : FlashBank :=
  if imgType b = 1 then { k with fw := b } else if imgType b = 2 then { k with layout := b } else if imgType b = 3 then { k with mcode := b }
  else { k with patches := k.patches ++ [b] }

/-- The flash with its directory written again for what it holds and the bank it names. The directory's layout is not in the spec. -/
def withDirectory (f : Flash) (activeB : Bool) : Flash :=
  let bytes (k : FlashBank) : List Bytes := [k.fw, k.layout, k.mcode] ++ k.patches
  { f with directory := Config.std .flashDirectory (b2n activeB) (bytes f.bankA ++ [[]] ++ bytes f.bankB) }

/-- IMAGE_STAGE: every check, then the image goes into the inactive bank (R60). -/
def execImageStage (slot : Nat) (s : State) : Answer :=
  answer s <| s.onEntry slot 0xC10 0xC10 fun t =>
    s.checked slot [chk (t.entry.zeroFrom 40 55) St.badParam 0, t.dmaFail]
      (match s.stageFail t.input with
       | (some e, d) => (match d with | some w => s.setReg Reg.mcsLoadDiag w | none => s).fail slot e
       | (none, _) =>
         let f := s.lcs.flash
         let f := if f.activeB then { f with bankA := putImage f.bankA t.input } else { f with bankB := putImage f.bankB t.input }
         (s.modLcs fun l => { l with flash := withDirectory f l.nextActiveB }).complete slot St.ok 0 [])

/-- IMAGE_ACTIVATE: the inactive bank is active from the next cold reset (R60). -/
def execImageActivate (slot : Nat) (s : State) : Answer :=
  answer s <| s.onEntry slot 0xC11 0xC11 fun t =>
    s.checked slot (lcsChecks t (t.entry.zeroFrom 40 55) true 1)
      ((s.modLcs fun l => { l with nextActiveB := !l.flash.activeB, flash := withDirectory l.flash !l.flash.activeB }).complete slot St.ok 0 [])

/-- SVN_ADVANCE: the minimum of a TYPE rises to the SVN loaded at this boot, and never falls (R59). -/
def execSvnAdvance (slot : Nat) (s : State) : Answer :=
  answer s <| s.onEntry slot 0xC12 0xC12 fun t =>
    let typ := t.entry.pLE 40 2
    let n := s.lcs.loadedSvn
    let x := s.lcs.state
    s.checked slot [chk (t.entry.zeroFrom 42 55) St.badParam 0, chk (x == .manufacture || x == .owned) St.lcsForbids 1,
        chk (within typ 1 3) St.badParam 0x40, t.dmaFail, chk (t.entry.msgLen == 0) St.badLength 0]
      ((s.modOtp fun o =>
          if typ = 1 then { o with svnFw := max o.svnFw n.1 } else if typ = 2 then { o with svnLayout := max o.svnLayout n.2.1 }
          else { o with svnMcode := max o.svnMcode n.2.2 }).complete slot St.ok 0 [])

end Sys2Proof.Machine
end

