-- ==== Sys2Proof/Machine/Startup.lean ====
section
/-!
DEFINITION. What ends during start-up: the pairs' tests with their second round (R191 to R193), conditioned blocks (R183), HBM training (R481,
R482), and the known-answer tests of engines and pipelines, in boot (R65) and in service.
-/
namespace Sys2Proof.Machine
open Sys2Proof

/-! ### Entropy -/

/-- BLOCK_CONDITIONED: the next 1,024 raw bits make a block, which goes where R190 and R192 send it (R183). -/
def execBlockConditioned (s : State) : Answer :=
  answer s <|
    if s.rng.running = true ∧ 1024 ≤ s.rng.raw.length then
      let block := sha3_256 (bitBytes 128 (s.rng.raw.take 1024) ++ toLE 8 s.rng.ctr)
      let s := s.modRng fun r => { r with raw := r.raw.drop 1024, ctr := r.ctr + 1 }
      ((s.modReg Reg.rngBlockCount (· + 1)).fitFills.deliver block).continueBoot
    else s

/-- The RNG_PAIR_RESTORE entries of a pair end with its test (R201). -/
def State.endRestores (s : State) (n : Nat) (pass : Bool) : State :=
  let mine := s.rng.restores.filter fun r => r.pair == n
  let s := s.modRng fun r => { r with restores := r.restores.filter fun r => r.pair != n }
  mine.foldl (fun s r =>
    if r.aborted then s.complete r.slot St.aborted 0 []
    else if pass then s.complete r.slot St.ok 0 [] else s.complete r.slot St.entropyFault 0x63 []) s

/-- The TAG of the RNG_PAIR_RESTORE whose test of a pair runs; 0 where none asked for it (R266). -/
def State.restoreTag (s : State) (n : Nat) : Nat := match s.rng.restores.find? fun r => r.pair == n with
  | some r => s.tagOf r.slot
  | none => 0

/-- A pair passes and enters service with its failure bits clear, or stays out (R191). -/
def State.pairTested (s : State) (n : Nat) (pass : Bool) : State :=
  let s := s.modPair n fun _ => { inService := pass }
  let bits := bit32 (8 + n) ||| bit32 (16 + n) ||| bit32 (24 + n)
  if pass then s.modReg Reg.rngPairState (clearBits · bits)
  else (s.raise Reg.rngPairState (bit32 (8 + n))).log { time := 0, code := 0x0601, tag := s.restoreTag n, object := n, detail := 2 }

/-- No pair passed (R193): logged; on leaving P3, ENTROPY_FAULT takes force, and gating ends once a pair is restored. -/
def State.noPair (s : State) (why : StartKind) : State :=
  let s := (s.logEvent 0x0603 0 0).modRng fun r => { r with start := none }
  if why = .leaveP3 then (s.modRng fun r => { r with waived := true }).armEntropy else s

/-- Every pair has ended its test: failed pairs are tested once more while fewer than the floor passed; after that the start-up goes on from
the pairs in service, or none passed (R193). -/
def State.endRound (s : State) (why : StartKind) : State :=
  let r := s.rng
  if s.minPairs ≤ r.count then s
  else if r.round = 1 then
    let again (p : Pair) : Pair := if p.inService then p else { starting := some 0 }
    s.modRng fun r => { r with round := 2, pairs := r.pairs.map again }
  else if r.count = 0 then s.noPair why
  else s.modRng fun r => { r with waived := true }

/-- STARTUP_TEST_END: a pair has taken its 2,048 samples (R191, R193). -/
def execStartupTestEnd (pair : Nat) (s : State) : Answer :=
  answer s <| match s.rng.pairs[pair]? with
  | none => s
  | some p =>
    if 2048 ≤ p.starting.getD 0 then
      let pass := !p.suFailed
      let s := (s.pairTested pair pass).endRestores pair pass
      let s := match s.rng.start with
        | some why => if s.rng.pairs.all (·.starting.isNone) then s.endRound why else s
        | none => s
      s.checkFault.tryReady.continueBoot
    else s

/-! ### HBM training -/

/-- One stack's training has ended: trained at the first or the second attempt, or failed (R482). -/
def State.stackTrained (s : State) (i : Nat) (first second : Bool) : State :=
  let s := s.modMem fun m => { m with hbm := m.hbm.modify i fun (x : Stack) => { x with
    trained := first || second, trainFail := !first && !second, fails := b2n (!first) + b2n (!first && !second) } }
  if first || second then s else (s.raise Reg.memEvent 2).logEvent 0x5002 i 0

/-- HBM_TRAINING_DONE: which stacks passed at the first and which at the second attempt (R481, R482). Training takes place once, after a cold
reset. -/
def execHbmTrainingDone (first second : BitVec 4) (s : State) : Answer :=
  let training := (s.lcs.phase == .rom || s.lcs.phase == .resuming || s.lcs.phase == .waiting) &&
    s.mem.hbm.all fun (x : Stack) => !x.trained && !x.trainFail
  answer s <|
    if training then
      ((List.range 4).foldl (fun (s : State) i => s.stackTrained i (bitOf first.toNat i) (bitOf second.toNat i)) s).continueBoot
    else s

/-! ### Known-answer tests -/

/-- Step 11 ends once no test of it is outstanding. -/
def State.katEnds (s : State) : State := if s.lcs.katEngines = [] ∧ s.lcs.katPipes = [] then s.bootDone else s

/-- The test of an engine in step 11 ends; a failed engine is fenced, and boot continues (R65). -/
def State.katEngine (s : State) (engine : Nat) (pass : Bool) : State := match s.engine engine with
  | some g =>
    if s.lcs.katEngines.contains engine then
      let s := s.modLcs fun l => { l with katEngines := l.katEngines.filter (· != engine) }
      let s := s.setReg Reg.fgsStStatus (BitVec.ofNat 32 (engine + 65536 * b2n pass))
      (if pass then s else s.katFail engine g.kind).katEnds
    else s
  | none => s

/-- SELFTEST_DONE: an engine's known-answer test ends, in step 11 of boot or in service (R65, R106). -/
def execSelftestDone (engine : Nat) (pass : Bool) (s : State) : Answer :=
  answer s (if s.lcs.phase = .testing then s.katEngine engine pass else s.testEnds engine pass)

/-- The test of a pipeline in step 11 ends. -/
def State.katPipe (s : State) (pipe : Nat) (pass : Bool) : State :=
  if s.lcs.katPipes.contains pipe then
    let s := s.modLcs fun l => { l with katPipes := l.katPipes.filter (· != pipe) }
    (if pass then s else s.pipeFail pipe).katEnds
  else s

/-- PIPELINE_SELFTEST: a pipeline's known-answer test ends, in step 11 of boot or in its period (R65, R359). -/
def execPipelineSelftest (pipe : Nat) (result : Option Bool) (s : State) : Answer :=
  answer s <|
    if s.lcs.phase = .testing then match result with
      | some b => s.katPipe pipe b
      | none => s
    else if s.lcs.phase = .done then s.pipeTested pipe result
    else s

end Sys2Proof.Machine
end

