-- ==== Sys2Proof/Machine/Power.lean ====
section
/-!
DEFINITION. Supplies, clocks, resets and power states (chapter 20): the cold resets and what ends them (R488, R492, R541), main power (R451),
PERST_N and the PCIe link (R491, R494), SET_POWER_STATE and POWER_QUERY (R496 to R505), the thermal limit (R507), and the PWR registers.
-/
namespace Sys2Proof.Machine
open Sys2Proof

/-- The state with the power block changed. -/
def State.modPwr (s : State) (f : Pwr → Pwr) : State := { s with pwr := f s.pwr }

/-! ### Cold resets (R488, R492, R541, R451) -/

/-- PORST_RISE: boot runs, unless something else holds the device in reset (R63). -/
def execPorstRise (board : Board) (s : State) : Answer :=
  answer s ((s.modPwr fun p => { p with porstLow := false }).boot board)

/-- PORST_FALL (R492). -/
def execPorstFall (s : State) : Answer := answer s ((s.coldReset 2).modPwr fun p => { p with porstLow := true })

/-- TESTMODE_ASSERT: a hold as though PORST_N were low (R541). -/
def execTestmodeAssert (s : State) : Answer := answer s ((s.coldReset 2).modPwr fun p => { p with testmode := true })

/-- TESTMODE_DEASSERT ends the hold that it imposed (R541). -/
def execTestmodeDeassert (board : Board) (s : State) : Answer :=
  answer s ((s.modPwr fun p => { p with testmode := false }).boot board)

/-- SUPPLY_MONITOR_RESET: a rail of groups 1 to 3 is below its threshold; SUPPLY shows which are valid (R488). -/
def execSupplyMonitorReset (valid : W32) (s : State) : Answer :=
  answer s <|
    if field valid 10 0 = 0x7FF then s
    else ((s.coldReset 4).modPwr fun p => { p with supplyHold := true }).setReg Reg.pwrSupply (valid &&& 0x7FF)

/-- SUPPLY_MONITOR_RELEASE: every rail is valid again, which takes VDD_UST (R487); straps are sampled and boot begins (R488, R540). -/
def execSupplyMonitorRelease (board : Board) (s : State) : Answer :=
  answer s <|
    if s.pwr.supplyHold = true ∧ s.ust.onBattery = false then
      ((s.modPwr fun p => { p with supplyHold := false }).setReg Reg.pwrSupply 0x7FF).boot board
    else s

/-- MAIN_POWER_LOSS: the understorey switches to VBAT and loses no state; the rest of the device is without supply, and its next start is a
power-on (R451, R489). -/
def execMainPowerLoss (s : State) : Answer :=
  answer s <|
    if s.ust.onBattery then s
    else
      let t := (s.cold 1).modPwr fun p => { p with supplyHold := true }
      { t with ust := { t.ust with onBattery := true } }

/-- VDD_UST_RETURN: the understorey returns to VDD_UST (R451). -/
def execVddUstReturn (s : State) : Answer := answer s { s with ust := { s.ust with onBattery := false } }

/-! ### The PCIe link (R491, R494) -/

/-- The link goes down: the reads outstanding on it fail, and writes to be sent from now on count as failed (R299). -/
def State.pcieDown (s : State) : State := if s.linkUp then ({ s with linkUp := false } : State).failReads else s

/-- PERST_ASSERT: the link goes down and every function is reset, with no status written (R494). -/
def execPerstAssert (s : State) : Answer :=
  answer s <|
    if s.pwr.perstLow then s
    else
      let s := s.pcieDown.modPwr fun p => { p with perstLow := true }
      if s.lcs.phase = .reset then s else (s.resetAllFunctions.count Reg.pwrPerstCount).raise Reg.pwrEvent 8

/-- PERST_DEASSERT: the link may train again. -/
def execPerstDeassert (s : State) : Answer := answer s (s.modPwr fun p => { p with perstLow := false })

/-- PCIE_REF_LOSS (R491). -/
def execPcieRefLoss (s : State) : Answer := answer s (s.pcieDown.modPwr fun p => { p with refOk := false })

/-- PCIE_REF_RETURN (R491). -/
def execPcieRefReturn (s : State) : Answer := answer s (s.modPwr fun p => { p with refOk := true })

/-- PCIE_LINK_DOWN (R299). -/
def execPcieLinkDown (s : State) : Answer := answer s s.pcieDown

/-- The speed and width to which the link trains (R258): the partner's part of them is nature's (log entry 4). -/
def State.trainLink (s : State) : State :=
  let a := s.freeNat
  let b := a.2.freeNat
  { b.2 with linkSpeed := [64, 32, 16].getD (a.1 % 3) 16, linkWidth := 2 ^ (b.1 % 5) }

/-- PCIE_LINK_UP: training ends, where PERST_N is high, the reference present and the device out of reset (R64, R491, R494); writes that
only waited for it leave. -/
def execPcieLinkUp (s : State) : Answer :=
  answer s <|
    if s.pwr.perstLow = true ∨ s.pwr.refOk = false ∨ s.lcs.phase = .reset then s
    else
      let s := ({ s with linkUp := true } : State).trainLink
      s.chans.foldl (fun (s : State) (c : Nat × Channel) => if s.mayRelease c.1 then s.releaseWrites c.1 else s) s

/-! ### A change of power state (R502) -/

/-- Operations that wait on engines that are to go off are placed again elsewhere (R91). -/
def State.replaceLeaving (s : State) (c : PowerChange) : State :=
  (List.range s.comb.engines.length).foldl (fun (s : State) e =>
    if s.engineIs e fun g => !bitOf c.cellOn g.group then s.replaceQueued e else s) s

/-- An entry that the target cannot run and that its unit has not begun. -/
def State.turnsAway (s : State) (t : Track) : Bool :=
  (t.phase == .gather || t.phase == .ready) && (s.powerGate t.entry.opcode).isSome

/-- Entries not begun on units that the target lacks complete as they would at fetch (Table 20.4). -/
def State.turnAway (s : State) : State :=
  (s.slotsWhere s.turnsAway).foldl (fun (s : State) n => match s.track n with
    | some t => (s.forgetUnit n).fail n ((s.powerGate t.entry.opcode).getD (St.engineUnavailable, 6))
    | none => s) s

/-- An operation runs or waits on an engine that is to go off. -/
def State.onLeaving (s : State) (c : PowerChange) (o : CombOp) : Bool := match o.engine with
  | some e => s.engineIs e fun g => !bitOf c.cellOn g.group
  | none => false

/-- Everything still on what goes off is aborted (R101): entries of units that the target lacks, and operations on engines that go off. -/
def State.abortLeaving (s : State) (c : PowerChange) : State :=
  let s := s.abortWhere (fun t => (s.powerGate t.entry.opcode).isSome) St.aborted 0
  (s.comb.ops.filter fun o => !o.own && s.onLeaving c o).foldl (fun (s : State) (o : CombOp) => match o.src with
    | .host n => s.abortEntry n St.aborted 0
    | .own _ => s) s

/-- Port groups that are to go off stop taking frames, and their links fall. -/
def State.portsOff (s : State) (off : Nat → Bool) : State :=
  (List.range 8).foldl (fun (s : State) g => if off g then s.groupDown g else s) s

/-- A change begins: steps 1 to 4 of R502, and what a return from P3 needs first. -/
def State.beginChange (s : State) (slot : Nat) (c : PowerChange) : State :=
  let old := s.pwr
  let s := (s.busy slot).modPwr fun p => { p with change := some c }
  let s := if old.trunkOn && !c.trunkOn then (s.sendLeave 0).linksFall else s
  let s := s.portsOff fun g => bitOf old.portOn g && !bitOf c.portOn g
  let s := s.replaceLeaving c
  let s := if old.state = 3 ∧ c.target < 3 then (s.startEntropy .leaveP3).modMem fun m => { m with selfRefresh := false } else s
  if c.aborting then s.abortLeaving c else s.turnAway.dropHomeless

/-- What the change switches off has drained, and a return from P3 has ended its entropy start-up (R502, R503). -/
def State.changeDrained (s : State) (c : PowerChange) : Bool :=
  (s.slotsWhere fun t => (s.powerGate t.entry.opcode).isSome && t.phase != .held).isEmpty &&
    s.comb.ops.all (fun o => (o.own && decide (3 ≤ c.target)) || !s.onLeaving c o) &&
    (decide (s.pwr.state ≠ 3) || decide (3 ≤ c.target) || s.rng.ready || (s.rng.start.isNone && s.rng.fault))

/-- The trunk loses power: its map, keys and partner state are lost, and TRK shows its reset values (Table 20.3, R498). -/
def State.trunkOff (s : State) : State :=
  let fresh := s.trk.fresh
  let s := s.clearMap
  { s with trk := { fresh := fresh }, regs := Sparse.eraseRange s.regs 0x480000 0x80000 }

/-- The mask channels of cell groups without power lose state and queue (R199). -/
def State.gateChannels (s : State) (cellOn : Nat) : State :=
  s.modRng fun r => { r with chans := r.chans.mapIdx fun c (m : MaskChan) => if c < 16 ∨ bitOf cellOn ((c - 16) / 4) then m else {} }

/-- P3 and P4: Comb, entropy and card port go off, the SA cache is written back but for pinned contexts, which stay (R330), and the stacks are in
self-refresh. In P4 the key slots, the memory key and with it what HBM held, the journal's records and checkpoints among it, are lost (R228, R403,
R477, R483). -/
def State.deepSleep (s : State) (target : Nat) : State :=
  let s := (s.dropOwnJobs.setOps []).stopEntropy.cardOff.lapseCeremony
  let s := { s with kst := { s.kst with slots := s.kst.slots.filter fun p => decide (p.1 < 4096) } }
  let pinned (i : Nat) : Bool := match s.sa i with | some x => x.pinned | none => false
  let s := { s with line := { s.line with cached := s.line.cached.filter pinned }, mem := { s.mem with selfRefresh := true } }
  if target = 4 then
    { s with
      kst := { s.kst with slots := [] }, line := { s.line with sas := [], txAn := [], cached := [] }
      mem := { s.mem with key := none, lines := [] }, evj := { s.evj with ring := [], cps := [] } }
  else s

/-- Port groups that are powered are configured as by an APPLY (R317). -/
def State.portsOn (s : State) (on : Nat → Bool) : State :=
  (List.range 8).foldl (fun (s : State) g => if on g then s.modGroup g fun x => { x with applying := true } else s) s

/-- An engine as a change leaves it: one of a gated group keeps no operand memory, and one that gets power reloads its stores (R72, R502). -/
def State.gateEngine (s : State) (before : Nat) (g : Engine) : Engine :=
  if s.gated g then { g.wiped with state := .ready }
  else if bitOf before g.group then g else { g with stores := s.comb.stores.getD g.kind {} }

/-- The test of an engine that has lost power ends (R104, R108, R109). -/
def State.testGated (s : State) (e : Nat) : State := match s.comb.testing with
  | some (e', r) =>
    if e' = e ∧ s.engineIs e s.gated = true then (if s.comb.testPassed then s.testReturns e r else s.cancelTest e) else s
  | none => s

/-- The engines after a change from the groups that had power before it; fences that were due take effect. -/
def State.gateEngines (s : State) (before : Nat) : State :=
  let s := { s with comb := { s.comb with engines := s.comb.engines.map (s.gateEngine before) } }
  (List.range s.comb.engines.length).foldl (fun s e => (s.testGated e).engineFree e) s

/-- The new state is in force: step 6 of R502, and the command completes (R503). -/
def State.finishChange (s : State) (c : PowerChange) : State :=
  let old := s.pwr
  let us := min (2 ^ 32 - 1) ((s.free - c.began).toNat / 800)
  let s := if old.trunkOn && !c.trunkOn then s.trunkOff else s
  let s := if 3 ≤ c.target then s.deepSleep c.target else s.gateChannels c.cellOn
  let s := s.portsOn fun g => bitOf c.portOn g && (!bitOf old.portOn g || decide (2 ≤ old.state))
  let s := s.modPwr fun p => { p with
    state := c.target, cellOn := c.cellOn, portOn := c.portOn, trunkOn := c.trunkOn, change := none }
  let s := s.gateEngines old.cellOn
  let s := ((s.setReg Reg.pwrTransUs (BitVec.ofNat 32 us)).raise Reg.pwrEvent 4).dropHomeless
  let s := match c.slot with
    | some n => s.complete n St.ok 0 []
    | none => s
  s.allocateAll.releaseWarm

/-! ### SET_POWER_STATE and POWER_QUERY (R500, R501, R504) -/

/-- A cell selection names a lattice engine's group, where the layout has lattice engines. -/
def State.latticeStays (s : State) (cells : Nat) : Bool :=
  let lattice := s.comb.engines.filter fun (g : Engine) => g.kind == 0
  lattice.isEmpty || lattice.any fun (g : Engine) => bitOf cells g.group

/-- The values of SET_POWER_STATE are ones that R501 accepts. -/
def State.powerValues (s : State) (e : WorkEntry) : Bool :=
  let target := e.p8 40
  let cells := e.pLE 42 2
  let ports := e.p8 44
  decide (target ≤ 4) && decide (e.p8 41 ≤ 1) && (target == 1 || e.zeroFrom 42 45) &&
    (target != 1 || (ports % 16 == ports / 16 && cells &&& s.comb.groupMask == cells && s.latticeStays cells))

/-- The change that an entry asks for. -/
def State.changeFor (s : State) (slot : Nat) (e : WorkEntry) : PowerChange :=
  let target := e.p8 40
  { slot := some slot, target := target, began := s.free, aborting := e.p8 41 == 1
    cellOn := if target = 1 then e.pLE 42 2 else if 3 ≤ target then 0 else s.comb.groupMask
    portOn := if target = 0 then 0xFF else if target = 1 then e.p8 44 else 0
    trunkOn := target == 0 || (target == 1 && bitOf (e.p8 45) 0) }

/-- SET_POWER_STATE: it waits for a transition or another change to end; to the state in force it does nothing, but for P1 it applies the
selection (R51, R501, R502). -/
def execSetPowerState (slot : Nat) (s : State) : Answer :=
  answer s <| s.onEntry slot 0x20 0x20 fun t =>
    let e := t.entry
    s.checked slot [chk (e.zeroFrom 46 55 && decide (e.p8 45 ≤ 1)) St.badParam 0, chk (e.msgLen == 0 && e.keySlot == noSlot) St.badParam 0x41,
        chk (s.powerValues e) St.badParam 0x98, t.dmaFail]
      (if s.lcs.xferActive = true ∨ s.pwr.change.isSome = true then s
       else if e.p8 40 = s.pwr.state ∧ e.p8 40 ≠ 1 then s.complete slot St.ok 0 []
       else s.beginChange slot (s.changeFor slot e))

/-- DRAIN_TIMEOUT: DRAIN_MS has passed (R502). -/
def execDrainTimeout (s : State) : Answer :=
  answer s <| match s.pwr.change with
  | some c =>
    if c.aborting then s
    else (s.modPwr fun p => { p with change := some { c with aborting := true } }).abortLeaving c
  | none => s

/-- POWER_STATE_CHANGE_DONE: once all has drained, a change to P3 or P4 takes its checkpoint (R396), and the change completes when that is
committed; any other completes at once (R502, R503). -/
def execPowerStateChangeDone (s : State) : Answer :=
  answer s <| match s.pwr.change with
  | some c =>
    if s.changeDrained c = false then s
    else if c.target < 3 ∨ 3 ≤ s.pwr.state then s.finishChange c
    else if c.checkpoint.isNone then
      (s.modPwr fun p => { p with change := some { c with checkpoint := some s.evj.nextCp } }).takeCheckpoint 3
    else if s.evj.firstOpen.isNone then s.finishChange c else s
  | none => s

/-- TARGET as POWER_QUERY and PWR.STATUS give it. -/
def State.powerTarget (s : State) (dflt : Nat) : Nat := match s.pwr.change with
  | some c => c.target
  | none => dflt

/-- POWER_QUERY (Table 20.5). -/
def execPowerQuery (slot : Nat) (s : State) : Answer :=
  answer s <| s.onEntry slot 0x21 0x21 fun t =>
    let e := t.entry
    let p := s.pwr
    let b (n : Nat) : Byte := BitVec.ofNat 8 n
    s.checked slot [chk (e.zeroFrom 40 55) St.badParam 0, chk (e.msgLen == 0 && e.keySlot == noSlot) St.badParam 0x41, t.dmaFail, e.outHolds 16]
      (s.complete slot St.ok 0 <|
        [b p.state, b (s.powerTarget 0xFF)] ++ toLE 2 p.cellOn ++
          [b p.portOn, b (b2n p.trunkOn + 2 * b2n p.thermLimit), b (field (s.reg Reg.pwrTj) 7 0), 0] ++
          toLE 4 (s.reg Reg.pwrTransUs).toNat ++ zeros 4)

/-! ### The thermal limit (R507) -/

/-- T_LIMIT as it acts. -/
def State.tLimit (s : State) : Int := clamp 85 110 (field (s.reg Reg.pwrThermCfg) 7 0)
/-- HYST as it acts. -/
def State.tHyst (s : State) : Int := clamp 2 20 (field (s.reg Reg.pwrThermCfg) 15 8)

/-- TJ_MAX and TJ_PEAK take a reading. -/
def State.recordTj (s : State) (tj : Int) : State :=
  s.modReg Reg.pwrTj fun w =>
    let peak := max (BitVec.ofNat 8 (field w 15 8)).toInt tj
    BitVec.ofNat 32 ((BitVec.ofInt 8 tj).toNat + 256 * (BitVec.ofInt 8 peak).toNat)

/-- The device enters its thermal limit. -/
def State.thermEnter (s : State) : State :=
  (((s.modPwr fun p => { p with thermLimit := true, thermBelow := 0 }).count Reg.pwrThermCount).raise Reg.pwrEvent 1).degradeBare

/-- A sample at the limit: ten consecutive ones below T_LIMIT − HYST clear it. -/
def State.thermCool (s : State) (tj : Int) : State :=
  if tj < s.tLimit - s.tHyst then
    if 9 ≤ s.pwr.thermBelow then (s.modPwr fun p => { p with thermLimit := false, thermBelow := 0 }).raise Reg.pwrEvent 2
    else s.modPwr fun p => { p with thermBelow := p.thermBelow + 1 }
  else s.modPwr fun p => { p with thermBelow := 0 }

/-- THERMAL_SAMPLE: the sensors of the cell groups, and the highest of all others (R507). -/
def execThermalSample (groups : List Int) (others : Int) (s : State) : Answer :=
  answer s <|
    if s.lcs.phase = .reset then s
    else
      let tj := groups.foldl max others
      let s := { s with comb := { s.comb with temps := groups } }.recordTj tj
      if s.pwr.thermLimit then s.thermCool tj
      else if s.tLimit ≤ tj then s.thermEnter else s

/-! ### Register views (Tables 1.9, 20.9, 20.10) -/

/-- PWR.STATUS. The clocks run whenever registers can be read (R490), so PLL_LOCK reads 1. -/
def State.pwrStatus (s : State) : W32 :=
  let p := s.pwr
  BitVec.ofNat 32 (p.state + 16 * s.powerTarget 7 + 128 * b2n p.change.isSome + 256 * b2n p.thermLimit + 512 * b2n p.thermLimit + 1024 +
    2048 * b2n p.refOk)

/-- PWR.CELL_ON. -/
def State.cellOnView (s : State) : W32 := BitVec.ofNat 32 s.pwr.cellOn

/-- PWR.PORT_ON. -/
def State.portOnView (s : State) : W32 := BitVec.ofNat 32 (s.pwr.portOn + 256 * b2n s.pwr.trunkOn)

/-- GCTL.STATUS. -/
def State.gctlStatus (s : State) : W32 :=
  BitVec.ofNat 32 (b2n (s.lcs.phase == .done) + 2 * b2n s.lineActive + 4 * b2n s.halted + 8 * b2n s.pwr.thermLimit)

end Sys2Proof.Machine
end

