-- ==== Sys2Proof/Machine/ConfigSpace.lean ====
section
/-!
DEFINITION. Configuration space (R257, R258): what the header of each function reads, the capabilities of Table 10.2 with their limits, and the
controls that software writes. The spec gives the header's fields and no offset of a capability: the words from 0x100 on are the model's
(log entry 17).
-/
namespace Sys2Proof.Machine
open Sys2Proof

/-! ### The header (Table 10.1) -/

/-- Vendor ID and Device ID: all ones in a VF. -/
def idWord (f : Nat) : W32 := if f = 0 then 0x43201F3A else 0xFFFFFFFF

/-- Class code and Revision ID. -/
def classWord : W32 := 0x10800011

/-- Subsystem ID and Subsystem Vendor ID. -/
def subsystemWord : W32 := 0x00011F3A

/-! ### The capabilities (Table 10.2) -/

/-- A capability that a function may carry. -/
inductive Capability where
  | pciExpress | powerManagement | msix | advancedErrors | deviceSerial | sriov | alternativeRouting
  | secondaryPcie | dataLinkFeature | physicalLayer16 | physicalLayer32 | physicalLayer64 | laneMargining
  -- none of these is offered
  | msi | ats | pri | pasid | resizableBar | tph
  deriving DecidableEq, Repr

/-- A function carries a capability: PF0, and a VF where `vf` is true. -/
def hasCapability (vf : Bool) : Capability → Bool
  | .pciExpress | .powerManagement | .msix | .advancedErrors | .alternativeRouting => true
  | .deviceSerial | .sriov | .secondaryPcie | .dataLinkFeature | .physicalLayer16 | .physicalLayer32 | .physicalLayer64
  | .laneMargining => !vf
  | .msi | .ats | .pri | .pasid | .resizableBar | .tph => false

/-- The largest Max Payload Size and Max Read Request Size, as their codes: 512 and 4,096 bytes. -/
def maxPayloadCode : Nat := 2
/-- As `maxPayloadCode`, for reads. -/
def maxReadCode : Nat := 5

/-- TotalVFs and InitialVFs. -/
def totalVfs : Nat := 255

/-- PCIe's code of a link speed in GT/s. -/
def speedCode (gts : Nat) : Nat := if gts = 64 then 6 else if gts = 32 then 5 else if gts = 16 then 4 else 0

/-- PCIe's code of a size of 128 × 2^c bytes. -/
def sizeCode (n : Nat) : Nat := Nat.log2 (n / 128)

/-! ### What a word reads -/

/-- Word i of PF0's SR-IOV, Device Serial Number and link registers. -/
def State.pf0ConfigWord (s : State) (i : Nat) : W32 :=
  if i = 0x103 then BitVec.ofNat 32 (b2n s.vfEnable + 0x10000 * s.numVfs)
  else if i = 0x105 then BitVec.ofNat 32 (totalVfs + 0x10000 * totalVfs)
  else if i = 0x106 then 0x4321
  else if i = 0x107 then 1
  else if i = 0x108 then BitVec.ofNat 32 s.lcs.otp.serial.toNat
  else if i = 0x109 then BitVec.ofNat 32 (s.lcs.otp.serial.toNat / 2 ^ 32)
  else if i = 0x10A then BitVec.ofNat 32 (speedCode s.linkSpeed + 16 * s.linkWidth)
  else 0

/-- What word i of a function's configuration space reads: the header, its controls with their limits, and PF0's own capabilities. -/
def State.configRead (s : State) (f i : Nat) : W32 :=
  let fn := s.func f
  if i = 0 then idWord f
  else if i = 1 then BitVec.ofNat 32 (4 * b2n fn.bme)
  else if i = 2 then classWord
  else if i = 11 then subsystemWord
  else if i = 0x100 then BitVec.ofNat 32 (tableSize f - 1 + 0x4000 * b2n fn.msixMask + 0x8000 * b2n fn.msixEnable)
  else if i = 0x101 then
    BitVec.ofNat 32 (16 * b2n fn.relaxed + 32 * sizeCode fn.maxPayload + 0x800 * b2n fn.noSnoop + 0x1000 * sizeCode fn.maxRead)
  else if i = 0x102 then fn.cto.setWidth 32
  else if i = 0x104 then BitVec.ofNat 32 (3 * b2n fn.d3hot)
  else if f = 0 then s.pf0ConfigWord i
  else 0

/-! ### What a write of a control does (R258, R260, R303) -/

/-- A write of a function's MSI-X Message Control: bit 15 MSI-X Enable, bit 14 Function Mask. -/
def Func.msixControl (f : Func) (v : W32) : Func := { f with msixEnable := flag v 15, msixMask := flag v 14 }

/-- A write of Device Control: bit 4 Enable Relaxed Ordering, [7:5] Max Payload Size, bit 11 Enable No Snoop, [14:12] Max Read Request Size;
the sizes act within the limits of Table 10.2. -/
def Func.deviceControl (f : Func) (v : W32) : Func :=
  { f with relaxed := flag v 4, noSnoop := flag v 11, maxPayload := 128 * 2 ^ min maxPayloadCode (field v 7 5),
           maxRead := 128 * 2 ^ min maxReadCode (field v 14 12) }

/-- A write of PF0's SR-IOV Control, VF Enable in bit 0 and NumVFs in [31:16]: NumVFs is taken while VF Enable is 0, at most TotalVFs, and a
write that clears VF Enable resets every VF (R303, R307). -/
def State.sriovWrite (s : State) (v : W32) : Answer :=
  if flag v 0 = true ∧ s.vfEnable = true then .next s
  else if flag v 0 then .next { s with vfEnable := true, numVfs := min totalVfs (field v 31 16) }
  else execVfEnableClear { s with numVfs := if s.vfEnable then s.numVfs else min totalVfs (field v 31 16) }

/-- A write of word i of a function's configuration space: the controls take it, every other word ignores it. -/
def State.configWrite (s : State) (f i : Nat) (v : W32) : Answer :=
  if s.lcs.phase = .reset ∨ s.funcPresent f = false then .next s
  else match i with
    | 0x100 => .next (s.setFunc f ((s.func f).msixControl v))
    | 0x101 => .next (s.setFunc f ((s.func f).deviceControl v))
    | 0x102 => .next (s.setFunc f { s.func f with cto := BitVec.ofNat 4 v.toNat })
    | 0x103 => if f = 0 then s.sriovWrite v else .next s
    | 0x104 =>
      if field v 1 0 = 3 then execD3hotEntry f s
      else if field v 1 0 = 0 then .next (s.setFunc f { s.func f with d3hot := false })
      else .next s
    | _ => .next s

end Sys2Proof.Machine
end

