-- ==== Sys2Proof/Machine/Time.lean ====
section
/-!
DEFINITION. The meanings of the time and phase-witness commands and events (chapter 14), but for the transparent clock's.
-/
namespace Sys2Proof.Machine
open Sys2Proof

/-! ### Register accesses -/

/-- RATE_WRITE: the new increment holds from the next edge; a change by more than 1 ppm (65,536,000 of 2^-16 ppb) voids the
witness's window (R366, R384). -/
def execRateWrite (value : W32) (s : State) : Answer :=
  answer s <| s.regWrite Reg.tsuRate <|
    let change := (value.toInt - s.signed Reg.tsuRate).natAbs
    let s := s.setReg Reg.tsuRate value
    if 65536000 < change then s.phwVoid else s

/-- SERVO_OFFSET_WRITE: the servo's report, from which lock is judged (R369). -/
def execServoOffsetWrite (value : W32) (s : State) : Answer :=
  answer s <| s.regWrite Reg.tsuServoOffset <| (s.setReg Reg.tsuServoOffset value).modTod fun t => { t with
    servoSeen := true, servoAge := 0 }

/-- LOCK_TIMEOUT: LOCK_TMO has passed since the last SERVO_OFFSET write (R369). -/
def execLockTimeout (s : State) : Answer := answer s (s.modTod fun t => { t with servoAge := max t.servoAge s.lockEdges })

/-- HOLDOVER_LIMIT: the time has passed at which E reaches 1,000 ns, if it ever does (R369). -/
def execHoldoverLimit (s : State) : Answer :=
  answer s (s.modTod fun t => { t with servoAge := max t.servoAge (s.holdoverEdges.getD 0) })

/-- TOD_NS_READ: the nanoseconds, and the latched words of the same edge (R389). -/
def execTodNsRead (s : State) : Answer :=
  answer s <| s.regRead Reg.tsuTodNs <|
    let t := s.stampNow
    let aux := t.frac + 256 * s.qualityCode
    let words : List Nat := [t.sec, t.sec / 2 ^ 32, aux, s.free.toNat, s.free.toNat / 2 ^ 32]
    ({ s with tsu := { s.tsu with latch := words.map (BitVec.ofNat 32 ·) } }).emit (.readData (BitVec.ofNat 32 t.ns))

/-- CAP_CTRL_ENABLE: a write of EN = 1 sets both counts to 0, and applies the depth where EN was 0; a write of 0 stops capture (R377,
Table 14.9). -/
def execCapCtrlEnable (value : W32) (s : State) : Answer :=
  answer s <| s.regWrite Reg.tsuCapCtrl <|
    let depth := if flag (s.reg Reg.tsuCapCtrl) 8 then s.tsu.capLog2 else clamp 6 16 (field value 4 0)
    let s := s.plainWrite Reg.tsuCapCtrl value
    if flag value 8 then
      ({ s with tsu := { s.tsu with capLog2 := depth } }.setReg Reg.tsuCapProd 0).setReg Reg.tsuCapCons 0
    else s

/-! ### Commands 0x0900 to 0x0902 (R387, R388) -/

/-- The checks that the time commands share. -/
def timeChecks (t : Track) (zero params : Bool) : List (Option (Nat × Nat)) :=
  [chk zero St.badParam 0, chk (t.entry.msgLen == 0 && t.entry.keySlot == noSlot) St.badParam 0x41,
   chk params St.badParam 0xD0, t.dmaFail]

/-- The 32 bytes of TIME_READ (Table 14.7). -/
def State.timeRead (s : State) : Bytes :=
  s.stampNow.full s.qualityCode ++ toLE 8 s.free.toNat ++
    [BitVec.ofNat 8 s.phw.state, BitVec.ofNat 8 (b2n (flag (s.reg Reg.phwSuspect) 0)), 0, 0] ++
    toLE 4 (s.reg Reg.phwResidual).toNat ++ toLE 4 (s.reg Reg.phwBoundNs).toNat

/-- TIME_READ. -/
def execTimeRead (slot : Nat) (s : State) : Answer :=
  answer s <| s.onEntry slot 0x900 0x900 fun t =>
    s.checked slot (timeChecks t (t.entry.zeroFrom 40 55) true ++ [chk (decide (32 ≤ t.entry.outCap)) St.badLength 0x41])
      (s.complete slot St.ok 0 s.timeRead)

/-- The signed number of 64 bits. -/
def signed64 (n : Nat) : Int := (BitVec.ofNat 64 n).toInt

/-- The time of day after a relative step of d ns, in ns; none when the seconds leave 0 to 2^48 − 1 (R388). -/
def Tod.stepped (t : Tod) (d : Int) : Option Nat :=
  let n := (t.sec * 10 ^ 9 + t.ns : Nat) + d
  if 0 ≤ n ∧ n < 2 ^ 48 * 10 ^ 9 then some n.toNat else none

/-- TIME_STEP (R378, R384, R388). -/
def execTimeStep (slot : Nat) (s : State) : Answer :=
  answer s <| s.onEntry slot 0x901 0x901 fun t =>
    let e := t.entry
    let absolute := bitOf (e.p8 40) 0
    let target := if absolute then
        (if e.pLE 48 4 < 10 ^ 9 then some (e.pLE 42 6 * 10 ^ 9 + e.pLE 48 4) else none)
      else s.tod.stepped (signed64 (e.pLE 44 8))
    let zero := decide (e.p8 40 < 4) && e.zeroFrom 41 41 && e.zeroFrom 52 55 && (absolute || e.zeroFrom 42 43)
    s.checked slot (timeChecks t zero target.isSome)
      (let n := target.getD 0
       let s := s.modTod fun d => { d with
         sec := n / 10 ^ 9, ns := n % 10 ^ 9, sub := if absolute then 0 else d.sub, servoSeen := d.servoSeen && !absolute }
       let s := if bitOf (e.p8 40) 1 ∧ s.phw.state ≠ 0 ∧ s.phw.state ≠ 7 then s.phwRestart else s.phwVoid
       s.complete slot St.ok 0 [])

/-- PHW_CALIBRATE: it runs, or waits for the one that runs (R385). -/
def execPhwCalibrate (slot : Nat) (s : State) : Answer :=
  answer s <| s.onEntry slot 0x902 0x902 fun t =>
    s.checked slot (timeChecks t (t.entry.zeroFrom 40 55) true ++ [chk (decide (8 ≤ t.entry.outCap)) St.badLength 0x41])
      (((s.busy slot).modPhw fun p => { p with calib := p.calib ++ [slot] }).phwNextCalibration)

/-- PHW_CALIBRATION_END: `reading` is the reference as read, in µV, with 600,000 nominal; more than 5 % off it is a fault and
the previous coefficients stay (R385, R388). -/
def execPhwCalibrationEnd (reading offset gain : Int) (s : State) : Answer :=
  answer s <| match s.phw.calib with
  | [] => s
  | slot :: rest =>
    let ok := decide ((reading - 600000).natAbs ≤ 30000)
    let s := (s.modPhw fun p => { p with
      calib := rest, offset := if ok then offset else p.offset, gain := if ok then gain else p.gain }).phwNextCalibration
    if ok then
      s.complete slot St.ok 0 (toLE 4 (BitVec.ofInt 32 offset).toNat ++ toLE 4 (BitVec.ofInt 32 gain).toNat)
    else (s.fail slot (St.faultDetected, 0xD1)).degrade St.faultDetected 0xD1 0xFFFF (s.tagOf slot)

/-! ### Windows of the phase witness (R379 to R384) -/

/-- The integer square root of n below 2^k. -/
def isqrt : Nat → Nat → Nat
  | 0, _ => 0
  | k + 1, n =>
    let r := 2 * isqrt k (n / 4)
    if (r + 1) * (r + 1) ≤ n then r + 1 else r

/-- σ: the RMS of the residuals of the last 64 windows judged (R381). -/
def rms (l : List Int) : Nat := if l = [] then 0 else isqrt 64 ((l.map fun r => r.natAbs * r.natAbs).sum / l.length)

/-- The bound in force: max(MIN_US × 1,000, K × σ), times WIDEN in WIDE (R381, Table 14.11). -/
def State.phwBound (s : State) : Nat :=
  let c := s.reg Reg.phwBoundCfg
  let b := max (max 1 (field c 15 0) * 1000) (max 1 (field c 23 16) * s.phw.sigma)
  if s.phw.state = 3 then b * max 1 (field (s.reg Reg.phwFaultCfg) 15 8) else b

/-- The selected input's magnitude, and whether SOURCE 2 has fallen back to PWB (R379). -/
def State.phwSelect (s : State) (magA magB : Nat) : Nat × Bool :=
  let src := field (s.reg Reg.phwCtrl) 3 2
  if src = 0 then (magA, false) else if src = 1 then (magB, false)
  else if magA * 10 < (s.reg Reg.phwNominalMv).toNat then (magB, true) else (magA, false)

/-- The state of Table 14.6 after a window of a magnitude and frequency (in mHz), and the windows complete in it. -/
def State.phwNext (s : State) (mag freq : Nat) : Nat × Nat :=
  let p := s.phw
  let nominal := (s.reg Reg.phwNominalMv).toNat
  let wide := decide (max 1 (field (s.reg Reg.phwFaultCfg) 7 0) * nominal < ((mag : Int) - nominal).natAbs * 256)
  if mag * 10 < nominal then (5, 0)
  else if freq < 45000 ∨ 65000 < freq then (6, 0)
  else if p.state = 5 ∨ p.state = 6 then (1, 0)
  else if p.state = 1 then (if p.windows + 1 < 20 then (1, p.windows + 1) else (2, 0))
  else if wide then (3, p.windows + 1)
  else if p.state = 3 then (4, 0)
  else if p.state = 4 then (if p.windows + 1 < 5 then (4, p.windows + 1) else (2, 0))
  else (2, p.windows + 1)

/-- A judged window: σ and the count toward QUAL, and TIME_SUSPECT when the count is reached while it is not latched (R381,
R382). -/
def State.phwJudge (s : State) (residual : Int) : State :=
  let out := decide (s.phwBound < residual.natAbs)
  let latched := flag (s.reg Reg.phwSuspect) 0
  let n := if out && !latched then s.phw.beyond + 1 else 0
  let raise := decide (max 1 (field (s.reg Reg.phwBoundCfg) 27 24) ≤ n)
  let res := (residual :: s.phw.residuals).take 64
  let s := s.modPhw fun p => { p with residuals := res, sigma := rms res, beyond := if raise then 0 else n }
  if raise then
    ((s.raise Reg.phwSuspect 1).count Reg.phwSuspectCount).logEvent 0x3801 0 (BitVec.ofInt 64 residual).toNat
  else s

/-- PHW_WINDOW: `magA` and `magB` in mV RMS, `freq` in mHz, and the residual in ns that the tracking filter gives, which the
spec leaves open (R379 to R384). -/
def execPhwWindow (magA magB freq : Nat) (residual : Int) (s : State) : Answer :=
  answer s <|
    if s.phw.state = 0 ∨ s.phw.state = 7 then s
    else
      let sel := s.phwSelect magA magB
      let next := s.phwNext sel.1 freq
      let acquired := s.phw.state == 1 && next.1 == 2
      let s := ((s.setReg Reg.phwFreq (BitVec.ofNat 32 freq)).setReg Reg.phwMag (BitVec.ofNat 32 sel.1)).setReg
        Reg.phwResidual (BitVec.ofInt 32 residual)
      let seed := s.freeNat
      let s := if acquired then seed.2.modPhw fun p => { p with
        sigma := seed.1 % 2 ^ 32, residuals := List.replicate 64 ((seed.1 % 2 ^ 32 : Nat) : Int) } else s
      let judged := next.1 == 2 || next.1 == 3
      let s := s.modPhw fun p => { p with
        state := next.1, windows := next.2, onPwb := sel.2, beyond := if judged then p.beyond else 0 }
      let s := if judged && !s.phw.voided then s.phwJudge residual else s
      let s := s.modPhw fun p => { p with voided := false }
      (s.setReg Reg.phwSigmaNs (BitVec.ofNat 32 s.phw.sigma)).setReg Reg.phwBoundNs (BitVec.ofNat 32 s.phwBound)

end Sys2Proof.Machine
end

