-- ==== Sys2Proof/Machine/RegisterWrite.lean ====
section
/-!
DEFINITION. REGISTER_WRITE: a write of a register by its key (R13, R14). A key is an offset in PF0's BAR0, or 0x8000000 + 0x10000 × n plus an
offset in VF n's BAR0; keys from 0x10000000 on stand for configuration space (log entry 17).
-/
namespace Sys2Proof.Machine
open Sys2Proof

/-- What a write of a key reaches (R11, R12, R19, R257 to R262). -/
inductive Target where
  /-- a register of a function's BAR0, at an aligned offset -/
  | bar (func : Nat)
  /-- an offset of a function's BAR0 that is not a multiple of four -/
  | unaligned (func : Nat)
  /-- word i of a function's configuration space -/
  | config (func i : Nat)
  | outside
  deriving DecidableEq, Repr

/-- The target of a key. -/
def targetOf (key : Nat) : Target :=
  if key < 0x8000000 then if key % 4 = 0 then .bar 0 else .unaligned 0
  else if key < 0x8010000 then .outside
  else if key < 0x9000000 then
    let f := (key - 0x8000000) / 0x10000
    if key % 4 = 0 then .bar f else .unaligned f
  else if 0x10000000 ≤ key ∧ key < 0x10100000 then .config ((key - 0x10000000) / 0x1000) (key % 0x1000 / 4)
  else .outside

/-! ### MSI-X tables (R529) -/

/-- A write of word `off / 4` of a function's MSI-X table: message address, upper address, data, and the mask bit of vector control. -/
def State.msixWrite (s : State) (f off : Nat) (v : W32) : State :=
  let n := off / 16
  let x := s.vector f n
  s.setVector f n (match off / 4 % 4 with
    | 0 => { x with addr := x.addr / 2 ^ 32 * 2 ^ 32 + v.toNat / 4 * 4 }
    | 1 => { x with addr := x.addr % 2 ^ 32 + 2 ^ 32 * v.toNat }
    | 2 => { x with data := v }
    | _ => { x with masked := flag v 0 })

/-! ### Registers whose write does more than its access type says -/

/-- A write of a CVU register of unit n (R252 to R254); clearing MISMATCH clears the unit's IRQ_STATUS bit. -/
def State.cvuWrite (s : State) (key n : Nat) (v : W32) : State :=
  let o := tableOffset key
  if o = Reg.cvuCtrl then s.cvuCtrlWrite n v
  else if o = Reg.cvuStatus then
    let s := s.plainWrite key v
    if flag v 0 then s.modReg Reg.cvuIrqStatus (clearBits · (bit32 n)) else s
  else if o = Reg.cvuData8 then s.cvuGuard n (s.cvuAbsorb n (toLE 1 v.toNat))
  else if o = Reg.cvuData32 then s.cvuGuard n (s.cvuAbsorb n (toLE 4 v.toNat))
  else if Reg.cvuPolyLo ≤ o ∧ o ≤ Reg.cvuExpectHi then s.cvuGuard n (s.plainWrite key v)
  else s

/-- Clearing a bit of CVU.IRQ_STATUS clears that unit's STATUS.MISMATCH (Table 9.8). -/
def State.cvuIrqWrite (s : State) (v : W32) : State :=
  (List.range 8).foldl (fun s n => if flag v n then s.modReg (cvuReg n Reg.cvuStatus) (clearBits · 1) else s)
    (s.plainWrite Reg.cvuIrqStatus v)

/-- A write of MRG_ALG: bits 0 to 7 stay 0 and bit 30 stays 1; ignored once locked (R244, Table 9.6). -/
def State.mrgAlgWrite (s : State) (v : W32) : State :=
  if flag (s.reg Reg.dgeMrgCtrl) 0 then s else s.setReg Reg.dgeMrgAlg ((v &&& 0xBFFFFF00) ||| 0x40000000)

/-- A word of a 64-bit setting replaced. -/
def putWord (old : Nat) (hi : Bool) (v : W32) : Nat :=
  if hi then old % 2 ^ 32 + 2 ^ 32 * v.toNat else old / 2 ^ 32 * 2 ^ 32 + v.toNat

/-- A write of a VFC register of the selected function (R308, R314): PF0's quota and map registers ignore writes; the map's settings are
ignored while EN is 1. -/
def State.vfcWrite (s : State) (key : Nat) (v : W32) : State :=
  let n := field (s.reg Reg.vfcFuncSel) 7 0
  let f := s.func n
  if n = 0 then s
  else if key = Reg.vfcQueueQuota then s.setFunc n { f with quota := field v 8 0 }
  else if key = Reg.vfcDirtyStatus then s.setFunc n { f with dirtyStatus := clearBits f.dirtyStatus (v &&& 7) }
  else if f.dirtyEn then s
  else if key = Reg.vfcDirtyMapLo then s.setFunc n { f with dirtyMap := putWord f.dirtyMap false v }
  else if key = Reg.vfcDirtyMapHi then s.setFunc n { f with dirtyMap := putWord f.dirtyMap true v }
  else if key = Reg.vfcDirtyIovaLo then s.setFunc n { f with dirtyIova := putWord f.dirtyIova false v }
  else if key = Reg.vfcDirtyIovaHi then s.setFunc n { f with dirtyIova := putWord f.dirtyIova true v }
  else if key = Reg.vfcDirtyPages then s.setFunc n { f with dirtyPages := v.toNat }
  else s

/-- A write of an admin queue's address register: ignored while the queue is ENABLED or DRAINING (R282). -/
def State.admqWrite (s : State) (func key : Nat) (v : W32) : State :=
  let q := s.queue func 0
  if s.qenOn = false ∨ q.state = .enabled ∨ q.state = .draining then s else s.plainWrite key v

/-- A write of ADMQ_CTRL. Disabling an ENABLED queue reads host memory and is ADMQ_DISABLE's alone (log entry 17). -/
def State.admqCtrlWrite (s : State) (func : Nat) (v : W32) : Answer :=
  if flag v 8 then execAdmqEnable func v s
  else if (s.queue func 0).state = .enabled then .next s
  else execAdmqDisable func v ⟨0, []⟩ s

/-- The registers of PF0 whose write changes more than the register, and has no row of its own. -/
def State.pfWrite (s : State) (key : Nat) (v : W32) : State :=
  let o := tableOffset key
  if pageOf key = 0xE ∧ key < 0xE0800 then s.cvuWrite key (key % 0x1000 / 0x100) v
  else if key = Reg.cvuIrqStatus then s.cvuIrqWrite v
  else if o = Reg.prtGroupCtrl then s.groupCtrlWrite (pageOf key - 0x10) v
  else if o = Reg.prtPortCfg then s.portCfgWrite (pageOf key - 0x10) v
  else if pageOf key = 0x60 ∧ Reg.vfcQueueQuota ≤ key ∧ key ≤ Reg.vfcMarkCount then s.vfcWrite key v
  else if 0x780000 ≤ key ∧ key < 0x788000 then s.msixWrite 0 (key - 0x780000) v
  else if Reg.qenAdmqRingLo ≤ key ∧ key ≤ Reg.qenAdmqQcbHi then s.admqWrite 0 key v
  else if pageOf key = 0x38 then (s.plainWrite key v).phwConfigure
  else if key = Reg.lcsRecoveryCtrl then s.recoveryCtrlWrite v
  else if key = Reg.fgsBounds then (s.plainWrite key v).testRates
  else if key = Reg.dgeMrgAlg then s.mrgAlgWrite v
  else if key = Reg.evjExpRecCons then s.consumeRecords v
  else if key = Reg.evjExpCpCons then s.consumeCps v
  else if key = Reg.trkCtrl then s.trkCtrlWrite v
  else if key = Reg.temSrcCfg then s.srcCfgWrite v
  else if key = Reg.temThrMargin then s.marginWrite v
  else if key = Reg.temThrHard then s.hardWrite v
  else if key = Reg.temThrBaseLim then s.baseLimWrite v
  else if key = Reg.adlAvsBounds then s.avsBoundsWrite v
  else if key = Reg.adlLaneCfg then s.laneCfgWrite v
  else s.plainWrite key v

/-- A write of a register of PF0's BAR0. A register whose write has a row of its own has that row's effect; DOORBELL, PIPE_UNFENCE and the
disabling of an admin queue carry more than a value, and come only as their own commands (log entry 17). -/
def State.pf0Write (s : State) (key : Nat) (v : W32) : Answer :=
  if key = Reg.pwrResetCtrl then execWarm v s
  else if key = Reg.lcsRecoveryData then execRecoveryDataWrite v s
  else if key = Reg.fgsReleaseGrid then execReleaseGridWrite v s
  else if key = Reg.rngCtrl then execMinPairsWrite v s
  else if key = Reg.dmaChanCtrl then execChanClear v s
  else if key = Reg.vfcDirtyCtrl then execSync v s
  else if key = Reg.vfcSaBase then execSaBaseWrite v s
  else if key = Reg.vfcSaCount then execSaCountWrite v s
  else if key = Reg.tsuRate then execRateWrite v s
  else if key = Reg.tsuServoOffset then execServoOffsetWrite v s
  else if key = Reg.tsuCapCtrl then execCapCtrlEnable v s
  else if key = Reg.evjExpCtrl then execExpCtrlWrite v s
  else if key = Reg.temRespClear then execRespClearDegrade v s
  else if key = Reg.temLock then execTemLock v s
  else if key = Reg.ustRtcCtrl then execRtcSet v s
  else if key = Reg.qenAdmqCtrl then s.admqCtrlWrite 0 v
  else if key = Reg.lcePipeUnfence then .next s
  else answer s (s.regWrite key (s.pfWrite key v))

/-- A write of a register of VF n's BAR0 (Table 10.3). -/
def State.vfWrite (s : State) (n key : Nat) (v : W32) : Answer :=
  let o := key % 0x10000
  if s.funcPresent n = false ∨ s.regsOpen = false then .next s
  else if s.blockDown key then answer s (s.logDown key 256)
  else if 0x8000 ≤ o ∧ o < 0x9000 then answer s (s.msixWrite n (o - 0x8000) v)
  else if o = 0x1010 then s.admqCtrlWrite n v
  else if 0x1000 ≤ o ∧ o < 0x1010 then answer s (s.admqWrite n key v)
  else answer s (s.plainWrite key v)

/-- REGISTER_WRITE (R13, R14, R20). -/
def execRegisterWrite (key : Nat) (value : W32) (s : State) : Answer :=
  match targetOf key with
  | .bar 0 => s.pf0Write key value
  | .bar n => s.vfWrite n key value
  | .unaligned f => execWrongSizeAccess f (if f = 0 then key else key % 0x10000) 4 true s
  | .config f i => s.configWrite f i value
  | .outside => .fault .outsideBar

end Sys2Proof.Machine
end

