-- ==== Sys2Proof/Machine/Dispatch.lean ====
section
/-!
DEFINITION. The effect of a command: one arm per command of the table.
-/
namespace Sys2Proof.Machine
open Sys2Proof

/-- The effect of a command on everything but the queue of commands. -/
def exec (i : Instr) (s : State) : Host.Outcome State Fault Refusal :=
  match i with
  | .registerWrite key value => Sys2Proof.Machine.execRegisterWrite key value s
  | .wrongSizeAccess func offset size isWrite => Sys2Proof.Machine.execWrongSizeAccess func offset size isWrite s
  | .poweredDownAccess offset isWrite => Sys2Proof.Machine.execPoweredDownAccess offset isWrite s
  | .lineEnWrite value => Sys2Proof.Machine.execLineEnWrite value s
  | .frameReceive group port frame check began => Sys2Proof.Machine.execFrameReceive group port frame check began s
  | .saContextFetchDone sa read => Sys2Proof.Machine.execSaContextFetchDone sa read s
  | .tcLaunch frame onTime => Sys2Proof.Machine.execTcLaunch frame onTime s
  | .tcEntryLapse pair fromLine => Sys2Proof.Machine.execTcEntryLapse pair fromLine s
  | .frameEgressEnd frame => Sys2Proof.Machine.execFrameEgressEnd frame s
  | .checkpointCount => Sys2Proof.Machine.execCheckpointCount s
  | .checkpointTimer => Sys2Proof.Machine.execCheckpointTimer s
  | .csigTimeout cp west => Sys2Proof.Machine.execCsigTimeout cp west s
  | .exportCopy cp read => Sys2Proof.Machine.execExportCopy cp read s
  | .expCtrlWrite value => Sys2Proof.Machine.execExpCtrlWrite value s
  | .porstRise board => Sys2Proof.Machine.execPorstRise board s
  | .hbmTrainingDone first second => Sys2Proof.Machine.execHbmTrainingDone first second s
  | .supplyMonitorReset valid => Sys2Proof.Machine.execSupplyMonitorReset valid s
  | .porstFall => Sys2Proof.Machine.execPorstFall s
  | .testmodeAssert => Sys2Proof.Machine.execTestmodeAssert s
  | .mainPowerLoss => Sys2Proof.Machine.execMainPowerLoss s
  | .vddUstReturn => Sys2Proof.Machine.execVddUstReturn s
  | .warm value => Sys2Proof.Machine.execWarm value s
  | .perstAssert => Sys2Proof.Machine.execPerstAssert s
  | .perstDeassert => Sys2Proof.Machine.execPerstDeassert s
  | .pcieRefLoss => Sys2Proof.Machine.execPcieRefLoss s
  | .thermalSample groups others => Sys2Proof.Machine.execThermalSample groups others s
  | .setPowerState slot => Sys2Proof.Machine.execSetPowerState slot s
  | .powerQuery slot => Sys2Proof.Machine.execPowerQuery slot s
  | .drainTimeout => Sys2Proof.Machine.execDrainTimeout s
  | .powerStateChangeDone => Sys2Proof.Machine.execPowerStateChangeDone s
  | .lcsQuery slot => Sys2Proof.Machine.execLcsQuery slot s
  | .lcsTransition slot good => Sys2Proof.Machine.execLcsTransition slot good s
  | .lcsChallenge slot => Sys2Proof.Machine.execLcsChallenge slot s
  | .challengeLapse => Sys2Proof.Machine.execChallengeLapse s
  | .returnAuthLapse => Sys2Proof.Machine.execReturnAuthLapse s
  | .debugUnlock slot => Sys2Proof.Machine.execDebugUnlock slot s
  | .debugLock slot => Sys2Proof.Machine.execDebugLock slot s
  | .imageStage slot => Sys2Proof.Machine.execImageStage slot s
  | .imageActivate slot => Sys2Proof.Machine.execImageActivate slot s
  | .svnAdvance slot => Sys2Proof.Machine.execSvnAdvance slot s
  | .recoveryStart value => Sys2Proof.Machine.execRecoveryStart value s
  | .recoveryDataWrite value => Sys2Proof.Machine.execRecoveryDataWrite value s
  | .recoveryDone value => Sys2Proof.Machine.execRecoveryDone value s
  | .operationPlace => Sys2Proof.Machine.execOperationPlace s
  | .priorityAging op => Sys2Proof.Machine.execPriorityAging op s
  | .preemption => Sys2Proof.Machine.execPreemption s
  | .gridTick => Sys2Proof.Machine.execGridTick s
  | .classPEnd op read => Sys2Proof.Machine.execClassPEnd op read s
  | .classCBodyEnd op check read => Sys2Proof.Machine.execClassCBodyEnd op check read s
  | .classCRelease op => Sys2Proof.Machine.execClassCRelease op s
  | .engineWipeEnd engine => Sys2Proof.Machine.execEngineWipeEnd engine s
  | .instructionInterrupt engine cause committed => Sys2Proof.Machine.execInstructionInterrupt engine cause committed s
  | .operandMemoryUe engine => Sys2Proof.Machine.execOperandMemoryUe engine s
  | .controlStoreUe engine master => Sys2Proof.Machine.execControlStoreUe engine master s
  | .watchdog engine => Sys2Proof.Machine.execWatchdog engine s
  | .iterLimit engine => Sys2Proof.Machine.execIterLimit engine s
  | .releaseGridWrite value => Sys2Proof.Machine.execReleaseGridWrite value s
  | .stPeriodWrite value => Sys2Proof.Machine.execStPeriodWrite value s
  | .periodicSelftest => Sys2Proof.Machine.execPeriodicSelftest s
  | .selftestDone engine pass => Sys2Proof.Machine.execSelftestDone engine pass s
  | .selftestRun slot => Sys2Proof.Machine.execSelftestRun slot s
  | .engineFence slot => Sys2Proof.Machine.execEngineFence slot s
  | .engineUnfence slot => Sys2Proof.Machine.execEngineUnfence slot s
  | .mlkemKeygen slot => Sys2Proof.Machine.execMlkemKeygen slot s
  | .mlkemEncaps slot => Sys2Proof.Machine.execMlkemEncaps slot s
  | .mlkemDecaps slot => Sys2Proof.Machine.execMlkemDecaps slot s
  | .mldsaKeygen slot => Sys2Proof.Machine.execMldsaKeygen slot s
  | .mldsaSign slot => Sys2Proof.Machine.execMldsaSign slot s
  | .mldsaVerify slot => Sys2Proof.Machine.execMldsaVerify slot s
  | .slhdsaKeygen slot => Sys2Proof.Machine.execSlhdsaKeygen slot s
  | .slhdsaSign slot => Sys2Proof.Machine.execSlhdsaSign slot s
  | .slhdsaVerify slot => Sys2Proof.Machine.execSlhdsaVerify slot s
  | .lmsKeygen slot => Sys2Proof.Machine.execLmsKeygen slot s
  | .lmsTreeBuild slot => Sys2Proof.Machine.execLmsTreeBuild slot s
  | .lmsSign slot => Sys2Proof.Machine.execLmsSign slot s
  | .lmsBlockConfirm keySlot => Sys2Proof.Machine.execLmsBlockConfirm keySlot s
  | .lmsLeafWaitTimeout slot => Sys2Proof.Machine.execLmsLeafWaitTimeout slot s
  | .lmsVerify slot => Sys2Proof.Machine.execLmsVerify slot s
  | .hssVerify slot => Sys2Proof.Machine.execHssVerify slot s
  | .hqcKeygen slot => Sys2Proof.Machine.execHqcKeygen slot s
  | .hqcEncaps slot => Sys2Proof.Machine.execHqcEncaps slot s
  | .hqcDecaps slot => Sys2Proof.Machine.execHqcDecaps slot s
  | .ecKeygen slot => Sys2Proof.Machine.execEcKeygen slot s
  | .ecdsaSign slot => Sys2Proof.Machine.execEcdsaSign slot s
  | .ecdsaVerify slot => Sys2Proof.Machine.execEcdsaVerify slot s
  | .ecdh slot => Sys2Proof.Machine.execEcdh slot s
  | .edKeygen slot => Sys2Proof.Machine.execEdKeygen slot s
  | .edSign slot => Sys2Proof.Machine.execEdSign slot s
  | .edVerify slot => Sys2Proof.Machine.execEdVerify slot s
  | .xdhKeygen slot => Sys2Proof.Machine.execXdhKeygen slot s
  | .xdh slot => Sys2Proof.Machine.execXdh slot s
  | .rsaSign slot => Sys2Proof.Machine.execRsaSign slot s
  | .rsaVerify slot => Sys2Proof.Machine.execRsaVerify slot s
  | .rsaOaepDecrypt slot => Sys2Proof.Machine.execRsaOaepDecrypt slot s
  | .rsaOaepEncrypt slot => Sys2Proof.Machine.execRsaOaepEncrypt slot s
  | .pairSample pair bit => Sys2Proof.Machine.execPairSample pair bit s
  | .blockConditioned => Sys2Proof.Machine.execBlockConditioned s
  | .channelReseed channel => Sys2Proof.Machine.execChannelReseed channel s
  | .drbgReseedDue inst => Sys2Proof.Machine.execDrbgReseedDue inst s
  | .drbgStop inst => Sys2Proof.Machine.execDrbgStop inst s
  | .stallTimeout slot => Sys2Proof.Machine.execStallTimeout slot s
  | .startupTestEnd pair => Sys2Proof.Machine.execStartupTestEnd pair s
  | .minPairsWrite value => Sys2Proof.Machine.execMinPairsWrite value s
  | .rngFifoRefill => Sys2Proof.Machine.execRngFifoRefill s
  | .rngDataRead => Sys2Proof.Machine.execRngDataRead s
  | .vfRngDataRead func => Sys2Proof.Machine.execVfRngDataRead func s
  | .rngGenerate slot => Sys2Proof.Machine.execRngGenerate slot s
  | .rngRawRead slot => Sys2Proof.Machine.execRngRawRead slot s
  | .rngPairRestore slot => Sys2Proof.Machine.execRngPairRestore slot s
  | .keyPrepare slot => Sys2Proof.Machine.execKeyPrepare slot s
  | .keyGenerate slot => Sys2Proof.Machine.execKeyGenerate slot s
  | .keyImport slot => Sys2Proof.Machine.execKeyImport slot s
  | .keyDerive slot => Sys2Proof.Machine.execKeyDerive slot s
  | .keyWrap slot => Sys2Proof.Machine.execKeyWrap slot s
  | .keyUnwrap slot => Sys2Proof.Machine.execKeyUnwrap slot s
  | .keyDelete slot => Sys2Proof.Machine.execKeyDelete slot s
  | .keyRestrict slot => Sys2Proof.Machine.execKeyRestrict slot s
  | .keyQuery slot => Sys2Proof.Machine.execKeyQuery slot s
  | .keyRangeSet slot => Sys2Proof.Machine.execKeyRangeSet slot s
  | .keyBvrInit slot => Sys2Proof.Machine.execKeyBvrInit slot s
  | .deviceSlotRederive keySlot => Sys2Proof.Machine.execDeviceSlotRederive keySlot s
  | .hash slot => Sys2Proof.Machine.execHash slot s
  | .hmac slot => Sys2Proof.Machine.execHmac slot s
  | .hmacVerify slot => Sys2Proof.Machine.execHmacVerify slot s
  | .kmac slot => Sys2Proof.Machine.execKmac slot s
  | .mrgExtend slot => Sys2Proof.Machine.execMrgExtend slot s
  | .cvuRun slot => Sys2Proof.Machine.execCvuRun slot s
  | .mrgLock value => Sys2Proof.Machine.execMrgLock value s
  | .cvuStart unit value => Sys2Proof.Machine.execCvuStart unit value s
  | .cvuCheck unit value => Sys2Proof.Machine.execCvuCheck unit value s
  | .cvuData8Write unit value => Sys2Proof.Machine.execCvuData8Write unit value s
  | .cvuData32Write unit value => Sys2Proof.Machine.execCvuData32Write unit value s
  | .doorbell func qid view => Sys2Proof.Machine.execDoorbell func qid view s
  | .phaseRetry func qid view => Sys2Proof.Machine.execPhaseRetry func qid view s
  | .scanResume func qid view => Sys2Proof.Machine.execScanResume func qid view s
  | .dmaReadComplete slot view => Sys2Proof.Machine.execDmaReadComplete slot view s
  | .flushingReadReturn func qid index => Sys2Proof.Machine.execFlushingReadReturn func qid index s
  | .headIdxWrite func qid => Sys2Proof.Machine.execHeadIdxWrite func qid s
  | .admqEnable func value => Sys2Proof.Machine.execAdmqEnable func value s
  | .admqDisable func value view => Sys2Proof.Machine.execAdmqDisable func value view s
  | .nop slot => Sys2Proof.Machine.execNop slot s
  | .queueCreate slot => Sys2Proof.Machine.execQueueCreate slot s
  | .queueDisable slot view => Sys2Proof.Machine.execQueueDisable slot view s
  | .queueEnable slot => Sys2Proof.Machine.execQueueEnable slot s
  | .queueDestroy slot => Sys2Proof.Machine.execQueueDestroy slot s
  | .entryAbort slot => Sys2Proof.Machine.execEntryAbort slot s
  | .queueQuery slot => Sys2Proof.Machine.execQueueQuery slot s
  | .busMasterEnableChange func enable => Sys2Proof.Machine.execBusMasterEnableChange func enable s
  | .d3hotEntry func => Sys2Proof.Machine.execD3hotEntry func s
  | .vfFlr func => Sys2Proof.Machine.execVfFlr func s
  | .pf0Flr => Sys2Proof.Machine.execPf0Flr s
  | .vfEnableClear => Sys2Proof.Machine.execVfEnableClear s
  | .flrComplete func => Sys2Proof.Machine.execFlrComplete func s
  | .dmaTransferFail func kind cause addr qid tag => Sys2Proof.Machine.execDmaTransferFail func kind cause addr qid tag s
  | .dmaRetry func landed => Sys2Proof.Machine.execDmaRetry func landed s
  | .chanClear value => Sys2Proof.Machine.execChanClear value s
  | .sync value => Sys2Proof.Machine.execSync value s
  | .syncReadReturn func ok => Sys2Proof.Machine.execSyncReadReturn func ok s
  | .saBaseWrite value => Sys2Proof.Machine.execSaBaseWrite value s
  | .saCountWrite value => Sys2Proof.Machine.execSaCountWrite value s
  | .applyGroup group value => Sys2Proof.Machine.execApplyGroup group value s
  | .applyDone group => Sys2Proof.Machine.execApplyDone group s
  | .portCounterClear group value => Sys2Proof.Machine.execPortCounterClear group value s
  | .counterLoRead key => Sys2Proof.Machine.execCounterLoRead key s
  | .linkUp group port remoteFault => Sys2Proof.Machine.execLinkUp group port remoteFault s
  | .linkDown group port pcsLock fecLock localFault remoteFault => Sys2Proof.Machine.execLinkDown group port pcsLock fecLock localFault remoteFault s
  | .saInstall slot => Sys2Proof.Machine.execSaInstall slot s
  | .saRemove slot => Sys2Proof.Machine.execSaRemove slot s
  | .saPin slot => Sys2Proof.Machine.execSaPin slot s
  | .saQuery slot => Sys2Proof.Machine.execSaQuery slot s
  | .clsWrite slot => Sys2Proof.Machine.execClsWrite slot s
  | .clsRead slot => Sys2Proof.Machine.execClsRead slot s
  | .clsClear slot => Sys2Proof.Machine.execClsClear slot s
  | .clsInfo slot => Sys2Proof.Machine.execClsInfo slot s
  | .ratchetDeriveDone sa => Sys2Proof.Machine.execRatchetDeriveDone sa s
  | .ratchetOverlapEnd sa => Sys2Proof.Machine.execRatchetOverlapEnd sa s
  | .pipelineSelftest pipe result => Sys2Proof.Machine.execPipelineSelftest pipe result s
  | .pipeUnfence value passes => Sys2Proof.Machine.execPipeUnfence value passes s
  | .aesGcmEncrypt slot => Sys2Proof.Machine.execAesGcmEncrypt slot s
  | .aesGcmDecrypt slot => Sys2Proof.Machine.execAesGcmDecrypt slot s
  | .aesGmacGen slot => Sys2Proof.Machine.execAesGmacGen slot s
  | .aesGmacVerify slot => Sys2Proof.Machine.execAesGmacVerify slot s
  | .aesCtr slot => Sys2Proof.Machine.execAesCtr slot s
  | .aesCbcEncrypt slot => Sys2Proof.Machine.execAesCbcEncrypt slot s
  | .aesCbcDecrypt slot => Sys2Proof.Machine.execAesCbcDecrypt slot s
  | .aesXtsEncrypt slot => Sys2Proof.Machine.execAesXtsEncrypt slot s
  | .aesXtsDecrypt slot => Sys2Proof.Machine.execAesXtsDecrypt slot s
  | .aesKwWrap slot => Sys2Proof.Machine.execAesKwWrap slot s
  | .aesKwUnwrap slot => Sys2Proof.Machine.execAesKwUnwrap slot s
  | .aesKwpWrap slot => Sys2Proof.Machine.execAesKwpWrap slot s
  | .aesKwpUnwrap slot => Sys2Proof.Machine.execAesKwpUnwrap slot s
  | .rateWrite value => Sys2Proof.Machine.execRateWrite value s
  | .servoOffsetWrite value => Sys2Proof.Machine.execServoOffsetWrite value s
  | .lockTimeout => Sys2Proof.Machine.execLockTimeout s
  | .todNsRead => Sys2Proof.Machine.execTodNsRead s
  | .capCtrlEnable value => Sys2Proof.Machine.execCapCtrlEnable value s
  | .timeRead slot => Sys2Proof.Machine.execTimeRead slot s
  | .timeStep slot => Sys2Proof.Machine.execTimeStep slot s
  | .phwCalibrate slot => Sys2Proof.Machine.execPhwCalibrate slot s
  | .phwCalibrationEnd reading offset gain => Sys2Proof.Machine.execPhwCalibrationEnd reading offset gain s
  | .phwWindow magA magB freq residual => Sys2Proof.Machine.execPhwWindow magA magB freq residual s
  | .rtcSync => Sys2Proof.Machine.execRtcSync s
  | .jrnPubkey slot => Sys2Proof.Machine.execJrnPubkey slot s
  | .jrnRead slot read => Sys2Proof.Machine.execJrnRead slot read s
  | .jrnCheckpoint slot => Sys2Proof.Machine.execJrnCheckpoint slot s
  | .jrnReadCp slot read => Sys2Proof.Machine.execJrnReadCp slot read s
  | .trkEnable value => Sys2Proof.Machine.execTrkEnable value s
  | .soloWrite value => Sys2Proof.Machine.execSoloWrite value s
  | .helloSend west => Sys2Proof.Machine.execHelloSend west s
  | .hello west frame => Sys2Proof.Machine.execHello west frame s
  | .helloAck west frame => Sys2Proof.Machine.execHelloAck west frame s
  | .epochRetry => Sys2Proof.Machine.execEpochRetry s
  | .heartbeatSend west => Sys2Proof.Machine.execHeartbeatSend west s
  | .heartbeat west frame => Sys2Proof.Machine.execHeartbeat west frame s
  | .mirror west arrival => Sys2Proof.Machine.execMirror west arrival s
  | .mirrorAck west frame => Sys2Proof.Machine.execMirrorAck west frame s
  | .mirrorAckTimeout => Sys2Proof.Machine.execMirrorAckTimeout s
  | .rxStateSend => Sys2Proof.Machine.execRxStateSend s
  | .probe west frame => Sys2Proof.Machine.execProbe west frame s
  | .probeReply west frame => Sys2Proof.Machine.execProbeReply west frame s
  | .heartbeatSilence west => Sys2Proof.Machine.execHeartbeatSilence west s
  | .probeTimeout west => Sys2Proof.Machine.execProbeTimeout west s
  | .takeoverDone bad read => Sys2Proof.Machine.execTakeoverDone bad read s
  | .takeoverNotice west frame => Sys2Proof.Machine.execTakeoverNotice west frame s
  | .leave west frame => Sys2Proof.Machine.execLeave west frame s
  | .epochPrepare west frame => Sys2Proof.Machine.execEpochPrepare west frame s
  | .epochCommit west frame => Sys2Proof.Machine.execEpochCommit west frame s
  | .epochPassTimeout => Sys2Proof.Machine.execEpochPassTimeout s
  | .oldRingKeyExpire => Sys2Proof.Machine.execOldRingKeyExpire s
  | .csigReq west frame => Sys2Proof.Machine.execCsigReq west frame s
  | .csigResp west frame => Sys2Proof.Machine.execCsigResp west frame s
  | .ringMapSet slot => Sys2Proof.Machine.execRingMapSet slot s
  | .ringMapClear slot => Sys2Proof.Machine.execRingMapClear slot s
  | .ringStatus slot => Sys2Proof.Machine.execRingStatus slot s
  | .ringEpoch slot => Sys2Proof.Machine.execRingEpoch slot s
  | .tamperTick tick => Sys2Proof.Machine.execTamperTick tick s
  | .tallyBurnDone group => Sys2Proof.Machine.execTallyBurnDone group s
  | .respClearDegrade value => Sys2Proof.Machine.execRespClearDegrade value s
  | .temLock value => Sys2Proof.Machine.execTemLock value s
  | .rtcSet value => Sys2Proof.Machine.execRtcSet value s
  | .rtcSubRead => Sys2Proof.Machine.execRtcSubRead s
  | .logData0Read => Sys2Proof.Machine.execLogData0Read s
  | .cardInsert classB => Sys2Proof.Machine.execCardInsert classB s
  | .cardRemove => Sys2Proof.Machine.execCardRemove s
  | .t1BlockReceive block parityOk => Sys2Proof.Machine.execT1BlockReceive block parityOk s
  | .t1WaitTimeout ms => Sys2Proof.Machine.execT1WaitTimeout ms s
  | .cardActivate slot => Sys2Proof.Machine.execCardActivate slot s
  | .cardDeactivate slot => Sys2Proof.Machine.execCardDeactivate slot s
  | .cardApdu slot => Sys2Proof.Machine.execCardApdu slot s
  | .ceremonyBegin slot => Sys2Proof.Machine.execCeremonyBegin slot s
  | .ceremonyCard slot => Sys2Proof.Machine.execCeremonyCard slot s
  | .ceremonyEnd slot => Sys2Proof.Machine.execCeremonyEnd slot s
  | .ceremonyLapse => Sys2Proof.Machine.execCeremonyLapse s
  | .sealedRead slot => Sys2Proof.Machine.execSealedRead slot s
  | .sealedWrite slot => Sys2Proof.Machine.execSealedWrite slot s
  | .sealedCounter slot => Sys2Proof.Machine.execSealedCounter slot s
  | .crdRxDataRead => Sys2Proof.Machine.execCrdRxDataRead s
  | .patrolScrub flips severity => Sys2Proof.Machine.execPatrolScrub flips severity s
  | .avsStep slacks answered => Sys2Proof.Machine.execAvsStep slacks answered s
  | .droopEpisodeBegin => Sys2Proof.Machine.execDroopEpisodeBegin s
  | .droopEpisodeEnd => Sys2Proof.Machine.execDroopEpisodeEnd s
  | .serdesAdaptStep lane move eye => Sys2Proof.Machine.execSerdesAdaptStep lane move eye s
  | .avsCalibrate slot => Sys2Proof.Machine.execAvsCalibrate slot s
  | .avsCalibrationEnd monitors offsets => Sys2Proof.Machine.execAvsCalibrationEnd monitors offsets s
  | .serdesRecal slot => Sys2Proof.Machine.execSerdesRecal slot s
  | .serdesRecalEnd results => Sys2Proof.Machine.execSerdesRecalEnd results s
  | .msixPendingSend func vec => Sys2Proof.Machine.execMsixPendingSend func vec s
  | .supplyMonitorRelease board => Sys2Proof.Machine.execSupplyMonitorRelease board s
  | .testmodeDeassert board => Sys2Proof.Machine.execTestmodeDeassert board s
  | .pcieRefReturn => Sys2Proof.Machine.execPcieRefReturn s
  | .pcieLinkDown => Sys2Proof.Machine.execPcieLinkDown s
  | .pcieLinkUp => Sys2Proof.Machine.execPcieLinkUp s
  | .holdoverLimit => Sys2Proof.Machine.execHoldoverLimit s
  | .hotRefreshChange stack temp => Sys2Proof.Machine.execHotRefreshChange stack temp s
  | .digestCommit slot sound => Sys2Proof.Machine.execDigestCommit slot sound s
  | .lookasideCipherEnd slot read => Sys2Proof.Machine.execLookasideCipherEnd slot read s
  | .atrWaitTimeout => Sys2Proof.Machine.execAtrWaitTimeout s

end Sys2Proof.Machine
end

