-- ==== Sys2Proof/Machine/Step.lean ====
section
/-!
DEFINITION. One step of the machine: the command at the front of the queue, or one CLK_CTL edge while none waits.
-/
namespace Sys2Proof.Machine
open Sys2Proof

/-- One step: the front command acts on the state with the rest of the queue; on an empty queue one CLK_CTL edge passes (R93, R366; log
entry 18). -/
def step (s : State) : Host.Outcome State Fault Refusal :=
  match s.pending with
  | [] => .next s.edge
  | c :: rest => exec c { s with pending := rest }

/-- The state with the command that a word spells put at the front of its queue; no word of the table spells one. -/
def State.withFetchWord (s : State) (nbits w : Nat) : State :=
  match decodeTableWord nbits w with
  | some c => { s with pending := c :: s.pending }
  | none => s

end Sys2Proof.Machine
end

