-- ==== Sys2Proof/Machine/Views.lean ====
section
/-!
DEFINITION. What every register reads: the registers that show other state, and `State.readReg`, the value of a read of any register whose
read changes nothing (R13, R14). Reads that change state have rows of their own.
-/
namespace Sys2Proof.Machine
open Sys2Proof

/-- A register made of fields, each a value and the place of its lowest bit. -/
def packed (l : List (Nat × Nat)) : W32 := BitVec.ofNat 32 (l.map fun (f : Nat × Nat) => f.1 * 2 ^ f.2).sum

/-- One bit per item of a list, the first lowest. -/
def bitList (l : List Bool) : Nat := l.foldr (fun b n => b2n b + 2 * n) 0

/-- A 32-bit half of a number. -/
def half (v : Nat) (hi : Bool) : W32 := BitVec.ofNat 32 (if hi then v / 2 ^ 32 else v)

/-! ### RNG, KST (Tables 7.7, 8.11) -/

/-- RNG.STATUS. -/
def State.rngStatusView (s : State) : W32 :=
  packed [(b2n s.rng.ready, 0), (b2n s.rng.fault, 1), (b2n (s.rng.chans.any (·.hold)), 2), (s.rng.count, 8),
    (bitList ((List.range 4).map s.drbgServes), 12)]

/-- RNG.PAIR_STATE: the pairs in service below the flags of the tests that they failed. -/
def State.pairStateView (s : State) : W32 := setField (s.reg Reg.rngPairState) 7 0 (bitList (s.rng.pairs.map (·.inService)))

/-- KST.STATUS. -/
def State.kstStatusView (s : State) : W32 :=
  let slots := s.kst.slots.filter fun p => decide (p.1 < 4096)
  packed [((slots.filter fun p => p.2.valid).length, 0), ((slots.filter fun p => p.2.claimed).length, 16)]

/-- The code of a BVR state (R215). -/
def BvrState.code : BvrState → Nat
  | .none => 0
  | .valid => 1
  | .lost => 2
  | .erased => 3

/-- KST.ROOT_STATUS. -/
def State.rootStatusView (s : State) : W32 :=
  packed [(b2n (s.slot 0).valid, 0), (b2n (s.slot 1).valid, 1), (b2n s.bvrPolicy, 2), (s.kst.bvrState.code, 3),
    (b2n s.lcs.testRoot, 5), (b2n (s.slot 8).valid, 6)]

/-- KST.RANGE of the selected function. -/
def State.kstRangeView (s : State) : W32 :=
  let f := s.func (field (s.reg Reg.kstRangeSel) 7 0)
  packed [(f.keyBase, 0), (f.keyCount, 16), (b2n f.plainImport, 28)]

/-- The attribute word of the selected slot. -/
def State.attrView (s : State) : Nat := (s.slot (field (s.reg Reg.kstSlotSel) 11 0)).attr.toNat

/-! ### CMB, MCS, FGS (Tables 3.10, 3.12, 4.11) -/

/-- Engines of a kind in the layout in force. -/
def State.kindCount (s : State) (k : Nat) : Nat := (s.comb.engines.filter fun e => e.kind == k).length

/-- CMB.LAYOUT. -/
def State.layoutView (s : State) : W32 := packed ((List.range 4).map fun k => (s.kindCount k, 8 * k))

/-- CMB.FEATURES. -/
def State.featuresView (s : State) : W32 := packed [(s.comb.groupMask, 0), (b2n s.comb.dgeSlotEn, 16)]

/-- CMB.GROUP_POWER. -/
def State.groupPowerView (s : State) : W32 := packed [(bitList ((List.range 12).map fun g => !s.groupOn g), 0)]

/-- CMB.GROUP_STATUS of the selected group; 0 above 11 (R110). -/
def State.groupStatusView (s : State) : W32 :=
  let g := field (s.reg Reg.cmbGroupSel) 3 0
  if 11 < g then 0
  else packed [((BitVec.ofInt 8 (s.comb.temps.getD g 0)).toNat, 0), ((s.comb.engines.filter fun e => e.group == g).length, 8)]

/-- ENG_INFO.STATE of an engine (Table 3.10). -/
def State.engineState (s : State) (n : Nat) (e : Engine) : Nat :=
  if s.gated e then 6
  else match e.state with
    | .withdrawn => 3
    | .wiping => 4
    | .ready => if e.fenced then 5 else if s.depth n = 0 then 1 else 2

/-- CMB.ENG_INFO of the selected engine; 0 where there is none (R110). -/
def State.engInfoView (s : State) : W32 :=
  let n := field (s.reg Reg.cmbEngSel) 6 0
  match s.engine n with
  | some e => packed [(e.kind, 0), (e.firstCell, 8), (e.group, 16), (e.maskCh, 20), (s.engineState n e, 24),
      (b2n (s.comb.ops.any fun o => o.engine == some n && o.classC && o.stage.running), 27), (min 15 (s.depth n), 28)]
  | none => 0

/-- CMB.ENG_ERR of the selected engine. -/
def State.engErrView (s : State) : W32 := match s.engine (field (s.reg Reg.cmbEngSel) 6 0) with
  | some e => packed [(s.ceRate e, 0), (min 65535 e.ceTotal, 8), (min 255 e.ueCount, 24)]
  | none => 0

/-- MCS.STATUS: DONE once step 10 of boot has ended. -/
def State.mcsStatusView (s : State) : W32 :=
  packed [(s.comb.kindLoaded, 0), (b2n (s.lcs.phase == .testing || s.lcs.phase == .done), 4)]

/-- The kind that KIND_SEL selects. -/
def State.selKind (s : State) : Nat := field (s.reg Reg.mcsKindSel) 1 0

/-- The programs of the selected kind, in directory order. -/
def State.kindPrograms (s : State) : List Program := s.comb.programs.filter fun p => p.kind == s.selKind

/-- MCS.KIND_INFO. -/
def State.kindInfoView (s : State) : W32 := packed [(s.comb.csWords.getD s.selKind 0, 0), (s.kindPrograms.length, 16)]

/-- A value of the selected program; 0 where the directory has none. -/
def State.progView (s : State) (f : Program → Nat) : W32 := match s.kindPrograms[field (s.reg Reg.mcsProgSel) 7 0]? with
  | some p => BitVec.ofNat 32 (f p)
  | none => 0

/-- MCS.PROG_INFO of a program. -/
def Program.info (p : Program) : Nat :=
  p.opcode + 2 ^ 16 * b2n p.classC + 2 ^ 17 * b2n p.compat + 2 ^ 18 * p.pset + 2 ^ 22 * b2n p.iterating

/-- The lowest and highest engine number of a FENCE register, as bits. -/
def State.fenceView (s : State) (w : Nat) : W32 :=
  packed [(bitList ((List.range 32).map fun i => s.engineIs (32 * w + i) fun e => e.fenced), 0)]

/-- FGS.STATUS. -/
def State.fgsStatusView (s : State) : W32 :=
  let under := match s.comb.testing with | some t => t.1 | none => 0
  packed [(b2n s.comb.gridPending, 0), (b2n s.comb.testing.isSome, 1), (under, 2), (b2n s.classCHeld, 9), (b2n s.pwr.thermLimit, 10)]

/-- The class C program that DOP_SEL names, none in the cases of R112. -/
def State.dopProgram (s : State) : Option Program :=
  let op := field (s.reg Reg.fgsDopSel) 15 0
  if s.comb.gridPending ∨ s.kindCount (engineKind op) = 0 then none
  else match s.program op with
    | some p => if p.classC then some p else none
    | none => none

/-- FGS.DOP_NS, or D0 of an iterating program (R95, R112). -/
def State.dopNsView (s : State) : W32 := match s.dopProgram with
  | some p => BitVec.ofNat 32 (s.dop p.p0 p.l0)
  | none => 0

/-- FGS.DOP_ITER_NS: D1 of an iterating program. -/
def State.dopIterView (s : State) : W32 := match s.dopProgram with
  | some p => if p.iterating then BitVec.ofNat 32 (s.dop p.p1 p.l1) else 0
  | none => 0

/-! ### QEN, DMA, VFC and the VF block (Tables 10.4, 10.10, 11.7, 11.9) -/

/-- Tracker slots held. -/
def State.trackUsed (s : State) : Nat := (s.slotsWhere fun _ => true).length

/-- QEN.STATUS. -/
def State.qenStatusView (s : State) : W32 :=
  packed [(s.trackUsed, 0), (b2n (decide (8192 ≤ s.trackUsed)), 14), (s.queuesOf fun _ => true, 16)]

/-- ADMQ_STATUS of a function: CFG_ERR is stored, the rest follows the queue. -/
def State.admqStatusView (s : State) (f : Nat) : W32 :=
  let q := s.queue f 0
  let cfg := b2n (flag (s.reg (admReg f Reg.qenAdmqStatus Reg.vfAdmqStatus)) 3)
  packed [(b2n (q.state == .enabled), 0), (b2n (q.state == .absent || q.state == .idle), 1), (b2n q.error, 2), (cfg, 3), (q.errCode, 8)]

/-- The queue that QSEL selects, with its function and number. -/
def State.selQueue (s : State) : Nat × Nat × Queue :=
  let w := s.reg Reg.qenQsel
  (field w 7 0, field w 15 8, s.queue (field w 7 0) (field w 15 8))

/-- QEN.QSTATE of the selected queue; 0 while it is ABSENT. -/
def State.qstateView (s : State) : W32 :=
  let (f, n, q) := s.selQueue
  if q.state = .absent then 0
  else packed [(q.state.code, 0), (b2n q.error, 2), (q.log2, 3), (q.errCode, 8), (s.heldByQueue f n, 16)]

/-- DMA.HALT0 to HALT7: one bit per channel. -/
def State.haltView (s : State) (w : Nat) : W32 := packed [(bitList ((List.range 32).map fun i => (s.chan (32 * w + i)).halted), 0)]

/-- The channel that CHAN_SEL selects. -/
def State.selChan (s : State) : Channel := s.chan (field (s.reg Reg.dmaChanSel) 7 0)

/-- VFC.FUNC_STATE of function n. -/
def State.funcStateView (s : State) (n : Nat) : W32 :=
  let f := s.func n
  packed [(b2n (s.funcPresent n), 0), (b2n f.bme, 1), (b2n f.d3hot, 2), (b2n f.flrActive, 3), (b2n (s.chan n).halted, 4)]

/-- A VFC register of the selected function (R314): PF0 has quota 256 and no map. -/
def State.vfcView (s : State) (key : Nat) : W32 :=
  let n := field (s.reg Reg.vfcFuncSel) 7 0
  let f := s.func n
  if key = Reg.vfcFuncState then s.funcStateView n
  else if key = Reg.vfcQueueQuota then BitVec.ofNat 32 f.quota
  else if key = Reg.vfcSaBase then BitVec.ofNat 32 f.saBase
  else if key = Reg.vfcSaCount then BitVec.ofNat 32 f.saCount
  else if n = 0 then 0
  else if key = Reg.vfcDirtyCtrl then BitVec.ofNat 32 (b2n f.dirtyEn)
  else if key = Reg.vfcDirtyStatus then f.dirtyStatus
  else if key = Reg.vfcDirtyMapLo then half f.dirtyMap false
  else if key = Reg.vfcDirtyMapHi then half f.dirtyMap true
  else if key = Reg.vfcDirtyIovaLo then half f.dirtyIova false
  else if key = Reg.vfcDirtyIovaHi then half f.dirtyIova true
  else if key = Reg.vfcDirtyPages then BitVec.ofNat 32 f.dirtyPages
  else f.markCount

/-- VF.STATUS of VF n (Table 10.4). -/
def State.vfStatusView (s : State) (n : Nat) : W32 :=
  packed [(b2n s.halted, 0), (b2n (s.func n).flrActive, 1), (b2n (decide (s.trackQuota ≤ s.heldBy n)), 2), (s.queuesOf (· == n), 8)]

/-- A word of a function's MSI-X table (R529). -/
def State.msixView (s : State) (f off : Nat) : W32 :=
  let x := s.vector f (off / 16)
  match off / 4 % 4 with
  | 0 => half x.addr false
  | 1 => half x.addr true
  | 2 => x.data
  | _ => BitVec.ofNat 32 (b2n x.masked)

/-- A word of a function's pending-bit array. -/
def State.pbaView (s : State) (f w : Nat) : W32 :=
  packed [(bitList ((List.range 32).map fun i => (s.vector f (32 * w + i)).pending), 0)]

/-! ### DGE, CVU (Tables 9.6, 9.8) -/

/-- DGE.STATUS. -/
def State.dgeStatusView (s : State) : W32 :=
  packed [(bitList ((List.range 8).map fun n => s.dge.cmds.any fun c => c.lane == some n), 0),
    (b2n (s.lcs.state == .manufacture || s.lcs.state == .returned), 8), (b2n s.comb.dgeSlotEn, 9)]

/-- A word of the measurement registers, its lowest byte in bits [7:0] (R255). -/
def State.mrgView (s : State) (w : Nat) : W32 := BitVec.ofNat 32 (leAt (s.dge.mrg.getD (w / 12) []) (w % 12 * 4) 4)

/-- A register of CVU unit n; settings read zero above W (R251). -/
def State.cvuView (s : State) (key n : Nat) : W32 :=
  let o := tableOffset key
  if o = Reg.cvuStatus then setField (s.reg key) 2 2 (b2n (s.cvuOwner n).isSome)
  else if o = Reg.cvuResultLo then half (s.cvuResult n) false
  else if o = Reg.cvuResultHi then half (s.cvuResult n) true
  else if Reg.cvuPolyLo ≤ o ∧ o ≤ Reg.cvuExpectHi then half (s.cvuGet n (o - o % 8)) (o % 8 == 4)
  else s.reg key

/-! ### PRT, LCE (Tables 12.7, 13.10) -/

/-- PRT.GROUP_STATUS. -/
def State.prtGroupView (s : State) (g : Nat) : W32 :=
  let x := s.group g
  packed [(modePorts x.mode, 0), (bitList ((List.range 4).map (s.linkIsUp g)), 4), (b2n (!s.pairAgrees g), 8), (b2n x.applying, 9)]

/-- PRT.PORT_STATUS of the selected port. -/
def State.prtPortView (s : State) (g : Nat) : W32 :=
  let p := s.selPort g
  let x := s.port g p
  packed [(bitList [s.linkIsUp g p, x.pcsLock, x.fecLock, x.anDone, x.trained, x.localFault, x.remoteFault], 0)]

/-- A counter's register: its LO word now, or the HI word latched by the last read of the LO word (R333). -/
def State.counterView (s : State) (key : Nat) : W32 :=
  match s.counterOf key, s.counterOf (key - 4) with
  | some k, _ => half (s.wideOf k).toNat false
  | none, some k => Sparse.get (fun _ => 0) s.line.latch k
  | none, none => s.reg key

/-- A register of a PRT page. -/
def State.prtView (s : State) (key : Nat) : W32 :=
  let o := tableOffset key
  let g := pageOf key - 0x10
  if o = Reg.prtGroupStatus then s.prtGroupView g
  else if o = Reg.prtPortCfg then BitVec.ofNat 32 (s.port g (s.selPort g)).maxFrame
  else if o = Reg.prtPortStatus then s.prtPortView g
  else if o = Reg.prtLinkDowns then half (s.wideOf (4 * key + s.selPort g)).toNat false
  else s.counterView key

/-- The selected SA, if one is installed. -/
def State.selSa (s : State) : Option (Nat × Sa) :=
  let i := field (s.reg Reg.lceSaSel) 23 0
  (s.sa i).map fun x => (i, x)

/-- LCE.SA_STATE. -/
def State.saStateView (s : State) : W32 := match s.selSa with
  | some (i, x) => packed [(bitList [true, x.pinned, s.isCached i, x.exhausted, x.held,
      x.saType == 1 && i == baseOf i + s.txAn (baseOf i), x.pendingGen], 0), (x.saType, 8), (x.func, 16), (x.lines, 24)]
  | none => 0

/-- LCE.SA_PN: the next value to assign, NEXT_RX_PN, or T + 1. -/
def State.saPnView (s : State) (hi : Bool) : W32 := match s.selSa with
  | some (_, x) => half (if x.saType = 4 then x.next + 1 else x.next) hi
  | none => 0

/-- LCE.SA_GEN: 0 without ratchet. -/
def State.saGenView (s : State) : W32 := match s.selSa with
  | some (_, x) => if x.ratchets then BitVec.ofNat 32 x.gen else 0
  | none => 0

/-- A register of LCE. -/
def State.lceView (s : State) (key : Nat) : W32 :=
  if key = Reg.lceStatus then packed [((List.range 16).countP fun p => !bitOf s.line.fenced.toNat p, 0)]
  else if key = Reg.lcePipeFence then packed [(s.line.fenced.toNat, 0)]
  else if key = Reg.lceSaState then s.saStateView
  else if key = Reg.lceSaPnLo then s.saPnView false
  else if key = Reg.lceSaPnHi then s.saPnView true
  else if key = Reg.lceSaGen then s.saGenView
  else s.counterView key

/-! ### TSU, PHW, EVJ, TRK, ERC (Tables 14.9, 14.11, 15.7, 16.11, 22.6) -/

/-- PHW.STATUS. -/
def State.phwStatusView (s : State) : W32 := packed [(s.phw.state, 0), (b2n s.phw.cfgErr, 3), (b2n s.phw.onPwb, 4)]

/-- EVJ.STATUS. -/
def State.evjStatusView (s : State) : W32 :=
  packed [(b2n s.jrnKey, 0), (min 8 (s.evj.cps.filter fun c => c.stage != .committed).length, 1), (b2n s.mixedRing, 5),
    (b2n (s.slot 4).test, 6)]

/-- The 32 bytes of an error-log entry (Table 22.6). -/
def LogEntry.bytes (e : LogEntry) : Bytes :=
  toLE 8 e.time.toNat ++ toLE 2 e.code ++ [BitVec.ofNat 8 (e.cls + 4 * e.scope), BitVec.ofNat 8 e.func] ++ toLE 2 e.qid ++ zeros 2 ++
    toLE 4 e.tag ++ toLE 4 e.object ++ toLE 8 e.detail

/-- A word of the error-log window: entry number n of the log stands at place n mod 512 (R526). -/
def State.ercLogView (s : State) (w : Nat) : W32 :=
  let held := s.errLog.length
  let first := (s.reg Reg.ercLogProd).toNat - held
  let back := (w / 8 + 512 - first % 512) % 512
  match s.errLog[back]? with
  | some e => BitVec.ofNat 32 (leAt e.bytes (w % 8 * 4) 4)
  | none => 0

/-! ### The read of a register -/

/-- The registers below 0x70000 that show other state. -/
def State.lowView (s : State) (key : Nat) : Option W32 :=
  if key = Reg.gctlStatus then some s.gctlStatus
  else if key = Reg.lcsState then some s.lcsStateView
  else if key = Reg.lcsLcCode0 then some s.lcs.otp.lc0
  else if key = Reg.lcsLcCode1 then some s.lcs.otp.lc1
  else if key = Reg.lcsLcCode2 then some s.lcs.otp.lc2
  else if key = Reg.lcsProgress then some s.progressView
  else if key = Reg.lcsSvnMin then some s.svnMinView
  else if key = Reg.lcsRecoveryCtrl then some s.recoveryCtrlView
  else if key = Reg.pwrStatus then some s.pwrStatus
  else if key = Reg.pwrCellOn then some s.cellOnView
  else if key = Reg.pwrPortOn then some s.portOnView
  else if key = Reg.adlStatus then some s.adlStatus
  else if key = Reg.adlLaneCfg then some s.laneCfgView
  else if key = Reg.adlLaneStatus then some s.laneStatusView
  else if key = Reg.ustStatus then some s.ustStatus
  else if key = Reg.ustRtcSecLo then some (half s.ust.rtcLatch false)
  else if key = Reg.ustRtcSecHi then some (half s.ust.rtcLatch true)
  else if key = Reg.ustLogHead then some s.logHead
  else if Reg.ustLogData0 < key ∧ key < Reg.ustLogData0 + 16 then some (s.ust.logLatch.getD ((key - Reg.ustLogData0) / 4 - 1) 0)
  else if key = Reg.ustLatchSeen then some s.latchSeenView
  else if key = Reg.temStatus then some s.temStatus
  else if key = Reg.temSrcCfg then some s.srcCfgView
  else if key = Reg.temSrcStatus then some s.srcStatusView
  else if key = Reg.temThrMargin then some s.thrMarginView
  else if key = Reg.temThrHard then some s.thrHardView
  else if key = Reg.temThrBaseLim then some s.thrBaseLimView
  else if key = Reg.temThrBase then some s.thrBaseView
  else if key = Reg.temTally then some s.tallyView
  else if key = Reg.rngStatus then some s.rngStatusView
  else if key = Reg.rngPairState then some s.pairStateView
  else none

/-- The registers of KST, CMB, MCS and FGS that show other state. -/
def State.combView (s : State) (key : Nat) : Option W32 :=
  if key = Reg.kstStatus then some s.kstStatusView
  else if key = Reg.kstRootStatus then some s.rootStatusView
  else if key = Reg.kstRange then some s.kstRangeView
  else if key = Reg.kstAttrLo then some (half s.attrView false)
  else if key = Reg.kstAttrHi then some (half s.attrView true)
  else if key = Reg.cmbLayout then some s.layoutView
  else if key = Reg.cmbFeatures then some s.featuresView
  else if key = Reg.cmbGroupPower then some s.groupPowerView
  else if key = Reg.cmbGroupStatus then some s.groupStatusView
  else if key = Reg.cmbEngInfo then some s.engInfoView
  else if key = Reg.cmbEngErr then some s.engErrView
  else if key = Reg.mcsStatus then some s.mcsStatusView
  else if key = Reg.mcsKindInfo then some s.kindInfoView
  else if key = Reg.mcsProgInfo then some (s.progView Program.info)
  else if key = Reg.mcsProgCycles then some (s.progView (·.p0))
  else if key = Reg.mcsProgLmax then some (s.progView (·.l0))
  else if key = Reg.mcsIterCycles then some (s.progView (·.p1))
  else if key = Reg.mcsIterLmax then some (s.progView (·.l1))
  else if key = Reg.fgsStatus then some s.fgsStatusView
  else if key = Reg.fgsDopNs then some s.dopNsView
  else if key = Reg.fgsDopIterNs then some s.dopIterView
  else if key = Reg.fgsFence0 then some (s.fenceView 0)
  else if key = Reg.fgsFence1 then some (s.fenceView 1)
  else if key = Reg.fgsFence2 then some (s.fenceView 2)
  else none

/-- The registers of QEN, DMA and DGE that show other state. -/
def State.queueView (s : State) (key : Nat) : Option W32 :=
  if key = Reg.qenStatus then some s.qenStatusView
  else if key = Reg.qenAdmqStatus then some (s.admqStatusView 0)
  else if key = Reg.qenQstate then some s.qstateView
  else if key = Reg.qenQfetch then some s.selQueue.2.2.fetch
  else if key = Reg.qenQhead then some s.selQueue.2.2.head
  else if key = Reg.dmaStatus then some (packed [(s.haltedChans, 0)])
  else if key = Reg.dmaChanStatus then some (s.selChan.record ||| if s.selChan.halted then 1 else 0)
  else if key = Reg.dmaFailAddrLo then some (half s.selChan.failAddr false)
  else if key = Reg.dmaFailAddrHi then some (half s.selChan.failAddr true)
  else if Reg.dmaHalt0 ≤ key ∧ key < Reg.dmaHalt0 + 32 then some (s.haltView ((key - Reg.dmaHalt0) / 4))
  else if key = Reg.dgeStatus then some s.dgeStatusView
  else if Reg.dgeMrg ≤ key ∧ key < Reg.dgeMrg + 1536 then some (s.mrgView ((key - Reg.dgeMrg) / 4))
  else none

/-- The registers of TSU, PHW, EVJ, TRK, MEM, CRD and ERC that show other state. -/
def State.highView (s : State) (key : Nat) : Option W32 :=
  if key = Reg.tsuStatus then some (packed [(s.qualityCode, 0)])
  else if Reg.tsuTodSecLo ≤ key ∧ key ≤ Reg.tsuFreeHi then some (s.tsu.latch.getD ((key - Reg.tsuTodSecLo) / 4) 0)
  else if key = Reg.phwStatus then some s.phwStatusView
  else if key = Reg.evjStatus then some s.evjStatusView
  else if key = Reg.evjAnchor then some (packed [(s.evj.anchorState, 0)])
  else if key = Reg.evjNextSeqLo then some (half s.evj.nextSeq false)
  else if key = Reg.evjNextSeqHi then some (half s.evj.nextSeq true)
  else if key = Reg.evjCpNumLo then some (half s.evj.nextCp false)
  else if key = Reg.evjCpNumHi then some (half s.evj.nextCp true)
  else if key = Reg.evjRingHeld then some (packed [(s.evj.ring.length, 0)])
  else if key = Reg.trkStatus then some s.trkStatus
  else if key = Reg.trkFormat then some s.trkFormat
  else if key = Reg.trkLinkDelay then some s.trkLinkDelay
  else if key = Reg.trkMirrorPending then some (packed [(s.trk.pending.length, 0)])
  else if key = Reg.memStatus then some s.memStatus
  else if key = Reg.memScrubPos then some s.scrubPosView
  else if key = Reg.memStackStatus then some s.stackStatus
  else if key = Reg.crdStatus then some s.cardStatus
  else if key = Reg.crdClkDiv then some s.cardClkDiv
  else if key = Reg.vfcStatus then some (packed [(b2n s.vfEnable, 0), (s.numVfs, 8)])
  else if key = Reg.ercSumStatus then some s.sumStatus
  else none

/-- W1S bits that stay 1 once written; every other W1S bit is a command and reads 0. -/
def latchingW1s (key : Nat) : W32 := if key = Reg.dgeMrgCtrl then 1 else 0

/-- What a register of PF0's BAR0 reads from its own storage: write-only bits and W1S commands read 0 (Table 0.2). -/
def State.storedView (s : State) (key : Nat) : W32 := match regRow key with
  | some r => if key = Reg.temLock then BitVec.ofNat 32 (b2n s.tem.locked) else clearBits (s.reg key) (r.w1s &&& ~~~latchingW1s key)
  | none => 0

/-- The value of a read of PF0's BAR0. -/
def State.pfRead (s : State) (key : Nat) : W32 :=
  if key < 0x70000 then (s.lowView key).getD (s.storedView key)
  else if key < 0xB0000 then (s.combView key).getD (s.storedView key)
  else if key < 0xE0000 then (s.queueView key).getD (s.storedView key)
  else if key < 0xE0800 then if (regRow key).isSome then clearBits (s.cvuView key (key % 0x1000 / 0x100)) (if tableOffset key = Reg.cvuCtrl then 0x600 else 0) else 0
  else if 0x100000 ≤ key ∧ key < 0x180000 then if (regRow key).isSome then clearBits (s.prtView key) (if tableOffset key = Reg.prtGroupCtrl then 0x200 else 0) else 0
  else if pageOf key = 0x20 then if (regRow key).isSome ∧ key ≠ Reg.lcePipeUnfence then s.lceView key else 0
  else if Reg.vfcFuncState ≤ key ∧ key ≤ Reg.vfcMarkCount then s.vfcView key
  else if 0x740000 ≤ key ∧ key < 0x744000 then s.ercLogView ((key - 0x740000) / 4)
  else if 0x780000 ≤ key ∧ key < 0x788000 then s.msixView 0 (key - 0x780000)
  else if 0x790000 ≤ key ∧ key < 0x790100 then s.pbaView 0 ((key - 0x790000) / 4)
  else (s.highView key).getD (s.storedView key)

/-- The value of a read of VF n's BAR0 (Table 10.3, R529). -/
def State.vfRead (s : State) (n key : Nat) : W32 :=
  let o := key % 0x10000
  if o = 0x1014 then s.admqStatusView n
  else if o = 0x2000 then s.vfStatusView n
  else if 0x8000 ≤ o ∧ o < 0x9000 then s.msixView n (o - 0x8000)
  else if 0xC000 ≤ o ∧ o < 0xC020 then s.pbaView n ((o - 0xC000) / 4)
  else s.storedView key

/-- The registers that TERMINATED leaves readable (R37, R40). -/
def readableTerminated (key : Nat) : Bool :=
  [Reg.gctlIdent, Reg.gctlSerialLo, Reg.gctlSerialHi, Reg.lcsState, Reg.lcsLcCode0, Reg.lcsLcCode1, Reg.lcsLcCode2].contains key

/-- The value that a read of an aligned register returns, for registers whose read changes nothing (R13, R14, R20, R37, R40). -/
def State.readReg (s : State) (key : Nat) : W32 :=
  if s.lcs.phase = .reset then 0
  else if s.lcs.state = .terminated ∧ readableTerminated key = false ∧ key < 0x10000000 then 0
  else match targetOf key with
    | .bar 0 => if s.blockDown key then 0 else s.pfRead key
    | .bar n => if s.funcPresent n && !s.blockDown key then s.vfRead n key else 0
    | .config f i => if s.funcPresent f then s.configRead f i else 0
    | _ => 0

end Sys2Proof.Machine
end

