-- ==== Sys2Proof/Safety.lean ====
section
/-!
DEFINITION. The terms that statements use: when a work entry is in the hands of its command, when its checks pass, and the
invariants of the state.
-/
namespace Sys2Proof.Machine
open Sys2Proof

/-- The entry of tracker slot `slot` is ready for the command of opcodes `lo` to `hi`, or its input still to be gathered, and no earlier admin entry
that runs alone holds it back (R276, R283; log entry 1). -/
abbrev Begun (s : State) (slot lo hi : Nat) (t : Track) : Prop :=
  s.track slot = some t ∧ (t.phase = .ready ∨ t.phase = .gather) ∧ within t.entry.opcode lo hi = true ∧ s.serialBlocked t = false

/-- Every check of a list holds. -/
abbrev Passes (checks : List (Option (Nat × Nat))) : Prop := checks.findSome? id = none

/-- The first check of a list that fails is `e`. -/
abbrev FailsWith (checks : List (Option (Nat × Nat))) (e : Nat × Nat) : Prop := checks.findSome? id = some e ∧ e ≠ notGathered

/-- Every check that needs no input holds, and the input of the entry is still to be gathered (R18, R297). -/
abbrev AwaitsInput (checks : List (Option (Nat × Nat))) : Prop := checks.findSome? id = some notGathered

/-- The canonical form of the sparse tables: keys strictly rising, and nothing listed that an unlisted key would hold anyway. -/
structure Canonical (s : State) : Prop where
  regs : Sparse.wf regReset s.regs = true
  funcs : Sparse.wf funcReset s.funcs = true
  chans : Sparse.wf (fun _ => {}) s.chans = true
  queues : Sparse.wf (fun _ => {}) s.queues = true
  vectors : Sparse.wf (fun _ => {}) s.vectors = true
  tracker : Sparse.wf (fun _ => none) s.tracker = true
  slots : Sparse.wf slotReset s.kst.slots = true
  lines : Sparse.wf (fun _ => zeros 64) s.mem.lines = true

/-- The memory requests that carry a write: split at 4 KiB boundaries and at the function's Max Payload Size (R294). -/
def State.requestsOf (s : State) (w : HostWrite) : List HostWrite :=
  (pageParts 4096 w.addr w.bytes.length).flatMap fun p =>
    (sizeParts (s.func w.func).maxPayload p.1 p.2).map fun q => (w.part p).part q

/-- A trunk frame that arrives on a link is for this member and carries message `m` of TYPE `typ`: none of the drops of R409 applies to it, and `t` is the
state that has noted its packet number. -/
def Arrives (s : State) (west : Bool) (frame : Bytes) (typ : Nat) (map : RingMap) (m : TrkMsg) (t : State) : Prop :=
  s.trk.on = true ∧ (s.trkLink west).up = true ∧ frame.length + 4 ≤ 9600 ∧ t.trk.map = some map ∧
  ∃ body, (s.trkNoted west frame).trkBody west frame = some (body, t) ∧ m = parseTrk (body.drop 2) ∧ body.length = 18 + m.len ∧
    trkLenOk m.typ m.payload = true ∧ (m.typ = 1 ∨ m.typ = 2 ∨ m.version ≤ max 1 t.trk.committed) ∧ beAt body 0 2 = 0x88B5 ∧
    m.ringId = map.ringId ∧ trkTypes.contains m.typ = true ∧ m.typ = typ ∧ (m.dst = map.ownPos ∨ m.dst = 0xFF)

/-- Work-entry commands of the admin queue and the device that a slot alone names, with their first and last opcodes. -/
def EntryAdmin (mk : Nat → Instr) (lo hi : Nat) : Prop := (mk, lo, hi) ∈
  [(.setPowerState, 0x20, 0x20), (.powerQuery, 0x21, 0x21), (.lcsQuery, 0xC00, 0xC00), (.lcsChallenge, 0xC02, 0xC02),
   (.debugUnlock, 0xC03, 0xC03), (.debugLock, 0xC04, 0xC04), (.imageStage, 0xC10, 0xC10),
   (.imageActivate, 0xC11, 0xC11), (.svnAdvance, 0xC12, 0xC12), (.selftestRun, 0xD00, 0xD00),
   (.engineFence, 0xD01, 0xD01), (.engineUnfence, 0xD02, 0xD02), (.nop, 0, 0), (.queueCreate, 1, 1),
   (.queueEnable, 3, 3), (.queueDestroy, 4, 4), (.entryAbort, 5, 5), (.queueQuery, 6, 6),
   (.avsCalibrate, 0xD20, 0xD20), (.serdesRecal, 0xD21, 0xD21)]

/-- Work-entry commands of chapter 5 that a slot alone names, with their first and last opcodes. -/
def EntryPqc (mk : Nat → Instr) (lo hi : Nat) : Prop := (mk, lo, hi) ∈
  [(.mlkemKeygen, 0x100, 0x102), (.mlkemEncaps, 0x104, 0x106), (.mlkemDecaps, 0x108, 0x10A),
   (.mldsaKeygen, 0x110, 0x112), (.mldsaSign, 0x114, 0x116), (.mldsaVerify, 0x118, 0x11A),
   (.slhdsaKeygen, 0x200, 0x207), (.slhdsaSign, 0x210, 0x217), (.slhdsaVerify, 0x220, 0x22B),
   (.lmsKeygen, 0x230, 0x230), (.lmsTreeBuild, 0x234, 0x237), (.lmsSign, 0x238, 0x23B), (.lmsVerify, 0x23C, 0x23C),
   (.hssVerify, 0x23D, 0x23D), (.hqcKeygen, 0x240, 0x242), (.hqcEncaps, 0x244, 0x246), (.hqcDecaps, 0x248, 0x24A)]

/-- Work-entry commands of chapter 6 that a slot alone names, with their first and last opcodes. -/
def EntryClassical (mk : Nat → Instr) (lo hi : Nat) : Prop := (mk, lo, hi) ∈
  [(.ecKeygen, 0x300, 0x302), (.ecdsaSign, 0x304, 0x306), (.ecdsaVerify, 0x308, 0x30A), (.ecdh, 0x30C, 0x30E),
   (.edKeygen, 0x310, 0x311), (.edSign, 0x312, 0x313), (.edVerify, 0x314, 0x315), (.xdhKeygen, 0x318, 0x319),
   (.xdh, 0x31A, 0x31B), (.rsaSign, 0x320, 0x322), (.rsaVerify, 0x324, 0x326), (.rsaOaepDecrypt, 0x328, 0x32A),
   (.rsaOaepEncrypt, 0x32C, 0x32E)]

/-- Work-entry commands of chapters 7, 8 and 9 that a slot alone names, with their first and last opcodes. -/
def EntryKeys (mk : Nat → Instr) (lo hi : Nat) : Prop := (mk, lo, hi) ∈
  [(.rngGenerate, 0x400, 0x400), (.rngRawRead, 0x401, 0x401), (.rngPairRestore, 0x402, 0x402),
   (.keyPrepare, 0x500, 0x500), (.keyGenerate, 0x501, 0x501), (.keyImport, 0x502, 0x502), (.keyDerive, 0x503, 0x503),
   (.keyWrap, 0x504, 0x504), (.keyUnwrap, 0x505, 0x505), (.keyDelete, 0x506, 0x506), (.keyRestrict, 0x507, 0x507),
   (.keyQuery, 0x508, 0x508), (.keyRangeSet, 0x510, 0x510), (.keyBvrInit, 0x511, 0x511), (.hash, 0x600, 0x600),
   (.hmac, 0x601, 0x601), (.hmacVerify, 0x602, 0x602), (.kmac, 0x603, 0x603), (.mrgExtend, 0x604, 0x604),
   (.cvuRun, 0x605, 0x605)]

/-- Work-entry commands of the symmetric lookaside that a slot alone names, with their first and last opcodes. -/
def EntryCipher (mk : Nat → Instr) (lo hi : Nat) : Prop := (mk, lo, hi) ∈
  [(.aesGcmEncrypt, 0x700, 0x700), (.aesGcmDecrypt, 0x701, 0x701), (.aesGmacGen, 0x702, 0x702),
   (.aesGmacVerify, 0x703, 0x703), (.aesCtr, 0x704, 0x704), (.aesCbcEncrypt, 0x705, 0x705),
   (.aesCbcDecrypt, 0x706, 0x706), (.aesXtsEncrypt, 0x707, 0x707), (.aesXtsDecrypt, 0x708, 0x708),
   (.aesKwWrap, 0x709, 0x709), (.aesKwUnwrap, 0x70A, 0x70A), (.aesKwpWrap, 0x70B, 0x70B),
   (.aesKwpUnwrap, 0x70C, 0x70C)]

/-- Work-entry commands of the SA and classifier groups, time, the journal, the ring and the card port that a slot alone names, with their first and last opcodes. -/
def EntryLine (mk : Nat → Instr) (lo hi : Nat) : Prop := (mk, lo, hi) ∈
  [(.saInstall, 0x800, 0x800), (.saRemove, 0x801, 0x801), (.saPin, 0x802, 0x802), (.saQuery, 0x803, 0x803),
   (.clsWrite, 0x810, 0x810), (.clsRead, 0x811, 0x811), (.clsClear, 0x812, 0x812), (.clsInfo, 0x813, 0x813),
   (.timeRead, 0x900, 0x900), (.timeStep, 0x901, 0x901), (.phwCalibrate, 0x902, 0x902), (.jrnPubkey, 0x910, 0x910),
   (.jrnCheckpoint, 0x912, 0x912), (.ringMapSet, 0xA00, 0xA00), (.ringMapClear, 0xA01, 0xA01),
   (.ringStatus, 0xA02, 0xA02), (.ringEpoch, 0xA03, 0xA03), (.cardApdu, 0xB02, 0xB02),
   (.ceremonyBegin, 0xB10, 0xB10), (.ceremonyEnd, 0xB12, 0xB12)]

/-- A work-entry command that a slot alone names, with its opcodes (Table 22.4). -/
def EntryCommand (mk : Nat → Instr) (lo hi : Nat) : Prop :=
  EntryAdmin mk lo hi ∨ EntryPqc mk lo hi ∨ EntryClassical mk lo hi ∨ EntryKeys mk lo hi ∨ EntryCipher mk lo hi ∨ EntryLine mk lo hi

end Sys2Proof.Machine
end

