-- ==== Sys2Proof/Certificates/Slice0/Obligations.lean ====
section
/-!
DEFINITION. The statements about the machine, for the provers.
-/
open Sys2Proof Sys2Proof.Machine

/-- For every command and state: a step with the command at the front of the queue is exec of it on the state with the queue's
rest. -/
def Obligations.StepRunsFrontCommand : Prop :=
  ∀ (s : State) (c : Instr) (rest : List Instr), s.pending = c :: rest → step s = exec c { s with pending := rest }

/-- DOORBELL of a present function while the queues run: of a queue that is not ENABLED it is discarded, counted in QEN.DB_DROPS
and logged under 0x0B03; with Bus Master Enable 0, or while a scan of the queue runs, it waits; a PROD_IDX more than DEPTH ahead of HEAD_IDX
counts an overrun and puts the queue in error 0x01; otherwise the queue is served, its target moved to PROD_IDX unless that lies behind the
fetch index. -/
def Obligations.DoorbellEffect : Prop :=
  ∀ (s : State) (f q : Nat) (v : QueueView), s.qenOn = true → s.funcPresent f = true →
    let x := s.queue f q
    let u : Queue := { x with rung := false }
    (x.state ≠ .enabled → exec (.doorbell f q v) s =
      .next (settle s ((s.count Reg.qenDbDrops).log ⟨0, 0x0B03, 0, 1, f, q, 0, 0, 0⟩))) ∧
    (x.state = .enabled → ((s.func f).bme = false ∨ x.waiting = true ∨ x.retries.isSome = true) →
      exec (.doorbell f q v) s = .next (settle s (s.setQueue f q { x with rung := true }))) ∧
    (x.state = .enabled → (s.func f).bme = true → x.waiting = false → x.retries = none → x.depth < (v.prod - x.head).toNat →
      exec (.doorbell f q v) s = .next (settle s ((s.count Reg.qenOverruns).queueError f q 1 v.prod.toNat))) ∧
    (x.state = .enabled → (s.func f).bme = true → x.waiting = false → x.retries = none → (v.prod - x.head).toNat ≤ x.depth →
      (x.fetch - x.head).toNat ≤ (v.prod - x.head).toNat →
      exec (.doorbell f q v) s = .next (settle s ((s.setQueue f q { u with target := v.prod }).serve f q v.slots))) ∧
    (x.state = .enabled → (s.func f).bme = true → x.waiting = false → x.retries = none → (v.prod - x.head).toNat < (x.fetch - x.head).toNat →
      (v.prod - x.head).toNat ≤ x.depth →
      exec (.doorbell f q v) s = .next (settle s ((s.setQueue f q u).serve f q v.slots)))

/-- Serving a queue that may be fetched from: out of its turn it only waits; in its turn it is scanned over at most 8 of the slots read, and
it and its function are then the ones served last. The turn is a queue that waits to be served, of a function after the one served last unless
no such function waits, and within the function a queue after the one it had served last unless no such queue waits. -/
def Obligations.QueuesServedInTurn : Prop :=
  ∀ (s : State) (f q : Nat) (slots : List Bytes),
    let w := s.setQueue f q { s.queue f q with waiting := true }
    (w.wantsVisit f q = true → w.turn ≠ some (f, q) → s.serve f q slots = w) ∧
    (w.wantsVisit f q = true → w.turn = some (f, q) →
      s.serve f q slots = scan f q (slots.take 8) { w with lastFunc := f, funcs := Sparse.set funcReset w.funcs f { w.func f with lastQueue := q } }) ∧
    (∀ g p, s.turn = some (g, p) → s.wantsVisit g p = true ∧
      ((∃ g' p', s.lastFunc < g' ∧ s.wantsVisit g' p' = true) → s.lastFunc < g) ∧
      ((∃ p', (s.func g).lastQueue < p' ∧ p' < 256 ∧ s.wantsVisit g p' = true) → (s.func g).lastQueue < p))

/-- A scan of an ENABLED queue with a slot read: at its target it stops; without a tracker slot within quota it waits; at a slot
whose PHASE is not 1 − (⌊fetch ÷ DEPTH⌋ mod 2) it starts a retry; otherwise it takes the entry and goes on with the next. Taking
an entry advances the fetch index by one and leaves the target and the state of the queue. -/
def Obligations.ScanTurn : Prop :=
  ∀ (s : State) (f q : Nat) (b : Bytes) (bs : List Bytes),
    let x := s.queue f q
    Canonical s → x.state = .enabled →
    (x.fetch = x.target → scan f q (b :: bs) s = s.setQueue f q { x with waiting := false, retries := none }) ∧
    (x.fetch ≠ x.target → s.slotAllowed f q = false →
      scan f q (b :: bs) s = s.setQueue f q { x with waiting := true, retries := none }) ∧
    (x.fetch ≠ x.target → s.slotAllowed f q = true → phaseOf b ≠ 1 - x.fetch.toNat / 2 ^ x.log2 % 2 →
      scan f q (b :: bs) s = s.setQueue f q { x with waiting := false, retries := some 0 }) ∧
    (x.fetch ≠ x.target → s.slotAllowed f q = true → phaseOf b = 1 - x.fetch.toNat / 2 ^ x.log2 % 2 →
      scan f q (b :: bs) s = scan f q bs (s.takeEntry f q b)) ∧
    ((s.takeEntry f q b).queue f q).fetch = x.fetch + 1 ∧
    ((s.takeEntry f q b).queue f q).target = x.target ∧ ((s.takeEntry f q b).queue f q).state = x.state

/-- When an index retires, HEAD_IDX advances over indices that have retired and over no other, and stops at one that has not. -/
def Obligations.HeadStopsAtLowestNotRetired : Prop :=
  ∀ (q : Queue) (i : W32),
    let r := q.retire i
    r.head ∉ r.retired ∧
    ∃ n : Nat, n ≤ q.retired.length + 1 ∧ r.head = q.head + BitVec.ofNat 32 n ∧
      (∀ k, k < n → q.head + BitVec.ofNat 32 k ∈ q.retired ++ [i]) ∧
      (∀ j ∈ q.retired ++ [i], j ∉ r.retired → ∃ k, k < n ∧ j = q.head + BitVec.ofNat 32 k)

/-- The memory requests that carry a write to the host, with a Max Payload Size that is not zero: joined they are its bytes; each begins where
the one before ends, the first at the write's address; none is empty, longer than Max Payload Size or crosses a 4 KiB boundary.
An entry outside group 0x06 completes. While its function may write (Bus Master Enable 1, link up, channel running, nothing
waiting) and marks no dirty pages: what is sent is its output at OUT_ADDR if it has any, then 8 bytes of status at its ring slot
+ 56, each in those requests, the output's with the relaxed ordering attribute where the function enables it, then, with BARRIER, a
flushing read of the QCB; its tracker slot is free; with IRQ its index is noted for signalling; without BARRIER its index retires. Registers
and key slots are unchanged. With Bus Master Enable 0 nothing is sent and the entry keeps its slot. -/
def Obligations.CompletionOrder : Prop :=
  (∀ (s : State) (w : HostWrite), 0 < (s.func w.func).maxPayload →
    let l := s.requestsOf w
    l.flatMap (·.bytes) = w.bytes ∧
    (∀ i x, l[i]? = some x → x.func = w.func ∧ x.addr = w.addr + ((l.take i).flatMap (·.bytes)).length ∧ 0 < x.bytes.length ∧
      x.bytes.length ≤ (s.func w.func).maxPayload ∧ x.addr / 4096 = (x.addr + x.bytes.length - 1) / 4096)) ∧
  ∀ (s : State) (slot status ext len : Nat) (out : Bytes) (t : Track),
    Canonical s → s.track slot = some t → t.entry.opcode / 256 ≠ 6 → (s.chan t.func).halted = false →
    (s.func t.func).flrActive = false → (t.func = 0 ∨ (s.func t.func).dirtyEn = false) →
    let u := s.completeLen slot status ext len out
    let q := s.queue t.func t.qid
    let st : HostWrite := ⟨t.func, q.ring + 64 * (t.index.toNat % 2 ^ q.log2) + 56,
      [BitVec.ofNat 8 status, BitVec.ofNat 8 ext, 0, 0] ++ toLE 4 len⟩
    u.regs = s.regs ∧ u.kst = s.kst ∧ u.comb = s.comb ∧
    ((s.func t.func).bme = true → s.linkUp = true → (s.chan t.func).waiting = [] →
      u.track slot = none ∧
      u.out = s.out ++ (s.requestsOf ⟨t.func, t.entry.outAddr, out⟩).map (if (s.func t.func).relaxed then .relaxedWrite else .hostWrite) ++
        (s.requestsOf st).map .hostWrite ++
        (if bitOf t.entry.flags.toNat 0 then [.flushRead t.func q.qcb] else []) ∧
      (u.queue t.func t.qid).irq = q.irq ++ (if bitOf t.entry.flags.toNat 1 then [t.index] else []) ∧
      (bitOf t.entry.flags.toNat 0 = true → (u.queue t.func t.qid).head = q.head ∧
        (u.queue t.func t.qid).flushing = q.flushing ++ [t.index]) ∧
      (bitOf t.entry.flags.toNat 0 = false → (u.queue t.func t.qid).head = (q.retire t.index).head)) ∧
    ((s.func t.func).bme = false →
      u.out = s.out ∧ u.queues = s.queues ∧ u.track slot = some { t with phase := .held })

/-- NOP, QUEUE_CREATE, QUEUE_DISABLE, QUEUE_ENABLE, QUEUE_DESTROY, ENTRY_ABORT and QUEUE_QUERY whose entry is in hand and whose
checks hold (reserved bytes, the queue's state, quotas, ranges, alignment, Table 11.1) have the effect of Table 10.8 and R285 to
R288 and complete OK: CREATE and ENABLE write the QCB, CREATE with indices at 0, ENABLE at the fetch index with the error
cleared; DESTROY leaves the queue ABSENT; DISABLE drains it; ENTRY_ABORT marks the indices of its range within the window that
are not yet fetched and aborts the fetched entries but itself; QUERY answers the 32 bytes. -/
def Obligations.AdminCommandsComplete : Prop :=
  ∀ (s : State) (slot : Nat) (t : Track),
    let e := t.entry
    let qid := e.pLE 40 2
    let q := s.queue t.func qid
    (Begun s slot 0 0 t → Passes [chk (e.zeroFrom 40 55) 0x13 0, t.dmaFail] →
      exec (.nop slot) s = .next (settle s (s.complete slot 0 0 []))) ∧
    (Begun s slot 1 1 t → e.zeroFrom 43 43 = true → e.zeroFrom 46 55 = true → e.msgLen = 16 → 1 ≤ qid → qid ≤ 255 →
      q.state = .absent → s.queuesOf (fun _ => true) < 4096 → s.queuesOf (fun g => g == t.func) < (s.func t.func).queueQuota →
      6 ≤ e.p8 42 → e.p8 42 ≤ 16 → e.pLE 44 2 < tableSize t.func → t.dmaFail = none →
      leAt t.input 0 8 % 4096 = 0 → leAt t.input 8 8 % 64 = 0 →
      exec (.queueCreate slot) s = .next (settle s (((s.setQueue t.func qid
        { state := .enabled, ring := leAt t.input 0 8, qcb := leAt t.input 8 8, log2 := e.p8 42, vector := e.pLE 44 2 }).writeQcb
        t.func qid).complete slot 0 0 []))) ∧
    (∀ v : QueueView, Begun s slot 2 2 t → e.zeroFrom 43 55 = true → 1 ≤ qid → qid ≤ 255 → q.state = .enabled → e.p8 42 ≤ 1 →
      t.dmaFail = none →
      exec (.queueDisable slot v) s =
        .next (settle s ((s.disableQueue t.func qid (e.p8 42) v.prod v.slots).complete slot 0 0 []))) ∧
    (Begun s slot 3 3 t → e.zeroFrom 42 55 = true → 1 ≤ qid → qid ≤ 255 → q.state = .idle → t.dmaFail = none →
      exec (.queueEnable slot) s = .next (settle s (((s.setQueue t.func qid
        { q with state := .enabled, error := false, errCode := 0, target := q.fetch, rung := false }).writeQcb t.func qid).complete slot 0 0 []))) ∧
    (Begun s slot 4 4 t → e.zeroFrom 42 55 = true → 1 ≤ qid → qid ≤ 255 → q.state = .idle → t.dmaFail = none →
      exec (.queueDestroy slot) s = .next (settle s ((s.setQueue t.func qid {}).complete slot 0 0 []))) ∧
    (Begun s slot 5 5 t → e.zeroFrom 42 43 = true → e.zeroFrom 52 55 = true → qid ≤ 255 → q.state ≠ .absent →
      1 ≤ e.pLE 48 4 → e.pLE 48 4 ≤ 2 ^ q.log2 → t.dmaFail = none →
      let idx := q.abortIndices (BitVec.ofNat 32 (e.pLE 44 4)) (e.pLE 48 4)
      let new := idx.filter fun i => decide ((q.fetch - q.head).toNat ≤ (i - q.head).toNat) && !q.marks.contains i
      let u := s.setQueue t.func qid { q with marks := q.marks ++ new }
      let named := (u.slotsWhere fun v => v.func == t.func && v.qid == qid && idx.contains v.index).filter (· != slot)
      exec (.entryAbort slot) s =
        .next (settle s ((named.foldl (fun s n => s.abortEntry n 0x23 0) u).complete slot 0 0 []))) ∧
    (Begun s slot 6 6 t → e.zeroFrom 42 55 = true → qid ≤ 255 → t.dmaFail = none → 32 ≤ e.outCap →
      exec (.queueQuery slot) s = .next (settle s (s.complete slot 0 0 (s.queueQuery t.func qid))))

/-- PHASE_RETRY: a current PHASE resumes the scan, a miss before the sixteenth counts, the sixteenth counts a phase stall and is
logged under 0x0B02. SCAN_RESUME serves a queue whose scan waits and one with a doorbell that waited, and goes on ending the unfetched entries of
a disabled one. DMA_READ_COMPLETE issues the reads, gathers MSG_LEN bytes and the first failing check of Table 11.1. FLUSHING_READ_RETURN
retires the index and clears what awaited the read. HEAD_IDX_WRITE writes the QCB of a head that has advanced, and signals the vector when an
IRQ index is covered. ADMQ_ENABLE with valid settings makes the admin queue ENABLED with indices at 0 and writes its QCB, and sets CFG_ERR with
others; while the queue is ENABLED or DRAINING it changes ENABLE and ABORT_MODE alone; ADMQ_DISABLE drains it in the mode that the write
carries. That an ENABLE written while DRAINING starts nothing is the model's choice (log entry 84). -/
def Obligations.QueueEventsComplete : Prop :=
  ∀ (s : State) (f qid : Nat) (v : QueueView),
    let q := s.queue f qid
    (∀ b bs, q.retries.isSome = true → v.slots = b :: bs → q.state = .enabled → (s.func f).bme = true →
      phaseOf b = 1 - q.fetch.toNat / 2 ^ q.log2 % 2 →
      exec (.phaseRetry f qid v) s =
        .next (settle s ((s.setQueue f qid { q with retries := none }).serve f qid (b :: bs)))) ∧
    (∀ b bs n, q.retries = some n → v.slots = b :: bs → q.state = .enabled → (s.func f).bme = true →
      phaseOf b ≠ 1 - q.fetch.toNat / 2 ^ q.log2 % 2 →
      exec (.phaseRetry f qid v) s = .next (settle s (if n < 15 then s.setQueue f qid { q with retries := some (n + 1) }
        else ((s.setQueue f qid { q with retries := none }).count Reg.qenPhaseStalls).log
          ⟨0, 0x0B02, 0, 1, f, qid, 0, 0, q.fetch.toNat⟩))) ∧
    (s.qenOn = true → (s.func f).bme = true → q.state = .enabled → q.waiting = true →
      exec (.scanResume f qid v) s = .next (settle s (s.serve f qid v.slots))) ∧
    (s.qenOn = true → (s.func f).bme = true → q.state = .enabled → q.waiting = false → q.retries = none → q.rung = true →
      (v.prod - q.head).toNat ≤ q.depth → (q.fetch - q.head).toNat ≤ (v.prod - q.head).toNat →
      exec (.scanResume f qid v) s = .next (settle s ((s.setQueue f qid { q with target := v.prod, rung := false }).serve f qid v.slots))) ∧
    (s.qenOn = true → (s.func f).bme = true → q.state = .draining →
      exec (.scanResume f qid v) s = .next (settle s ((s.drainQueue f qid v.prod v.slots).checkIdle f qid))) ∧
    (∀ (slot : Nat) (t : Track) (g : GatherView), s.track slot = some t → t.phase = .gather → (s.func t.func).bme = true →
      exec (.dmaReadComplete slot g) s = .next (settle s ((s.issueGather t (g.frags.take t.entry.fragCount)).setTrack slot (some { t with
        phase := .ready, dmaFail := gatherFail t.entry (g.frags.take t.entry.fragCount),
        input := fit t.entry.msgLen g.data })))) ∧
    (∀ i : W32, q.flushing.contains i = true →
      exec (.flushingReadReturn f qid i) s = .next (settle s
        (((s.setChan f { s.chan f with unflushed := [] }).setQueue f qid (q.retire i)).checkIdle f qid))) ∧
    (q.state ≠ .absent →
      let u := if q.head = q.headWritten then s else s.writeQcb f qid
      let w := u.setQueue f qid { u.queue f qid with irq := (u.queue f qid).irq.filter fun i => !(u.queue f qid).covers i }
      exec (.headIdxWrite f qid) s = .next (settle s
        ((if q.irq.any q.covers then w.msix f (u.queue f qid).vector else w).checkIdle f qid))) ∧
    (∀ value : W32, s.qenOn = true → s.funcPresent f = true → ((s.queue f 0).state = .enabled ∨ (s.queue f 0).state = .draining) →
      exec (.admqEnable f value) s = .next (settle s
        (s.modReg (admReg f Reg.qenAdmqCtrl Reg.vfAdmqCtrl) fun w => setField (setField w 9 9 (field value 9 9)) 8 8 1))) ∧
    (∀ value : W32, s.qenOn = true → s.funcPresent f = true → (s.queue f 0).state = .absent →
      let ctrl := admReg f Reg.qenAdmqCtrl Reg.vfAdmqCtrl
      let status := admReg f Reg.qenAdmqStatus Reg.vfAdmqStatus
      let ring := s.pair (admReg f Reg.qenAdmqRingLo Reg.vfAdmqRingLo) (admReg f Reg.qenAdmqRingHi Reg.vfAdmqRingHi)
      let qcb := s.pair (admReg f Reg.qenAdmqQcbLo Reg.vfAdmqQcbLo) (admReg f Reg.qenAdmqQcbHi Reg.vfAdmqQcbHi)
      let w := s.setReg ctrl (value &&& 0xFFFF021F)
      exec (.admqEnable f value) s = .next (settle s (
        if ring % 4096 = 0 ∧ qcb % 64 = 0 ∧ 6 ≤ field value 4 0 ∧ field value 4 0 ≤ 16 ∧ field value 31 16 < tableSize f ∧
            s.queuesOf (fun _ => true) < 4096 then
          (((w.raise ctrl 0x100).modReg status (clearBits · 8)).setQueue f 0
            { state := .enabled, ring := ring, qcb := qcb, log2 := field value 4 0, vector := field value 31 16 }).writeQcb f 0
        else w.raise status 8))) ∧
    (∀ value : W32, s.qenOn = true → s.funcPresent f = true → (s.queue f 0).state = .enabled →
      exec (.admqDisable f value v) s = .next (settle s
        ((s.modReg (admReg f Reg.qenAdmqCtrl Reg.vfAdmqCtrl) fun w => setField (setField w 9 9 (field value 9 9)) 8 8 0).disableQueue
          f 0 (field value 9 9) v.prod v.slots)))

/-- MLKEM_KEYGEN, MLDSA_KEYGEN, SLHDSA_KEYGEN, HQC_KEYGEN, EC_KEYGEN, ED_KEYGEN and XDH_KEYGEN, for each parameter set i of their
opcode run, and LMS_KEYGEN: when the parameter bytes are zero, an engine and program stand ready, KEY_SLOT is an open slot prepared
with the set's KIND, MSG_LEN is 0 and OUT_CAP holds the public key (for LMS_KEYGEN: types LMS_SHA256_M24_H5 to H20 and W1 to W8),
the destination is claimed and the operation waits for the forager, as a DRBG user whose result goes to KEY_SLOT. What the
operation yields is stated of its release. -/
def Obligations.KeygenCommandsAdmit : Prop :=
  (∀ r ∈ ([(.mlkemKeygen, 0x100, 0x102, 0x10, mlkemEk), (.mldsaKeygen, 0x110, 0x112, 0x14, mldsaPk),
      (.slhdsaKeygen, 0x200, 0x207, 0x18, fun i => 2 * slhN i), (.hqcKeygen, 0x240, 0x242, 0x24, hqcEk),
      (.ecKeygen, 0x300, 0x302, 0x30, fun i => 2 * ecLen i), (.edKeygen, 0x310, 0x311, 0x34, edPk),
      (.xdhKeygen, 0x318, 0x319, 0x36, xdhLen)] : List ((Nat → Instr) × Nat × Nat × Nat × (Nat → Nat))),
    ∀ (s : State) (slot : Nat) (t : Track), Begun s slot r.2.1 r.2.2.1 t →
      let e := t.entry
      let i := e.opcode - r.2.1
      e.zeroFrom 40 55 = true → s.engineCheck e.opcode = none → isSlot e.keySlot = true →
      Passes (s.destKey t.func e.keySlot (· == r.2.2.2.1 + i)) → t.dmaFail = none → e.msgLen = 0 →
      r.2.2.2.2 i ≤ e.outCap →
      exec (r.1 slot) s = .next (settle s
        (s.startOp slot { s.mkOp slot t e.opcode with drbg := true, dest := some e.keySlot }))) ∧
  (∀ (s : State) (slot : Nat) (t : Track), Begun s slot 0x230 0x230 t →
      let e := t.entry
      e.zeroFrom 48 55 = true → s.engineCheck e.opcode = none → 0xA ≤ e.pLE 40 4 → e.pLE 40 4 ≤ 0xD → 5 ≤ e.pLE 44 4 →
      e.pLE 44 4 ≤ 8 → isSlot e.keySlot = true → Passes (s.destKey t.func e.keySlot (· == 0x20)) → t.dmaFail = none →
      e.msgLen = 0 →
      exec (.lmsKeygen slot) s = .next (settle s
        (s.startOp slot { s.mkOp slot t e.opcode with drbg := true, dest := some e.keySlot })))

/-- MLKEM_ENCAPS and HQC_ENCAPS with KEY_SLOT = NO_SLOT, and MLKEM_DECAPS, HQC_DECAPS, ECDH, XDH and RSA_OAEP_DECRYPT with a private
key whose usage and KIND fit: when layout, engine, slots and lengths pass, the operation waits for the forager; with SS_DEST = 1 its
result goes to SS_SLOT, prepared as SECRET and now claimed, and otherwise to OUT_ADDR, which must hold it. The private key is taken
into the operation at admission. -/
def Obligations.SecretCommandsAdmit : Prop :=
  (∀ r ∈ ([(.mlkemEncaps, 0x104, 0x106, mlkemEk, mlkemCt, 32), (.hqcEncaps, 0x244, 0x246, hqcEk, hqcCt, 64)] :
      List ((Nat → Instr) × Nat × Nat × (Nat → Nat) × (Nat → Nat) × Nat)),
    ∀ (s : State) (slot : Nat) (t : Track), Begun s slot r.2.1 r.2.2.1 t →
      let e := t.entry
      let i := e.opcode - r.2.1
      e.kemZero = true → s.engineCheck e.opcode = none → e.kemOk = true → e.keySlot = noSlot → ssIsSlot e.ssTarget = none →
      Passes (s.ssChecks t.func e.ssTarget) → t.dmaFail = none → e.msgLen = r.2.2.2.1 i →
      r.2.2.2.2.1 i + (if e.ssDest = 0 then r.2.2.2.2.2 else 0) ≤ e.outCap →
      exec (r.1 slot) s = .next (settle s
        (s.startOp slot { s.mkOp slot t e.opcode with hasPrefix := true, drbg := true, dest := e.ssTarget }))) ∧
  (∀ r ∈ ([(.mlkemDecaps, 0x108, 0x10A, 0x10, Usage.decaps, mlkemCt, fun _ => 32, false),
      (.hqcDecaps, 0x248, 0x24A, 0x24, Usage.decaps, hqcCt, fun _ => 64, false),
      (.ecdh, 0x30C, 0x30E, 0x30, Usage.agree, fun i => 2 * ecLen i, ecLen, true),
      (.xdh, 0x31A, 0x31B, 0x36, Usage.agree, xdhLen, xdhLen, false)] :
      List ((Nat → Instr) × Nat × Nat × Nat × Nat × (Nat → Nat) × (Nat → Nat) × Bool)),
    ∀ (s : State) (slot : Nat) (t : Track), Begun s slot r.2.1 r.2.2.1 t →
      let e := t.entry
      let i := e.opcode - r.2.1
      e.kemZero = true → s.engineCheck e.opcode = none → e.kemOk = true → isSlot e.keySlot = true →
      ssIsSlot e.ssTarget = none →
      Passes (s.sourceKey t.func e.keySlot r.2.2.2.2.1 noDevice (· == r.2.2.2.1 + i)) →
      Passes (s.ssChecks t.func e.ssTarget) → t.dmaFail = none → e.msgLen = r.2.2.2.2.2.1 i →
      (if e.ssDest = 0 then r.2.2.2.2.2.2.1 i else 0) ≤ e.outCap → s.slotBad e.keySlot = false →
      exec (r.1 slot) s = .next (settle s (s.startOp slot
        ({ s.mkOp slot t e.opcode with hasPrefix := r.2.2.2.2.2.2.2, dest := e.ssTarget }.withKey (s.slot e.keySlot))))) ∧
  (∀ (s : State) (slot : Nat) (t : Track), Begun s slot 0x328 0x32A t →
      let e := t.entry
      let target := if e.p8 52 = 1 then some (e.pLE 53 3) else none
      e.rsaZero = true → s.engineCheck e.opcode = none → e.rsaOk [2] none = true → e.p8 52 ≤ 1 →
      (e.p8 52 = 0 → e.pLE 53 3 = 0) → isSlot e.keySlot = true → ssIsSlot target = none →
      Passes (s.sourceKey t.func e.keySlot Usage.decaps noDevice (· == 0x38 + (e.opcode - 0x328))) →
      Passes (s.ssChecks t.func target) → t.dmaFail = none →
      e.msgLen = (s.slot e.keySlot).rsaBits / 8 + e.labelLen → s.slotBad e.keySlot = false →
      exec (.rsaOaepDecrypt slot) s = .next (settle s (s.startOp slot
        ({ s.mkOp slot t e.opcode with hasPrefix := true, dest := target }.withKey (s.slot e.keySlot)))))

/-- MLDSA_SIGN, SLHDSA_SIGN, ECDSA_SIGN, ED_SIGN and RSA_SIGN with a private key of usage SIGN and the set's KIND, whose layout,
engine and lengths pass, wait for the forager with the key taken into them. MLDSA_SIGN and SLHDSA_SIGN are DRBG users unless DET,
RSA_SIGN only for PSS with a salt, ECDSA_SIGN always, ED_SIGN never. -/
def Obligations.SigningCommandsAdmit : Prop :=
  ∀ (s : State) (slot : Nat) (t : Track),
    let e := t.entry
    let k := s.slot e.keySlot
    let taken (kind : Nat) (pre drbg : Bool) (c : Instr) : Prop :=
      s.engineCheck e.opcode = none → isSlot e.keySlot = true →
      Passes (s.sourceKey t.func e.keySlot Usage.sign noDevice (· == kind)) → t.dmaFail = none → s.slotBad e.keySlot = false →
      exec c s = .next (settle s (s.startOp slot
        ({ s.mkOp slot t e.opcode with hasPrefix := pre, drbg := drbg }.withKey k)))
    (Begun s slot 0x114 0x116 t → e.sigZero true = true → e.sigOk = true → Passes (e.msgLens 0) →
      mldsaSig (e.opcode - 0x114) ≤ e.outCap → taken (0x14 + (e.opcode - 0x114)) true (!e.det) (.mldsaSign slot)) ∧
    (Begun s slot 0x210 0x217 t → e.sigZero true = true → e.sigOk = true → Passes (e.msgLens 0) → e.msgLen ≤ 16384 →
      slhSig (e.opcode - 0x210) ≤ e.outCap → taken (0x18 + (e.opcode - 0x210)) false (!e.det) (.slhdsaSign slot)) ∧
    (Begun s slot 0x304 0x306 t → e.zeroFrom 40 55 = true → 32 ≤ e.msgLen → e.msgLen ≤ 64 →
      2 * ecLen (e.opcode - 0x304) ≤ e.outCap → taken (0x30 + (e.opcode - 0x304)) false true (.ecdsaSign slot)) ∧
    (Begun s slot 0x312 0x313 t → e.sigZero false = true → e.edOk (e.opcode - 0x312) = true → Passes (e.msgLens 0) →
      (e.prehash = true ∨ e.msgLen ≤ 16384) → 2 * edPk (e.opcode - 0x312) ≤ e.outCap →
      taken (0x34 + (e.opcode - 0x312)) false false (.edSign slot)) ∧
    (Begun s slot 0x320 0x322 t → e.rsaZero = true → e.zeroFrom 52 55 = true → e.rsaOk [0, 1] none = true →
      e.msgLen = digestLen e.phAlg → k.rsaBits / 8 ≤ e.outCap →
      taken (0x38 + (e.opcode - 0x320)) false (e.pad == 0 && e.saltLen != 0) (.rsaSign slot))

/-- MLDSA_VERIFY, SLHDSA_VERIFY, LMS_VERIFY, HSS_VERIFY, ECDSA_VERIFY, ED_VERIFY, RSA_VERIFY and RSA_OAEP_ENCRYPT with KEY_SLOT =
NO_SLOT, whose layout, engine and lengths pass, wait for the forager; RSA_OAEP_ENCRYPT alone is a DRBG user and has a public
prefix. -/
def Obligations.PublicCommandsAdmit : Prop :=
  ∀ (s : State) (slot : Nat) (t : Track),
    let e := t.entry
    let taken (pre drbg : Bool) (c : Instr) : Prop :=
      s.engineCheck e.opcode = none → e.keySlot = noSlot → t.dmaFail = none →
      exec c s = .next (settle s (s.startOp slot { s.mkOp slot t e.opcode with hasPrefix := pre, drbg := drbg }))
    (Begun s slot 0x118 0x11A t → e.sigZero false = true → e.sigOk = true →
      Passes (e.msgLens (mldsaPk (e.opcode - 0x118) + mldsaSig (e.opcode - 0x118))) → taken false false (.mldsaVerify slot)) ∧
    (Begun s slot 0x220 0x22B t → e.sigZero false = true → e.sigOk = true →
      Passes (e.msgLens (2 * slhN (e.opcode - 0x220) + slhSig (e.opcode - 0x220))) → taken false false (.slhdsaVerify slot)) ∧
    (Begun s slot 0x23C 0x23C t → e.zeroFrom 40 43 = true → e.zeroFrom 48 55 = true →
      lmsPkLen (beAt t.input 0 4) + e.pLE 44 4 ≤ e.msgLen → taken false false (.lmsVerify slot)) ∧
    (Begun s slot 0x23D 0x23D t → e.zeroFrom 40 43 = true → e.zeroFrom 48 55 = true →
      4 + lmsPkLen (beAt t.input 4 4) + e.pLE 44 4 ≤ e.msgLen → taken false false (.hssVerify slot)) ∧
    (Begun s slot 0x308 0x30A t → e.zeroFrom 40 55 = true → 4 * ecLen (e.opcode - 0x308) + 32 ≤ e.msgLen →
      e.msgLen ≤ 4 * ecLen (e.opcode - 0x308) + 64 → taken false false (.ecdsaVerify slot)) ∧
    (Begun s slot 0x314 0x315 t → e.sigZero false = true → e.edOk (e.opcode - 0x314) = true →
      Passes (e.msgLens (3 * edPk (e.opcode - 0x314))) → taken false false (.edVerify slot)) ∧
    (Begun s slot 0x324 0x326 t → e.rsaZero = true → e.zeroFrom 52 55 = true →
      e.rsaOk [0, 1] (some (e.opcode - 0x324)) = true → e.msgLen = 2 * (e.modBits / 8) + 4 + digestLen e.phAlg →
      taken false false (.rsaVerify slot)) ∧
    (Begun s slot 0x32C 0x32E t → e.rsaZero = true → e.zeroFrom 52 55 = true →
      e.rsaOk [2] (some (e.opcode - 0x32C)) = true → e.modBits / 8 + 4 + e.labelLen ≤ e.msgLen → e.modBits / 8 ≤ e.outCap →
      taken true true (.rsaOaepEncrypt slot))

/-- LMS_SIGN with a built key (TREE_STATE 2) of its W is admitted as a DRBG user with a public prefix. LMS_TREE_BUILD of a block
not yet built takes the tree descriptor (the PA of the tree cache, RECORD_ADDR, FLOOR, TREE_STATE = 1) at the key's first command and is
admitted; of a block already built it completes OK at once. OUT_CAP holds the 48-byte public key where the block is the last missing one. The
PA leaves a cache of its size room in the own partition, beside every cache held. LMS_BLOCK_CONFIRM records that the reservation record stands; once the mirror has
acknowledged too, BLOCK_END moves to the block's end. LMS_LEAF_WAIT_TIMEOUT ends a waiting LMS_SIGN. -/
def Obligations.LmsCommandsComplete : Prop :=
  ∀ (s : State) (slot : Nat) (t : Track),
    let e := t.entry
    let n := e.keySlot
    let k := s.slot n
    (Begun s slot 0x238 0x23B t → e.zeroFrom 40 55 = true → s.engineCheck e.opcode = none → isSlot n = true →
      Passes (s.sourceKey t.func n Usage.sign noDevice (· == 0x20)) → k.treeState = 2 →
      beAt k.content 4 4 = 5 + (e.opcode - 0x238) → t.dmaFail = none → (lmsLevel (k.content.take 24) []).len ≤ e.outCap →
      s.slotBad n = false →
      exec (.lmsSign slot) s = .next (settle s (s.startOp slot
        ({ s.mkOp slot t e.opcode with hasPrefix := true, drbg := true }.withKey k)))) ∧
    (∀ b : Nat, Begun s slot 0x234 0x237 t → b = buildBlock (e.opcode - 0x234) k.lmsH → s.engineCheck e.opcode = none →
      e.pLE 48 8 % 64 = 0 → isSlot n = true → Passes (s.sourceKey t.func n Usage.sign noDevice (· == 0x20)) →
      e.pLE 40 4 % b = 0 → e.pLE 40 4 < 2 ^ k.lmsH → beAt k.content 4 4 = 5 + (e.opcode - 0x234) → t.dmaFail = none →
      e.msgLen = 0 → s.slotBad n = false →
      (∀ a, k.tree = none → s.cacheRoom (cacheBytes k.lmsH) = some a → (2 ^ k.lmsH / b = 1 → 48 ≤ e.outCap) →
        let u := s.setSlot n { k.setTreeState 1 with
          tree := some { cacheAt := a, func := t.func, recordAddr := e.pLE 48 8, floor := e.pLE 44 4 } }
        exec (.lmsTreeBuild slot) s = .next (settle s (u.startOp slot ((u.mkOp slot t e.opcode).withKey k)))) ∧
      (∀ d, k.tree = some d → d.recordAddr = e.pLE 48 8 → d.built.contains (e.pLE 40 4) = false →
        (2 ^ k.lmsH / b ≤ d.built.length + 1 → 48 ≤ e.outCap) →
        exec (.lmsTreeBuild slot) s = .next (settle s (s.startOp slot ((s.mkOp slot t e.opcode).withKey k)))) ∧
      (∀ d, k.tree = some d → d.recordAddr = e.pLE 48 8 → d.built.contains (e.pLE 40 4) = true →
        exec (.lmsTreeBuild slot) s = .next (settle s (s.complete slot 0 0 [])))) ∧
    (∀ (m a : Nat), s.cacheRoom m = some a → s.partStart 3 ≤ a ∧ a + m ≤ s.partStart 3 + s.partBytes Reg.memPartOwn ∧
      ∀ c ∈ s.cachesHeld, a + m ≤ c.1 ∨ c.1 + c.2 ≤ a) ∧
    (∀ (m : Nat) (d : TreeDesc) (b : LmsBlock), (s.slot m).tree = some d → d.block = some b →
      exec (.lmsBlockConfirm m) s = .next (settle s (
        if b.mirrorOk then
          ((s.setSlot m { s.slot m with tree := some { d with block := some { b with recordOk := true } } }).setSlot m
            { (s.slot m).setBlockEnd b.stop with tree := some { d with block := none } })
        else s.setSlot m { s.slot m with tree := some { d with block := some { b with recordOk := true } } })))

/-- When the forager chooses engine e for an operation, e is eligible and covered, and among the candidates (the eligible engines
whose group is below T_AVOID, or all of them when none is) no engine holds fewer operations, none of the same depth has a lower
score, and none of the same depth and score a lower number. It chooses none only when no engine is eligible and covered.
D(op) is a multiple of the release grid G, at least (P(op) + 4 × L(op)) × 0.9375 ns, and less than that plus G. -/
def Obligations.ForagerChoice : Prop :=
  ∀ (s : State) (o : CombOp),
    let eligible := (s.openEngines o).filter fun e => s.engineIs e fun g => s.covered g o
    let cool := eligible.filter fun e =>
      s.engineIs e fun g => decide (s.engineTemp g < (field (s.reg Reg.fgsBounds) 15 8 : Int))
    let cand := if cool = [] then eligible else cool
    let score (e : Nat) : Nat := match s.engine e with
      | some g => s.engineScore g
      | none => 0
    (s.chooseEngine o = none → eligible = []) ∧
    (∀ e, s.chooseEngine o = some e → e ∈ cand ∧ ∀ e' ∈ cand, s.depth e ≤ s.depth e' ∧
      (s.depth e = s.depth e' → score e ≤ score e' ∧ (score e = score e' → e ≤ e'))) ∧
    (∀ p l : Nat, s.gridNs ∣ s.dop p l ∧ (p + 4 * l) * 15 ≤ 16 * s.dop p l ∧
      16 * s.dop p l < (p + 4 * l) * 15 + 16 * s.gridNs)

/-- The scalar that an EC_KEYGEN or ECDSA_SIGN forms from its drawn bits lies from 1 to n − 1 for P-256, P-384 and P-521. -/
def Obligations.EcScalarInRange : Prop :=
  ∀ (i : Nat) (draw : Bytes), i < 3 → 1 ≤ ecScalar i draw ∧ ecScalar i draw < ecOrder i

/-- OPERATION_PLACE places the first waiting operation that is admitted and for which an engine is chosen; a DRBG user draws first, and a host
one ends with ENTROPY_FAULT while that fault is in force. An LMS_SIGN takes its leaf at step 7, before step 8 is looked at; with no leaf left it
ends EXHAUSTED; with none confirmed it waits for one. The fill targets follow. PRIORITY_AGING of a waiting host operation raises it by one, up
to 3. What preempts is a host operation at priority 3 that has waited PREEMPT_WAIT and that no engine of depth 0 can take; its victim is a host
class P operation of lower priority that runs and was never preempted. PREEMPTION by it on a covered engine saves the victim, which waits first
in its priority, and counts; a victim whose instruction restarts for the seventeenth time ends with (0x22, 0x12) instead. GRID_TICK starts every
class C operation that waits for its tick; with a grid pending it starts none, and with no class C run outstanding puts the new grid in force
(that those that wait then start at the next tick is the model's choice, log entry 78). RELEASE_GRID_WRITE sets the grid pending.
ENGINE_WIPE_END makes an engine READY, withdraws one whose test waits for the wipe, and ends the test of one that has passed it. -/
def Obligations.ForagerEventsComplete : Prop :=
  ∀ s : State,
    (∀ (o : CombOp) (rest : List CombOp) (e : Nat), s.waitingOps = o :: rest → o.stage ≠ .regather → s.admissionOpen o = true →
      (o.isLmsSign = false ∨ o.leaf ≠ none) → o.mustDraw = false → s.chooseEngine o = some e →
      exec .operationPlace s = .next (settle s (s.placeOn o e).fitFills)) ∧
    (∀ (o : CombOp) (rest : List CombOp) (e : Nat), s.waitingOps = o :: rest → o.stage ≠ .regather → s.admissionOpen o = true →
      (o.isLmsSign = false ∨ o.leaf ≠ none) → o.mustDraw = true → (o.own = true ∨ s.rng.fault = false) → s.drbgServes 0 = true →
      s.chooseEngine o = some e →
      let d := s.draw 0 o.drawLen
      exec .operationPlace s = .next (settle s
        ((d.2.modOp o.src fun x => { x with draw := d.1 }).placeOn { o with draw := d.1 } e).fitFills)) ∧
    (∀ (o : CombOp) (rest : List CombOp), s.waitingOps = o :: rest → o.stage ≠ .regather → s.admissionOpen o = true →
      (o.isLmsSign = false ∨ o.leaf ≠ none) → o.mustDraw = true → o.own = false → s.rng.fault = true →
      exec .operationPlace s = .next (settle s (s.endOp o 0x21 0x60).fitFills)) ∧
    (∀ (o : CombOp) (rest : List CombOp), s.waitingOps = o :: rest → o.stage ≠ .regather → s.admissionOpen o = true →
      o.isLmsSign = true → o.leaf = none →
      let k := s.slot o.keySlot
      (k.lmsExhausted = true → exec .operationPlace s = .next (settle s (s.endOp o 0x19 0x40).fitFills)) ∧
      (k.lmsExhausted = false → k.treeState = 2 → k.blockEnd ≤ k.nextLeaf → o.stage ≠ .leafWait →
        exec .operationPlace s = .next (settle s
          ((s.modOp o.src fun x => { x with stage := .leafWait }).reserveLms o.keySlot).fitFills)) ∧
      (k.lmsExhausted = false → k.treeState = 2 → k.nextLeaf < k.blockEnd →
        let a := s.assignLeaf o.keySlot
        let u := a.2.modOp o.src fun x => { x with leaf := a.1, stage := .waiting }
        exec .operationPlace s = .next (settle s ((u.placeStep8 { o with leaf := a.1, stage := .waiting }).getD u).fitFills))) ∧
    (s.waitingOps.findSome? s.place = none → exec .operationPlace s = .next (settle s s.fitFills)) ∧
    (∀ op : Nat, field (s.reg Reg.fgsAging) 15 0 ≠ 0 →
      exec (.priorityAging op) s = .next (settle s (s.setOps (s.comb.ops.map fun o =>
        if o.id = op ∧ o.own = false ∧ (o.stage = .waiting ∨ o.stage = .leafWait ∨ o.stage = .preempted) then
          { o with prio := min 3 (o.prio + 1) } else o)))) ∧
    (∀ o, s.preemptor = some o → o.own = false ∧ o.prio = 3 ∧ 800 * field (s.reg Reg.fgsAging) 31 16 ≤ (s.free - o.waitFrom).toNat ∧
      s.admissionOpen o = true ∧ (∀ e ∈ s.openEngines o, s.depth e ≠ 0) ∧
      ∃ v, s.victim o.kind = some v ∧ v ∈ s.comb.ops ∧ v.kind = o.kind ∧ v.stage = .body ∧ v.classC = false ∧ v.own = false ∧ v.prio < 3 ∧
        v.wasPreempted = false) ∧
    (∀ (o v : CombOp) (e : Nat), flag (s.reg Reg.fgsCtrl) 0 = true → s.preemptor = some o → s.victim o.kind = some v →
      v.engine = some e → s.engineIs e (fun g => s.covered g o) = true →
      let r := s.interruptVictim v
      let d := (r.2.preempt v e r.1).drawFor o
      (r.1 ≤ 16 → exec .preemption s = .next (settle s ((d.2.placeOn d.1 e).count Reg.fgsPreemptCount))) ∧
      (16 < r.1 → exec .preemption s = .next (settle s
        (((r.2.raise Reg.cmbErrStatus 2).endOp v 0x22 0x12).degradeOp v (s.tagOfOp v) 0x22 0x12)))) ∧
    (s.comb.gridPending = false → exec .gridTick s =
      .next (settle s ((s.comb.ops.filter fun o => o.stage == .tickWait).foldl State.startBody s))) ∧
    (s.comb.gridPending = true → s.comb.ops.any CombOp.running = true → exec .gridTick s = .next s) ∧
    (s.comb.gridPending = true → s.comb.ops.any CombOp.running = false → exec .gridTick s =
      .next { s with comb := { s.comb with gridPending := false, gridSteps := field (s.reg Reg.fgsReleaseGrid) 5 0 } }) ∧
    (∀ v : W32, s.regsOpen = true → s.blockDown Reg.fgsReleaseGrid = false → exec (.releaseGridWrite v) s =
      .next (settle s { s.plainWrite Reg.fgsReleaseGrid v with
        comb := { (s.plainWrite Reg.fgsReleaseGrid v).comb with gridPending := true } })) ∧
    (∀ v : W32, s.regsOpen = true → s.blockDown Reg.fgsStPeriod = false → exec (.stPeriodWrite v) s =
      .next (settle s (s.plainWrite Reg.fgsStPeriod v))) ∧
    (∀ (e : Nat) (g : Engine), s.engine e = some g → g.state = .wiping → s.comb.testing.map (·.1) ≠ some e →
      exec (.engineWipeEnd e) s = .next (settle s ((s.modEngine e fun g => { g.wiped with state := .ready }).engineFree e))) ∧
    (∀ (e : Nat) (g : Engine) (r : TestReason), s.engine e = some g → g.state = .wiping → s.comb.testing = some (e, r) →
      s.comb.testPassed = false →
      exec (.engineWipeEnd e) s = .next (settle s
        ((s.modEngine e fun g => { g.wiped with state := if g.fenced then .ready else .withdrawn }).engineFree e))) ∧
    (∀ (e : Nat) (g : Engine), s.engine e = some g → g.state = .wiping → s.comb.testing = some (e, .periodic) → s.comb.testPassed = true →
      let u := s.modEngine e fun g => { g.wiped with state := .ready, fenced := g.fenced }
      exec (.engineWipeEnd e) s = .next (settle s
        ({ u with comb := { u.comb with testing := none, testPassed := false } }.engineFree e).runTests))

/-- CLASS_P_END: a public prefix with a failed check ends the command at once, and otherwise waits for its tick; a class P program runs to its
end and ends with its verdict, or with FAULT_DETECTED at a TRAP (EXT_STATUS 0 there is the model's choice, log entry 80); the tail of a tree
build writes the public key where OUT_CAP holds it. CLASS_C_BODY_END holds the result until its release; a failed check holds FAULT_DETECTED and
raises DEGRADE; a run past ITER_MAX holds (0x22, 0x14). An uncorrectable read of HBM ends either with (0x25, 0x38). CLASS_C_RELEASE hands a sound
host result on: destination slot, output, OK, wipe; a built block commits, and the last one goes on to the tail; a failed run completes with its
status. INSTRUCTION_INTERRUPT by an underrun counts a restart: up to 4 in a class C body, the fifth abandons the run; the seventeenth of a class P
instruction ends it with (0x22, 0x12) and DEGRADE. OPERAND_MEMORY_UE ends with (0x22, 0x11), wipe and DEGRADE. WATCHDOG ends a class P operation
with (0x22, 0x13) and marks its engine's memory. ITER_LIMIT ends an iterating one with (0x22, 0x14), of class C at its release and only past
ITER_MAX. CONTROL_STORE_UE of a master copy fences every engine of the kind until reset. -/
def Obligations.CombOperationsEnd : Prop :=
  ∀ (s : State) (o : CombOp),
    (∀ op e r, s.opById op = some o → o.stage = .prefixRun → r.failed = none → o.prefixFail = some e →
      exec (.classPEnd op r) s = .next (settle s ((s.noteRead r).endFailed o e.1 e.2))) ∧
    (∀ op r, s.opById op = some o → o.stage = .prefixRun → r.failed = none → o.prefixFail = none →
      exec (.classPEnd op r) s = .next (settle s ((s.noteRead r).modOp o.src fun x => { x with stage := .tickWait }))) ∧
    (∀ op r, s.opById op = some o → o.stage = .body → o.classC = false → r.failed = none →
      let d := (s.noteRead r).runProgram o programBound
      exec (.classPEnd op r) s = .next (settle s
        (if d.1 = .trapped then d.2.endFailed o 0x22 0 else d.2.endFailed o o.verdict.1 o.verdict.2))) ∧
    (∀ op slot r, s.opById op = some o → o.stage = .tail → o.src = .host slot → r.failed = none →
      let d := (s.noteRead r).finishTree o
      let u := (d.2.dropOp o.src).sweepTree o
      exec (.classPEnd op r) s = .next (settle s
        ((if u.outCapOf slot < d.1.length then u.fail slot (0x11, 0x41) else u.complete slot 0 0 d.1).leaveEngine o))) ∧
    (∀ op r x, s.opById op = some o → o.classPRun = true → r.failed = some x →
      exec (.classPEnd op r) s = .next (settle s ((s.hbmUe 2 x (s.tagOfOp o)).endFailed o 0x25 0x38))) ∧
    (∀ op r, s.opById op = some o → o.stage = .body → o.classC = true → o.passesOver = false → r.failed = none →
      let d := (s.noteRead r).runProgram o programBound
      exec (.classCBodyEnd op .sound r) s = .next (settle s (d.2.modOp o.src fun x =>
        { x with stage := .ended, result := if d.1 = .trapped then { status := 0x22 } else o.bodyOutcome }))) ∧
    (∀ op c r, s.opById op = some o → o.stage = .body → o.classC = true → o.passesOver = false → r.failed = none → c ≠ .sound →
      let d := (s.noteRead r).runProgram o programBound
      exec (.classCBodyEnd op c r) s = .next (settle s ((d.2.modOp o.src fun x =>
        { x with stage := .ended, result := { status := 0x22, ext := o.checkExt c } }).degradeOp o (s.tagOfOp o) 0x22 (o.checkExt c)))) ∧
    (∀ op c r, s.opById op = some o → o.stage = .body → o.classC = true → o.passesOver = true →
      exec (.classCBodyEnd op c r) s = .next (settle s ((s.raise Reg.mcsErrStatus 8).modOp o.src fun x =>
        { x with stage := .ended, result := { status := 0x22, ext := 0x14 } }))) ∧
    (∀ op c r x, s.opById op = some o → o.stage = .body → o.classC = true → o.passesOver = false → r.failed = some x → o.isLmsSign = false →
      let d := (s.noteRead r).runProgram o programBound
      exec (.classCBodyEnd op c r) s = .next (settle s ((d.2.hbmUe 2 x (s.tagOfOp o)).modOp o.src fun y =>
        { y with stage := .ended, result := { status := 0x25, ext := 0x38 } }))) ∧
    (∀ op slot t, s.opById op = some o → o.stage = .ended → o.result.status = 0 → o.src = .host slot →
      within o.opcode 0x234 0x237 = false → s.track slot = some t → o.result.out.length ≤ t.entry.outCap →
      exec (.classCRelease op) s =
        .next (settle s (((((s.commitDest o).dropOp o.src).sweepTree o).complete slot 0 0 o.result.out).leaveEngine o))) ∧
    (∀ op slot, s.opById op = some o → o.stage = .ended → o.result.status = 0 → o.src = .host slot → within o.opcode 0x234 0x237 = true →
      let d := s.commitBlock o
      exec (.classCRelease op) s = .next (settle s (if d.1 then d.2.modOp o.src fun x => { x with stage := .tail }
        else (((d.2.dropOp o.src).sweepTree o).complete slot 0 0 []).leaveEngine o))) ∧
    (∀ op, s.opById op = some o → o.stage = .ended → o.result.status ≠ 0 →
      exec (.classCRelease op) s = .next (settle s (s.endFailed o o.result.status o.result.ext))) ∧
    (∀ op job, s.opById op = some o → o.stage = .ended → o.result.status = 0 → o.src = .own job →
      exec (.classCRelease op) s = .next (settle s (((s.dropOp o.src).leaveEngine o).ownDone o job))) ∧
    (∀ e b, s.runningOp e = some o → o.classC = true → o.stage = .body → o.restarts < 4 →
      exec (.instructionInterrupt e .underrun b) s =
        .next (settle s ((s.someCommit o b).modOp o.src fun x => { x with restarts := o.restarts + 1 }))) ∧
    (∀ e b, s.runningOp e = some o → o.classC = true → o.stage = .body → 4 ≤ o.restarts →
      exec (.instructionInterrupt e .underrun b) s = .next (settle s ((s.someCommit o b).abandon o))) ∧
    (∀ e, s.runningOp e = some o → o.classC = false → o.stage = .body → 16 ≤ o.restarts →
      exec (.instructionInterrupt e .underrun false) s = .next (settle s
        ((s.raise Reg.cmbErrStatus 2).endAlarmed o (fun u => u.leaveEngine o) 0x22 0x12))) ∧
    (∀ e, s.runningOp e = some o → o.stage ≠ .tickWait →
      exec (.operandMemoryUe e) s = .next (settle s (((s.modEngine e fun g => { g with
        ueCount := satAdd 255 g.ueCount 1 }).raise Reg.cmbErrStatus 1).endAlarmed o (fun u => u.wipeOf o) 0x22 0x11))) ∧
    (∀ e, s.runningOp e = some o → o.classPRun = true →
      exec (.watchdog e) s = .next (settle s ((s.raise Reg.mcsErrStatus 4).endFailedBy o
        (fun u => (u.modEngine e Engine.marked).engineFree e) 0x22 0x13))) ∧
    (∀ e, s.runningOp e = some o → o.stage = .body → o.iterating = true → (o.classC = true → o.iterMax < o.passes) →
      exec (.iterLimit e) s = .next (settle s (if o.classC then
        (s.raise Reg.mcsErrStatus 8).modOp o.src fun x => { x with stage := .ended, result := { status := 0x22, ext := 0x14 } }
        else (s.raise Reg.mcsErrStatus 8).endFailed o 0x22 0x14))) ∧
    (∀ e g, s.engine e = some g →
      exec (.controlStoreUe e true) s = .next (settle s ((List.range s.comb.engines.length).foldl (fun (u : State) e =>
        if u.engineIs e fun x => x.kind == g.kind then (u.modEngine e fun x => { x with fenceHeld := true }).fence e else u)
        (s.raise Reg.mcsErrStatus 2))))

/-- ENGINE_FENCE of an engine that nothing occupies and that does not wipe fences it and completes; of one that is occupied it waits; a
fence taken leaves nothing waiting for a kind that has no other engine. ENGINE_UNFENCE of a fenced engine queues its test; of another completes at
once. SELFTEST_RUN requests the tests of its scope's engines. PERIODIC_SELFTEST tests the next engine that is neither FENCED nor GATED.
SELFTEST_DONE of the engine under test: one that passes wipes before it returns to service; one that fails is fenced and wipes, with
CMB.ERR_STATUS bit 2 and event 0x0801. STALL_TIMEOUT ends a host class C operation that the fault holds, and LMS_LEAF_WAIT_TIMEOUT
an LMS_SIGN without a confirmed leaf. -/
def Obligations.TestAndFenceComplete : Prop :=
  ∀ (s : State) (slot : Nat) (t : Track),
    let n := t.entry.pLE 42 2
    (∀ g, Begun s slot 0xD01 0xD01 t → Passes (testChecks t (t.entry.zeroFrom 40 41 && t.entry.zeroFrom 44 55) true) →
      s.engine n = some g → g.fenced = false → g.state ≠ .wiping → s.runningOp n = none →
      exec (.engineFence slot) s = .next (settle s ((s.fenceNow n).complete slot 0 0 []))) ∧
    (∀ g o, Begun s slot 0xD01 0xD01 t → Passes (testChecks t (t.entry.zeroFrom 40 41 && t.entry.zeroFrom 44 55) true) →
      s.engine n = some g → g.fenced = false → s.gated g = false → s.runningOp n = some o →
      let u := ((s.busy slot).modEngine n fun g => { g with fenceDue := true }).replaceQueued n
      exec (.engineFence slot) s =
        .next (settle s { u with comb := { u.comb with fenceWait := u.comb.fenceWait ++ [(slot, n)] } })) ∧
    (∀ o ∈ s.comb.ops, ∀ w ∈ s.dropHomeless.comb.ops, o.own = false → o.stage.waits = true → s.kindStays o.kind = false → w.src ≠ o.src) ∧
    (∀ g, Begun s slot 0xD02 0xD02 t → Passes (testChecks t (t.entry.zeroFrom 40 41 && t.entry.zeroFrom 44 55) true) →
      s.engine n = some g → s.gated g = false → g.fenced = true →
      exec (.engineUnfence slot) s = .next (settle s ((s.busy slot).queueTest n (.unfence slot)).runTests)) ∧
    (∀ g, Begun s slot 0xD02 0xD02 t → Passes (testChecks t (t.entry.zeroFrom 40 41 && t.entry.zeroFrom 44 55) true) →
      s.engine n = some g → s.gated g = false → g.fenced = false →
      exec (.engineUnfence slot) s = .next (settle s (s.complete slot 0 0 []))) ∧
    (Begun s slot 0xD00 0xD00 t → t.entry.p8 40 = 2 → Passes (testChecks t (t.entry.zeroFrom 44 55) true) →
      16 ≤ t.entry.outCap →
      let u := s.busy slot
      let todo := (List.range s.comb.engines.length).filter fun i => s.engineIs i fun g => !g.fenced && !s.gated g
      exec (.selftestRun slot) s = .next (settle s ((todo.foldl (fun (u : State) i => u.queueTest i (.selftestRun slot))
        { u with comb := { u.comb with testRuns := u.comb.testRuns ++ [{ slot := slot, one := false, todo := todo }] } }).endRun
          slot).runTests)) ∧
    (∀ e, (((List.range s.comb.engines.length).map fun i => (s.comb.nextTest + i) % s.comb.engines.length).find? fun e =>
        s.engineIs e fun g => !g.fenced && !s.gated g) = some e →
      exec .periodicSelftest s =
        .next (settle s (({ s with comb := { s.comb with nextTest := e + 1 } }).queueTest e .periodic).runTests)) ∧
    (∀ e g, s.lcs.phase ≠ .testing → s.comb.testing = some (e, .periodic) → s.engine e = some g → g.state ≠ .wiping →
      s.runningOp e = none →
      let u (pass : Bool) := s.setReg Reg.fgsStStatus (BitVec.ofNat 32 (e + 65536 * b2n pass))
      let w := (u true).modEngine e fun g => { g with state := .wiping }
      let f := { u false with comb := { (u false).comb with testing := none } }.fenceNow e
      exec (.selftestDone e true) s = .next (settle s { w with comb := { w.comb with testPassed := true } }) ∧
      exec (.selftestDone e false) s = .next (settle s ((((f.raise Reg.cmbErrStatus 4).logEvent 0x0801 e g.kind).modEngine e fun g =>
        { g with state := .wiping }).runTests))) ∧
    (∀ o, s.opOf slot = some o → o.stage = .waiting → o.classC = true → o.drbg = false → s.rng.fault = true →
      exec (.stallTimeout slot) s = .next (settle s (s.endOp o 0x20 0x61))) ∧
    (∀ o d b, s.opOf slot = some o → o.stage = .leafWait → (s.slot o.keySlot).tree = some d → d.block = some b →
      exec (.lmsLeafWaitTimeout slot) s = .next (settle s (s.endOp o 0x30 (if b.mirrorOk then 0x41 else 0x40))))

/-- A step on an empty queue answers a next state: in cold reset the same state, otherwise the state after one CLK_CTL edge; that an empty
queue lets one edge pass is the model's choice (log entry 18). After n edges at one RATE, outside cold reset, the time of day (seconds,
nanoseconds below 10^9, and the fraction with its residue) has advanced by exactly n × 1.25 ns × (1 + RATE × 2^-16 × 10^-9), modulo 2^48
seconds, the free-running count by n modulo 2^64, the edges since the last SERVO_OFFSET write by n, and nothing else has changed. -/
def Obligations.TimeAdvancesExactly : Prop :=
  (∀ s : State, s.pending = [] →
    (s.lcs.phase = .reset → step s = .next s) ∧ (s.lcs.phase ≠ .reset → step s = .next s.edge)) ∧
  ∀ (s : State) (n : Nat), s.lcs.phase ≠ .reset → s.tod.ns < 10 ^ 9 → s.tod.sub < nsUnit → s.tod.sec < 2 ^ 48 →
    let u := (State.edge^[n]) s
    let total (t : Tod) : Nat := (t.sec * 10 ^ 9 + t.ns) * nsUnit + t.sub
    total u.tod = (total s.tod + n * (327680 * 10 ^ 9 + 5 * (s.reg Reg.tsuRate).toInt).toNat) % (2 ^ 48 * 10 ^ 9 * nsUnit) ∧
    u.free = s.free + BitVec.ofNat 64 n ∧ u.tod.servoAge = s.tod.servoAge + n ∧ u.tod.servoSeen = s.tod.servoSeen ∧
    u.tod.ns < 10 ^ 9 ∧ u.tod.sub < nsUnit ∧ u.tod.sec < 2 ^ 48 ∧ { u with free := s.free, tod := s.tod } = s

/-- The quality code: 0x40 until the servo has written SERVO_OFFSET; then 0 while the last write is younger than LOCK_TMO and below 100 ns;
else 0x10 while the last value and DRIFT_PPB times the seconds since stay below 1,000 ns, and 0x20 from then on; 0x80 more while TIME_SUSPECT
is latched. The offset written is taken as nanoseconds, a second as 800,000,000 edges and LOCK_TMO as units of 80,000,000 edges, 0 as 1. -/
def Obligations.QualityCode : Prop :=
  ∀ s : State,
    let age := s.tod.servoAge
    let offset := (s.reg Reg.tsuServoOffset).toNat
    let locked := age < max 1 (field (s.reg Reg.tsuLockCfg) 7 0) * 80000000 ∧ offset < 100
    let bound := offset * 800000000 + field (s.reg Reg.tsuLockCfg) 31 16 * age
    let suspect := if flag (s.reg Reg.phwSuspect) 0 then 0x80 else 0
    (s.tod.servoSeen = false → s.qualityCode = 0x40 + suspect) ∧
    (s.tod.servoSeen = true → locked → s.qualityCode = suspect) ∧
    (s.tod.servoSeen = true → ¬locked → bound < 1000 * 800000000 → s.qualityCode = 0x10 + suspect) ∧
    (s.tod.servoSeen = true → ¬locked → 1000 * 800000000 ≤ bound → s.qualityCode = 0x20 + suspect)

/-- RATE_WRITE stores the rate and, beyond 1 ppm of change, voids the witness's window. SERVO_OFFSET_WRITE stores the report and the
time since it starts again. At LOCK_TIMEOUT that time has reached LOCK_TMO, at HOLDOVER_LIMIT the edge at which the holdover is spent. TOD_NS_READ answers the nanoseconds and latches the other words of
the same edge. CAP_CTRL_ENABLE with EN = 1 sets both capture counts to 0, and takes the depth if EN was 0. TIME_READ answers 32 bytes. TIME_STEP sets the time
absolutely or steps it, and voids the window or restarts the witness. PHW_CALIBRATE queues; PHW_CALIBRATION_END within 5 % of the
reference takes the coefficients and answers them, and otherwise keeps the old ones with (0x22, 0xD1) and DEGRADE. -/
def Obligations.TimeCommandsComplete : Prop :=
  ∀ (s : State) (slot : Nat) (t : Track),
    let e := t.entry
    (∀ v : W32, s.regsOpen = true → s.blockDown Reg.tsuRate = false →
      exec (.rateWrite v) s = .next (settle s (
        if 65536000 < (v.toInt - (s.reg Reg.tsuRate).toInt).natAbs then (s.setReg Reg.tsuRate v).phwVoid
        else s.setReg Reg.tsuRate v))) ∧
    (∀ v : W32, s.regsOpen = true → s.blockDown Reg.tsuServoOffset = false →
      exec (.servoOffsetWrite v) s = .next (settle s ((s.setReg Reg.tsuServoOffset v).modTod fun t =>
        { t with servoSeen := true, servoAge := 0 }))) ∧
    exec .lockTimeout s = .next { s with tod := { s.tod with
      servoAge := max s.tod.servoAge (max 1 (field (s.reg Reg.tsuLockCfg) 7 0) * 80000000) } } ∧
    (∀ n, s.holdoverEdges = some n →
      exec .holdoverLimit s = .next { s with tod := { s.tod with servoAge := max s.tod.servoAge n } }) ∧
    (s.regsOpen = true → s.blockDown Reg.tsuTodNs = false →
      exec .todNsRead s = .next { s with
        out := s.out ++ [.readData (BitVec.ofNat 32 s.tod.ns)]
        tsu := { s.tsu with latch := [BitVec.ofNat 32 s.tod.sec, BitVec.ofNat 32 (s.tod.sec / 2 ^ 32),
          BitVec.ofNat 32 (s.stampNow.frac + 256 * s.qualityCode), BitVec.ofNat 32 s.free.toNat,
          BitVec.ofNat 32 (s.free.toNat / 2 ^ 32)] } }) ∧
    (∀ v : W32, s.regsOpen = true → s.blockDown Reg.tsuCapCtrl = false → flag v 8 = true →
      let u := s.plainWrite Reg.tsuCapCtrl v
      exec (.capCtrlEnable v) s = .next (settle s (({ u with
        tsu := { u.tsu with capLog2 := if flag (s.reg Reg.tsuCapCtrl) 8 then s.tsu.capLog2 else clamp 6 16 (field v 4 0) } }.setReg Reg.tsuCapProd 0).setReg Reg.tsuCapCons 0))) ∧
    (Begun s slot 0x900 0x900 t → Passes (timeChecks t (e.zeroFrom 40 55) true) → 32 ≤ e.outCap →
      exec (.timeRead slot) s = .next (settle s (s.complete slot 0 0 s.timeRead))) ∧
    (Begun s slot 0x901 0x901 t → e.p8 40 = 1 → e.zeroFrom 41 41 = true → e.zeroFrom 52 55 = true →
      Passes (timeChecks t true true) → e.pLE 48 4 < 10 ^ 9 →
      let n := e.pLE 42 6 * 10 ^ 9 + e.pLE 48 4
      exec (.timeStep slot) s = .next (settle s (((s.modTod fun d => { d with
        sec := n / 10 ^ 9, ns := n % 10 ^ 9, sub := 0, servoSeen := false }).phwVoid).complete slot 0 0 []))) ∧
    (∀ n : Nat, Begun s slot 0x901 0x901 t → e.p8 40 = 0 → e.zeroFrom 41 41 = true → e.zeroFrom 42 43 = true → e.zeroFrom 52 55 = true →
      Passes (timeChecks t true true) → s.tod.stepped (signed64 (e.pLE 44 8)) = some n →
      exec (.timeStep slot) s = .next (settle s (((s.modTod fun d => { d with
        sec := n / 10 ^ 9, ns := n % 10 ^ 9 }).phwVoid).complete slot 0 0 []))) ∧
    (Begun s slot 0x902 0x902 t → Passes (timeChecks t (e.zeroFrom 40 55) true) → 8 ≤ e.outCap →
      exec (.phwCalibrate slot) s = .next (settle s
        (((s.busy slot).modPhw fun p => { p with calib := p.calib ++ [slot] }).phwNextCalibration))) ∧
    (∀ (reading offset gain : Int) (rest : List Nat), s.phw.calib = slot :: rest → 570000 ≤ reading → reading ≤ 630000 →
      exec (.phwCalibrationEnd reading offset gain) s = .next (settle s
        (((s.modPhw fun p => { p with calib := rest, offset := offset, gain := gain }).phwNextCalibration).complete slot 0 0
          (toLE 4 (BitVec.ofInt 32 offset).toNat ++ toLE 4 (BitVec.ofInt 32 gain).toNat)))) ∧
    (∀ (reading offset gain : Int) (rest : List Nat), s.phw.calib = slot :: rest → (reading < 570000 ∨ 630000 < reading) →
      exec (.phwCalibrationEnd reading offset gain) s = .next (settle s
        ((((s.modPhw fun p => { p with calib := rest }).phwNextCalibration).fail slot (0x22, 0xD1)).degrade 0x22 0xD1 0xFFFF (s.tagOf slot))))

/-- PHW_WINDOW changes nothing while the witness is OFF or CALIBRATING. In every other state FREQ shows the frequency, MAG the selected
input's magnitude, RESIDUAL the residual, and the state becomes that of Table 14.6: NO SIGNAL below a tenth of the nominal, then OUT OF
RANGE outside 45 to 65 Hz, then ACQUIRING from either, TRACKING after twenty windows, WIDE on a magnitude excursion, SETTLING after
it, TRACKING after five windows of it. TIME_SUSPECT is unchanged unless the state after the
window is TRACKING or WIDE. -/
def Obligations.PhaseWitnessWindow : Prop :=
  ∀ (s : State) (a b freq : Nat) (r : Int),
    ((s.phw.state = 0 ∨ s.phw.state = 7) → exec (.phwWindow a b freq r) s = .next s) ∧
    (Canonical s → s.phw.state ≠ 0 → s.phw.state ≠ 7 →
      ∃ u, exec (.phwWindow a b freq r) s = .next u ∧
        let nominal := (s.reg Reg.phwNominalMv).toNat
        let mag := (s.phwSelect a b).1
        let wide := max 1 (field (s.reg Reg.phwFaultCfg) 7 0) * nominal < ((mag : Int) - nominal).natAbs * 256
        u.reg Reg.phwFreq = BitVec.ofNat 32 freq ∧ u.reg Reg.phwMag = BitVec.ofNat 32 mag ∧
        u.reg Reg.phwResidual = BitVec.ofInt 32 r ∧ u.phw.voided = false ∧
        (mag * 10 < nominal → u.phw.state = 5) ∧
        (nominal ≤ mag * 10 → (freq < 45000 ∨ 65000 < freq) → u.phw.state = 6) ∧
        (nominal ≤ mag * 10 → 45000 ≤ freq → freq ≤ 65000 →
          ((s.phw.state = 5 ∨ s.phw.state = 6) → u.phw.state = 1) ∧
          (s.phw.state = 1 → u.phw.state = if s.phw.windows + 1 < 20 then 1 else 2) ∧
          ((s.phw.state = 2 ∨ s.phw.state = 3 ∨ s.phw.state = 4) → wide → u.phw.state = 3) ∧
          (s.phw.state = 3 → ¬wide → u.phw.state = 4) ∧
          (s.phw.state = 4 → ¬wide → u.phw.state = if s.phw.windows + 1 < 5 then 4 else 2) ∧
          (s.phw.state = 2 → ¬wide → u.phw.state = 2)) ∧
        (u.phw.state ≠ 2 → u.phw.state ≠ 3 → u.reg Reg.phwSuspect = s.reg Reg.phwSuspect))

/-- The repetition count of a pair fed with a sequence of bits is the length of the run of equal bits that ends it, so that the test
fails exactly when the last 61 samples are equal; and a window of the adaptive proportion test counts the samples equal to the
window's first. Stated of a pair fed from its initial state: after n + 1 samples, the run is the length of the longest constant
suffix, and within the first 1,024 samples the count is that of the samples equal to the first. -/
def Obligations.HealthTestCounts : Prop :=
  ∀ (first : Bool) (bits : List Bool),
    let feed (p : Pair) (b : Bool) : Pair := (p.test b).1
    let p := (first :: bits).foldl feed {}
    p.run = ((first :: bits).reverse.takeWhile (· == ((first :: bits).reverse.headD true))).length ∧
    (bits.length < 1023 → p.aptCount = ((first :: bits).filter (· == first)).length)

/-- PAIR_SAMPLE of a pair in service that passes both tests adds its bit to the raw bits; one that fails a test leaves service. In a
start-up test the first 1,024 samples are discarded and the next tested, each test counted once; a pair out of service is tested while a raw
read samples it. BLOCK_CONDITIONED forms SHA3-256 over 1,024 raw bits and the block counter and
delivers it. CHANNEL_RESEED takes the next queued seed; its state runs on by 2^25 steps; without one
a pipeline channel holds, as does one whose engine runs a job of the device's own, and another stops. DRBG_RESEED_DUE asks
for a reseed; DRBG_STOP stops an instance whose reseed is due. STARTUP_TEST_END of a pair that has its 2,048 samples puts it in
service or not. MIN_PAIRS_WRITE stores RNG.CTRL and judges the floor. RNG_FIFO_REFILL gives four words of instance 3 to the next
function with room. RNG_DATA_READ and VF_RNG_DATA_READ answer the next word, or 0 with the underrun flag. -/
def Obligations.EntropyEventsComplete : Prop :=
  ∀ s : State,
    (∀ (n : Nat) (p : Pair) (b : Bool), s.rng.pairs[n]? = some p → s.rng.running = true → s.rng.rawReads = [] →
      p.starting = none → p.inService = true → (p.test b).2 = (false, false) →
      exec (.pairSample n b) s = .next (settle s (((s.feedRaw n b).modPair n fun _ => (p.test b).1).modRng fun r =>
        { r with raw := r.raw ++ [b] }))) ∧
    (∀ (n : Nat) (p : Pair) (b x y : Bool), s.rng.pairs[n]? = some p → s.rng.running = true → p.starting = none →
      p.inService = true → (p.test b).2 = (x, y) → (x || y) = true →
      exec (.pairSample n b) s =
        .next (settle s (((s.feedRaw n b).modPair n fun _ => (p.test b).1).pairFails n x y))) ∧
    (∀ (n k : Nat) (p : Pair) (b : Bool), s.rng.pairs[n]? = some p → s.rng.running = true → p.starting = some k → k < 1024 →
      exec (.pairSample n b) s =
        .next (settle s ((s.feedRaw n b).modPair n fun p => { p with starting := some (k + 1) }))) ∧
    (∀ (n k : Nat) (p : Pair) (b : Bool), s.rng.pairs[n]? = some p → s.rng.running = true → p.starting = some k → 1024 ≤ k → k < 2048 →
      let x := p.test b
      exec (.pairSample n b) s = .next (settle s (((s.feedRaw n b).modPair n fun _ => { x.1 with
        starting := some (k + 1), suFailed := p.suFailed || x.2.1 || x.2.2, suRct := p.suRct || x.2.1, suApt := p.suApt || x.2.2
        }).countHealth (x.2.1 && !p.suRct) (x.2.2 && !p.suApt)))) ∧
    (∀ (n : Nat) (p : Pair) (b : Bool) (r : RawRead), s.rng.pairs[n]? = some p → s.rng.running = true → p.starting = none →
      p.inService = false → r ∈ s.rng.rawReads → r.pair = n →
      let x := (p.test b).1
      exec (.pairSample n b) s = .next (settle s
        (((s.feedRaw n b).modPair n fun _ => x).countHealth (x.run == 61) (x.aptCount == 812 && b == x.aptFirst)))) ∧
    (s.rng.running = true → 1024 ≤ s.rng.raw.length →
      exec .blockConditioned s = .next (settle s (((((s.modRng fun r =>
        { r with raw := r.raw.drop 1024, ctr := r.ctr + 1 }).modReg Reg.rngBlockCount (· + 1)).fitFills).deliver
          (sha3_256 (bitBytes 128 (s.rng.raw.take 1024) ++ toLE 8 s.rng.ctr))).continueBoot))) ∧
    (∀ (c : Nat) (m : MaskChan), s.rng.chans[c]? = some m → m.seeded = true → m.stopped = false →
      s.maskPowered c = true →
      let m' : MaskChan := { m with words := m.words - 524288, state := lfsrJump 25 m.state }
      (∀ seed rest, m.queue = seed :: rest → exec (.channelReseed c) s = .next (settle s
        (((s.modMask c fun _ => { m' with queue := rest }.absorb seed).modReg Reg.rngReseedCount (· + 1)).allocateAll))) ∧
      (m.queue = [] → (c < 16 ∨ s.runsOwnJob c = true) → exec (.channelReseed c) s =
        .next (settle s ((s.modMask c fun _ => { m' with hold := true }).count Reg.rngHoldCount))) ∧
      (m.queue = [] → 16 ≤ c → s.runsOwnJob c = false → exec (.channelReseed c) s =
        .next (settle s ((s.modMask c fun _ => { m' with stopped := true }).count Reg.rngStopCount)))) ∧
    (∀ i, (s.drbg i).live = true → (s.drbg i).reseedDue = false →
      exec (.drbgReseedDue i) s = .next (settle s (((s.modDrbg i fun d =>
        { d with reseedDue := true, dueOrder := s.rng.dueSeq }).modRng fun r =>
          { r with dueSeq := r.dueSeq + 1 }).allocateAll))) ∧
    (∀ i, (s.drbg i).live = true → (s.drbg i).reseedDue = true →
      exec (.drbgStop i) s = .next (settle s (s.modDrbg i fun d => { d with stopped := true }))) ∧
    (∀ (n : Nat) (p : Pair), s.rng.pairs[n]? = some p → p.starting = some 2048 → s.rng.start = none →
      exec (.startupTestEnd n) s = .next (settle s
        (((s.pairTested n (!p.suFailed)).endRestores n (!p.suFailed)).checkFault.tryReady.continueBoot))) ∧
    (∀ v, s.regsOpen = true → s.blockDown Reg.rngCtrl = false →
      exec (.minPairsWrite v) s = .next (settle s (s.plainWrite Reg.rngCtrl v).checkFault)) ∧
    (∀ i, ((List.range 256).find? fun i => s.fifoRoom ((s.rng.lastServed + 1 + i) % 256)) = some i → s.drbgServes 3 = true →
      let f := (s.rng.lastServed + 1 + i) % 256
      let d := s.draw 3 16
      exec .rngFifoRefill s = .next (settle s ((d.2.setFunc f { d.2.func f with
        fifo := (d.2.func f).fifo ++ (List.range 4).map fun j => BitVec.ofNat 32 (leAt d.1 (4 * j) 4) }).modRng fun r =>
          { r with lastServed := f }))) ∧
    (∀ w ws, s.regsOpen = true → s.blockDown Reg.rngData = false → (s.func 0).fifo = w :: ws → s.drbgServes 3 = true →
      exec .rngDataRead s = .next (settle s ((s.setFunc 0 { s.func 0 with fifo := ws }).emit (.readData w)))) ∧
    (s.regsOpen = true → s.blockDown Reg.rngData = false → (s.func 0).fifo = [] → s.rng.fault = false →
      exec .rngDataRead s = .next (settle s ((s.raise Reg.rngDataStatus 1).emit (.readData 0)))) ∧
    (∀ f w ws, f ≠ 0 → s.funcPresent f = true → s.lcs.phase ≠ .reset → s.lcs.state ≠ .terminated →
      s.blockDown (Reg.vfRngData + 0x10000 * f) = false → (s.func f).fifo = w :: ws → s.drbgServes 3 = true →
      exec (.vfRngDataRead f) s = .next (settle s ((s.setFunc f { s.func f with fifo := ws }).emit (.readData w))))

/-- RNG_GENERATE without PR while instance 2 serves answers LEN bytes of it; with PR = 1 it asks for a reseed first and waits; in
ENTROPY_FAULT it ends with (0x21, 0x60). RNG_RAW_READ waits for the pair's next 8 × LEN samples. RNG_PAIR_RESTORE of a pair in service
completes at once, of another begins its start-up test. -/
def Obligations.EntropyCommandsComplete : Prop :=
  ∀ (s : State) (slot : Nat) (t : Track),
    let e := t.entry
    (Begun s slot 0x400 0x400 t → e.p8 44 = 0 → Passes (rngChecks t (e.zeroFrom 45 55) (within (e.pLE 40 4) 1 65536) (e.pLE 40 4)) →
      s.drbgServes 2 = true → s.rng.fault = false →
      let d := s.draw 2 (e.pLE 40 4)
      exec (.rngGenerate slot) s = .next (settle s ((d.2.modRng fun r =>
        { r with prDone := r.prDone.filter (· != slot) }).complete slot 0 0 d.1))) ∧
    (Begun s slot 0x400 0x400 t → e.p8 44 = 1 → Passes (rngChecks t (e.zeroFrom 45 55) (within (e.pLE 40 4) 1 65536) (e.pLE 40 4)) →
      s.rng.fault = false → s.rng.ready = true → s.rng.prDone.contains slot = false → s.rng.prWait.contains slot = false →
      exec (.rngGenerate slot) s = .next (settle s (((s.waitEntropy slot).modRng fun r =>
        { r with prWait := r.prWait ++ [slot] }).askReseed 2))) ∧
    (Begun s slot 0x400 0x400 t → e.p8 44 ≤ 1 → Passes (rngChecks t (e.zeroFrom 45 55) (within (e.pLE 40 4) 1 65536) (e.pLE 40 4)) →
      s.rng.fault = true → exec (.rngGenerate slot) s = .next (settle s ((s.forgetUnit slot).fail slot (0x21, 0x60)))) ∧
    (Begun s slot 0x401 0x401 t → e.p8 44 ≤ 7 → Passes (rngChecks t (e.zeroFrom 45 55) (within (e.pLE 40 4) 1 4096) (e.pLE 40 4)) →
      exec (.rngRawRead slot) s = .next (settle s ((s.busy slot).modRng fun r =>
        { r with rawReads := r.rawReads ++ [⟨slot, e.p8 44, 8 * e.pLE 40 4, []⟩] }))) ∧
    (∀ p, Begun s slot 0x402 0x402 t → e.zeroFrom 40 43 = true → e.p8 44 ≤ 7 → Passes (rngChecks t (e.zeroFrom 45 55) true 0) →
      s.rng.pairs[e.p8 44]? = some p →
      exec (.rngPairRestore slot) s = .next (settle s (
        if p.inService then s.complete slot 0 0 []
        else if p.starting.isSome then (s.busy slot).modRng fun r => { r with restores := r.restores ++ [{ slot := slot, pair := e.p8 44 }] }
        else ((s.startPair (e.p8 44)).busy slot).modRng fun r => { r with restores := r.restores ++ [{ slot := slot, pair := e.p8 44 }] })))

/-- A key commits with VALID = 1, CLAIMED = 0, its ORIGIN and TEST, and every template bit (DEVICE, LOCKED, KIND, usage, CLEN, upper
policy bits) as it was; a restriction can clear usage bits and set LOCKED, and no other bit changes. -/
def Obligations.AttributeWordAfterCommit : Prop :=
  ∀ (attr : W64) (origin : Nat) (test : Bool), origin < 4 →
    let w := committedAttr attr origin test
    bitOf w.toNat 0 = true ∧ bitOf w.toNat 1 = false ∧ bitsOf w.toNat 33 32 = origin ∧ bitOf w.toNat 34 = test ∧
    w &&& templateMask = attr &&& templateMask

/-- KEY_PREPARE of an open, empty, unlocked, unclaimed slot with a legal template of permitted usage replaces the template of its run.
KEY_GENERATE fills a prepared AES or SECRET slot from DRBG instance 0, also after a wait for it. KEY_DELETE clears the run, with UNPREPARE its template too.
KEY_RESTRICT clears the usage bits named and may set LOCKED. KEY_QUERY answers attribute word and check value. KEY_RANGE_SET sets a
function's range and PLAIN_IMPORT. KEY_BVR_INIT draws a new BVR and derives slots 1 to 4 again. DEVICE_SLOT_REDERIVE fills a failed
device slot again. -/
def Obligations.KeyCommandsComplete : Prop :=
  ∀ (s : State) (slot : Nat) (t : Track),
    let e := t.entry
    let n := e.keySlot
    let k := s.slot n
    (let w : W64 := BitVec.ofNat 64 (e.pLE 40 8)
     let run := runSlots (bitsOf w.toNat 11 4) n
     Begun s slot 0x500 0x500 t → e.zeroFrom 48 55 = true → e.msgLen = 0 → templateOk w = true → usageOk w = true →
      s.openSlot t.func n noDevice run.length = none → (∀ i ∈ run, (s.slot i).locked = false) →
      (∀ i ∈ run, (s.slot i).valid = false ∧ (s.slot i).claimed = false) → t.dmaFail = none →
      exec (.keyPrepare slot) s = .next (settle s ((run.foldl (fun s i => s.setSlot i { attr := if i = n then w else 0x3F0 })
        (run.foldl (fun s i => s.clearRun i true) s)).complete slot 0 0 []))) ∧
    (Begun s slot 0x501 0x501 t → t.step8 = false → e.zeroFrom 40 55 = true → e.msgLen = 0 →
      Passes (s.destKey t.func n (fun k => within k 1 3)) → t.dmaFail = none →
      let u := (s.claim n).waitEntropy slot
      u.rng.fault = false → u.drbgServes 0 = true →
      let d := u.draw 0 (contentLen (u.slot n).kind (u.slot n).clen)
      exec (.keyGenerate slot) s = .next (settle s ((d.2.commitKey n d.1 [] 0 false).complete slot 0 0 []))) ∧
    (Begun s slot 0x501 0x501 t → t.step8 = true → s.rng.fault = false → s.drbgServes 0 = true →
      let d := s.draw 0 (contentLen k.kind k.clen)
      exec (.keyGenerate slot) s = .next (settle s ((d.2.commitKey n d.1 [] 0 false).complete slot 0 0 []))) ∧
    (Begun s slot 0x506 0x506 t → e.p8 40 < 2 → e.zeroFrom 41 55 = true → e.msgLen = 0 →
      s.openSlot t.func n noDevice (runLength k.kind) = none → k.claimed = false → t.dmaFail = none →
      exec (.keyDelete slot) s = .next (settle s (((s.orphanTree n).modRun n fun k => if e.p8 40 = 1 then {} else k.cleared).complete slot 0 0 []))) ∧
    (Begun s slot 0x507 0x507 t → e.p8 44 < 2 → e.zeroFrom 45 55 = true → e.msgLen = 0 → e.pLE 40 4 &&& 0xFF800FFF = 0 →
      s.openSlot t.func n noDevice (runLength k.kind) = none → k.locked = false → t.dmaFail = none →
      exec (.keyRestrict slot) s = .next (settle s ((s.setSlot n { k with
        attr := (k.attr &&& ~~~BitVec.ofNat 64 (e.pLE 40 4)) ||| (if e.p8 44 = 1 then 8 else 0) }).complete slot 0 0 []))) ∧
    (Begun s slot 0x508 0x508 t → e.zeroFrom 40 55 = true → e.msgLen = 0 →
      s.openSlot t.func n (fun _ => true) (runLength k.kind) = none → (n < 16 → k.valid = true) → t.dmaFail = none →
      16 ≤ e.outCap → s.slotBad n = false →
      exec (.keyQuery slot) s =
        .next (settle s (s.complete slot 0 0 (toLE 8 k.attr.toNat ++ s.keyCheckValue n ++ zeros 4)))) ∧
    (let base := if e.pLE 44 2 = 0 then 0 else e.pLE 42 2
     Begun s slot 0x510 0x510 t → e.zeroFrom 41 41 = true → e.p8 46 < 2 → e.zeroFrom 47 55 = true → e.msgLen = 0 →
      n = noSlot → (e.pLE 44 2 ≠ 0 → 16 ≤ base ∧ base + e.pLE 44 2 ≤ 4096) →
      s.rangeOverlaps (e.p8 40) base (e.pLE 44 2) = false → s.leavesInUse (e.p8 40) base (e.pLE 44 2) = false →
      t.dmaFail = none →
      exec (.keyRangeSet slot) s = .next (settle s ((s.setFunc (e.p8 40) { s.func (e.p8 40) with
        keyBase := base, keyCount := e.pLE 44 2, plainImport := decide (e.p8 46 = 1) }).complete slot 0 0 []))) ∧
    (Begun s slot 0x511 0x511 t → e.zeroFrom 40 55 = true → e.msgLen = 0 → n = noSlot → s.lcs.state = .owned →
      s.bvrPolicy = true → s.kst.bvrState ≠ .valid → t.dmaFail = none → s.rng.fault = false → s.drbgServes 1 = true →
      let d := s.draw 1 32
      exec (.keyBvrInit slot) s = .next (settle s
        (({ d.2 with kst := { d.2.kst with bvr := d.1, bvrState := .valid } }.fillDevices [1, 2, 3, 4]).complete slot 0 0 []))) ∧
    (∀ m, s.kst.rederive.contains m = true → bootSlots.contains m = true →
      exec (.deviceSlotRederive m) s = .next (settle s
        ({ s with kst := { s.kst with rederive := s.kst.rederive.filter (· != m) } }.fillDevice m)))

/-- KEY_IMPORT under PLAIN_IMPORT, KEY_DERIVE from a SECRET with usage DERIVE, and KEY_UNWRAP of a sound blob whose KIND is the
destination's, for a kind that needs no consistency check (AES, SECRET, ML-KEM, HQC, LMS, SLH-DSA), commit at once: with ORIGIN 3, 1
and 2, and for an unwrap with the usage narrowed to the header's. A key of another kind waits for its
consistency check in the Comb; a derivation takes a free lane of the digest engine or waits for one; an imported curve scalar out of range ends with R171's status. KEY_WRAP of a key with EXPORT under a key with WRAP answers the blob
of its header and content. A blob that fails authentication ends with (0x02, 0x70). -/
def Obligations.KeyTransportComplete : Prop :=
  ∀ (s : State) (slot : Nat) (t : Track),
    let e := t.entry
    (let n := e.keySlot
     let k := s.slot n
     Begun s slot 0x502 0x502 t → e.zeroFrom 42 55 = true → (isRsa k.kind = false → e.pLE 40 2 = 0) →
      (isRsa k.kind = true → leAt t.input 0 2 = e.pLE 40 2) →
      s.openSlot t.func n noDevice (runLength k.kind) = none → (s.func t.func).plainImport = true →
      s.destState n (fun _ => true) = none → t.dmaFail = none → e.msgLen = contentLen k.kind k.clen →
      (jobProgram k.kind = none → exec (.keyImport slot) s =
        .next (settle s ((s.commitKey n (entering k.kind t.input) [] 3 false).complete slot 0 0 []))) ∧
      (∀ op, jobProgram k.kind = some op → scalarCheck k.kind t.input = none → s.engineCheck op = none →
        exec (.keyImport slot) s = .next (settle s (s.startOp slot
          { s.mkOp slot t op with key := t.input, input := [], test := false, dest := some n }))) ∧
      (∀ x, scalarCheck k.kind t.input = some x → exec (.keyImport slot) s = .next (settle s (s.fail slot x)))) ∧
    (let n := e.pLE 44 4
     let k := s.slot n
     let ki := s.slot e.keySlot
     Begun s slot 0x503 0x503 t → e.zeroFrom 41 41 = true → e.zeroFrom 48 55 = true → e.p8 40 ≤ 1 → e.pLE 42 2 ≤ 256 →
      s.openSlot t.func e.keySlot (· == 3) (runLength ki.kind) = none → s.openSlot t.func n noDevice (runLength k.kind) = none →
      s.sourceState e.keySlot Usage.derive 0x71 (· == 3) = none → s.destState n derivable = none → t.dmaFail = none →
      e.pLE 42 2 ≤ e.msgLen → e.msgLen ≤ e.pLE 42 2 + 4096 → s.slotBad e.keySlot = false →
      let key := derivedKey (e.p8 40) (contentLen k.kind k.clen) ki.content (t.input.take (e.pLE 42 2)) (t.input.drop (e.pLE 42 2))
      (s.dge.freeLane.isSome = true → jobProgram k.kind = none → exec (.keyDerive slot) s =
        .next (settle s ((s.commitKey n (entering k.kind key) [] 1 ki.test).complete slot 0 0 []))) ∧
      (∀ op, s.dge.freeLane.isSome = true → jobProgram k.kind = some op → s.engineCheck op = none → exec (.keyDerive slot) s =
        .next (settle s (s.startOp slot { s.mkOp slot t op with key := key, input := [], test := ki.test, dest := some n }))) ∧
      (s.dge.freeLane = none → exec (.keyDerive slot) s = .next (settle s (((s.claim n).busy slot).modDge fun d => { d with
        cmds := d.cmds ++ [{ slot := slot, order := t.order, key := key, test := ki.test, dest := some n, internal := true }] })))) ∧
    (let w := e.pLE 44 4
     let k := s.slot e.keySlot
     Begun s slot 0x504 0x504 t → e.zeroFrom 40 43 = true → e.zeroFrom 48 55 = true → e.msgLen = 0 →
      s.openSlot t.func w (fun d => d == 2 || d == 5) (runLength (s.slot w).kind) = none →
      s.openSlot t.func e.keySlot noDevice (runLength k.kind) = none →
      s.sourceState w Usage.wrap 0x71 (· == 2) = none → s.sourceState e.keySlot Usage.export_ 0x73 (fun _ => true) = none →
      t.dmaFail = none → blobLen (contentLen k.kind k.clen) ≤ e.outCap → s.slotBad w = false → s.slotBad e.keySlot = false →
      exec (.keyWrap slot) s = .next (settle s (s.complete slot 0 0 (stdOut (blobLen (contentLen k.kind k.clen)) .aesKwpWrap 0
        [(s.slot w).content, wrapHeader k ++ k.content])))) ∧
    (let n := e.pLE 44 4
     let u := s.slot e.keySlot
     let k := s.slot n
     let opened (d : Nat) : Bool := d == 2 || d == 5 || (d == 8 && s.lcs.state == LcState.manufacture)
     Begun s slot 0x505 0x505 t → e.zeroFrom 40 43 = true → e.zeroFrom 48 55 = true →
      s.openSlot t.func e.keySlot opened (runLength u.kind) = none → s.openSlot t.func n noDevice (runLength k.kind) = none →
      s.sourceState e.keySlot Usage.unwrap 0x71 (· == 2) = none → s.destState n (fun _ => true) = none → t.dmaFail = none →
      e.msgLen = blobLen (contentLen k.kind k.clen) → s.slotBad e.keySlot = false →
      let p := Config.std .aesKwpUnwrap 0 [u.content, t.input]
      (Config.stdHolds .aesKwpOk 0 [u.content, t.input] = false →
        exec (.keyUnwrap slot) s = .next (settle s (s.fail slot (0x02, 0x70)))) ∧
      (Canonical s → Config.stdHolds .aesKwpOk 0 [u.content, t.input] = true → blobOk p = true → blobKind p = k.kind →
        (k.kind = 3 → natAt p 7 = k.clen) → jobProgram k.kind = none →
        exec (.keyUnwrap slot) s = .next (settle s (((s.setSlot n { k with attr := narrowed k.attr p }).commitKey n
          (entering k.kind (p.drop 16)) [] 2 u.test).complete slot 0 0 []))) ∧
      (∀ op, Config.stdHolds .aesKwpOk 0 [u.content, t.input] = true → blobOk p = true → blobKind p = k.kind →
        jobProgram k.kind = some op → scalarCheck k.kind (p.drop 16) = none → s.engineCheck op = none →
        exec (.keyUnwrap slot) s = .next (settle s (s.startOp slot
          { s.mkOp slot t op with key := p.drop 16, input := p, test := u.test, dest := some n }))))

/-- For every width, polynomial and reflection of a unit: absorbing two byte strings one after the other gives the same VALUE as
absorbing them joined, so that a driver may mix DATA8 and DATA32; and RESULT is VALUE ⊕ XOROUT at all times. -/
def Obligations.CvuSplitsInput : Prop :=
  ∀ (s : State) (n : Nat) (a b : Bytes), Canonical s → n < 8 →
    ((s.cvuAbsorb n a).cvuAbsorb n b).cvuGet n Reg.cvuValueLo = (s.cvuAbsorb n (a ++ b)).cvuGet n Reg.cvuValueLo ∧
    ((s.cvuAbsorb n a).cvuAbsorb n b).cvuResult n = (s.cvuAbsorb n (a ++ b)).cvuResult n

/-- HASH of an ALG of Table 9.2, also in raw block mode where that is open, HMAC, HMAC_VERIFY and KMAC under a SECRET with the usage, and MRG_EXTEND of 48 bytes, whose checks
pass, enter the digest engine with their key and their destination, and a free lane takes them. CVU_RUN takes its unit, or waits for
it. -/
def Obligations.DigestCommandsAdmit : Prop :=
  ∀ (s : State) (slot : Nat) (t : Track),
    let e := t.entry
    let k := s.slot e.keySlot
    let extends_ (len : Nat) : Prop := (e.target = 0 ∧ len ≤ e.outCap) ∨
      (e.target = 1 ∧ t.func = 0 ∧ len = 48 ∧ ((8 ≤ e.p8 43 ∧ e.p8 43 ≤ 29) ∨ e.p8 43 = 31))
    (Begun s slot 0x600 0x600 t → e.p8 42 ≤ 1 → (e.p8 42 = 1 → s.rawOpen = true ∧ e.target = 0 ∧ e.msgLen % algBlock (e.p8 40) = 0) →
      e.zeroFrom 48 55 = true → 1 ≤ e.p8 40 → e.p8 40 ≤ 8 →
      (if e.p8 40 < 7 then e.outBytes = 0 else 1 ≤ e.outBytes ∧ e.outBytes ≤ 65536) → extends_ (hashLen e) → e.keySlot = noSlot →
      t.dmaFail = none → exec (.hash slot) s = .next (settle s (s.digestStart slot t none {}))) ∧
    (Begun s slot 0x601 0x601 t → e.zeroFrom 42 42 = true → e.zeroFrom 52 55 = true → hmacOk (e.p8 40) e.outBytes = true →
      extends_ (tagLen (e.p8 40) e.outBytes) → e.keySlot < 4096 →
      Passes (s.sourceKey t.func e.keySlot Usage.hmac noDevice (· == 3)) → t.dmaFail = none → s.slotBad e.keySlot = false →
      exec (.hmac slot) s = .next (settle s (s.digestStart slot t none k))) ∧
    (Begun s slot 0x601 0x601 t → e.zeroFrom 42 42 = true → e.zeroFrom 52 55 = true → hmacOk (e.p8 40) e.outBytes = true →
      e.target = 2 → s.comb.dgeSlotEn = true → e.keySlot < 4096 → e.pLE 48 4 < 4096 →
      Passes (s.sourceKey t.func e.keySlot Usage.hmac noDevice (· == 3)) →
      Passes (s.destKey t.func (e.pLE 48 4) fun d => destFits d (tagLen (e.p8 40) e.outBytes)) → t.dmaFail = none →
      s.slotBad e.keySlot = false → exec (.hmac slot) s = .next (settle s (s.digestStart slot t (some (e.pLE 48 4)) k))) ∧
    (Begun s slot 0x602 0x602 t → e.zeroFrom 41 43 = true → e.zeroFrom 48 55 = true → hmacOk (e.p8 40) e.outBytes = true →
      e.keySlot < 4096 → Passes (s.sourceKey t.func e.keySlot Usage.hmac noDevice (· == 3)) → t.dmaFail = none →
      tagLen (e.p8 40) e.outBytes ≤ e.msgLen → s.slotBad e.keySlot = false →
      exec (.hmacVerify slot) s = .next (settle s (s.digestStart slot t none k))) ∧
    (Begun s slot 0x603 0x603 t → (e.p8 42 = 0 ∨ e.p8 42 = 2) → e.zeroFrom 53 55 = true → 0xA ≤ e.p8 40 →
      e.p8 40 ≤ 0xB → 1 ≤ e.outBytes → e.outBytes ≤ 65536 → e.keySlot < 4096 →
      Passes (s.sourceKey t.func e.keySlot Usage.kmac noDevice (· == 3)) → t.dmaFail = none → e.p8 52 ≤ e.msgLen →
      s.slotBad e.keySlot = false →
      (extends_ e.outBytes → exec (.kmac slot) s = .next (settle s (s.digestStart slot t none k))) ∧
      (e.target = 2 → s.comb.dgeSlotEn = true → e.pLE 48 4 < 4096 →
        Passes (s.destKey t.func (e.pLE 48 4) fun d => destFits d e.outBytes) →
        exec (.kmac slot) s = .next (settle s (s.digestStart slot t (some (e.pLE 48 4)) k)))) ∧
    (Begun s slot 0x604 0x604 t → e.zeroFrom 40 42 = true → e.zeroFrom 44 55 = true →
      ((8 ≤ e.p8 43 ∧ e.p8 43 ≤ 29) ∨ e.p8 43 = 31) → e.keySlot = noSlot → t.dmaFail = none → e.msgLen = 48 →
      exec (.mrgExtend slot) s = .next (settle s (s.digestStart slot t none {}))) ∧
    (Begun s slot 0x605 0x605 t → e.p8 41 < 4 → e.zeroFrom 42 43 = true → e.zeroFrom 52 55 = true → e.p8 40 < 8 →
      e.keySlot = noSlot → t.dmaFail = none → 8 ≤ e.outCap →
      exec (.cvuRun slot) s = .next (settle s (
        if (s.busy slot).cvuOwner (e.p8 40) = none then (s.busy slot).cvuTake (e.p8 40) slot
        else (s.busy slot).modDge fun d => { d with cvuWait := d.cvuWait ++ [(e.p8 40, slot)] })))

/-- DIGEST_COMMIT of a sound lane frees it and: for HASH, HMAC and KMAC with TARGET 0 answers the digest; with TARGET 1 and for
MRG_EXTEND extends MRGm as H(MRGm ‖ v) and locks MRG_ALG; with TARGET 2 fills
DEST_SLOT; HMAC_VERIFY completes OK when the tag is the input's leftmost bytes and
otherwise with (0x02, 0x80). An unsound lane ends the command with (0x22, 0x84) and DEGRADE under its TAG. A KEY_DERIVE that waited for the lane enters its key. A CVU_RUN answers RESULT, or with CHECK
and a mismatch ends with (0x02, 0x83). MRG_LOCK writes MRG_CTRL. CVU_START loads VALUE, CVU_CHECK compares, DATA8 and DATA32 absorb
one and four bytes, unless a CVU_RUN holds the unit, when WRITE_LOST is set. -/
def Obligations.DigestCommandsCommit : Prop :=
  ∀ (s : State) (slot : Nat) (t : Track) (c : DgeCmd), s.track slot = some t →
    let e := t.entry
    let u := s.dgeLeave slot
    let r := digestResult e c.key t.input
    (s.dge.cmds.find? (fun c => c.slot == slot && c.lane.isSome) = some c → c.internal = false →
      (e.opcode = 0x604 → exec (.digestCommit slot true) s =
        .next (settle s (((u.mrgUpdate (e.p8 43) t.input).raise Reg.dgeMrgCtrl 1).complete c.slot 0 0 []))) ∧
      (e.opcode = 0x602 → exec (.digestCommit slot true) s =
        .next (settle s (if r = t.input.take r.length then u.complete c.slot 0 0 [] else u.fail c.slot (0x02, 0x80)))) ∧
      ((e.opcode = 0x600 ∨ e.opcode = 0x601 ∨ e.opcode = 0x603) → c.dest = none → e.target = 0 →
        exec (.digestCommit slot true) s = .next (settle s (u.complete c.slot 0 0 r))) ∧
      ((e.opcode = 0x600 ∨ e.opcode = 0x601 ∨ e.opcode = 0x603) → c.dest = none → e.target = 1 →
        exec (.digestCommit slot true) s =
          .next (settle s (((u.mrgUpdate (e.p8 43) r).raise Reg.dgeMrgCtrl 1).complete c.slot 0 0 []))) ∧
      (∀ n, (e.opcode = 0x601 ∨ e.opcode = 0x603) → c.dest = some n →
        exec (.digestCommit slot true) s = .next (settle s ((if (u.slot n).kind = 3 then u.commitSecret n r c.test
          else u.commitKey n r [] 1 c.test).complete c.slot 0 0 [])))) ∧
    (s.dge.cmds.find? (fun c => c.slot == slot && c.lane.isSome) = some c →
      (∀ n, c.internal = true → c.dest = some n → exec (.digestCommit slot true) s =
        .next (settle s ((u.releaseDest (some n)).enterKey slot t n c.key [] 1 c.test))) ∧
      (exec (.digestCommit slot false) s = .next (settle s
        ((((u.releaseDest c.dest).raise Reg.dgeErrStatus 1).fail slot (0x22, 0x84)).degrade 0x22 0x84 0xFFFF e.tag)))) ∧
    (∀ n b, s.dge.cmds.find? (fun c => c.slot == slot && c.lane.isSome) = none →
      s.dge.cvuOwned.find? (fun o => o.2 == slot) = some (n, slot) → bitOf (e.p8 41) 1 = false →
      let v := (s.cvuAbsorb n t.input).cvuSet n Reg.cvuExpectLo (e.pLE 44 8)
      exec (.digestCommit slot b) s = .next (settle s ((v.cvuLeave n).complete slot 0 0 (toLE 8 (v.cvuResult n))))) ∧
    (∀ n b, s.dge.cmds.find? (fun c => c.slot == slot && c.lane.isSome) = none →
      s.dge.cvuOwned.find? (fun o => o.2 == slot) = some (n, slot) → bitOf (e.p8 41) 1 = true →
      let v := ((s.cvuAbsorb n t.input).cvuSet n Reg.cvuExpectLo (e.pLE 44 8)).cvuCompare n
      exec (.digestCommit slot b) s = .next (settle s (
        if v.cvuResult n = v.cvuGet n Reg.cvuExpectLo then (v.cvuLeave n).complete slot 0 0 (toLE 8 (v.cvuResult n))
        else (v.cvuLeave n).fail slot (0x02, 0x83)))) ∧
    (s.regsOpen = true → s.blockDown Reg.dgeMrgCtrl = false → ∀ v : W32,
      exec (.mrgLock v) s = .next (settle s (s.plainWrite Reg.dgeMrgCtrl v))) ∧
    (s.regsOpen = true → s.blockDown Reg.cvuCtrl = false → ∀ (n : Nat) (v : W32), n < 8 →
      (s.cvuOwner n = none →
        exec (.cvuData8Write n v) s = .next (settle s (s.cvuAbsorb n (toLE 1 v.toNat))) ∧
        exec (.cvuData32Write n v) s = .next (settle s (s.cvuAbsorb n (toLE 4 v.toNat))) ∧
        (flag v 9 = true → flag v 10 = false →
          exec (.cvuStart n v) s = .next (settle s ((s.setReg (cvuReg n Reg.cvuCtrl) (v &&& 0x1FF)).cvuInit n))) ∧
        (flag v 9 = false → flag v 10 = true →
          exec (.cvuCheck n v) s = .next (settle s ((s.setReg (cvuReg n Reg.cvuCtrl) (v &&& 0x1FF)).cvuCompare n)))) ∧
      ((s.cvuOwner n).isSome = true → ∀ i ∈ [Instr.cvuData8Write n v, .cvuData32Write n v, .cvuStart n v, .cvuCheck n v],
        exec i s = .next (settle s (s.raise (cvuReg n Reg.cvuStatus) 8))))

/-- The thirteen commands 0x0700 to 0x070C, with a key of usage CIPHER and kind AES-128 or AES-256 (XTS: a second, different key of the
same kind), their parameters, tag length and lengths of Table 13.8 in order, go to the pipelines with the key taken. -/
def Obligations.CipherCommandsAdmit : Prop :=
  ∀ (s : State) (slot : Nat) (t : Track),
    let e := t.entry
    let k := s.slot e.keySlot
    let go (key2 : Bytes) (c : Instr) : Prop := exec c s = .next (settle s
      ((s.modLine fun l => { l with lka := l.lka ++ [{ slot := slot, key := k.content, key2 := key2 }] }).busy slot))
    t.dmaFail = none → e.keySlot < 4096 → Passes (s.sourceKey t.func e.keySlot Usage.cipher noDevice (fun _ => true)) →
    1 ≤ k.kind → k.kind ≤ 2 → s.slotBad e.keySlot = false → e.msgLen ≤ 2 ^ 24 →
    (Begun s slot 0x700 0x700 t → e.zeroFrom 55 55 = true → e.tagOk = true → e.aadLen ≤ e.msgLen →
      e.msgLen - e.aadLen + e.tagLen ≤ e.outCap → go [] (.aesGcmEncrypt slot)) ∧
    (Begun s slot 0x701 0x701 t → e.zeroFrom 55 55 = true → e.tagOk = true → e.aadLen + e.tagLen ≤ e.msgLen →
      e.msgLen - e.aadLen - e.tagLen ≤ e.outCap → go [] (.aesGcmDecrypt slot)) ∧
    (Begun s slot 0x702 0x702 t → e.zeroFrom 55 55 = true → e.tagOk = true → e.aadLen = 0 → e.tagLen ≤ e.outCap →
      go [] (.aesGmacGen slot)) ∧
    (Begun s slot 0x703 0x703 t → e.zeroFrom 55 55 = true → e.tagOk = true → e.aadLen = 0 → e.tagLen ≤ e.msgLen →
      go [] (.aesGmacVerify slot)) ∧
    (Begun s slot 0x704 0x704 t → e.msgLen ≤ e.outCap → go [] (.aesCtr slot)) ∧
    (Begun s slot 0x705 0x705 t → e.msgLen % 16 = 0 → e.msgLen ≤ e.outCap → go [] (.aesCbcEncrypt slot)) ∧
    (Begun s slot 0x706 0x706 t → e.msgLen % 16 = 0 → e.msgLen ≤ e.outCap → go [] (.aesCbcDecrypt slot)) ∧
    (∀ k2 : Nat, k2 = e.pLE 48 4 → k2 < 4096 → Passes (s.sourceKey t.func k2 Usage.cipher noDevice (fun _ => true)) →
      e.keySlot ≠ k2 → k.kind = (s.slot k2).kind → k.content ≠ (s.slot k2).content → s.slotBad k2 = false →
      e.zeroFrom 52 55 = true → 16 ≤ e.msgLen → e.msgLen ≤ e.outCap →
      (Begun s slot 0x707 0x707 t → go (s.slot k2).content (.aesXtsEncrypt slot)) ∧
      (Begun s slot 0x708 0x708 t → go (s.slot k2).content (.aesXtsDecrypt slot))) ∧
    (e.zeroFrom 40 55 = true →
      (Begun s slot 0x709 0x709 t → e.msgLen % 8 = 0 → 16 ≤ e.msgLen → e.msgLen + 8 ≤ e.outCap → go [] (.aesKwWrap slot)) ∧
      (Begun s slot 0x70A 0x70A t → e.msgLen % 8 = 0 → 24 ≤ e.msgLen → e.msgLen - 8 ≤ e.outCap → go [] (.aesKwUnwrap slot)) ∧
      (Begun s slot 0x70B 0x70B t → 1 ≤ e.msgLen → roundUp e.msgLen 8 + 8 ≤ e.outCap → go [] (.aesKwpWrap slot)) ∧
      (Begun s slot 0x70C 0x70C t → e.msgLen % 8 = 0 → 16 ≤ e.msgLen → go [] (.aesKwpUnwrap slot)))

/-- LOOKASIDE_CIPHER_END adds the input's length to LCE.LKA_BYTES and completes the command: encryption, GMAC generation, CTR, CBC,
XTS and wraps with OK and their output; decryption, GMAC verification and unwraps with OK when the check holds and otherwise with
VERIFY_FAIL and no output (0xC0 for GCM and GMAC, 0xC1 for an unwrap). An uncorrectable read of the decryption hold ends a held
command with (0x25, 0x38). With every pipeline fenced nothing ends: the model's reading (log entry 11). -/
def Obligations.CipherCommandsEnd : Prop :=
  ∀ (s : State) (slot : Nat) (t : Track) (c : LkaCmd), s.line.lka.find? (fun c => c.slot == slot) = some c →
    s.track slot = some t →
    let e := t.entry
    let inp := t.input
    let u := ((s.cipherPass false inp.length).modLine fun l => { l with lka := l.lka.filter (·.slot != slot) }).wideAdd
      (4 * Reg.lceLkaBytesLo) inp.length
    let held (r : HbmRead) : State := if isHeldOut e.opcode then u.noteRead r else u
    (∀ r, s.line.fenced = 0xFFFF → exec (.lookasideCipherEnd slot r) s = .next s) ∧
    (∀ r, s.line.fenced ≠ 0xFFFF → r.failed = none →
      exec (.lookasideCipherEnd slot r) s = .next (settle s
        ((held r).complete slot (lkaResult e c inp).1.1 (lkaResult e c inp).1.2 (lkaResult e c inp).2))) ∧
    (∀ r x, s.line.fenced ≠ 0xFFFF → r.failed = some x → isHeldOut e.opcode = true →
      exec (.lookasideCipherEnd slot r) s = .next (settle s ((u.hbmUe 2 x e.tag).complete slot 0x25 0x38 []))) ∧
    (e.opcode = 0x700 → lkaResult e c inp = ((0, 0), stdOut (inp.length - e.aadLen + e.tagLen) .aesGcmEnc e.tagLen
      [c.key, e.params.take 12, inp.take e.aadLen, inp.drop e.aadLen])) ∧
    (e.opcode = 0x701 → ∀ ct, ct = slice inp e.aadLen (inp.length - e.aadLen - e.tagLen) →
      lkaResult e c inp = if Config.stdHolds .aesGcmTag e.tagLen
          [c.key, e.params.take 12, inp.take e.aadLen, ct, inp.drop (inp.length - e.tagLen)]
        then ((0, 0), stdOut ct.length .aesGcmDec e.tagLen [c.key, e.params.take 12, inp.take e.aadLen, ct])
        else ((0x02, 0xC0), [])) ∧
    (e.opcode = 0x704 → lkaResult e c inp = ((0, 0), stdOut inp.length .aesCtr 0 [c.key, e.params, inp])) ∧
    (e.opcode = 0x70A → lkaResult e c inp = if Config.stdHolds .aesKwOk 0 [c.key, inp]
      then ((0, 0), stdOut (inp.length - 8) .aesKwUnwrap 0 [c.key, inp]) else ((0x02, 0xC1), []))

/-- SA_INSTALL of a free index in the function's range, from an SA source slot of the right KIND with the usage SA and a descriptor of
its type's table, installs the SA. SA_REMOVE empties the index and lets a channel that it blocked derive again. SA_PIN sets or
clears the pin. SA_QUERY answers 16 bytes. An index outside the range ends with (0x16, 0xB0); an occupied one with (0x16, 0xB5); an
empty one to remove or pin with (0x17, 0xB0). -/
def Obligations.SaCommandsComplete : Prop :=
  ∀ (s : State) (slot : Nat) (t : Track),
    let e := t.entry
    let i := e.keySlot
    let src := e.pLE 40 4
    let typ := e.p8 44
    let d := fit 64 t.input
    let within' := (s.func t.func).saBase ≤ i ∧ i < (s.func t.func).saBase + (s.func t.func).saCount
    (Begun s slot 0x800 0x800 t → e.zeroFrom 45 55 = true → within' → 1 ≤ typ → typ ≤ 6 → src < 4096 → s.sa i = none →
      Passes (s.sourceKey t.func src Usage.sa noDevice (fun k => if isMacsec typ then within k 1 2 else k == 2)) →
      t.dmaFail = none → e.msgLen = 64 → descOk typ d = true → (s.slot src).kind = saKeyKind typ d →
      (isMacsec typ = true → bitOf (natAt d 1) 5 = false ∧ ∀ x ∈ s.blockSas i, blockAgrees typ d x = true) →
      (bitOf e.flags.toNat 3 = true → s.pinnedSas < 16384) → s.saRoom (if typ = 4 ∧ 128 < leAt d 20 2 then 5 else 1) = true →
      s.slotBad src = false →
      exec (.saInstall slot) s = .next (settle s
        ((s.installSa i (newSa typ t.func (bitOf e.flags.toNat 3) d (s.slot src).content [])).complete slot 0 0 []))) ∧
    (let rk := leAt d 40 4
     Begun s slot 0x800 0x800 t → e.zeroFrom 45 55 = true → within' → 1 ≤ typ → typ ≤ 2 → src < 4096 → s.sa i = none →
      Passes (s.sourceKey t.func src Usage.sa noDevice (fun k => within k 1 2)) →
      t.dmaFail = none → e.msgLen = 64 → descOk typ d = true → (s.slot src).kind = saKeyKind typ d → bitOf (natAt d 1) 5 = true →
      Passes (s.sourceKey t.func rk Usage.sa noDevice (· == 2)) → (∀ x ∈ s.blockSas i, blockAgrees typ d x = true) →
      (bitOf e.flags.toNat 3 = true → s.pinnedSas < 16384) → s.saRoom 1 = true → s.slotBad src = false →
      s.slotBad rk = false →
      exec (.saInstall slot) s = .next (settle s ((s.installSa i
        (newSa typ t.func (bitOf e.flags.toNat 3) d (s.slot src).content (s.slot rk).content)).complete slot 0 0 []))) ∧
    (Begun s slot 0x800 0x800 t → e.zeroFrom 45 55 = true → ¬within' →
      exec (.saInstall slot) s = .next (settle s (s.fail slot (0x16, 0xB0)))) ∧
    (Begun s slot 0x800 0x800 t → e.zeroFrom 45 55 = true → within' → 1 ≤ typ → typ ≤ 6 → src < 4096 → (s.sa i).isSome = true →
      exec (.saInstall slot) s = .next (settle s (s.fail slot (0x16, 0xB5)))) ∧
    (Begun s slot 0x801 0x801 t → e.zeroFrom 40 55 = true → e.msgLen = 0 → within' → (s.sa i).isSome = true → t.dmaFail = none →
      exec (.saRemove slot) s = .next (settle s (((s.removeSa i).unblockRatchet i).complete slot 0 0 []))) ∧
    (Begun s slot 0x801 0x801 t → e.zeroFrom 40 55 = true → e.msgLen = 0 → within' → s.sa i = none →
      exec (.saRemove slot) s = .next (settle s (s.fail slot (0x17, 0xB0)))) ∧
    (∀ x, Begun s slot 0x802 0x802 t → e.p8 40 = 1 → e.zeroFrom 41 55 = true → e.msgLen = 0 → within' → s.sa i = some x →
      (x.pinned = true ∨ s.pinnedSas < 16384) → t.dmaFail = none →
      exec (.saPin slot) s = .next (settle s ((s.setSa i (some { x with pinned := true })).complete slot 0 0 []))) ∧
    (∀ x, Begun s slot 0x802 0x802 t → e.p8 40 = 0 → e.zeroFrom 41 55 = true → e.msgLen = 0 → within' → s.sa i = some x →
      t.dmaFail = none →
      exec (.saPin slot) s = .next (settle s ((s.setSa i (some { x with pinned := false })).complete slot 0 0 []))) ∧
    (∀ x, Begun s slot 0x803 0x803 t → e.zeroFrom 40 55 = true → e.msgLen = 0 → within' → s.sa i = some x → t.dmaFail = none →
      16 ≤ e.outCap →
      exec (.saQuery slot) s = .next (settle s (s.complete slot 0 0
        ([BitVec.ofNat 8 (1 + 2 * b2n x.pinned + 4 * b2n (s.isCached i)), BitVec.ofNat 8 x.saType] ++ toLE 2 x.func ++ zeros 12)))) ∧
    (Begun s slot 0x803 0x803 t → e.zeroFrom 40 55 = true → e.msgLen = 0 → within' → s.sa i = none → t.dmaFail = none →
      16 ≤ e.outCap → exec (.saQuery slot) s = .next (settle s (s.complete slot 0 0 (zeros 16))))

/-- CLS_WRITE stores its legal entries from FIRST on. CLS_READ answers COUNT entries. CLS_CLEAR clears the VALID bit of COUNT entries.
CLS_INFO answers the valid entries, the pinned SAs and the installed SAs. After a store of one entry the table reads as stored there
and as before elsewhere. -/
def Obligations.ClassifierCommandsComplete : Prop :=
  ∀ (s : State) (slot : Nat) (t : Track),
    let e := t.entry
    let first := e.pLE 40 2
    let count := e.pLE 42 2
    let item (i : Nat) : Bytes := fit 80 (slice t.input (80 * i) 80)
    (∀ n, Begun s slot 0x810 0x810 t → e.zeroFrom 42 55 = true → e.keySlot = noSlot → 0 < n → e.msgLen = 80 * n → first + n ≤ 16384 →
      t.dmaFail = none → (∀ i < n, clsEntryOk (item i) = true) →
      exec (.clsWrite slot) s = .next (settle s
        (((List.range n).foldl (fun s i => s.setCls (first + i) (item i)) s).complete slot 0 0 []))) ∧
    (Begun s slot 0x811 0x811 t → e.zeroFrom 44 55 = true → e.keySlot = noSlot → e.msgLen = 0 → 1 ≤ count → count ≤ 256 →
      first + count ≤ 16384 → t.dmaFail = none → 80 * count ≤ e.outCap →
      exec (.clsRead slot) s = .next (settle s
        (s.complete slot 0 0 ((List.range count).flatMap fun i => s.clsEntry (first + i))))) ∧
    (Begun s slot 0x812 0x812 t → e.zeroFrom 44 55 = true → e.keySlot = noSlot → e.msgLen = 0 → 1 ≤ count →
      first + count ≤ 16384 → t.dmaFail = none →
      exec (.clsClear slot) s = .next (settle s (((List.range count).foldl (fun s i => s.setCls (first + i)
        (putAt (s.clsEntry (first + i)) 75 [byteAt (s.clsEntry (first + i)) 75 &&& 0xFE])) s).complete slot 0 0 []))) ∧
    (Begun s slot 0x813 0x813 t → e.zeroFrom 40 55 = true → e.keySlot = noSlot → e.msgLen = 0 → t.dmaFail = none → 16 ≤ e.outCap →
      exec (.clsInfo slot) s = .next (settle s (s.complete slot 0 0
        (toLE 4 (s.line.cls.filter fun p => bitOf (natAt p.2 75) 0).length ++ toLE 4 s.pinnedSas ++ toLE 4 s.saList.length ++
          zeros 4)))) ∧
    (∀ i j x, Sparse.wf (fun _ => zeros 80) s.line.cls = true →
      (s.setCls i x).clsEntry j = if j = i then x else s.clsEntry j)

/-- The value that a transmitting SA gives is its NEXT_PN, lies in a confirmed block and is at most PN_MAX. Using it advances NEXT_PN by
one and leaves the SA's type, function, key, ratchet key and descriptor. An SA whose NEXT_PN is past PN_MAX gives none. -/
def Obligations.PacketNumberUsedOnce : Prop :=
  ∀ (s : State) (i : Nat) (x : Sa), Sparse.wf (fun _ => none) s.line.sas = true → s.sa i = some x →
    (∀ n, x.nextValue = .value n → n = x.next ∧ n ≤ pnMax x.saType x.desc ∧
      ∃ b ∈ x.blocks, b.confirmed = true ∧ b.start ≤ n ∧ n < b.stop) ∧
    (pnMax x.saType x.desc < x.next → x.nextValue = .exhausted) ∧
    (∃ y, (s.usePn i).sa i = some y ∧ y.next = x.next + 1 ∧ y.saType = x.saType ∧ y.func = x.func ∧ y.key = x.key ∧
      y.rk = x.rk ∧ y.desc = x.desc)

/-- FRAME_RECEIVE on a link that is up counts the frame and its bytes; a bad FCS counts RX_FCS_ERR; a frame shorter than 64 or longer than
MAX_FRAME, or while the line is inactive, the pair disabled or its groups unlike, counts RX_DROP; one whose transfer failed the integrity code
is discarded and counts for tamper source 4; any other frame goes to the first lookup. There a miss drops it, a drop entry drops it, and an
entry that bypasses cipher and MAU hands a frame of no PROTECTION class to egress. SA_CONTEXT_FETCH_DONE loads and caches the context, and a
frame that waited for it alone goes on; an uncorrectable read removes the SA. FRAME_EGRESS_END sends the frame with its FCS, counts it,
completes its record, and lets the port's next frame begin; on a fallen link it drops it. TC_LAUNCH on time, the wire free, begins the frame;
late it drops it. TC_ENTRY_LAPSE removes the oldest held residence of the pair and direction. -/
def Obligations.FramePathEffects : Prop :=
  ∀ s : State,
    (∀ (g p : Nat) (f : Bytes) (began : Bool) (check : FrameCheck), s.linkIsUp g p = true →
      let n := f.length + 4
      let u := (s.prtCount g p Reg.prtRxFramesLo).wideAdd (4 * (Reg.prtRxBytesLo + 0x10000 * g) + p) n
      let fl : Flight := { id := u.line.nextFlight, group := g, port := p, frame := f, wire := f, tIn := u.ingressStamp g
                           quality := u.qualityCode, inFree := u.free, began := began, sys := if g < 4 then none else some f }
      let v := u.modLine fun l => { l with nextFlight := l.nextFlight + 1 }
      (exec (.frameReceive g p f .fcsError began) s = .next (settle s (u.prtCount g p Reg.prtRxFcsErrLo))) ∧
      ((n < 64 ∨ (u.port g p).frameLimit < n ∨ u.lineActive = false ∨ u.pairEn g = false ∨ u.pairAgrees g = false) →
        check ≠ .fcsError → exec (.frameReceive g p f check began) s = .next (settle s (u.prtCount g p Reg.prtRxDropLo))) ∧
      (64 ≤ n → n ≤ (u.port g p).frameLimit → u.lineActive = true → u.pairEn g = true → u.pairAgrees g = true →
        exec (.frameReceive g p f .integrityError began) s = .next (settle s { u with tem := { u.tem with icode := u.tem.icode + 1 } }) ∧
        exec (.frameReceive g p f .sound began) s = .next (settle s (v.classify fl)) ∧
        (v.lookup ((parseFrame f).key f g p false) = none → v.classify fl = (v.prtCount g p Reg.prtClsMissLo).kill fl 0) ∧
        (∀ r, v.lookup ((parseFrame f).key f g p false) = some r → r.cls ≠ 0 → r.action = 0 →
          v.classify fl = (v.prtCount g p Reg.prtRxDropLo).kill { fl with kind := kindFlags (parseFrame f), result := r } 0x0B) ∧
        (∀ r, v.lookup ((parseFrame f).key f g p false) = some r → r.cls ≠ 0 → r.action = 2 → r.mau = 0 → 4 ≤ g → ptpOf f = none →
          (parseFrame f).app = 0 →
          v.classify fl = v.toEgress { fl with kind := kindFlags (parseFrame f), result := r }))) ∧
    (∀ i r, s.needsFetch i = true → (∀ fl ∈ s.line.flights, i ∉ fl.awaits) → r.failed = none →
      exec (.saContextFetchDone i r) s = .next (settle s (((s.noteRead r).loadSa i).touchSa i))) ∧
    (∀ i r x, s.needsFetch i = true → (∀ fl ∈ s.line.flights, i ∉ fl.awaits) → r.failed = some x →
      exec (.saContextFetchDone i r) s = .next (settle s ((s.hbmUe 1 x).removeSa i))) ∧
    (∀ i r fl, s.needsFetch i = true → s.line.flights = [fl] → fl.awaits = [i] → fl.stage = .firstRead → r.failed = none →
      exec (.saContextFetchDone i r) s = .next (settle s (((((s.noteRead r).loadSa i).touchSa i).dropFlight { fl with
        awaits := [] }).readContexts { fl with awaits := [], stage := .queued }))) ∧
    (∀ id fl, (s.line.flights.find? fun x => x.id == id && x.stage == .wire) = some fl →
      (s.linkIsUp fl.egress fl.port = false → exec (.frameEgressEnd id) s =
        .next (settle s (((s.prtCount fl.egress fl.port Reg.prtTxDropLo).kill fl 0x0A).feedPort fl.egress fl.port))) ∧
      (s.linkIsUp fl.egress fl.port = true → ptpOf fl.wire = none → fl.fromLine = false →
        let u := (((s.dropFlight fl).emit (.frame (fl.egress + 8 * fl.port) (fl.frame ++ fcsOf fl.frame fl.stomped))).prtCount
            fl.egress fl.port Reg.prtTxFramesLo).wideAdd (4 * (Reg.prtTxBytesLo + 0x10000 * fl.egress) + fl.port) (fl.frame.length + 4)
        exec (.frameEgressEnd id) s =
          .next (settle s ((u.endRecord fl (some (u.egressStamp fl.egress))).feedPort fl.egress fl.port)))) ∧
    (∀ id fl, (s.line.flights.find? fun x => x.id == id && x.stage == .launch) = some fl →
      (s.wireBusy fl.egress fl.port = false → exec (.tcLaunch id true) s = .next (settle s (s.putFlight { fl with stage := .wire }))) ∧
      (s.wireBusy fl.egress fl.port = true → exec (.tcLaunch id true) s = .next (settle s ((s.count Reg.tsuTcLate).kill fl 9))) ∧
      exec (.tcLaunch id false) s = .next (settle s ((s.count Reg.tsuTcLate).kill fl 9))) ∧
    (∀ pair dir old, (s.line.tc.find? fun x => x.pair == pair && x.fromLine == dir) = some old →
      exec (.tcEntryLapse pair dir) s = .next (settle s (s.modLine fun l => { l with tc := l.tc.filter (· != old) })))

/-- While the registers are open and their block has power: LINE_EN_WRITE writes GCTL.CTRL. APPLY_GROUP takes the group's links down and
applies MODE, FEC25 and MEDIA and the delays of the mode; APPLY_DONE ends it. PORT_CFG with CLEAR zeroes the port's counters. A LO read latches the HI word and
returns the LO word. LINK_UP brings a port of the mode up, LINK_DOWN takes it down and counts. RATCHET_DERIVE_DONE installs the next
generation, or blocks on an occupied index; RATCHET_OVERLAP_END removes the old one. PIPELINE_SELFTEST counts a deferral or fences.
PIPE_UNFENCE returns what passes. SA_BASE stages, and SA_COUNT sets a free range or raises VFC.ERR_STATUS bit 0. -/
def Obligations.PortCommandsComplete : Prop :=
  ∀ s : State,
    (∀ v, s.regsOpen = true → s.blockDown Reg.gctlCtrl = false →
      exec (.lineEnWrite v) s = .next (settle s (s.plainWrite Reg.gctlCtrl v))) ∧
    (∀ (g : Nat) (v : W32), s.regsOpen = true → g < 8 → s.blockDown (prtReg g Reg.prtGroupCtrl) = false →
      let u := s.setReg (prtReg g Reg.prtGroupCtrl) (setBits v 0x200 &&& if g < 4 then 0x13F else 0x3F)
      let mode := if 6 < field v 3 0 then 0 else field v 3 0
      let w := (u.groupDown g).modGroup g fun x => { x with mode := mode, fec25 := flag v 4, media := field v 5 5, applying := true }
      exec (.applyGroup g v) s = .next (settle s ((w.setReg (0x300100 + 8 * g) (delayDefault mode (w.group g).usesFec false)).setReg
        (0x300104 + 8 * g) (delayDefault mode (w.group g).usesFec true)))) ∧
    (∀ g, exec (.applyDone g) s = .next (settle s (s.modGroup g fun x => { x with applying := false }))) ∧
    (∀ (g : Nat) (v : W32), s.regsOpen = true → g < 8 → s.blockDown (prtReg g Reg.prtPortCfg) = false →
      ∃ u, exec (.portCounterClear g v) s = .next u ∧ ∀ k, portCounter g (s.selPort g) k = true →
        u.wideOf k = 0 ∧ Sparse.get (fun _ => 0) u.line.latch k = 0) ∧
    (∀ key k, s.counterOf key = some k → s.lcs.phase ≠ .reset → s.lcs.state ≠ .terminated → s.blockDown key = false →
      exec (.counterLoRead key) s = .next (settle s ((s.modLine fun l => { l with
        latch := Sparse.set (fun _ => 0) l.latch k (BitVec.ofNat 32 ((s.wideOf k).toNat / 2 ^ 32)) }).emit
          (.readData (BitVec.ofNat 32 (s.wideOf k).toNat))))) ∧
    (∀ g p rf, s.regsOpen = true → g < 8 → p < modePorts (s.group g).mode → (s.group g).applying = false →
      s.groupPowered g = true →
      exec (.linkUp g p rf) s = .next (settle s ((s.freshLanes g (portLanes (s.group g).mode p)).modPort g p fun x => { x with
        link := true, pcsLock := true, fecLock := (s.group g).usesFec, anDone := (s.group g).media == 1
        trained := (s.group g).media == 1, localFault := false, remoteFault := rf }))) ∧
    (∀ g p a b c d, g < 8 → exec (.linkDown g p a b c d) s = .next (settle s
      ((s.linkFalls g p).modPort g p fun x => { x with pcsLock := a, fecLock := b, localFault := c, remoteFault := d }))) ∧
    (∀ i x, s.sa i = some x → x.deriving_ = true →
      ((s.sa (nextGenIndex i)).isSome = true → exec (.ratchetDeriveDone i) s = .next (settle s (s.ratchetBlocked i))) ∧
      (s.sa (nextGenIndex i) = none → exec (.ratchetDeriveDone i) s = .next (settle s (s.ratchetInstall i)))) ∧
    (∀ i x, s.sa i = some x → x.overlap = true → exec (.ratchetOverlapEnd i) s = .next (settle s (s.removeSa i))) ∧
    (∀ p, s.lcs.phase = .done → p < 16 → bitOf s.line.fenced.toNat p = false →
      exec (.pipelineSelftest p none) s = .next (settle s (s.lceCount Reg.lceStDeferredLo)) ∧
      exec (.pipelineSelftest p (some true)) s = .next s ∧
      exec (.pipelineSelftest p (some false)) s = .next (settle s (((s.modLine fun l =>
        { l with fenced := l.fenced ||| BitVec.ofNat 16 (2 ^ p) }).raise Reg.lceEvent 0x20).logEvent 0x2005 p 0))) ∧
    (∀ v w : W32, s.regsOpen = true → s.blockDown Reg.lcePipeUnfence = false → v &&& 0xFFFF &&& ~~~w = 0 →
      ∃ u, exec (.pipeUnfence v w) s = .next u ∧ u.line.fenced = s.line.fenced &&& ~~~(v.setWidth 16)) ∧
    (∀ v : W32, s.regsOpen = true → s.blockDown Reg.vfcSaBase = false →
      exec (.saBaseWrite v) s = .next { s with saStage := field v 23 0 }) ∧
    (∀ v : W32, s.regsOpen = true → s.blockDown Reg.vfcSaCount = false →
      let f := field (s.reg Reg.vfcFuncSel) 7 0
      let n := field v 24 0
      (s.saRangeTaken f s.saStage n = false → s.saStage + n ≤ 16777216 →
        (∀ p ∈ s.saList, p.2.func = f → s.saStage ≤ p.1 ∧ p.1 < s.saStage + n) →
        exec (.saCountWrite v) s = .next (settle s (s.setFunc f { s.func f with saBase := s.saStage, saCount := n }))) ∧
      ((s.saRangeTaken f s.saStage n = true ∨ 16777216 < s.saStage + n) →
        exec (.saCountWrite v) s = .next (settle s (s.raise Reg.vfcErrStatus 1))))

/-- A doorbell of an ENABLED queue that no scan runs on, of a function with Bus Master Enable, whose PROD_IDX − HEAD_IDX exceeds DEPTH: no entry is fetched (the
tracker is as before), QEN.OVERRUNS counts one, and the queue is DRAINING or IDLE with ERROR and ERR_CODE 0x01, its entries
unaborted, with one log record under 0x0B04 (R281). A PROD_IDX that lies between HEAD_IDX and the fetch index leaves the scan bound
unchanged. -/
def Obligations.ProducerOverrun : Prop :=
  ∀ (s : State) (f q : Nat) (v : QueueView), Canonical s → s.qenOn = true → s.funcPresent f = true → f < 256 → q < 256 →
    let x := s.queue f q
    x.state = .enabled → x.waiting = false → x.retries = none → (s.func f).bme = true →
    (x.depth < (v.prod - x.head).toNat → ∃ u, exec (.doorbell f q v) s = .next u ∧ u.tracker = s.tracker ∧
      u.reg Reg.qenOverruns = satInc (s.reg Reg.qenOverruns) ∧ (u.queue f q).fetch = x.fetch ∧
      ((u.queue f q).state = .draining ∨ (u.queue f q).state = .idle) ∧ (u.queue f q).error = true ∧ (u.queue f q).errCode = 1 ∧
      u.errLog = (s.log ⟨0, 0x0B04, 0, 1, f, q, 0, 0, v.prod.toNat⟩).errLog) ∧
    ((v.prod - x.head).toNat ≤ x.depth → (v.prod - x.head).toNat < (x.fetch - x.head).toNat →
      ∃ u, exec (.doorbell f q v) s = .next u ∧ (u.queue f q).target = x.target)

/-- A QUEUE_CREATE that passes its checks, of a function whose channel is neither halted nor blocked nor being reset: the queue is
ENABLED with its fetch index, HEAD_IDX and the PROD_IDX known of it (its scan bound) 0; the first message out is the write of HEAD_IDX
0 and DEV_FLAGS 0x01 to bytes 8 to 15 of the QCB, before the status of the command. An entry of it is taken at its first doorbell: with
a PROD_IDX of 1, a slot allowed, its turn come and a slot read of PHASE 1, the doorbell takes that entry and scans on. -/
def Obligations.QueueCreateEnables : Prop :=
  ∀ (s : State) (slot : Nat) (t : Track),
    let e := t.entry
    let f := t.func
    let q := e.pLE 40 2
    Canonical s → Begun s slot 1 1 t →
    -- the parameters (Table 10.8)
    e.zeroFrom 43 43 = true ∧ e.zeroFrom 46 55 = true ∧ e.msgLen = 16 ∧ within q 1 255 = true ∧ within (e.p8 42) 6 16 = true ∧
      e.pLE 44 2 < tableSize f →
    -- the queue and its quotas (R263)
    (s.queue f q).state = .absent ∧ s.queuesOf (fun _ => true) < 4096 ∧ s.queuesOf (fun g => g == f) < (s.func f).queueQuota →
    -- the input (R285)
    t.dmaFail = none ∧ leAt t.input 0 8 % 4096 = 0 ∧ leAt t.input 8 8 % 64 = 0 →
    -- the function's writes leave
    f < 256 ∧ t.qid ≠ q ∧ (s.func f).bme = true ∧ (s.func f).flrActive = false ∧ s.linkUp = true ∧ (s.chan f).halted = false ∧
      (s.chan f).waiting = [] ∧ 8 ≤ (s.func f).maxPayload →
    ∃ u, exec (.queueCreate slot) s = .next u ∧
      (u.queue f q).state = .enabled ∧ (u.queue f q).fetch = 0 ∧ (u.queue f q).head = 0 ∧ (u.queue f q).target = 0 ∧
      (∃ rest, u.out = s.out ++ .hostWrite ⟨f, leAt t.input 8 8 + 8, [0, 0, 0, 0, 1, 0, 0, 0]⟩ :: rest) ∧
      (∀ b : Bytes, u.qenOn = true → u.funcPresent f = true → (u.func f).bme = true → phaseOf b = 1 →
        let v := u.setQueue f q { u.queue f q with target := 1, rung := false, waiting := true }
        v.slotAllowed f q = true → v.turn = some (f, q) →
        exec (.doorbell f q ⟨1, [b]⟩) u = .next (settle u (scan f q []
          ({ v with lastFunc := f, funcs := Sparse.set funcReset v.funcs f { v.func f with lastQueue := q } }.takeEntry f q b))))

/-- WRONG_SIZE_ACCESS out of reset is logged under 0x0001 and reported; a read ends with Unsupported Request. POWERED_DOWN_ACCESS is logged
under 0x0002, and a read returns 0. BUS_MASTER_ENABLE_CHANGE of a present function sets the bit and, set where the link is up and no write waits
for a retry, releases the held writes; set in PF0 it also sends the flushing reads that syncs wait for. VF_FLR, PF0_FLR and a D3hot entry with
work outstanding reset; FLR_COMPLETE ends the reset. Clearing VF Enable resets every VF. A VF's reset leaves its queues ABSENT, its key
slots empty, its channel clear, and its SA range, key range, PLAIN_IMPORT, quota and dirty map settings as they were. -/
def Obligations.FunctionCommandsComplete : Prop :=
  ∀ (s : State) (f : Nat),
    (∀ off size w, s.lcs.phase ≠ .reset →
      let u := (s.log ⟨0, 0x0001, 0, 2, f, 0xFFFF, 0, off, size + 256 * b2n w⟩).emit (.aer f 20)
      exec (.wrongSizeAccess f off size w) s = .next (settle s (if w then u else u.emit .unsupportedRequest))) ∧
    (∀ off, s.regsOpen = true → s.blockDown off = true →
      let entry (detail : Nat) : LogEntry := if off < 0x8000000 then { time := 0, code := 0x0002, object := off, detail := detail }
        else { time := 0, code := 0x0002, scope := 2, func := (off - 0x8000000) / 0x10000, object := off % 0x10000, detail := detail }
      exec (.poweredDownAccess off true) s = .next (settle s (s.log (entry 256))) ∧
      exec (.poweredDownAccess off false) s = .next (settle s ((s.log (entry 0)).emit (.readData 0)))) ∧
    (∀ on, s.funcPresent f = true →
      let u := s.setFunc f { s.func f with bme := on }
      let w := if u.mayRelease f then u.releaseWrites f else u
      exec (.busMasterEnableChange f on) s = .next (settle s (if on = true ∧ f = 0 then w.releaseSyncs else w))) ∧
    (s.mayRelease f = ((s.func f).bme && s.linkUp && (s.chan f).failed.all fun x => x.cause != .linkDown)) ∧
    (s.funcPresent f = true → s.outstanding f = false → exec (.d3hotEntry f) s =
      .next (settle s (s.setFunc f { s.func f with d3hot := true }))) ∧
    (s.funcPresent f = true → s.outstanding f = true → exec (.d3hotEntry f) s =
      .next (settle s ((s.beginFlr f).setFunc f { (s.beginFlr f).func f with d3hot := true }))) ∧
    (f ≠ 0 → s.funcPresent f = true → exec (.vfFlr f) s = .next (settle s (s.beginFlr f))) ∧
    exec .pf0Flr s = .next (settle s (s.beginFlr 0)) ∧
    (s.vfEnable = true → exec .vfEnableClear s = .next (settle s
      { (List.range s.numVfs).foldl (fun s i => s.resetFunction (i + 1)) s with vfEnable := false })) ∧
    exec (.flrComplete f) s = .next (settle s (s.setFunc f { s.func f with flrActive := false })) ∧
    (Canonical s → f ≠ 0 → f < 256 →
      let u := s.beginFlr f
      (∀ q < 256, (u.queue f q).state = .absent) ∧ u.chan f = {} ∧ (u.func f).flrActive = true ∧
      (∀ n, (s.func f).keyBase ≤ n → n < (s.func f).keyBase + (s.func f).keyCount → u.slot n = slotReset n) ∧
      (u.func f).keyBase = (s.func f).keyBase ∧ (u.func f).keyCount = (s.func f).keyCount ∧
      (u.func f).plainImport = (s.func f).plainImport ∧ (u.func f).saBase = (s.func f).saBase ∧
      (u.func f).saCount = (s.func f).saCount ∧ (u.func f).quota = (s.func f).quota ∧ (u.func f).fifo = [])

/-- DMA_TRANSFER_FAIL on a channel that runs joins the transfers that wait for their retry, or halts the channel when RETRY is 0; a failed
flushing read stands for the earliest write since the last successful one. DMA_RETRY under Bus Master Enable of the transfer due next reissues
it, each unflushed write and the read where that is a flushing read; one that lands counts in DMA.RETRIES and leaves; one that does not counts a
try and waits behind the others, and after its last halts the channel. A halt marks the channel HALTED, ends the function's entries without
status and makes every queue of it that is not ABSENT IDLE with ERROR. CHAN_CLEAR clears HALTED and nothing else of the channel. SYNC issues a
flushing read on channel 0, or waits for PF0's Bus Master Enable; its return sets SYNC_DONE or LOST. A pending message leaves. -/
def Obligations.TransferCommandsComplete : Prop :=
  ∀ (s : State) (f : Nat),
    (∀ kind cause addr q tag, (s.chan f).halted = false → (s.func f).flrActive = false →
      (cause = .unsupported ∨ cause = .completerAbort ∨ cause = .linkDown ∨ cause = .flushing) →
      let x : FailedXfer := { kind := kind, cause := cause, addr := addr, qid := q, tag := tag }
      let y : FailedXfer := match cause, (s.chan f).unflushed with
        | .flushing, [] => { x with flush := addr }
        | .flushing, w :: _ => { x with flush := addr, kind := w.kind, addr := w.write.addr, qid := w.qid, tag := w.tag }
        | _, _ => x
      (s.retryLimit = 0 → exec (.dmaTransferFail f kind cause addr q tag) s = .next (settle s (s.haltChannel f y))) ∧
      (s.retryLimit ≠ 0 → exec (.dmaTransferFail f kind cause addr q tag) s =
        .next (settle s (s.setChan f { s.chan f with failed := (s.chan f).failed ++ [y] })))) ∧
    (∀ x rest, (s.chan f).failed = x :: rest → (s.func f).bme = true →
      let u := if s.linkUp then s.reissue f x else s
      let v := (u.count Reg.dmaRetries).setChan f { s.chan f with failed := rest }
      (s.retryLimit = 0 → ∀ l, exec (.dmaRetry f l) s = .next (settle s (s.haltChannel f x))) ∧
      (s.retryLimit ≠ 0 → s.linkUp = true → exec (.dmaRetry f true) s = .next (settle s
        (if v.mayRelease f then v.releaseWrites f else v))) ∧
      (∀ l, s.retryLimit ≠ 0 → (l = false ∨ s.linkUp = false) → x.tries + 1 < s.retryLimit → exec (.dmaRetry f l) s =
        .next (settle s (u.setChan f { s.chan f with failed := rest ++ [{ x with tries := x.tries + 1 }] }))) ∧
      (∀ l, s.retryLimit ≠ 0 → (l = false ∨ s.linkUp = false) → s.retryLimit ≤ x.tries + 1 → exec (.dmaRetry f l) s =
        .next (settle s (u.haltChannel f { x with tries := x.tries + 1 })))) ∧
    (∀ x, Canonical s → f < 256 → let u := s.haltChannel f x
      (u.chan f).halted = true ∧ (u.chan f).failAddr = x.addr ∧ (∀ n t, u.track n = some t → t.func ≠ f) ∧
      (∀ q < 256, (u.queue f q).state ≠ .absent → (u.queue f q).state = .idle ∧ (u.queue f q).error = true ∧
        ((u.queue f q).errCode = 4 ∨ (q = x.qid ∧ ((u.queue f q).errCode = 2 ∨ (u.queue f q).errCode = 3))))) ∧
    (∀ v : W32, s.regsOpen = true → s.blockDown Reg.dmaChanSel = false →
      let n := field (s.reg Reg.dmaChanSel) 7 0
      flag v 0 = true → (s.func n).flrActive = false →
      exec (.chanClear v) s = .next (settle s (s.setChan n { s.chan n with halted := false }))) ∧
    (∀ v : W32, s.regsOpen = true → s.blockDown Reg.vfcFuncSel = false →
      let n := field (s.reg Reg.vfcFuncSel) 7 0
      n ≠ 0 → flag v 1 = true →
      let u := s.setFunc n { s.func n with dirtyEn := flag v 0 }
      ((s.func 0).bme = true → s.linkUp = true → exec (.sync v) s = .next (settle s
        ((u.setFunc n { u.func n with syncing := true, syncDue := false }).emit (.flushRead 0 (u.func n).dirtyMap)))) ∧
      ((s.func 0).bme = false → exec (.sync v) s = .next (settle s (u.setFunc n { u.func n with syncing := true, syncDue := true })))) ∧
    (∀ ok, (s.func f).syncing = true → (s.func f).syncDue = false → exec (.syncReadReturn f ok) s = .next (settle s (s.setFunc f
      { s.func f with syncing := false, dirtyStatus := setBits (s.func f).dirtyStatus (if ok then 1 else 4) }))) ∧
    (∀ n, (s.vector f n).pending = true → exec (.msixPendingSend f n) s =
      .next (settle s ((s.setVector f n { s.vector f n with pending := false }).msix f n)))

/-- A write by access type leaves each bit of a register: an RW bit as written; an RW1C bit cleared by a 1 and kept by a 0; a W1S bit set by a 1
and kept by a 0; every other bit as it was. At a key without a register nothing changes. Elsewhere only that register changes. (The reads of
Table 0.2 are not part of the state.) While the registers are open and their block has power, REGISTER_WRITE of GCTL.SCRATCH leaves the value
written; of a register whose write has a command of its own it has that command's effect; of DGE.MRG_ALG once locked it changes nothing. In a
powered-down block it is logged and discarded. In TERMINATED it changes nothing. An unaligned key is a wrong-size write. In configuration space
Device Control takes its settings, its sizes held to 512 and 4,096 bytes; the header reads its IDs, all ones for a VF's Vendor and Device ID; PF0
reads the serial, its lower 32 bits in the first word. A key that no function's BAR or configuration space holds ends in a fault (that such a
command can come, and the words at which the capabilities stand, are the model's choice, log entry 17). -/
def Obligations.RegisterWriteEffect : Prop :=
  (∀ (r : RegRow) (old v : W32) (i : Nat), r.rw &&& r.w1c = 0 → r.rw &&& r.w1s = 0 → r.w1c &&& r.w1s = 0 →
    (flag r.rw i = true → flag (r.write old v) i = flag v i) ∧
    (flag r.w1c i = true → flag (r.write old v) i = (flag old i && !flag v i)) ∧
    (flag r.w1s i = true → flag (r.write old v) i = (flag old i || flag v i)) ∧
    (flag r.rw i = false → flag r.w1c i = false → flag r.w1s i = false → flag (r.write old v) i = flag old i)) ∧
  ∀ (s : State) (v : W32),
    (∀ k, Canonical s →
      (regRow k = none → s.plainWrite k v = s) ∧
      (∀ r, regRow k = some r → (s.plainWrite k v).reg k = r.write (s.reg k) v) ∧
      (∀ j, j ≠ k → (s.plainWrite k v).reg j = s.reg j)) ∧
    (s.regsOpen = true → s.blockDown Reg.gctlScratch = false →
      exec (.registerWrite Reg.gctlScratch v) s = .next (settle s (s.setReg Reg.gctlScratch v))) ∧
    exec (.registerWrite Reg.dmaChanCtrl v) s = exec (.chanClear v) s ∧
    exec (.registerWrite Reg.vfcSaCount v) s = exec (.saCountWrite v) s ∧
    exec (.registerWrite Reg.tsuRate v) s = exec (.rateWrite v) s ∧
    exec (.registerWrite Reg.temLock v) s = exec (.temLock v) s ∧
    exec (.registerWrite Reg.pwrResetCtrl v) s = exec (.warm v) s ∧
    (s.regsOpen = true → s.blockDown Reg.dgeMrgAlg = false → flag (s.reg Reg.dgeMrgCtrl) 0 = true →
      exec (.registerWrite Reg.dgeMrgAlg v) s = .next (settle s s)) ∧
    (s.regsOpen = true → s.blockDown Reg.dgeMrgAlg = true →
      exec (.registerWrite Reg.dgeMrgAlg v) s = .next (settle s (s.logEvent 0x0002 Reg.dgeMrgAlg 256))) ∧
    (s.lcs.phase ≠ .reset → s.lcs.state = .terminated → exec (.registerWrite Reg.gctlScratch v) s = .next s) ∧
    (∀ k, k < 0x8000000 → k % 4 ≠ 0 → exec (.registerWrite k v) s = exec (.wrongSizeAccess 0 k 4 true) s) ∧
    (∀ f, f < 256 → s.lcs.phase ≠ .reset → s.funcPresent f = true →
      exec (.registerWrite (0x10000000 + 0x1000 * f + 0x404) v) s = .next (s.setFunc f { s.func f with
        relaxed := flag v 4, noSnoop := flag v 11, maxPayload := min 512 (128 * 2 ^ field v 7 5), maxRead := min 4096 (128 * 2 ^ field v 14 12) })) ∧
    (s.configRead 0 0 = 0x43201F3A ∧ s.configRead 0 0x108 = s.lcs.otp.serial.setWidth 32 ∧
      s.configRead 0 0x109 = (s.lcs.otp.serial >>> 32).setWidth 32) ∧
    (∀ f, (f ≠ 0 → s.configRead f 0 = 0xFFFFFFFF) ∧ s.configRead f 2 = 0x10800011 ∧ s.configRead f 11 = 0x00011F3A) ∧
    (∀ k, targetOf k = .outside → exec (.registerWrite k v) s = .fault .outsideBar)

/-- In State.reset every register holds the Reset column of its row (0 where no register is implemented), no command waits, the device is held
in cold reset, no queue, tracker slot or VF exists, no key slot holds a key (slots 0 to 15 read as the device's, R213), PF0's queue quota is 256, and every sparse table has its canonical form. The values
that the spec gives no reset for are the model's choice (log entries 5 and 7). -/
def Obligations.ResetState : Prop :=
  (∀ k, State.reset.reg k = regReset k) ∧ (∀ k, regRow k = none → State.reset.reg k = 0) ∧ State.reset.pending = [] ∧
  State.reset.lcs.phase = .reset ∧ (∀ f q, State.reset.queue f q = {}) ∧ (∀ n, State.reset.track n = none) ∧
  (∀ n, State.reset.slot n = { attr := if n < 16 then 0x10000000C else 0 }) ∧ State.reset.vfEnable = false ∧ (State.reset.func 0).quota = 256 ∧ Canonical State.reset

/-- Out of reset, PORST_FALL, TESTMODE_ASSERT, a SUPPLY_MONITOR_RESET with a rail invalid and MAIN_POWER_LOSS leave the device in cold reset with its
cause recorded: every register outside UST but PWR.RESET_CAUSE and PWR.SUPPLY reads its reset value, every UST register keeps its value, no key slot, tracker
slot, queue or SA holds anything, and OTP, the understorey's clock and log, BVR and the journal's anchor are kept. MAIN_POWER_LOSS puts the understorey on
battery. -/
def Obligations.ColdResetKeeps : Prop :=
  ∀ (s : State) (c : Instr) (cause valid : W32), Canonical s → s.lcs.phase ≠ .reset →
    ((c = .porstFall ∧ cause = 2) ∨ (c = .testmodeAssert ∧ cause = 2) ∨
      (c = .supplyMonitorReset valid ∧ cause = 4 ∧ field valid 10 0 ≠ 0x7FF) ∨
      (c = .mainPowerLoss ∧ cause = 1 ∧ s.ust.onBattery = false)) →
    ∃ u, exec c s = .next u ∧ u.lcs.phase = .reset ∧ u.reg Reg.pwrResetCause = cause ∧ u.pending = s.pending ∧
      (∀ k, pageOf k ≠ 4 → k ≠ Reg.pwrResetCause → k ≠ Reg.pwrSupply → u.reg k = regReset k) ∧
      (∀ k, pageOf k = 4 → u.reg k = s.reg k) ∧
      (∀ n, u.slot n = slotReset n) ∧ (∀ n, u.track n = none) ∧ (∀ f q, u.queue f q = {}) ∧ (∀ i, u.sa i = none) ∧
      u.lcs.otp = s.lcs.otp ∧ u.ust.log = s.ust.log ∧ u.ust.rtcSec = s.ust.rtcSec ∧ u.kst.bvr = s.kst.bvr ∧
      u.evj.anchor = s.evj.anchor ∧ u.tem.tallies = s.tem.tallies ∧
      (c = .mainPowerLoss → u.ust.onBattery = true) ∧ (c ≠ .mainPowerLoss → u.ust.onBattery = s.ust.onBattery) ∧
      u.held = true

/-- From reset, PORST_RISE, TESTMODE_DEASSERT and SUPPLY_MONITOR_RELEASE start boot unless something else holds the device; then the life-cycle
state is the one that the bitwise majority of the three OTP copies spells, or TERMINATED where it spells none. HBM_TRAINING_DONE in boot
trains the stacks. VDD_UST_RETURN ends battery operation. WARM in P0 to P3 with no transition and no power change under way restarts from step 7: it keeps life cycle and OTP, and
with an empty tracker error log and device slots 0 to 8; it empties slots 16 to 4,095, makes every engine READY and returns to P0. -/
def Obligations.BootCommandsComplete : Prop :=
  ∀ (s : State) (b : Board),
    (exec (.porstRise b) s = .next (settle s (({ s with pwr := { s.pwr with porstLow := false } }).boot b))) ∧
    (exec (.testmodeDeassert b) s = .next (settle s (({ s with pwr := { s.pwr with testmode := false } }).boot b))) ∧
    (s.pwr.supplyHold = true → s.ust.onBattery = false → exec (.supplyMonitorRelease b) s = .next (settle s
      ((({ s with pwr := { s.pwr with supplyHold := false } }).setReg Reg.pwrSupply 0x7FF).boot b))) ∧
    (s.held = true → s.boot b = s) ∧ (s.lcs.phase ≠ .reset → s.boot b = s) ∧
    (s.held = false → s.lcs.phase = .reset →
      let w := majority s.lcs.otp.lc0 s.lcs.otp.lc1 s.lcs.otp.lc2
      (s.boot b).lcs.state = (stateOfCode w).getD .terminated ∧ (s.boot b).lcs.decodeInvalid = (stateOfCode w).isNone) ∧
    exec .vddUstReturn s = .next { s with ust := { s.ust with onBattery := false } } ∧
    (∀ x y : BitVec 4, (s.lcs.phase = .rom ∨ s.lcs.phase = .resuming ∨ s.lcs.phase = .waiting) →
      (∀ h ∈ s.mem.hbm, h.trained = false ∧ h.trainFail = false) →
      exec (.hbmTrainingDone x y) s = .next (settle s (((List.range 4).foldl
        (fun s i => s.stackTrained i (bitOf x.toNat i) (bitOf y.toNat i)) s).continueBoot))) ∧
    (∀ v : W32, Canonical s → s.regsOpen = true → s.blockDown Reg.pwrResetCtrl = false → flag v 0 = true → s.lcs.phase = .done →
      s.pwr.state < 4 → s.lcs.xferActive = false → s.pwr.change = none →
      ∃ u, exec (.warm v) s = .next u ∧ u.lcs.phase = .waiting ∧ u.lcs.state = s.lcs.state ∧ u.lcs.otp = s.lcs.otp ∧
        u.pwr.state = 0 ∧ (∀ n, 16 ≤ n → n < 4096 → u.slot n = slotReset n) ∧
        (s.tracker = [] → u.errLog = s.errLog ∧ ∀ n, n < 9 → u.slot n = s.slot n) ∧
        (∀ g ∈ u.comb.engines, g.state = .ready) ∧ u.comb.ops = [] ∧ (∀ f q, u.queue f q = {}))

/-- PERST_ASSERT takes the link down and resets every function, with PWR.PERST_COUNT and EVENT bit 3; the loss of the PCIe reference and a
link-down take the link down, whereupon the reads outstanding on it fail; with PERST_N high and the reference present the link comes up, at
a speed and width of R258, and each function's held writes leave that may. SET_POWER_STATE to the state in force completes, to another begins a
change; DRAIN_TIMEOUT aborts what remains, and once all has drained a change to P0, P1 or P2 from them is in force. POWER_QUERY answers 16 bytes.
THERMAL_SAMPLE at T_LIMIT enters the limit; at the limit, a tenth consecutive sample below T_LIMIT − HYST ends it. -/
def Obligations.PowerCommandsComplete : Prop :=
  ∀ (s : State),
    (s.pwr.perstLow = false → s.lcs.phase ≠ .reset → exec .perstAssert s = .next (settle s
      ((({ s.pcieDown with pwr := { s.pcieDown.pwr with perstLow := true } }.resetAllFunctions).count Reg.pwrPerstCount).raise
        Reg.pwrEvent 8))) ∧
    exec .perstDeassert s = .next { s with pwr := { s.pwr with perstLow := false } } ∧
    exec .pcieRefLoss s = .next (settle s { s.pcieDown with pwr := { s.pcieDown.pwr with refOk := false } }) ∧
    exec .pcieRefReturn s = .next { s with pwr := { s.pwr with refOk := true } } ∧
    exec .pcieLinkDown s = .next (settle s s.pcieDown) ∧ (s.linkUp = false → s.pcieDown = s) ∧
    (s.linkUp = true → s.pcieDown = { s with linkUp := false }.failReads ∧ s.pcieDown.linkUp = false) ∧
    (s.pwr.perstLow = false → s.pwr.refOk = true → s.lcs.phase ≠ .reset →
      let u := { s with linkUp := true }.trainLink
      u.linkUp = true ∧ u.linkSpeed ∈ [64, 32, 16] ∧ u.linkWidth ∈ [1, 2, 4, 8, 16] ∧
      exec .pcieLinkUp s = .next (settle s
        (s.chans.foldl (fun (w : State) c => if w.mayRelease c.1 then w.releaseWrites c.1 else w) u))) ∧
    (∀ slot t, Begun s slot 0x20 0x20 t → t.entry.zeroFrom 46 55 = true → t.entry.p8 45 ≤ 1 → t.entry.msgLen = 0 →
      t.entry.keySlot = noSlot → s.powerValues t.entry = true → t.dmaFail = none → s.lcs.xferActive = false → s.pwr.change = none →
      (t.entry.p8 40 = s.pwr.state → t.entry.p8 40 ≠ 1 →
        exec (.setPowerState slot) s = .next (settle s (s.complete slot 0 0 []))) ∧
      ((t.entry.p8 40 ≠ s.pwr.state ∨ t.entry.p8 40 = 1) →
        exec (.setPowerState slot) s = .next (settle s (s.beginChange slot (s.changeFor slot t.entry))))) ∧
    (∀ slot t, Begun s slot 0x21 0x21 t → t.entry.zeroFrom 40 55 = true → t.entry.msgLen = 0 → t.entry.keySlot = noSlot →
      t.dmaFail = none → 16 ≤ t.entry.outCap →
      exec (.powerQuery slot) s = .next (settle s (s.complete slot 0 0
        ([BitVec.ofNat 8 s.pwr.state, BitVec.ofNat 8 (match s.pwr.change with | some c => c.target | none => 0xFF)] ++
          toLE 2 s.pwr.cellOn ++ [BitVec.ofNat 8 s.pwr.portOn, BitVec.ofNat 8 (b2n s.pwr.trunkOn + 2 * b2n s.pwr.thermLimit),
            BitVec.ofNat 8 (field (s.reg Reg.pwrTj) 7 0), 0] ++ toLE 4 (s.reg Reg.pwrTransUs).toNat ++ zeros 4)))) ∧
    (∀ c, s.pwr.change = some c → c.aborting = false → exec .drainTimeout s = .next (settle s
      (({ s with pwr := { s.pwr with change := some { c with aborting := true } } } : State).abortLeaving c))) ∧
    (∀ c, s.pwr.change = some c → s.changeDrained c = true → c.target < 3 → s.pwr.warmHeld = false →
      ∃ u, exec .powerStateChangeDone s = .next u ∧ u.pwr.state = c.target ∧ u.pwr.change = none ∧ u.pwr.cellOn = c.cellOn ∧
        u.pwr.portOn = c.portOn ∧ u.pwr.trunkOn = c.trunkOn) ∧
    (∀ (l : List Int) (o : Int), s.lcs.phase ≠ .reset →
      let tj := l.foldl max o
      ∃ u, exec (.thermalSample l o) s = .next u ∧ u.comb.temps = l ∧
        (s.pwr.thermLimit = false → s.tLimit ≤ tj → u.pwr.thermLimit = true ∧ u.pwr.thermBelow = 0) ∧
        (s.pwr.thermLimit = false → tj < s.tLimit → u.pwr.thermLimit = false) ∧
        (s.pwr.thermLimit = true → s.tLimit - s.tHyst ≤ tj → u.pwr.thermLimit = true ∧ u.pwr.thermBelow = 0) ∧
        (s.pwr.thermLimit = true → tj < s.tLimit - s.tHyst → u.pwr.thermLimit = decide (s.pwr.thermBelow < 9) ∧
          (s.pwr.thermBelow < 9 → u.pwr.thermBelow = s.pwr.thermBelow + 1)))

/-- Whatever command comes in whatever state: if it answers a next state, every bit of the three life-cycle copies and of the progress marks that
was burnt stays burnt, the three minimum SVNs do not fall, and a root copy or owner record that was burnt is not made blank again. -/
def Obligations.OtpOnlyBurns : Prop :=
  ∀ (s u : State) (c : Instr), exec c s = .next u →
    let a := s.lcs.otp
    let b := u.lcs.otp
    a.lc0 &&& b.lc0 = a.lc0 ∧ a.lc1 &&& b.lc1 = a.lc1 ∧ a.lc2 &&& b.lc2 = a.lc2 ∧
    a.marks.length = b.marks.length ∧
    (∀ (i : Nat) (x y : W32 × W32 × W32), a.marks[i]? = some x → b.marks[i]? = some y →
      x.1 &&& y.1 = x.1 ∧ x.2.1 &&& y.2.1 = x.2.1 ∧ x.2.2 &&& y.2.2 = x.2.2) ∧
    a.svnFw ≤ b.svnFw ∧ a.svnLayout ≤ b.svnLayout ∧ a.svnMcode ≤ b.svnMcode ∧
    (a.dukA.isSome = true → b.dukA.isSome = true) ∧ (a.dukB.isSome = true → b.dukB.isSome = true) ∧
    (a.seedA.isSome = true → b.seedA.isSome = true) ∧ (a.seedB.isSome = true → b.seedB.isSome = true) ∧
    (a.ownerRecord.isSome = true → b.ownerRecord.isSome = true)

/-- LCS_TRANSITION with good parameters to a state that Table 2.2 does not list for the state in force ends with (0x18, 1). With none running, no entry
open and an empty mark entry, a listed move that needs no signature, record or draw begins: its mark is burnt in the first empty entry, and the one-shot RETURN
authorisation is consumed by a move that needs it. A signed move to MANUFACTURE with a valid signature over the outstanding challenge begins and consumes the
challenge; without a challenge, or with a signature over one that has lapsed, it ends with (0x02, 5), with a bad one with (0x02, 0) and the challenge is gone. While a transition runs each further event is its
next step, and another entry ends with (0x18, 3). -/
def Obligations.LifeCycleTransitions : Prop :=
  ∀ (s : State) (slot : Nat) (t : Track) (good : Bool) (target : LcState),
    let e := t.entry
    Begun s slot 0xC01 0xC01 t → xferParamsOk e = true → lcOfIndex (e.p8 40) = some target →
    (s.lcs.xferActive = false → xferListed s.lcs.state target = false →
      exec (.lcsTransition slot good) s = .next (settle s (s.fail slot (0x18, 1)))) ∧
    (s.lcs.xferActive = true → exec (.lcsTransition slot good) s = .next (settle s (s.fail slot (0x18, 3)))) ∧
    (∀ i, s.lcs.xferActive = false → xferListed s.lcs.state target = true → s.openMarks = [] → s.emptyMark = some i → t.dmaFail = none →
      (xferAuth s.lcs.state target = .alone ∨ (xferAuth s.lcs.state target = .ceremony ∧ s.lcs.returnAuth = true)) → e.msgLen = 0 →
      exec (.lcsTransition slot good) s = .next (settle s (s.beginXfer slot i target none)) ∧
      (s.beginXfer slot i target none).lcs.xferActive = true ∧
      (xferAuth s.lcs.state target = .ceremony → (s.beginXfer slot i target none).lcs.returnAuth = false) ∧
      (∀ m, s.lcs.otp.marks[i]? = some m → (s.beginXfer slot i target none).lcs.otp.marks[i]? =
        let b : W32 := BitVec.ofNat 32 (lcIndex target)
        some (m.1 ||| b, m.2.1 ||| b, m.2.2 ||| b))) ∧
    (∀ i, s.lcs.xferActive = false → s.lcs.state = .blank → target = .manufacture → s.openMarks = [] → s.emptyMark = some i →
      t.dmaFail = none → e.msgLen = 4627 →
      (s.lcs.challenge = none → exec (.lcsTransition slot good) s = .next (settle s (s.fail slot (0x02, 5)))) ∧
      (∀ x, s.lcs.challenge = some x →
        (lcsSigOk s.lcs.otp.vendorKeyHash t.input x = true → exec (.lcsTransition slot good) s =
          .next (settle s ((s.useChallenge x).beginXfer slot i .manufacture none))) ∧
        (lcsSigOk s.lcs.otp.vendorKeyHash t.input x = false → s.lcs.lapsed.any (lcsSigOk s.lcs.otp.vendorKeyHash t.input) = false →
          exec (.lcsTransition slot good) s = .next (settle s (s.dropChallenge.fail slot (0x02, 0)))) ∧
        (lcsSigOk s.lcs.otp.vendorKeyHash t.input x = false → s.lcs.lapsed.any (lcsSigOk s.lcs.otp.vendorKeyHash t.input) = true →
          exec (.lcsTransition slot good) s = .next (settle s (s.fail slot (0x02, 5))))))

/-- While a transition runs and no other LCS_TRANSITION entry comes at the slot, LCS_TRANSITION is its next step. The last step burns the code of the target into the
next copy that lacks it, and ends when all three hold it. The erasure of a move to RETURN or TERMINATED leaves no key slot, SA, BVR, memory key, journal anchor or Comb
operation. Two failed confirmations of a move to RETURN each burn one ATTEMPT bit and end it with its mark open, its next boot to start again at step 2; the third turns it into a move to TERMINATED. -/
def Obligations.TransitionSteps : Prop :=
  ∀ (s : State) (slot : Nat) (good : Bool), s.lcs.xferActive = true →
    (∀ t, s.track slot = some t → (t.phase ≠ .ready ∧ t.phase ≠ .gather) ∨ t.entry.opcode ≠ 0xC01) →
    exec (.lcsTransition slot good) s = .next (settle s (s.runStep good)) ∧
    (∀ x, (xferSteps s.lcs.xferTarget)[s.lcs.xferStep]? = some x →
      (x = .erase → s.runStep good = s.eraseSecrets.stepDone ∧ (∀ n, s.eraseSecrets.slot n = slotReset n) ∧ (∀ i, s.eraseSecrets.sa i = none) ∧
        s.eraseSecrets.kst.bvr = [] ∧ s.eraseSecrets.mem.key = none ∧ s.eraseSecrets.evj.anchor = none ∧ s.eraseSecrets.comb.ops = []) ∧
      (x = .writeCode → let u := s.modOtp fun o => o.writeCopy (lcCode s.lcs.xferTarget)
        s.runStep good = if u.lcs.otp.codeWritten (lcCode s.lcs.xferTarget) then u.stepDone else u) ∧
      (x = .confirmErase → (good = true → s.runStep good = s.stepDone) ∧
        (good = false → field (s.mark s.lcs.xferMark) 13 12 = 0 → s.runStep good = ((s.burnMark s.lcs.xferMark 0x1000).modLcs fun l => { l with retryDue := true }).xferFails) ∧
        (good = false → field (s.mark s.lcs.xferMark) 13 12 = 1 → s.runStep good = ((s.burnMark s.lcs.xferMark 0x2000).modLcs fun l => { l with retryDue := true }).xferFails) ∧
        (∀ n, good = false → field (s.mark s.lcs.xferMark) 13 12 = 3 → s.emptyMark = some n →
          (s.runStep good).lcs.xferTarget = .terminated ∧ (s.runStep good).lcs.xferActive = true)))

/-- LCS_QUERY answers 64 bytes. LCS_CHALLENGE in BLANK, MANUFACTURE or RETURN draws 32 bytes and answers and holds the challenge; a lapse drops it.
DEBUG_UNLOCK in MANUFACTURE with a valid signature opens debug and empties the key store; DEBUG_LOCK closes it. A sound image is staged into the inactive bank;
IMAGE_ACTIVATE names it; SVN_ADVANCE raises a minimum to the SVN loaded. In recovery START begins a load, each word joins it, DONE ends it. -/
def Obligations.LifeCycleCommandsComplete : Prop :=
  ∀ (s : State) (slot : Nat) (t : Track),
    let e := t.entry
    let l := s.lcs
    (Begun s slot 0xC00 0xC00 t → e.zeroFrom 40 55 = true → e.msgLen = 0 → t.dmaFail = none → 64 ≤ e.outCap →
      ∃ b : Bytes, exec (.lcsQuery slot) s = .next (settle s (s.complete slot 0 0 b)) ∧
        b.take 16 = toLE 4 s.lcsStateView.toNat ++ toLE 4 l.otp.lc0.toNat ++ toLE 4 l.otp.lc1.toNat ++ toLE 4 l.otp.lc2.toNat) ∧
    (Begun s slot 0xC02 0xC02 t → e.zeroFrom 40 55 = true → e.msgLen = 0 → t.dmaFail = none → 64 ≤ e.outCap →
      (l.state = .blank ∨ l.state = .manufacture ∨ l.state = .returned) → s.rng.fault = false → s.drbgServes 1 = true →
      let x := (s.draw 1 32).1 ++ s.serialBytes ++ toLE 4 (s.reg Reg.gctlIdent).toNat ++ toLE 4 s.lcsStateView.toNat ++ zeros 16
      exec (.lcsChallenge slot) s = .next (settle s
        (((s.draw 1 32).2.modLcs fun l => { l with challenge := some x, lapsed := l.challenge.toList ++ l.lapsed }).complete slot 0 0 x))) ∧
    exec .challengeLapse s = .next (settle s { s with lcs := { l with challenge := none, lapsed := l.challenge.toList ++ l.lapsed } }) ∧
    exec .returnAuthLapse s = .next { s with lcs := { l with returnAuth := false } } ∧
    (∀ x, Begun s slot 0xC03 0xC03 t → e.zeroFrom 40 55 = true → l.state = .manufacture → t.dmaFail = none → e.msgLen = 4627 →
      l.challenge = some x → lcsSigOk l.otp.vendorKeyHash (t.input.take 4627) x = true →
      exec (.debugUnlock slot) s = .next (settle s ((s.openDebug t x).complete slot 0 0 [])) ∧
      (s.openDebug t x).lcs.debugEn = true ∧ (s.openDebug t x).lcs.challenge = none) ∧
    (Begun s slot 0xC04 0xC04 t → e.zeroFrom 40 55 = true → e.msgLen = 0 → t.dmaFail = none →
      exec (.debugLock slot) s = .next (settle s (({ s with lcs := { l with debugEn := false } } : State).complete slot 0 0 []))) ∧
    (Begun s slot 0xC10 0xC10 t → e.zeroFrom 40 55 = true → t.dmaFail = none → s.stageFail t.input = (none, none) →
      let f := l.flash
      let f := if f.activeB then { f with bankA := putImage f.bankA t.input } else { f with bankB := putImage f.bankB t.input }
      exec (.imageStage slot) s = .next (settle s
        (({ s with lcs := { l with flash := withDirectory f l.nextActiveB } } : State).complete slot 0 0 []))) ∧
    (Begun s slot 0xC11 0xC11 t → e.zeroFrom 40 55 = true → e.msgLen = 0 → t.dmaFail = none →
      exec (.imageActivate slot) s = .next (settle s (({ s with lcs := { l with
        nextActiveB := !l.flash.activeB, flash := withDirectory l.flash !l.flash.activeB } } : State).complete slot 0 0 []))) ∧
    (Begun s slot 0xC12 0xC12 t → e.zeroFrom 42 55 = true → (l.state = .manufacture ∨ l.state = .owned) → e.msgLen = 0 →
      t.dmaFail = none → e.pLE 40 2 = 1 →
      exec (.svnAdvance slot) s = .next (settle s
        (({ s with lcs := { l with otp := { l.otp with svnFw := max l.otp.svnFw l.loadedSvn.1 } } } : State).complete slot 0 0 []))) ∧
    (∀ v : W32, s.regsOpen = true → s.blockDown Reg.lcsRecoveryCtrl = false → l.phase = .rom → field v 2 1 = 0 →
      let n := (s.reg Reg.lcsRecoveryLen).toNat
      1 ≤ n → n ≤ 8396800 →
      ∃ u, exec (.recoveryStart v) s = .next u ∧ u.lcs = { l with recoveryBusy := true, recovery := [], recoveryLen := n, recoveryWords := 0 }) ∧
    (∀ v : W32, s.regsOpen = true → s.blockDown Reg.lcsRecoveryData = false → l.phase = .rom → l.recoveryBusy = true →
      l.recoveryWords < (l.recoveryLen + 3) / 4 →
      exec (.recoveryDataWrite v) s = .next { s with lcs := { l with
        recovery := l.recovery ++ toLE 4 v.toNat, recoveryWords := l.recoveryWords + 1 } }) ∧
    (∀ v : W32, Canonical s → s.regsOpen = true → s.blockDown Reg.lcsRecoveryCtrl = false → l.phase = .rom → l.recoveryBusy = true →
      v &&& 5 = 0 → l.recoveryWords = (l.recoveryLen + 3) / 4 → s.imageFail 1 (l.recovery.take l.recoveryLen) = none →
      exec (.recoveryDone v) s = .next (settle s ((({ s with lcs := { l with
        recoveryBusy := false, recovery := [], recoveryWords := 0 } } : State).startFirmware (l.recovery.take l.recoveryLen)).continueBoot)))

/-- A record opens only with a SEQ of a confirmed block, and the SEQ after it is larger by one. The first completed record of the queue is chained: C becomes SHA3-256 of C and
the record; past 65,536 records it waits for the checkpoint that is due. CHECKPOINT_COUNT at 65,536 chained records, CHECKPOINT_TIMER and JRN_CHECKPOINT take a checkpoint under their triggers. CSIG_TIMEOUT marks a block TIMEOUT. EXPORT_COPY writes the
next record at its ring slot, or the next complete entry, and advances PROD. EXP_CTRL with REC_EN restarts the record ring. JRN_PUBKEY answers public key, serial and TEST; JRN_READ its
records; JRN_READ_CP waits for, or answers, its entry, and ends with (0x25, 0x39) where that cannot be read. -/
def Obligations.JournalCommandsComplete : Prop :=
  ∀ (s : State) (slot : Nat) (t : Track),
    let e := t.entry
    let j := s.evj
    (∀ f n u, s.openRecord f = some (n, u) → n = j.nextSeq ∧ u.evj.nextSeq = n + 1 ∧
      ∃ b ∈ j.blocks, b.confirmed = true ∧ b.start ≤ n ∧ n < b.stop) ∧
    (∀ r, j.queue = [r] → r.done = true → (j.chained < 65536 → s.chainReady.evj.chain = sha3_256 (j.chain ++ r.body) ∧
      s.chainReady.evj.queue = [] ∧ s.chainReady.evj.endSeq = r.seq + 1) ∧ (65536 ≤ j.chained → s.chainReady = s)) ∧
    (j.on = true → s.pwr.state < 3 →
      (65536 ≤ j.chained → exec .checkpointCount s = .next (settle s (s.takeCheckpoint 0))) ∧
      exec .checkpointTimer s = .next (settle s (s.takeCheckpoint 1))) ∧
    (Begun s slot 0x912 0x912 t → e.zeroFrom 40 55 = true → e.msgLen = 0 → e.keySlot = noSlot → t.dmaFail = none → 8 ≤ e.outCap →
      exec (.jrnCheckpoint slot) s = .next (settle s
        (((s.busy slot).modEvj fun x => { x with cpWait := x.cpWait ++ [(slot, x.nextCp)] }).takeCheckpoint 2))) ∧
    (∀ (n : Nat) (west : Bool) (c : CpEntry), (j.cps.find? fun x => x.num == n) = some c → c.stage = .committed →
      (c.csig west).status = 3 → exec (.csigTimeout n west) s = .next (settle s
        ((((s.modCp n fun x => x.setCsig west { x.csig west with status := 2 }).count Reg.evjCsigTimeouts).raise
          Reg.evjEvent 8).serveReaders n))) ∧
    (∀ r, (j.ring.find? fun r => r.copied.isNone) = some r → flag (s.reg Reg.evjExpCtrl) 0 = true →
      let prod := s.reg Reg.evjExpRecProd
      (prod - s.reg Reg.evjExpRecCons).toNat < 2 ^ j.recLog2 →
      exec (.exportCopy false .clean) s = .next (settle s (((s.hostWrite .device 0 0 ⟨0, s.ringBase Reg.evjExpRecLo Reg.evjExpRecHi +
        64 * (prod.toNat % 2 ^ j.recLog2), r.body⟩).setReg Reg.evjExpRecProd (prod + 1)).modEvj fun x =>
          { x with ring := x.ring.map fun y => if y.seq = r.seq then { y with copied := some prod } else y }))) ∧
    (∀ c, (j.cps.find? fun c => c.copied.isNone) = some c → c.complete = true → flag (s.reg Reg.evjExpCtrl) 1 = true →
      let prod := s.reg Reg.evjExpCpProd
      (prod - s.reg Reg.evjExpCpCons).toNat < 2 ^ j.cpLog2 →
      exec (.exportCopy true .clean) s = .next (settle s (((s.modCp c.num fun x => { x with copied := some prod }).hostWrite .device 0 0
        ⟨0, s.ringBase Reg.evjExpCpLo Reg.evjExpCpHi + 16384 * (prod.toNat % 2 ^ j.cpLog2), c.bytes⟩).setReg Reg.evjExpCpProd (prod + 1)))) ∧
    (∀ v : W32, Canonical s → s.regsOpen = true → s.blockDown Reg.evjExpCtrl = false → flag v 0 = true → flag v 1 = false →
      ∃ u, exec (.expCtrlWrite v) s = .next u ∧ u.reg Reg.evjExpRecProd = 0 ∧ u.reg Reg.evjExpRecCons = 0 ∧
        u.evj.recLog2 = clamp 10 24 (field v 12 8) ∧ (∀ r ∈ u.evj.ring, r.copied = none) ∧
        u.evj.ring.map (fun r => r.body) = j.ring.map (fun r => r.body) ∧ u.evj.cps = j.cps) ∧
    (Begun s slot 0x910 0x910 t → e.zeroFrom 40 55 = true → e.msgLen = 0 → e.keySlot = noSlot → (s.slot 4).valid = true →
      s.slotBad 4 = false → t.dmaFail = none → 1968 ≤ e.outCap →
      exec (.jrnPubkey slot) s = .next (settle s (s.complete slot 0 0 (stdOut 1952 .mldsaKeyGen 1 [(s.slot 4).content] ++ s.serialBytes ++
        [BitVec.ofNat 8 (b2n (s.slot 4).test)] ++ zeros 7)))) ∧
    (∀ r rest, j.ring = r :: rest → Begun s slot 0x911 0x911 t → e.zeroFrom 52 55 = true → e.msgLen = 0 → e.keySlot = noSlot →
      1 ≤ e.pLE 48 4 → e.pLE 48 4 ≤ 65536 → r.seq ≤ e.pLE 40 8 → t.dmaFail = none → 64 * e.pLE 48 4 ≤ e.outCap →
      exec (.jrnRead slot .clean) s = .next (settle s (s.complete slot 0 0
        (((j.ring.filter fun r => decide (e.pLE 40 8 ≤ r.seq)).take (e.pLE 48 4)).flatMap fun r => r.body)))) ∧
    (∀ c, (j.cps.find? fun c => c.num == e.pLE 40 8) = some c → Begun s slot 0x913 0x913 t → e.zeroFrom 48 55 = true → e.msgLen = 0 →
      e.keySlot = noSlot → t.dmaFail = none → 16384 ≤ e.outCap →
      exec (.jrnReadCp slot .clean) s = .next (settle s
        (((s.busy slot).modEvj fun x => { x with readWait := x.readWait ++ [(slot, e.pLE 40 8)] }).serveReaders (e.pLE 40 8))) ∧
      ∀ x, exec (.jrnReadCp slot (.uncorrectable x)) s = .next (settle s ((s.hbmUe 3 x e.tag).complete slot 0x25 0x39 [])))

/-- A frame that does not open counts in TRK.AUTH_DROP. A frame for this member that none of the drops of R409 reaches has its TYPE's effect: HELLO that checks out under a lower position
encapsulates in the Comb; HELLO_ACK is decapsulated there at the higher position, which then keys the link; HEARTBEAT notes its stamps; MIRROR updates partner state and is acknowledged; MIRROR_ACK confirms; PROBE is answered; PROBE_REPLY
to a probe in flight keeps the neighbour in service with EVENT bit 2; LEAVE loses the neighbour; CSIG_REQ is signed under the journal key; CSIG_RESP is stored. An EPOCH pass of this member's own ends an arm; one of another
member's is noted and passed on. TAKEOVER_NOTICE back at its taker ends. -/
def Obligations.TrunkFramesTakeEffect : Prop :=
  ∀ (s t : State) (west : Bool) (frame : Bytes) (map : RingMap) (m : TrkMsg),
    (s.trk.on = true → (s.trkLink west).up = true → frame.length + 4 ≤ 9600 → (s.trkNoted west frame).trkBody west frame = none →
      exec (.heartbeat west frame) s = .next (settle s ((s.trkNoted west frame).count Reg.trkAuthDrop)) ∧
      ∀ r, exec (.mirror west ⟨frame, r⟩) s = .next (settle s ((s.trkNoted west frame).count Reg.trkAuthDrop))) ∧
    (Arrives s west frame 1 map m t → (t.trkLink west).keyed = false → helloCheck map west m = .good →
      map.ownPos < map.neighbour west → (t.trkLink west).handshake = false → t.slotBad 4 = false → t.jrnKey = true → t.engineCheck 0x105 = none →
      let u := t.notePeer west m
      exec (.hello west frame) s = .next (settle s ((u.modLink west fun l => { l with handshake := true }).startOwn
        (.helloKem (linkNo west)) 0x105 {} (slice m.payload 1968 1184) [] true))) ∧
    (Arrives s west frame 1 map m t → (t.trkLink west).keyed = false → helloCheck map west m = .failed →
      exec (.hello west frame) s = .next (settle s (t.helloFails west m))) ∧
    (Arrives s west frame 2 map m t → (t.trkLink west).keyed = false → (t.trkLink west).helloSeed ≠ [] →
      (t.trkLink west).handshake = false → map.neighbour west ≤ map.ownPos → helloCheck map west m = .good → t.engineCheck 0x109 = none →
      exec (.helloAck west frame) s = .next (settle s (((t.notePeer west m).modLink west fun l => { l with handshake := true }).startOwn
        (.ackOpen (linkNo west)) 0x109 { content := (t.trkLink west).helloSeed } (slice m.payload 1968 1088) [] false))) ∧
    (∀ ss, t.trk.map = some map → (t.trkLink west).up = true → (t.trkLink west).handshake = true → (t.trkLink west).keyed = false →
      t.ackOpened west ss = (t.modLink west fun l => { l with linkKey := linkKeyOf map west ss }).keyLink west) ∧
    (Arrives s west frame 0x10 map m t → ∃ u, exec (.heartbeat west frame) s = .next u ∧
      (u.trkLink west).hbTx = m.payload.take 12 ∧ (u.trkLink west).probe = none ∧ (u.trkLink !west) = (t.trkLink !west)) ∧
    (Arrives s west frame 0x20 map m t → t.trk.takeover = none → t.trk.partner.serial = map.serial m.src →
      let p := (parseRecords m.payload.length m.payload).foldl Partner.take t.trk.partner
      exec (.mirror west ⟨frame, .clean⟩) s = .next (settle s ((t.modTrk fun x => { x with partner := p }).trkSend west 0x21
          (if m.dst = 0xFF then 0xFF else m.src) (bitOf m.flags 0) (toLE 4 m.lseq)))) ∧
    (Arrives s west frame 0x21 map m t →
      exec (.mirrorAck west frame) s = .next (settle s (t.mirrorAcked (leAt m.payload 0 4)))) ∧
    (Arrives s west frame 0x22 map m t →
      let here (x : Trk) : Trk := { x with reached := x.reached.filter (· != map.ownPos) ++ [map.ownPos] }
      exec (.probe west frame) s = .next (settle s ((t.modTrk here).trkSend west 0x23 m.src (bitOf m.flags 0) m.payload))) ∧
    (Arrives s west frame 0x23 map m t → (t.trkLink true).probe = some (leAt m.payload 16 8) →
      beAt m.payload 8 8 = map.serial (map.neighbour true) → (t.trkLink false).probe = none →
      let p := map.neighbour true
      let idle (l : TrkLink) : TrkLink :=
        { l.unkeyed with probe := none, hbTx := [], hbRx := [] }
      let back (x : Trk) : Trk := { x with reached := x.reached.filter (· != p) ++ [p], lostPos := x.lostPos.filter (· != p) }
      let u := ((t.modLink true idle).modTrk back).raise Reg.trkEvent 4
      exec (.probeReply west frame) s = .next (settle s (u.retarget t.target))) ∧
    (Arrives s west frame 0x51 map m t → exec (.leave west frame) s = .next (settle s (t.loseNeighbour west))) ∧
    (Arrives s west frame 0x50 map m t → exec (.takeoverNotice west frame) s = .next (settle s t)) ∧
    (Arrives s west frame 0x40 map m t → t.slotBad 4 = false → t.jrnKey = true → exec (.csigReq west frame) s =
      .next (settle s (t.startSign (.csig (linkNo west) (m.payload.take 32)) "GY-CSIG" m.payload))) ∧
    (∀ c, Arrives s west frame 0x41 map m t → (t.evj.cps.find? fun c => c.stage == .committed && c.digest == m.payload.take 32 &&
        (c.csig west).status == 3) = some c →
      let x : Csig := { serial := beAt m.payload 32 8, status := 1, test := t.freeNat.1 % 2 == 1, sig := m.payload.drop 40 }
      exec (.csigResp west frame) s =
        .next (settle s ((t.freeNat.2.modCp c.num fun c => c.setCsig west x).serveReaders c.num))) ∧
    (Arrives s west frame 0x30 map m t → m.src = map.ownPos → exec (.epochPrepare west frame) s = .next (settle s
      (t.armReturned false (natAt m.payload 0) (leAt m.payload 8 8) (natAt m.payload 24)))) ∧
    (Arrives s west frame 0x30 map m t → m.src ≠ map.ownPos → natAt m.payload 0 = 2 → leAt m.payload 8 8 ≤ t.trk.epochNums.getD 2 0 →
      exec (.epochPrepare west frame) s = .next (settle s (t.passOn west m fun _ =>
        m.payload.take 24 ++ [BitVec.ofNat 8 (min 2 (natAt m.payload 24))]))) ∧
    (Arrives s west frame 0x31 map m t → m.src = map.ownPos → exec (.epochCommit west frame) s = .next (settle s
      (t.armReturned true (natAt m.payload 0) (leAt m.payload 8 8) t.trk.epochTarget))) ∧
    (Arrives s west frame 0x31 map m t → m.src ≠ map.ownPos → t.trk.epochNums.getD (natAt m.payload 0) 0 = leAt m.payload 8 8 →
      exec (.epochCommit west frame) s =
        .next (settle s ((t.commitEpoch (natAt m.payload 0)).passOn west m fun _ => m.payload)))

/-- TRK_ENABLE and SOLO_WRITE write TRK.CTRL with EN or SOLO set. HELLO_SEND has an ML-KEM key generated, the first time, and the HELLO signed, and then it leaves; HEARTBEAT_SEND on a keyed link sends; silence on a link that had heartbeats sends a PROBE
the long way; a probe timeout loses the neighbour. MIRROR_ACK_TIMEOUT resends up to three times and then loses the target. RX_STATE is sent under format 2. TAKEOVER_DONE ends the takeover, clears the
partner state and counts. An epoch's pass that times out is resent once and then fails, and a member that runs no epoch discards a next ring key; a failed COMMIT is repeated. OLD_RING_KEY_EXPIRE drops the old keys. RING_MAP_SET of a valid map applies it; RING_MAP_CLEAR
discards it; RING_STATUS answers 64 bytes; RING_EPOCH waits its turn. -/
def Obligations.RingCommandsComplete : Prop :=
  ∀ (s : State) (slot : Nat) (t : Track) (west : Bool),
    let e := t.entry
    (∀ v : W32, s.regsOpen = true → s.blockDown Reg.trkCtrl = false →
      exec (.trkEnable v) s = .next (settle s (s.trkCtrlWrite (setBits v 1))) ∧
      exec (.soloWrite v) s = .next (settle s (s.trkCtrlWrite (setBits v 8)))) ∧
    (∀ v : W32, Canonical s → s.regsOpen = true → s.blockDown Reg.trkCtrl = false → field v 2 1 = 1 → flag v 3 = s.solo →
      ∃ u, exec (.trkEnable v) s = .next u ∧ u.trk.on = true ∧ u.trk.mode = 1 ∧
        ((s.trk.on = true ∧ s.trk.mode = 1) → u.trk = s.trk) ∧
        ((s.trk.on = false ∨ s.trk.mode ≠ 1) → (u.trkLink west).up = false ∧ (u.trkLink west).keyed = false)) ∧
    (∀ map, s.trk.map = some map → (s.trkLink west).up = true → (s.trkLink west).keyed = false → s.slotBad 4 = false → s.jrnKey = true →
      s.engineCheck 0x115 = none → s.helloRuns west = false →
      ((s.trkLink west).helloSeed = [] → s.engineCheck 0x101 = none →
        exec (.helloSend west) s = .next (settle s (s.startOwn (.helloKey (linkNo west)) 0x101 {} [] [] true))) ∧
      ((s.trkLink west).helloSeed ≠ [] → exec (.helloSend west) s = .next (settle s
        (s.startSign (.helloSign (linkNo west)) "GY-TRK" (s.helloBody map west))))) ∧
    (∀ map seed, s.trk.map = some map → (s.trkLink west).up = true → (s.trkLink west).keyed = false → s.jrnKey = true →
      let u := s.modLink west fun l => { l with helloSeed := seed }
      s.helloKeyed west seed = u.startSign (.helloSign (linkNo west)) "GY-TRK" (u.helloBody map west)) ∧
    (∀ msg sig, (s.trkLink west).up = true → (s.trkLink west).keyed = false →
      (s.helloReady west msg sig).out = s.out ++ [.trunk west ([0x02, 0x47, 0x59, 0x54, 0x52, 0x4B] ++ s.trunkSa ++ [0x88, 0xB5] ++ (msg ++ sig))]) ∧
    ((s.trkLink west).keyed = true → exec (.heartbeatSend west) s = .next (settle s (s.trkSend west 0x10 0xFF false
      ((s.egressStamp (trunkPort west)).full s.qualityCode ++ fit 12 (s.trkLink west).hbTx ++ fit 12 (s.trkLink west).hbRx)))) ∧
    (∀ map, s.trk.map = some map → (s.trkLink west).hbTx ≠ [] → (s.trkLink west).lost = false → (s.trkLink west).probe = none →
      let n := s.freeNat.1 % 2 ^ 64
      exec (.heartbeatSilence west) s = .next (settle s ((s.freeNat.2.modLink west fun l => { l with probe := some n }).trkSend (!west) 0x22
        (map.neighbour west) true (s.serialBytes ++ toBE 8 (map.serial (map.neighbour west)) ++ toLE 8 n)))) ∧
    ((s.trkLink west).probe.isSome = true → exec (.probeTimeout west) s = .next (settle s (s.loseNeighbour west))) ∧
    (∀ m p, (s.trk.pending.find? fun m => !m.acked) = some m → s.target = some p →
      let again (x : MirrorMsg) : MirrorMsg := if x.lseq = m.lseq then { x with tries := x.tries + 1 } else x
      (m.tries < 3 → exec .mirrorAckTimeout s = .next (settle s
        (((s.modTrk fun t => { t with pending := t.pending.map again }).count Reg.trkMirrorRetx).resendMirror m))) ∧
      (3 ≤ m.tries → exec .mirrorAckTimeout s = .next (settle s (s.loseTarget p)))) ∧
    (2 ≤ s.trk.committed → exec .rxStateSend s = .next (settle s (s.mirrorMany s.rxStates))) ∧
    (∀ serial l map, s.trk.takeover = some (serial, l) → s.trk.map = some map → s.trk.mapWait = none →
      ∃ u, exec (.takeoverDone [] .clean) s = .next u ∧ u.trk.takeover = none ∧ u.trk.tookOver = true) ∧
    (∀ x, s.trk.epoch = some x → x.failed = false →
      (x.resent = true → exec .epochPassTimeout s = .next (settle s (s.failEpoch x))) ∧
      (x.resent = false → exec .epochPassTimeout s = .next (settle s (s.startPass { x with resent := true })))) ∧
    (s.trk.epoch = none → (s.slot 7).valid = true → exec .epochPassTimeout s = .next (settle s s.dropNextKey)) ∧
    (∀ x, s.trk.epoch = some x → x.failed = true → exec .epochRetry s = .next (settle s (s.startPass x))) ∧
    (s.trk.epoch = none → exec .epochRetry s = .next (settle s s.keeperAct)) ∧
    exec .oldRingKeyExpire s = .next { s with trk := { s.trk with
      east := { s.trk.east with oldKey := [] }, west := { s.trk.west with oldKey := [] } } } ∧
    (∀ m, Begun s slot 0xA00 0xA00 t → e.zeroFrom 40 55 = true → e.keySlot = noSlot → t.dmaFail = none → s.readMap t.input = some m →
      s.trk.takeover = none → exec (.ringMapSet slot) s = .next (settle s ((s.applyMap m).complete slot 0 0 []))) ∧
    (Canonical s → Begun s slot 0xA01 0xA01 t → e.zeroFrom 40 55 = true → e.keySlot = noSlot → e.msgLen = 0 → t.dmaFail = none →
      s.trk.mapWait = none → ∃ u, exec (.ringMapClear slot) s = .next u ∧ u.trk.map = none ∧ u.slot 6 = slotReset 6 ∧ u.slot 7 = slotReset 7 ∧
        u.trk.partner = {} ∧ u.trk.epoch = none) ∧
    (Begun s slot 0xA02 0xA02 t → e.zeroFrom 40 55 = true → e.keySlot = noSlot → e.msgLen = 0 → t.dmaFail = none → 64 ≤ e.outCap →
      exec (.ringStatus slot) s = .next (settle s (s.complete slot 0 0 s.ringStatus))) ∧
    (Begun s slot 0xA03 0xA03 t → e.zeroFrom 42 55 = true → e.p8 40 < 2 → e.p8 41 = 0 → e.keySlot = noSlot → e.msgLen = 0 →
      s.trk.map.isSome = true → s.isKeeper = true → (e.p8 40 = 1 → 2 ≤ s.trk.committed) → t.dmaFail = none → 16 ≤ e.outCap →
      exec (.ringEpoch slot) s = .next (settle s
        (((s.busy slot).modTrk fun x => { x with waiting := x.waiting ++ [slot] }).nextEpoch)))

/-- COUNT acts within 1 and its ceiling, WINDOW as at least COUNT, the class as at least its floor. A tick qualifies a source exactly when it is not still held from an earlier qualification and the last WINDOW
ticks hold COUNT events. An alarm raises the response to its class and never lowers it. TAMPER_TICK runs its sources: 0 to 4 and source 5 on main power below P4, those of the understorey always. TALLY_BURN_DONE
burns one tally bit and lowers the latch. RESP_CLEAR ends DEGRADE and no higher response; TEM_LOCK locks, and while locked SRC_CFG and thresholds ignore writes. RTC_SET loads the clock; RTC_SYNC takes the TSU's
seconds; the two reads latch and return. -/
def Obligations.TamperCommandsComplete : Prop :=
  (∀ (x : Source) (n c : Nat), countCeiling n = some c → 1 ≤ x.needed n ∧ x.needed n ≤ c ∧ (1 ≤ x.count → x.count ≤ c → x.needed n = x.count)) ∧
  (∀ (x : Source) (n : Nat), x.needed n ≤ x.span n ∧ sourceFloor n ≤ x.class_ n ∧ x.cls ≤ x.class_ n) ∧
  (∀ (x : Source) (n ev : Nat) (act : Bool), (x.tick n ev act).2 = true ↔
    x.latched = false ∧ x.needed n ≤ ((ev :: x.history).take (x.span n)).sum) ∧
  (∀ (s : State) (src cls a b : Nat), (s.alarm src cls a b).tem.resp = max s.tem.resp cls) ∧
  ∀ s : State,
    (∀ inputs lo hi xs vb edges, exec (.tamperTick (.understorey inputs lo hi xs vb edges)) s =
      .next (settle s (s.ustTick inputs lo hi xs vb edges))) ∧
    (s.mainPower = true → s.pwr.state < 4 →
      (∀ mesh light vdd vf ck cf, exec (.tamperTick (.main mesh light vdd vf ck cf)) s =
        .next (settle s (s.mainTick mesh light vdd vf ck cf))) ∧
      exec (.tamperTick .burst) s = .next (settle s
        (({ s with tem := { s.tem with internal := 0 } } : State).tickMany 5 s.tem.internal))) ∧
    (∀ g n k : Nat, s.ust.latch[g]? = some (n + 1) → s.tem.tallies[g]? = some k → k < 1024 → s.mainPower = true →
      ∃ u, exec (.tallyBurnDone g) s = .next u ∧ u.ust.latch[g]? = some n ∧ u.tem.tallies[g]? = some (k + 1) ∧
        ∀ h, h ≠ g → u.ust.latch[h]? = s.ust.latch[h]? ∧ u.tem.tallies[h]? = s.tem.tallies[h]?) ∧
    (∀ v : W32, s.regsOpen = true → s.blockDown Reg.temRespClear = false → flag v 0 = true →
      (s.tem.resp = 1 → ∃ u, exec (.respClearDegrade v) s = .next u ∧ u.tem.resp = 0) ∧
      (s.tem.resp ≠ 1 → exec (.respClearDegrade v) s = .next s)) ∧
    (∀ v : W32, s.regsOpen = true → s.blockDown Reg.temLock = false → flag v 0 = true →
      exec (.temLock v) s = .next { s with tem := { s.tem with locked := true } }) ∧
    (∀ v : W32, s.tem.locked = true → s.srcCfgWrite v = s ∧ s.hardWrite v = s ∧ s.baseLimWrite v = s ∧
      (s.marginWrite v).tem = s.tem) ∧
    (∀ v : W32, s.regsOpen = true → s.blockDown Reg.ustRtcCtrl = false → flag v 0 = true → Canonical s →
      ∃ u, exec (.rtcSet v) s = .next u ∧ u.ust.rtcSub = 0 ∧ u.ust.rtcValid = true ∧
        u.ust.rtcSec = (s.reg Reg.ustRtcSetLo).toNat + 2 ^ 32 * field (s.reg Reg.ustRtcSetHi) 15 0) ∧
    (flag (s.reg Reg.ustRtcCtrl) 1 = true → s.qualityCode = 0 → s.mainPower = true →
      exec .rtcSync s = .next { s with ust := { s.ust with rtcSec := s.tod.sec, rtcSub := 0, rtcValid := true } }) ∧
    (s.lcs.phase ≠ .reset → s.lcs.state ≠ .terminated → s.blockDown Reg.ustRtcSub = false → s.blockDown Reg.ustLogData0 = false →
      exec .rtcSubRead s = .next (({ s with ust := { s.ust with rtcLatch := s.ust.rtcSec } } : State).emit
        (.readData (BitVec.ofNat 32 s.ust.rtcSub))) ∧
      exec .logData0Read s = .next (({ s with ust := { s.ust with logLatch := s.selLog.drop 1 } } : State).emit
        (.readData (s.selLog.headD 0))))

/-- CARD_INSERT and CARD_REMOVE note the card; a removal ends the command in progress with CARD_REMOVED. A block that arrives is taken as the ATR, the answer to the PPS or a T=1 block; waits that run out deactivate the card. In its
turn CARD_ACTIVATE awaits the ATR, CARD_DEACTIVATE completes, CARD_APDU sends its APDU, a sealed command or CEREMONY_CARD with a session open sends its first secure exchange, and without one draws 64 bytes and selects the
application. CEREMONY_BEGIN opens a ceremony and sets slot 9; CEREMONY_END of an abandoned one ends it; a lapse clears slot 9. A read of CRD.RX_DATA takes the next byte. -/
def Obligations.CardCommandsComplete : Prop :=
  ∀ (s : State) (slot : Nat) (t : Track),
    let e := t.entry
    let c := s.crd
    (∀ b, c.present = false → exec (.cardInsert b) s =
      .next (settle s (({ s with crd := { c with present := true, classB := b } } : State).raise Reg.crdEvent 1))) ∧
    (c.present = true → exec .cardRemove s = .next (settle s ((((s.cardOff.modCrd fun c => { c with present := false }).raise
      Reg.crdEvent 2).count Reg.crdRemovals).cardFail 0x29 0))) ∧
    (∀ b ok, (c.wait = .atr → exec (.t1BlockReceive b ok) s = .next (settle s (s.atrReceive b ok))) ∧
      (c.wait = .pps → flag (s.reg Reg.crdCtrl) 0 = false →
        exec (.t1BlockReceive b ok) s = .next (settle s (s.ppsReceive b ok))) ∧
      ((c.wait = .ifs ∨ c.wait = .apdu) → flag (s.reg Reg.crdCtrl) 0 = false →
        exec (.t1BlockReceive b ok) s = .next (settle s (s.t1Receive b ok)))) ∧
    (∀ ms, c.wait = .apdu → max 1 (field (s.reg Reg.crdWtxLimit) 15 0) < c.t1.waited + ms →
      exec (.t1WaitTimeout ms) s = .next (settle s ((s.modT1 fun t => { t with waited := t.waited + ms }).cardBroken 0xF2))) ∧
    (c.wait = .atr → exec .atrWaitTimeout s = .next (settle s (s.cardBroken 0xF0))) ∧
    exec .ceremonyLapse s = .next (settle s s.lapseCeremony) ∧
    (s.lcs.phase ≠ .reset → s.lcs.state ≠ .terminated → s.blockDown Reg.crdRxData = false →
      (∀ b rest, c.rx = b :: rest → exec .crdRxDataRead s =
        .next (({ s with crd := { c with rx := rest } } : State).emit (.readData (BitVec.ofNat 32 b.toNat)))) ∧
      (c.rx = [] → exec .crdRxDataRead s = .next (settle s ((s.raise Reg.crdRxStatus 1).emit (.readData 0))))) ∧
    (e.keySlot = noSlot → t.dmaFail = none → s.cardTurn t = true →
      (Begun s slot 0xB00 0xB00 t → e.zeroFrom 40 55 = true → e.msgLen = 0 → 40 ≤ e.outCap →
        exec (.cardActivate slot) s = .next (settle s
          ((s.cardOff.cardStart slot).modCrd fun c => { c with wait := .atr, clkDiv := 50, rx := [], atr := [] }))) ∧
      (Begun s slot 0xB01 0xB01 t → e.zeroFrom 40 55 = true → e.msgLen = 0 →
        exec (.cardDeactivate slot) s = .next (settle s (s.cardOff.complete slot 0 0 []))) ∧
      (c.active = true →
        (Begun s slot 0xB02 0xB02 t → e.zeroFrom 40 55 = true → 4 ≤ e.msgLen → e.msgLen ≤ 4105 → 2 ≤ e.outCap →
          natAt t.input 0 ≠ 0x84 → natAt t.input 3 ≠ 0 →
          exec (.cardApdu slot) s = .next (settle s ((s.cardStart slot).sendApdu .raw t.input))) ∧
        (Begun s slot 0xB20 0xB20 t → e.zeroFrom 41 55 = true → e.p8 40 ≤ 15 → e.msgLen = 0 → 260 ≤ e.outCap →
          exec (.sealedRead slot) s = .next (settle s (s.sealedStart slot))) ∧
        (Begun s slot 0xB21 0xB21 t → e.zeroFrom 41 55 = true → 1 ≤ e.p8 40 → e.p8 40 ≤ 15 → e.msgLen = 256 → 4 ≤ e.outCap →
          exec (.sealedWrite slot) s = .next (settle s (s.sealedStart slot))) ∧
        (Begun s slot 0xB22 0xB22 t → e.zeroFrom 40 55 = true → e.msgLen = 0 → 4 ≤ e.outCap →
          exec (.sealedCounter slot) s = .next (settle s (s.sealedStart slot))) ∧
        (∀ x, Begun s slot 0xB11 0xB11 t → e.zeroFrom 40 55 = true → e.msgLen = 0 → 16 ≤ e.outCap → c.cer = some x → x.kind = 2 →
          x.cards.length < 8 → exec (.ceremonyCard slot) s = .next (settle s (s.sealedStart slot))) ∧
        (Begun s slot 0xB10 0xB10 t → e.zeroFrom 43 55 = true → e.p8 40 = 2 → 2 ≤ e.p8 41 → e.p8 41 ≤ 8 → e.p8 42 = 0 → e.msgLen = 0 →
          c.cer = none → s.kindAllowed 2 = true → s.rng.fault = false → s.drbgServes 1 = true →
          exec (.ceremonyBegin slot) s = .next (settle s ((((s.draw 1 32).2.setSlot 9
            (deviceSlot 9 ((s.draw 1 32).1.take 32) s.lcs.testRoot)).modCrd fun c => { c with
              cer := some { kind := 2, m := e.p8 41, n := 0, coeffs := [] } }).complete slot 0 0 []))) ∧
        (∀ x, Begun s slot 0xB12 0xB12 t → e.p8 40 = 1 → e.zeroFrom 41 55 = true → e.msgLen = 0 → c.cer = some x →
          exec (.ceremonyEnd slot) s = .next (settle s (s.dropCeremony.complete slot 0 0 []))))) ∧
    (s.cardTurn t = false → Begun s slot 0xB01 0xB01 t → exec (.cardDeactivate slot) s = .next s) ∧
    (c.session = none → s.rng.fault = false → s.drbgServes 1 = true → s.sealedStart slot =
      (((s.draw 1 64).2.cardStart slot).modCrd fun c => { c with nonce := (s.draw 1 64).1 }).sendApdu .select
        (apduBytes [0x00, 0xA4, 0x04, 0x00] custodyAid 0)) ∧
    (c.session.isSome = true → s.sealedStart slot = (s.cardStart slot).sealedOp)

/-- A PA lies in stack PA[9:8] and pseudo-channel PA[14:10]; the partitions lie one behind the other in the order SA, JRN, SPILL, OWN. A line written to an
encrypted partition stands under AES-256-XTS with the two halves of the memory key and the tweak PA ÷ 64, one of JRN stands as it is; no other line changes.
Without the key an encrypted partition takes nothing and reads as zeros. A read is judged by the outer decoder and the stack's severity as R478 gives it.
PATROL_SCRUB judges the next line and moves on, or counts a pass at the last; it counts a corrected read by its kind and writes back what the outer code
corrected, without a key. HOT_REFRESH_CHANGE takes a stack's temperature, hot above 85 °C. -/
def Obligations.HbmLines : Prop :=
  (∀ pa : Nat, hbmStack pa = pa / 256 % 4 ∧ hbmChannel pa = pa / 1024 % 32) ∧
  (∀ n sev : Nat, readVerdict none sev = .uncorrectable ∧
    (readVerdict (some n) sev = .outer ↔ 1 ≤ n ∧ (n ≤ 2 ∨ (n ≤ 4 ∧ sev ≠ 3))) ∧
    (readVerdict (some n) sev = .uncorrectable ↔ 2 < n ∧ (4 < n ∨ sev = 3)) ∧
    (readVerdict (some n) sev = .inner ↔ n = 0 ∧ (sev = 1 ∨ sev = 2))) ∧
  (∀ (s : State) (pa : Nat) (b : Bytes), Canonical s → b.length = 64 →
    (s.partOf pa = 1 ↔ s.partStart 1 ≤ pa ∧ pa < s.partStart 2) ∧ (s.partOf pa = 2 ↔ s.partStart 2 ≤ pa ∧ pa < s.partStart 3) ∧
    (s.partOf pa = 1 → (s.putLine pa b).storedLine pa = b ∧ s.getLine pa = s.storedLine pa) ∧
    (∀ k, s.partOf pa ≠ 1 → s.mem.key = some k →
      (s.putLine pa b).storedLine pa = stdOut 64 .aesXtsEnc 0 [k.take 32, k.drop 32, toLE 16 (pa / 64), b] ∧
      s.getLine pa = stdOut 64 .aesXtsDec 0 [k.take 32, k.drop 32, toLE 16 (pa / 64), s.storedLine pa]) ∧
    (s.partOf pa ≠ 1 → s.mem.key = none → s.putLine pa b = s ∧ s.getLine pa = zeros 64) ∧
    (∀ x, x / 64 ≠ pa / 64 → (s.putLine pa b).storedLine x = s.storedLine x)) ∧
  ∀ s : State,
    (s.scrubActive = true → ∀ flips sev,
      let n := s.mem.scrubPos
      let d := rsDecode (stackWord (s.storedLine (64 * n)) flips)
      let verdict := readVerdict (d.map (·.2)) sev
      (verdict = .clean → n + 1 < hbmLines → exec (.patrolScrub flips sev) s = .next { s with mem := { s.mem with scrubPos := n + 1 } }) ∧
      (∀ r, d = some r → verdict = .outer → n + 1 < hbmLines → exec (.patrolScrub flips sev) s =
        .next (settle s (((s.count Reg.memCeOuter).storeLine (64 * n) r.1).modMem fun m => { m with scrubPos := n + 1 }))) ∧
      (verdict = .inner → n + 1 < hbmLines → exec (.patrolScrub flips sev) s =
        .next (settle s ((s.count Reg.memCeInner).modMem fun m => { m with scrubPos := n + 1 }))) ∧
      (verdict = .clean → hbmLines ≤ n + 1 → exec (.patrolScrub flips sev) s =
        .next (settle s ((s.modMem fun m => { m with scrubPos := 0 }).modReg Reg.memScrubPasses (· + 1))))) ∧
    (∀ i temp x, s.mem.hbm[i]? = some x → ∃ u, exec (.hotRefreshChange i temp) s = .next u ∧
      u.mem.hbm[i]? = some { x with temp := temp, hot := decide (85 < temp) })

/-- The next voltage target lies within the bounds in force when the present one does, and moves by at most STEP_MV, or two on a droop boost; one that
lies outside comes back by at most as much. AVS_STEP writes it to the regulator. A droop episode stretches the clocks and counts. SERDES_ADAPT_STEP leaves
a CTLE code within bounds where it is within them, and changes it by at most one; a parameter outside its bounds is moved first; a frozen lane keeps its
values. The calibrations begin in their turn and complete with their results. -/
def Obligations.LoopCommandsComplete : Prop :=
  (∀ s : State, s.vddBounds.1 ≤ s.vddBounds.2 → ∀ slack : Int,
    (s.vddBounds.1 ≤ s.avsMv → s.avsMv ≤ s.vddBounds.2 →
      s.vddBounds.1 ≤ s.avsTarget slack ∧ s.avsTarget slack ≤ s.vddBounds.2 ∧ s.avsMv ≤ s.avsTarget slack + s.avsStepMv ∧
      s.avsTarget slack ≤ s.avsMv + 2 * s.avsStepMv ∧ (s.adl.boosts ≤ s.boostLimit → s.avsTarget slack ≤ s.avsMv + s.avsStepMv)) ∧
    (s.vddBounds.2 < s.avsMv → s.avsTarget slack < s.avsMv ∧ s.avsMv ≤ s.avsTarget slack + s.avsStepMv) ∧
    (s.avsMv < s.vddBounds.1 → s.avsMv < s.avsTarget slack ∧ s.avsTarget slack ≤ s.avsMv + 2 * s.avsStepMv)) ∧
  (∀ (x : Lane) (up : Bool), x.ctleMin ≤ x.ctle → x.ctle ≤ x.ctleMax →
    x.ctleMin ≤ (x.step 0 up).ctle ∧ (x.step 0 up).ctle ≤ x.ctleMax ∧ (x.step 0 up).ctle ≤ x.ctle + 1 ∧ x.ctle ≤ (x.step 0 up).ctle + 1) ∧
  (∀ (x : Lane) (m : Option (Nat × Bool)), (x.freeze = true → x.adapt m = x) ∧
    (∀ k, x.freeze = false → x.stray = some k → x.adapt m = x.step k true) ∧
    (∀ p up, x.freeze = false → x.stray = none → m = some (p, up) → x.adapt m = x.step p up)) ∧
  ∀ (s : State) (slot : Nat) (t : Track),
    let e := t.entry
    (∀ slacks,
      let slack := s.leastSlack slacks
      s.avsRuns = true → s.adl.hold = false → Canonical s → 0 ≤ slack → s.avsTarget slack < 2 ^ 10 →
      ∃ u, exec (.avsStep slacks true) s = .next u ∧ u.avsMv = s.avsTarget slack ∧ u.adl.boosts = 0 ∧
        ∃ rest, u.out = s.out ++ .avs (s.avsTarget slack) :: rest) ∧
    (∀ slacks b, s.avsRuns = true → s.adl.hold = true → exec (.avsStep slacks b) s =
      .next (settle s ((s.emit (.avs s.avsMv)).modAdl fun a => { a with hold := !b, boosts := 0 }))) ∧
    (s.adl.stretched = false → s.lcs.phase ≠ .reset → exec .droopEpisodeBegin s = .next (settle s
      ((s.modAdl fun a => { a with stretched := true, boosts := a.boosts + 1 }).count Reg.adlDroopCount))) ∧
    exec .droopEpisodeEnd s = .next { s with adl := { s.adl with stretched := false } } ∧
    (∀ n m eye x, s.regsOpen = true → s.lanePowered n = true → s.adl.lanes[n]? = some x →
      exec (.serdesAdaptStep n m eye) s = .next (settle s ((s.modLane n fun x => x.adapt m).eyeMeasured n eye))) ∧
    (Begun s slot 0xD20 0xD20 t → e.zeroFrom 40 55 = true → e.msgLen = 0 → e.keySlot = noSlot → t.dmaFail = none → 8 ≤ e.outCap →
      s.calibTurn t = true → exec (.avsCalibrate slot) s = .next (settle s
        ((s.busy slot).modAdl fun a => { a with calib := some { slot := slot, serdes := false } }))) ∧
    (∀ c monitors offsets, s.adl.calib = some c → c.serdes = false →
      let l := monitors.zip offsets
      exec (.avsCalibrationEnd monitors offsets) s = .next (settle s
      ((s.modAdl fun a => { a with
        calib := none, offsets := l.foldl (fun m p => Sparse.set (fun _ => 0) m p.1 p.2) a.offsets }).complete c.slot 0 0
        (toLE 2 l.length ++ toLE 2 (BitVec.ofInt 16 (s.adl.largestChange l)).toNat ++ zeros 4)))) ∧
    (∀ (a : Adl) (l : List (Nat × Int)), (∀ p ∈ l, (p.2 - a.offset p.1).natAbs ≤ (a.largestChange l).natAbs) ∧
      (a.largestChange l = 0 ∨ ∃ p ∈ l, a.largestChange l = p.2 - a.offset p.1)) ∧
    (Begun s slot 0xD21 0xD21 t → e.zeroFrom 43 55 = true → e.msgLen = 0 → e.keySlot = noSlot → e.p8 42 = 0 → e.p8 41 ≠ 0 →
      e.p8 41 &&& s.targetLanes (e.p8 40) = e.p8 41 → t.dmaFail = none → 16 ≤ e.outCap → s.calibTurn t = true →
      exec (.serdesRecal slot) s = .next (settle s ((s.busy slot).modAdl fun a => { a with
        calib := some { slot := slot, serdes := true, target := e.p8 40, lanes := e.p8 41, restart := false } }))) ∧
    (∀ c, s.adl.calib = some c → c.serdes = true → c.restart = false → ∃ u, exec (.serdesRecalEnd []) s = .next u ∧ u.adl.calib = none ∧
      u.adl.lanes = s.adl.lanes)

/-- Each of the commands answers a next state in every state, REGISTER_WRITE for every key that a function's BAR0 or configuration space holds. So does a step with such a command at
the front of the queue; and a step on an empty queue answers a next state whose queue is empty. -/
def Obligations.EveryCommandAnswers : Prop :=
  (∀ (c : Instr) (s : State), (∀ k v, c = .registerWrite k v → targetOf k ≠ .outside) → ∃ u, exec c s = .next u) ∧
  (∀ (c : Instr) (rest : List Instr) (s : State), s.pending = c :: rest → (∀ k v, c = .registerWrite k v → targetOf k ≠ .outside) →
    ∃ u, step s = .next u) ∧
  (∀ s : State, s.pending = [] → ∃ u, step s = .next u ∧ u.pending = [])

/-- From every state whose sparse tables (registers, functions, channels, queues, MSI-X vectors, completion tracker, key slots) have their canonical form, keys strictly rising and nothing listed that an unlisted key holds anyway, a step that
answers a next state leaves them in that form: equal machines stay equal data, whatever the command. That the tables are kept so is the model's choice (log entry 5). -/
def Obligations.StepKeepsCanonical : Prop :=
  ∀ s u : State, Canonical s → step s = .next u → Canonical u
end

