-- ==== Sys2Proof/Laws/Sparse.lean ====
section
/-!
SUPPORT. The laws of sparse tables: what a key holds after each operation, and that every operation keeps the canonical form.
-/
namespace Sys2Proof.Machine
open Sys2Proof

variable {α : Type} {d : Nat → α} {m : Sparse α}

/-- The keys of a table are all above a bound. -/
def Sparse.above (n : Nat) (m : Sparse α) : Prop := ∀ e ∈ m, n < e.1

/-- A table whose keys are above k holds the default at k. -/
theorem Sparse.get_above {k : Nat} (h : Sparse.above k m) : Sparse.get d m k = d k := by
  induction m with
  | nil => rfl
  | cons e m ih =>
    have h1 : k < e.1 := h e (by simp)
    simp [Sparse.get, Nat.ne_of_gt h1, ih fun x hx => h x (by simp [hx])]

theorem Sparse.above_insert {n k : Nat} {v : α} (h : Sparse.above n m) (hk : n < k) : Sparse.above n (Sparse.insert m k v) := by
  induction m with
  | nil => simpa [Sparse.insert, Sparse.above] using hk
  | cons e m ih =>
    have hm : Sparse.above n m := fun x hx => h x (by simp [hx])
    have he : n < e.1 := h e (by simp)
    unfold Sparse.insert
    split
    · simpa [Sparse.above, hk] using hm
    · split
      · simpa [Sparse.above, hk, he] using hm
      · simpa [Sparse.above, he] using ih hm

theorem Sparse.above_erase {n k : Nat} (h : Sparse.above n m) : Sparse.above n (Sparse.erase m k) := by
  induction m with
  | nil => exact h
  | cons e m ih =>
    have hm : Sparse.above n m := fun x hx => h x (by simp [hx])
    have he : n < e.1 := h e (by simp)
    unfold Sparse.erase
    split
    · exact hm
    · split
      · exact h
      · simpa [Sparse.above, he] using ih hm

variable [DecidableEq α]

/-- The canonical form, entry by entry. -/
theorem Sparse.wf_cons (j : Nat) (v : α) :
    Sparse.wf d ((j, v) :: m) = true ↔ v ≠ d j ∧ Sparse.above j m ∧ Sparse.wf d m = true := by
  induction m generalizing j v with
  | nil => simp [Sparse.wf, Sparse.above]
  | cons e m ih =>
    obtain ⟨k, w⟩ := e
    rw [ih k w]
    simp only [Sparse.wf, Bool.and_eq_true, decide_eq_true_eq, Sparse.above, List.mem_cons, forall_eq_or_imp, ih k w]
    constructor
    · rintro ⟨⟨h1, h2⟩, h3, h4, h5⟩
      exact ⟨h1, ⟨h2, fun e he => Nat.lt_trans h2 (h4 e he)⟩, h3, h4, h5⟩
    · rintro ⟨h1, ⟨h2, _⟩, h3, h4, h5⟩
      exact ⟨⟨h1, h2⟩, h3, h4, h5⟩

@[simp] theorem Sparse.wf_nil : Sparse.wf d ([] : Sparse α) = true := rfl

/-- Putting an entry that is not a default keeps the canonical form. -/
theorem Sparse.wf_insert {k : Nat} {v : α} (h : Sparse.wf d m = true) (hv : v ≠ d k) : Sparse.wf d (Sparse.insert m k v) = true := by
  induction m with
  | nil => simpa [Sparse.insert, Sparse.wf] using hv
  | cons e m ih =>
    obtain ⟨j, w⟩ := e
    obtain ⟨h1, h2, h3⟩ := (Sparse.wf_cons j w).1 h
    unfold Sparse.insert
    split
    · next hjk => subst hjk; exact (Sparse.wf_cons j v).2 ⟨hv, h2, h3⟩
    · split
      · next hlt =>
        exact (Sparse.wf_cons k v).2 ⟨hv, fun e he => by
          rcases List.mem_cons.1 he with rfl | he
          · exact hlt
          · exact Nat.lt_trans hlt (h2 e he), h⟩
      · exact (Sparse.wf_cons j w).2 ⟨h1, Sparse.above_insert h2 (by omega), ih h3⟩

/-- Unlisting a key keeps the canonical form. -/
theorem Sparse.wf_erase {k : Nat} (h : Sparse.wf d m = true) : Sparse.wf d (Sparse.erase m k) = true := by
  induction m with
  | nil => exact h
  | cons e m ih =>
    obtain ⟨j, w⟩ := e
    obtain ⟨h1, h2, h3⟩ := (Sparse.wf_cons j w).1 h
    unfold Sparse.erase
    split
    · exact h3
    · split
      · exact h
      · exact (Sparse.wf_cons j w).2 ⟨h1, Sparse.above_erase h2, ih h3⟩

/-- Setting a key keeps the canonical form, whatever the value. -/
theorem Sparse.wf_set {k : Nat} {v : α} (h : Sparse.wf d m = true) : Sparse.wf d (Sparse.set d m k v) = true := by
  unfold Sparse.set
  split
  · exact Sparse.wf_erase h
  · next hv => exact Sparse.wf_insert h hv

/-- Leaving entries out keeps the canonical form. -/
theorem Sparse.wf_filter {p : Nat × α → Bool} (h : Sparse.wf d m = true) : Sparse.wf d (m.filter p) = true := by
  induction m with
  | nil => rfl
  | cons e m ih =>
    obtain ⟨j, w⟩ := e
    obtain ⟨h1, h2, h3⟩ := (Sparse.wf_cons j w).1 h
    rw [List.filter_cons]
    split
    · exact (Sparse.wf_cons j w).2 ⟨h1, fun e he => h2 e (List.mem_filter.1 he).1, ih h3⟩
    · exact ih h3

/-- Unlisting a range keeps the canonical form. -/
theorem Sparse.wf_eraseRange {lo n : Nat} (h : Sparse.wf d m = true) : Sparse.wf d (Sparse.eraseRange m lo n) = true := Sparse.wf_filter h

/-- Changing values in place keeps the canonical form where no value becomes a default. -/
theorem Sparse.wf_map {f : Nat → α → α} (h : Sparse.wf d m = true) (hf : ∀ k v, v ≠ d k → f k v ≠ d k) :
    Sparse.wf d (m.map fun e => (e.1, f e.1 e.2)) = true := by
  induction m with
  | nil => rfl
  | cons e m ih =>
    obtain ⟨j, w⟩ := e
    obtain ⟨h1, h2, h3⟩ := (Sparse.wf_cons j w).1 h
    refine (Sparse.wf_cons j (f j w)).2 ⟨hf j w h1, ?_, ih h3⟩
    intro e he
    obtain ⟨x, hx, rfl⟩ := List.mem_map.1 he
    exact h2 x hx

/-- What a key holds after an entry was put. -/
theorem Sparse.get_insert {k i : Nat} {v : α} (h : Sparse.wf d m = true) :
    Sparse.get d (Sparse.insert m k v) i = if i = k then v else Sparse.get d m i := by
  induction m with
  | nil => simp [Sparse.insert, Sparse.get, eq_comm]
  | cons e m ih =>
    obtain ⟨j, w⟩ := e
    obtain ⟨h1, h2, h3⟩ := (Sparse.wf_cons j w).1 h
    have ih := ih h3
    unfold Sparse.insert
    split
    · next hjk =>
      subst hjk
      by_cases hi : i = j
      · simp [Sparse.get, hi]
      · simp [Sparse.get, hi, Ne.symm hi]
    · split
      · by_cases hi : i = k
        · simp [Sparse.get, hi]
        · simp [Sparse.get, hi, Ne.symm hi]
      · next hjk _ => by_cases hi : j = i
                      · subst hi; simp [Sparse.get, hjk]
                      · simp [Sparse.get, hi, ih]

/-- What a key holds after a key was unlisted. -/
theorem Sparse.get_erase {k i : Nat} (h : Sparse.wf d m = true) :
    Sparse.get d (Sparse.erase m k) i = if i = k then d k else Sparse.get d m i := by
  induction m with
  | nil => by_cases hi : i = k <;> simp [Sparse.erase, Sparse.get, hi]
  | cons e m ih =>
    obtain ⟨j, w⟩ := e
    obtain ⟨h1, h2, h3⟩ := (Sparse.wf_cons j w).1 h
    have ih := ih h3
    unfold Sparse.erase
    split
    · next hjk =>
      subst hjk
      by_cases hi : i = j
      · subst hi; simp [Sparse.get_above h2]
      · simp [Sparse.get, hi, Ne.symm hi]
    · split
      · next hjk hlt =>
        by_cases hi : i = k
        · subst hi
          have : Sparse.above i ((j, w) :: m) := fun e he => by
            rcases List.mem_cons.1 he with rfl | he
            · exact hlt
            · exact Nat.lt_trans hlt (h2 e he)
          simp [Sparse.get_above this]
        · simp [hi]
      · next hjk _ => by_cases hi : j = i
                      · subst hi; simp [Sparse.get, hjk]
                      · simp [Sparse.get, hi, ih]

/-- What a key holds after a key was set: a read after a write gives the value written, and every other key is left alone. -/
theorem Sparse.get_set {k i : Nat} {v : α} (h : Sparse.wf d m = true) :
    Sparse.get d (Sparse.set d m k v) i = if i = k then v else Sparse.get d m i := by
  unfold Sparse.set
  split
  · next hv => rw [Sparse.get_erase h, hv]
  · exact Sparse.get_insert h

end Sys2Proof.Machine
end

