-- ==== Sys2Proof/Laws/Extends.lean ====
section
/-!
SUPPORT. What every part of every command does: the queue of commands stays, the output only grows, free values are only used
up, burnt OTP bits stay burnt, and the sparse tables keep their canonical form. Each part of the step has one lemma
that says so.
-/
namespace Sys2Proof.Machine
open Sys2Proof

/-- The bits of a mark stay burnt. -/
def MarkLe (x y : W32 × W32 × W32) : Prop := x.1 &&& y.1 = x.1 ∧ x.2.1 &&& y.2.1 = x.2.1 ∧ x.2.2 &&& y.2.2 = x.2.2

/-- What is burnt in OTP stays burnt (R38, R45, R47, R59). -/
structure OtpLe (a b : Otp) : Prop where
  lc0 : a.lc0 &&& b.lc0 = a.lc0
  lc1 : a.lc1 &&& b.lc1 = a.lc1
  lc2 : a.lc2 &&& b.lc2 = a.lc2
  marksLength : a.marks.length = b.marks.length
  marks : ∀ (i : Nat) (x y : W32 × W32 × W32), a.marks[i]? = some x → b.marks[i]? = some y → MarkLe x y
  svnFw : a.svnFw ≤ b.svnFw
  svnLayout : a.svnLayout ≤ b.svnLayout
  svnMcode : a.svnMcode ≤ b.svnMcode
  dukA : a.dukA.isSome = true → b.dukA.isSome = true
  dukB : a.dukB.isSome = true → b.dukB.isSome = true
  seedA : a.seedA.isSome = true → b.seedA.isSome = true
  seedB : a.seedB.isSome = true → b.seedB.isSome = true
  ownerRecord : a.ownerRecord.isSome = true → b.ownerRecord.isSome = true

theorem MarkLe.refl (x : W32 × W32 × W32) : MarkLe x x := by simp [MarkLe]

theorem and_trans {n : Nat} {a b c : BitVec n} (h1 : a &&& b = a) (h2 : b &&& c = b) : a &&& c = a := by
  rw [← h1, BitVec.and_assoc, h2]

theorem MarkLe.trans {x y z : W32 × W32 × W32} (h1 : MarkLe x y) (h2 : MarkLe y z) : MarkLe x z :=
  ⟨and_trans h1.1 h2.1, and_trans h1.2.1 h2.2.1, and_trans h1.2.2 h2.2.2⟩

@[simp] theorem OtpLe.refl (a : Otp) : OtpLe a a where
  lc0 := by simp
  lc1 := by simp
  lc2 := by simp
  marksLength := rfl
  marks := fun i x y hx hy => by rw [hx] at hy; cases hy; exact .refl x
  svnFw := Nat.le_refl _
  svnLayout := Nat.le_refl _
  svnMcode := Nat.le_refl _
  dukA := id
  dukB := id
  seedA := id
  seedB := id
  ownerRecord := id

theorem OtpLe.trans {a b c : Otp} (h1 : OtpLe a b) (h2 : OtpLe b c) : OtpLe a c where
  lc0 := and_trans h1.lc0 h2.lc0
  lc1 := and_trans h1.lc1 h2.lc1
  lc2 := and_trans h1.lc2 h2.lc2
  marksLength := h1.marksLength.trans h2.marksLength
  marks := fun i x z hx hz => by
    have hlt : i < b.marks.length := by rw [← h1.marksLength]; exact (List.getElem?_eq_some_iff.1 hx).1
    exact (h1.marks i x _ hx (List.getElem?_eq_getElem hlt)).trans (h2.marks i _ z (List.getElem?_eq_getElem hlt) hz)
  svnFw := Nat.le_trans h1.svnFw h2.svnFw
  svnLayout := Nat.le_trans h1.svnLayout h2.svnLayout
  svnMcode := Nat.le_trans h1.svnMcode h2.svnMcode
  dukA := h2.dukA ∘ h1.dukA
  dukB := h2.dukB ∘ h1.dukB
  seedA := h2.seedA ∘ h1.seedA
  seedB := h2.seedB ∘ h1.seedB
  ownerRecord := h2.ownerRecord ∘ h1.ownerRecord

@[simp] theorem and_absorb {n : Nat} (a b : BitVec n) : a &&& (a ||| b) = a := by
  ext i h; simp; intro h1; simp [h1]

/-- A change of the burnt secrets alone. -/
@[simp] theorem OtpLe.roots_iff {o : Otp} {a b c d e} : OtpLe o { o with dukA := a, dukB := b, seedA := c, seedB := d, ownerRecord := e } ↔
    (o.dukA.isSome = true → a.isSome = true) ∧ (o.dukB.isSome = true → b.isSome = true) ∧ (o.seedA.isSome = true → c.isSome = true) ∧
    (o.seedB.isSome = true → d.isSome = true) ∧ (o.ownerRecord.isSome = true → e.isSome = true) :=
  ⟨fun h => ⟨h.dukA, h.dukB, h.seedA, h.seedB, h.ownerRecord⟩, fun ⟨h1, h2, h3, h4, h5⟩ =>
    ⟨by simp, by simp, by simp, rfl, (OtpLe.refl o).marks, by simp, by simp, by simp, h1, h2, h3, h4, h5⟩⟩
/-- One copy of the life-cycle code is burnt. -/
@[simp] theorem OtpLe.writeCopy (o : Otp) (code : W32) : OtpLe o (o.writeCopy code) := by
  unfold Otp.writeCopy
  have hm := (OtpLe.refl o).marks
  (repeat' split) <;> exact ⟨by simp [and_absorb], by simp [and_absorb], by simp [and_absorb], rfl, hm, by simp, by simp, by simp, id, id, id, id, id⟩

/-- The queue of commands that `r` has. -/
def SameQueue (r : State) (x : List Instr) : Prop := x = r.pending
/-- The output of `r`, and more. -/
def MoreOut (r : State) (x : List OutMsg) : Prop := r.out <+: x
/-- At least as many free values used as in `r`. -/
def MoreFree (r : State) (n : Nat) : Prop := r.freeUsed ≤ n
/-- What is burnt in `r` is burnt. -/
def MoreOtp (r : State) (o : Otp) : Prop := OtpLe r.lcs.otp o
/-- The registers are canonical if the tables of `r` are. -/
def RegsOk (r : State) (m : Sparse W32) : Prop := Canonical r → Sparse.wf regReset m = true
/-- The functions are canonical if the tables of `r` are. -/
def FuncsOk (r : State) (m : Sparse Func) : Prop := Canonical r → Sparse.wf funcReset m = true
/-- The channels are canonical if the tables of `r` are. -/
def ChansOk (r : State) (m : Sparse Channel) : Prop := Canonical r → Sparse.wf (fun _ => {}) m = true
/-- The queues are canonical if the tables of `r` are. -/
def QueuesOk (r : State) (m : Sparse Queue) : Prop := Canonical r → Sparse.wf (fun _ => {}) m = true
/-- The vectors are canonical if the tables of `r` are. -/
def VectorsOk (r : State) (m : Sparse Vector) : Prop := Canonical r → Sparse.wf (fun _ => {}) m = true
/-- The tracker are canonical if the tables of `r` are. -/
def TrackerOk (r : State) (m : Sparse (Option Track)) : Prop := Canonical r → Sparse.wf (fun _ => none) m = true
/-- The key slots are canonical if the tables of `r` are. -/
def SlotsOk (r : State) (m : Sparse KeySlot) : Prop := Canonical r → Sparse.wf slotReset m = true
/-- The lines of HBM are canonical if the tables of `r` are. -/
def LinesOk (r : State) (m : Sparse Bytes) : Prop := Canonical r → Sparse.wf (fun _ => zeros 64) m = true

/-- `s` comes after `r` in what one command does. -/
structure Extends (r s : State) : Prop where
  pending : SameQueue r s.pending
  out : MoreOut r s.out
  freeUsed : MoreFree r s.freeUsed
  otp : MoreOtp r s.lcs.otp
  regs : RegsOk r s.regs
  funcs : FuncsOk r s.funcs
  chans : ChansOk r s.chans
  queues : QueuesOk r s.queues
  vectors : VectorsOk r s.vectors
  tracker : TrackerOk r s.tracker
  slots : SlotsOk r s.kst.slots
  lines : LinesOk r s.mem.lines

@[simp ↓] theorem Extends.pending_simp {r s : State} (h : Extends r s) : SameQueue r s.pending := h.pending
@[simp ↓] theorem Extends.out_simp {r s : State} (h : Extends r s) : MoreOut r s.out := h.out
@[simp ↓] theorem Extends.freeUsed_simp {r s : State} (h : Extends r s) : MoreFree r s.freeUsed := h.freeUsed
@[simp ↓] theorem Extends.otp_simp {r s : State} (h : Extends r s) : MoreOtp r s.lcs.otp := h.otp
@[simp ↓] theorem Extends.regs_simp {r s : State} (h : Extends r s) : RegsOk r s.regs := h.regs
@[simp ↓] theorem Extends.funcs_simp {r s : State} (h : Extends r s) : FuncsOk r s.funcs := h.funcs
@[simp ↓] theorem Extends.chans_simp {r s : State} (h : Extends r s) : ChansOk r s.chans := h.chans
@[simp ↓] theorem Extends.queues_simp {r s : State} (h : Extends r s) : QueuesOk r s.queues := h.queues
@[simp ↓] theorem Extends.vectors_simp {r s : State} (h : Extends r s) : VectorsOk r s.vectors := h.vectors
@[simp ↓] theorem Extends.tracker_simp {r s : State} (h : Extends r s) : TrackerOk r s.tracker := h.tracker
@[simp ↓] theorem Extends.slots_simp {r s : State} (h : Extends r s) : SlotsOk r s.kst.slots := h.slots
@[simp ↓] theorem Extends.lines_simp {r s : State} (h : Extends r s) : LinesOk r s.mem.lines := h.lines

@[simp ↓] theorem Extends.refl (s : State) : Extends s s where
  pending := rfl
  out := List.prefix_rfl
  freeUsed := Nat.le_refl _
  otp := .refl _
  regs := fun h => h.regs
  funcs := fun h => h.funcs
  chans := fun h => h.chans
  queues := fun h => h.queues
  vectors := fun h => h.vectors
  tracker := fun h => h.tracker
  slots := fun h => h.slots
  lines := fun h => h.lines

theorem Extends.canonical {r s : State} (h : Extends r s) (c : Canonical r) : Canonical s :=
  ⟨h.regs c, h.funcs c, h.chans c, h.queues c, h.vectors c, h.tracker c, h.slots c, h.lines c⟩

/-- A state written out. -/
@[simp ↓] theorem Extends.mk_iff {r : State} {pending regs out freeUsed free lcs comb kst queues tracker fetched funcs chans vectors vfEnable
    numVfs saStage linkUp linkSpeed linkWidth lastFunc errLog tod tem ust pwr rng trk dge line tsu phw evj mem crd adl} :
    Extends r ⟨pending, regs, out, freeUsed, free, lcs, comb, kst, queues, tracker, fetched, funcs, chans, vectors, vfEnable, numVfs, saStage,
      linkUp, linkSpeed, linkWidth, lastFunc, errLog, tod, tem, ust, pwr, rng, trk, dge, line, tsu, phw, evj, mem, crd, adl⟩ ↔
      SameQueue r pending ∧ MoreOut r out ∧ MoreFree r freeUsed ∧ MoreOtp r lcs.otp ∧ RegsOk r regs ∧ FuncsOk r funcs ∧
      ChansOk r chans ∧ QueuesOk r queues ∧ VectorsOk r vectors ∧ TrackerOk r tracker ∧
      SlotsOk r kst.slots ∧ LinesOk r mem.lines :=
  ⟨fun h => ⟨h.pending, h.out, h.freeUsed, h.otp, h.regs, h.funcs, h.chans, h.queues, h.vectors, h.tracker, h.slots, h.lines⟩,
   fun ⟨h1, h2, h3, h4, h5, h6, h7, h8, h9, h10, h11, h12⟩ => ⟨h1, h2, h3, h4, h5, h6, h7, h8, h9, h10, h11, h12⟩⟩

@[simp ↓] theorem MoreOut.append {r : State} {x y : List OutMsg} (h : MoreOut r x) : MoreOut r (x ++ y) := h.trans (List.prefix_append x y)
@[simp ↓] theorem MoreFree.add {r : State} {n k : Nat} (h : MoreFree r n) : MoreFree r (n + k) := Nat.le_trans h (Nat.le_add_right n k)

section
variable {r : State}
@[simp ↓] theorem RegsOk.set {m : Sparse W32} {k v} (h : RegsOk r m) : RegsOk r (Sparse.set regReset m k v) := fun c => Sparse.wf_set (h c)
@[simp ↓] theorem RegsOk.filter {m : Sparse W32} {p} (h : RegsOk r m) : RegsOk r (m.filter p) := fun c => Sparse.wf_filter (h c)
@[simp ↓] theorem RegsOk.eraseRange {m : Sparse W32} {lo n} (h : RegsOk r m) : RegsOk r (Sparse.eraseRange m lo n) := fun c => Sparse.wf_eraseRange (h c)
@[simp ↓] theorem FuncsOk.set {m : Sparse Func} {k v} (h : FuncsOk r m) : FuncsOk r (Sparse.set funcReset m k v) := fun c => Sparse.wf_set (h c)
@[simp ↓] theorem FuncsOk.nil : FuncsOk r [] := fun _ => rfl
@[simp ↓] theorem ChansOk.set {m : Sparse Channel} {k v} (h : ChansOk r m) : ChansOk r (Sparse.set (fun _ => {}) m k v) := fun c => Sparse.wf_set (h c)
@[simp ↓] theorem ChansOk.nil : ChansOk r [] := fun _ => rfl
@[simp ↓] theorem ChansOk.erase {m : Sparse Channel} {k} (h : ChansOk r m) : ChansOk r (Sparse.erase m k) := fun c => Sparse.wf_erase (h c)
@[simp ↓] theorem QueuesOk.set {m : Sparse Queue} {k v} (h : QueuesOk r m) : QueuesOk r (Sparse.set (fun _ => {}) m k v) := fun c => Sparse.wf_set (h c)
@[simp ↓] theorem QueuesOk.nil : QueuesOk r [] := fun _ => rfl
@[simp ↓] theorem QueuesOk.eraseRange {m : Sparse Queue} {lo n} (h : QueuesOk r m) : QueuesOk r (Sparse.eraseRange m lo n) := fun c => Sparse.wf_eraseRange (h c)
@[simp ↓] theorem VectorsOk.set {m : Sparse Vector} {k v} (h : VectorsOk r m) : VectorsOk r (Sparse.set (fun _ => {}) m k v) := fun c => Sparse.wf_set (h c)
@[simp ↓] theorem VectorsOk.nil : VectorsOk r [] := fun _ => rfl
@[simp ↓] theorem VectorsOk.eraseRange {m : Sparse Vector} {lo n} (h : VectorsOk r m) : VectorsOk r (Sparse.eraseRange m lo n) := fun c => Sparse.wf_eraseRange (h c)
@[simp ↓] theorem TrackerOk.set {m : Sparse (Option Track)} {k v} (h : TrackerOk r m) : TrackerOk r (Sparse.set (fun _ => none) m k v) := fun c => Sparse.wf_set (h c)
@[simp ↓] theorem TrackerOk.nil : TrackerOk r [] := fun _ => rfl
@[simp ↓] theorem SlotsOk.set {m : Sparse KeySlot} {k v} (h : SlotsOk r m) : SlotsOk r (Sparse.set slotReset m k v) := fun c => Sparse.wf_set (h c)
@[simp ↓] theorem SlotsOk.nil : SlotsOk r [] := fun _ => rfl
@[simp ↓] theorem SlotsOk.eraseRange {m : Sparse KeySlot} {lo n} (h : SlotsOk r m) : SlotsOk r (Sparse.eraseRange m lo n) := fun c => Sparse.wf_eraseRange (h c)
@[simp ↓] theorem SlotsOk.filter {m : Sparse KeySlot} {p} (h : SlotsOk r m) : SlotsOk r (m.filter p) := fun c => Sparse.wf_filter (h c)
@[simp ↓] theorem LinesOk.set {m : Sparse Bytes} {k v} (h : LinesOk r m) : LinesOk r (Sparse.set (fun _ => zeros 64) m k v) := fun c => Sparse.wf_set (h c)
@[simp ↓] theorem LinesOk.nil : LinesOk r [] := fun _ => rfl
@[simp ↓] theorem LinesOk.eraseRange {m : Sparse Bytes} {lo n} (h : LinesOk r m) : LinesOk r (Sparse.eraseRange m lo n) := fun c => Sparse.wf_eraseRange (h c)
end

@[simp ↓] theorem Extends.ite {r s t : State} {c : Prop} [Decidable c] (hs : Extends r s) (ht : Extends r t) : Extends r (if c then s else t) := by
  split <;> assumption

/-- A state bound to a name. -/
theorem Extends.letState {r v : State} {b : State → State} (hv : Extends r v) (hb : ∀ x, Extends r x → Extends r (b x)) :
    Extends r (let x := v; b x) := hb v hv

/-- A value bound to a name. -/
theorem Extends.letValue {α : Type} {r : State} {v : α} {b : α → State} (hb : ∀ x, Extends r (b x)) : Extends r (let x := v; b x) := hb v

theorem Extends.foldl {α : Type} {r : State} {f : State → α → State} (h : ∀ s a, Extends r s → Extends r (f s a)) (l : List α) {s : State}
    (hs : Extends r s) : Extends r (l.foldl f s) := by
  induction l generalizing s with
  | nil => exact hs
  | cons a l ih => exact ih (h s a hs)

theorem Extends.foldr {α : Type} {r : State} {f : α → State → State} (h : ∀ s a, Extends r s → Extends r (f a s)) (l : List α) {s : State}
    (hs : Extends r s) : Extends r (l.foldr f s) := by
  induction l with
  | nil => exact hs
  | cons a l ih => exact h _ a ih

end Sys2Proof.Machine
end

