-- ==== Sys2Proof/Laws/ExtendsCore.lean ====
section
/-!
SUPPORT. Each part of a command extends the state it begins from: the shared operations, the engines, the completion of entries, aborts, fetching and entropy.
-/
namespace Sys2Proof.Machine
open Sys2Proof

@[simp ↓] theorem State.setReg_extends {r s : State} (h : Extends r s) (k v) : Extends r (s.setReg k v) := by
  unfold State.setReg; simp (maxDischargeDepth := 99) [*]

@[simp ↓] theorem State.modReg_extends {r s : State} (h : Extends r s) (k f) : Extends r (s.modReg k f) := by
  unfold State.modReg; simp (maxDischargeDepth := 99) [*]

@[simp ↓] theorem State.raise_extends {r s : State} (h : Extends r s) (k mask) : Extends r (s.raise k mask) := by
  unfold State.raise; simp (maxDischargeDepth := 99) [*]

@[simp ↓] theorem State.count_extends {r s : State} (h : Extends r s) (k) : Extends r (s.count k) := by
  unfold State.count; simp (maxDischargeDepth := 99) [*]

@[simp ↓] theorem State.emit_extends {r s : State} (h : Extends r s) (m) : Extends r (s.emit m) := by
  unfold State.emit; simp (maxDischargeDepth := 99) [*]

@[simp ↓] theorem State.freeNat_extends {r s : State} (h : Extends r s) : Extends r s.freeNat.2 := by
  unfold State.freeNat; simp (maxDischargeDepth := 99) [*]

@[simp ↓] theorem State.modRng_extends {r s : State} (h : Extends r s) (f) : Extends r (s.modRng f) := by
  unfold State.modRng; simp (maxDischargeDepth := 99) [*]

@[simp ↓] theorem State.modMask_extends {r s : State} (h : Extends r s) (c f) : Extends r (s.modMask c f) := by
  unfold State.modMask; simp (maxDischargeDepth := 99) [*]

@[simp ↓] theorem State.process_extends {r s : State} (h : Extends r s) (n k ps) : Extends r (State.process n k ps s) := by
  induction k generalizing s ps with
  | zero => exact h
  | succ k ih => unfold State.process; exact ih (by simp (maxDischargeDepth := 99) [h]) _

@[simp ↓] theorem State.cipherPass_extends {r s : State} (h : Extends r s) (bonded n) : Extends r (s.cipherPass bonded n) := by
  unfold State.cipherPass; simp (maxDischargeDepth := 99) [*]

@[simp ↓] theorem State.plainWrite_extends {r s : State} (h : Extends r s) (k v) : Extends r (s.plainWrite k v) := by
  unfold State.plainWrite; split <;> simp (maxDischargeDepth := 99) [*]

@[simp ↓] theorem State.setFunc_extends {r s : State} (h : Extends r s) (n f) : Extends r (s.setFunc n f) := by
  unfold State.setFunc; simp (maxDischargeDepth := 99) [*]

@[simp ↓] theorem State.setChan_extends {r s : State} (h : Extends r s) (n c) : Extends r (s.setChan n c) := by
  unfold State.setChan; simp (maxDischargeDepth := 99) [*]

@[simp ↓] theorem State.setQueue_extends {r s : State} (h : Extends r s) (f q x) : Extends r (s.setQueue f q x) := by
  unfold State.setQueue; simp (maxDischargeDepth := 99) [*]

@[simp ↓] theorem State.setVector_extends {r s : State} (h : Extends r s) (f v x) : Extends r (s.setVector f v x) := by
  unfold State.setVector; simp (maxDischargeDepth := 99) [*]

@[simp ↓] theorem State.setTrack_extends {r s : State} (h : Extends r s) (slot t) : Extends r (s.setTrack slot t) := by
  unfold State.setTrack; simp (maxDischargeDepth := 99) [*]

@[simp ↓] theorem State.setSlot_extends {r s : State} (h : Extends r s) (n k) : Extends r (s.setSlot n k) := by
  unfold State.setSlot; simp (maxDischargeDepth := 99) [*]

@[simp ↓] theorem State.emptySlot_extends {r s : State} (h : Extends r s) (n) : Extends r (s.emptySlot n) := by
  unfold State.emptySlot; simp (maxDischargeDepth := 99) [*]

@[simp ↓] theorem State.logAt_extends {r s : State} (h : Extends r s) (e) : Extends r (s.logAt e) := by
  unfold State.logAt; simp (maxDischargeDepth := 99) [*]

@[simp ↓] theorem State.log_extends {r s : State} (h : Extends r s) (e) : Extends r (s.log e) := by
  unfold State.log; simp (maxDischargeDepth := 99) [*]

@[simp ↓] theorem State.logEvent_extends {r s : State} (h : Extends r s) (code object detail) : Extends r (s.logEvent code object detail) := by
  unfold State.logEvent; simp (maxDischargeDepth := 99) [*]

@[simp ↓] theorem State.logDown_extends {r s : State} (h : Extends r s) (key detail) : Extends r (s.logDown key detail) := by
  unfold State.logDown; simp (maxDischargeDepth := 99) [*]

@[simp ↓] theorem State.regWrite_extends {r s k : State} (h : Extends r s) (hk : Extends r k) (key) : Extends r (s.regWrite key k) := by
  unfold State.regWrite; simp (maxDischargeDepth := 99) [*]

@[simp ↓] theorem State.regRead_extends {r s k : State} (h : Extends r s) (hk : Extends r k) (key) : Extends r (s.regRead key k) := by
  unfold State.regRead; simp (maxDischargeDepth := 99) [*]

@[simp ↓] theorem State.dirtyMark_extends {r s : State} (h : Extends r s) (f addr len) : Extends r (s.dirtyMark f addr len) := by
  unfold State.dirtyMark; simp +contextual (maxDischargeDepth := 99) [*, Extends.foldl]

@[simp ↓] theorem State.sendRun_extends {r s : State} (h : Extends r s) (relaxed w) : Extends r (s.sendRun relaxed w) := by
  unfold State.sendRun; simp +contextual (maxDischargeDepth := 99) [*, Extends.foldl]

@[simp ↓] theorem State.issueWrite_extends {r s : State} (h : Extends r s) (x) : Extends r (s.issueWrite x) := by
  unfold State.issueWrite; simp +contextual (maxDischargeDepth := 99) [*, Extends.foldl]

@[simp ↓] theorem State.sendWrite_extends {r s : State} (h : Extends r s) (w) : Extends r (s.sendWrite w) := by
  unfold State.sendWrite; simp (maxDischargeDepth := 99) [*]

@[simp ↓] theorem State.msix_extends {r s : State} (h : Extends r s) (f v) : Extends r (s.msix f v) := by
  unfold State.msix; simp (maxDischargeDepth := 99) [*]

@[simp ↓] theorem State.hostWrite_extends {r s : State} (h : Extends r s) (kind qid tag w) : Extends r (s.hostWrite kind qid tag w) := by
  unfold State.hostWrite; simp (maxDischargeDepth := 99) [*]

@[simp ↓] theorem settle_extends {r s t : State} (h : Extends r t) : Extends r (settle s t) := by
  unfold settle; simp (maxDischargeDepth := 99) [*]

@[simp ↓] theorem State.writeQcb_extends {r s : State} (h : Extends r s) (f qid) : Extends r (s.writeQcb f qid) := by
  unfold State.writeQcb; simp (maxDischargeDepth := 99) [*]

@[simp ↓] theorem State.checkIdle_extends {r s : State} (h : Extends r s) (f qid) : Extends r (s.checkIdle f qid) := by
  unfold State.checkIdle; simp (maxDischargeDepth := 99) [*]

@[simp ↓] theorem State.retireEntry_extends {r s : State} (h : Extends r s) (slot t) : Extends r (s.retireEntry slot t) := by
  unfold State.retireEntry; simp (maxDischargeDepth := 99) [*]

@[simp ↓] theorem State.completeLen_extends {r s : State} (h : Extends r s) (slot status ext len out) : Extends r (s.completeLen slot status ext len out) := by
  unfold State.completeLen; split <;> simp (maxDischargeDepth := 99) [*]

@[simp ↓] theorem State.complete_extends {r s : State} (h : Extends r s) (slot status ext out) : Extends r (s.complete slot status ext out) := by
  unfold State.complete; simp (maxDischargeDepth := 99) [*]

@[simp ↓] theorem State.fail_extends {r s : State} (h : Extends r s) (slot e) : Extends r (s.fail slot e) := by
  unfold State.fail; simp (maxDischargeDepth := 99) [*]

@[simp ↓] theorem State.releaseWrites_extends {r s : State} (h : Extends r s) (f) : Extends r (s.releaseWrites f) := by
  unfold State.releaseWrites; dsimp only; exact .foldl (fun s a h => by split <;> simp (maxDischargeDepth := 99) [h]) _ (.foldl (fun s w h => State.sendWrite_extends h w) _ (State.setChan_extends h _ _))

@[simp ↓] theorem State.modMem_extends {r s : State} (h : Extends r s) (f) (hf : LinesOk r (f s.mem).lines) : Extends r (s.modMem f) := by
  unfold State.modMem; simp (maxDischargeDepth := 99) [*]

@[simp ↓] theorem State.storeLine_extends {r s : State} (h : Extends r s) (pa b) : Extends r (s.storeLine pa b) := by
  unfold State.storeLine; simp (maxDischargeDepth := 99) [*]

@[simp ↓] theorem State.putLine_extends {r s : State} (h : Extends r s) (pa b) : Extends r (s.putLine pa b) := by
  unfold State.putLine; (repeat' split) <;> simp (maxDischargeDepth := 99) [*]

@[simp ↓] theorem State.putLines_extends {r s : State} (h : Extends r s) (pa n b) : Extends r (s.putLines pa n b) := by
  unfold State.putLines; simp +contextual (maxDischargeDepth := 99) [*, Extends.foldl]

@[simp ↓] theorem State.hbmUe_extends {r s : State} (h : Extends r s) (source ue tag) : Extends r (s.hbmUe source ue tag) := by
  unfold State.hbmUe; simp (maxDischargeDepth := 99) [*]

@[simp ↓] theorem State.noteRead_extends {r s : State} (h : Extends r s) (r0) : Extends r (s.noteRead r0) := by
  unfold State.noteRead; (repeat' split) <;> simp (maxDischargeDepth := 99) [*]

@[simp ↓] theorem State.modEngine_extends {r s : State} (h : Extends r s) (e f) : Extends r (s.modEngine e f) := by
  unfold State.modEngine; simp (maxDischargeDepth := 99) [*]

@[simp ↓] theorem State.setOps_extends {r s : State} (h : Extends r s) (l) : Extends r (s.setOps l) := by
  unfold State.setOps; simp (maxDischargeDepth := 99) [*]

@[simp ↓] theorem State.modOp_extends {r s : State} (h : Extends r s) (src f) : Extends r (s.modOp src f) := by
  unfold State.modOp; simp (maxDischargeDepth := 99) [*]

@[simp ↓] theorem State.dropOp_extends {r s : State} (h : Extends r s) (src) : Extends r (s.dropOp src) := by
  unfold State.dropOp; simp (maxDischargeDepth := 99) [*]

@[simp ↓] theorem State.sweepTree_extends {r s : State} (h : Extends r s) (o) : Extends r (s.sweepTree o) := by
  unfold State.sweepTree; simp (maxDischargeDepth := 99) [*]

@[simp ↓] theorem State.replaceQueued_extends {r s : State} (h : Extends r s) (e) : Extends r (s.replaceQueued e) := by
  unfold State.replaceQueued; simp (maxDischargeDepth := 99) [*]

@[simp ↓] theorem State.modRun_extends {r s : State} (h : Extends r s) (n f) : Extends r (s.modRun n f) := by
  unfold State.modRun; simp +contextual (maxDischargeDepth := 99) [*, Extends.foldl]

@[simp ↓] theorem State.claim_extends {r s : State} (h : Extends r s) (n) : Extends r (s.claim n) := by
  unfold State.claim; simp (maxDischargeDepth := 99) [*]

@[simp ↓] theorem State.unclaim_extends {r s : State} (h : Extends r s) (n) : Extends r (s.unclaim n) := by
  unfold State.unclaim; simp (maxDischargeDepth := 99) [*]

@[simp ↓] theorem State.releaseDest_extends {r s : State} (h : Extends r s) (d) : Extends r (s.releaseDest d) := by
  unfold State.releaseDest; split <;> simp (maxDischargeDepth := 99) [*]

@[simp ↓] theorem State.endWaiting_extends {r s : State} (h : Extends r s) (o status ext) : Extends r (s.endWaiting o status ext) := by
  unfold State.endWaiting; (repeat' split) <;> simp (maxDischargeDepth := 99) [*]

@[simp ↓] theorem State.dropHomeless_extends {r s : State} (h : Extends r s) : Extends r s.dropHomeless := by
  unfold State.dropHomeless; simp +contextual (maxDischargeDepth := 99) [*, Extends.foldl]

@[simp ↓] theorem State.dropRun_extends {r s : State} (h : Extends r s) (slot) : Extends r (s.dropRun slot) := by
  unfold State.dropRun; simp (maxDischargeDepth := 99) [*]

@[simp ↓] theorem State.endRun_extends {r s : State} (h : Extends r s) (slot) : Extends r (s.endRun slot) := by
  unfold State.endRun; (repeat' split) <;> simp (maxDischargeDepth := 99) [*]

@[simp ↓] theorem State.stepRun_extends {r s : State} (h : Extends r s) (slot e f) : Extends r (s.stepRun slot e f) := by
  unfold State.stepRun; simp (maxDischargeDepth := 99) [*]

@[simp ↓] theorem State.skipTest_extends {r s : State} (h : Extends r s) (e r0 gated) : Extends r (s.skipTest e r0 gated) := by
  unfold State.skipTest; (repeat' split) <;> simp (maxDischargeDepth := 99) [*]

@[simp ↓] theorem State.queueTest_extends {r s : State} (h : Extends r s) (e r0) : Extends r (s.queueTest e r0) := by
  unfold State.queueTest; simp (maxDischargeDepth := 99) [*]

@[simp ↓] theorem startTests_extends {r s : State} (h : Extends r s) (n) : Extends r (startTests n s) := by
  induction n generalizing s with
  | zero => exact h
  | succ n ih =>
    unfold startTests
    split
    · dsimp only; (repeat' split) <;> first | (apply ih; simp (maxDischargeDepth := 99) [h]) | simp (maxDischargeDepth := 99) [h]
    · exact h

@[simp ↓] theorem State.runTests_extends {r s : State} (h : Extends r s) : Extends r s.runTests := by
  unfold State.runTests; simp (maxDischargeDepth := 99) [*]

@[simp ↓] theorem State.cancelTest_extends {r s : State} (h : Extends r s) (e) : Extends r (s.cancelTest e) := by
  unfold State.cancelTest; dsimp only; split <;> simp (maxDischargeDepth := 99) [*]

@[simp ↓] theorem State.fenceNow_extends {r s : State} (h : Extends r s) (e) : Extends r (s.fenceNow e) := by
  unfold State.fenceNow; simp +contextual (maxDischargeDepth := 99) [*, Extends.foldl]

@[simp ↓] theorem State.spill_extends {r s : State} (h : Extends r s) (g) : Extends r (s.spill g).2 := by
  unfold State.spill; simp +contextual (maxDischargeDepth := 99) [*, Extends.foldl]

@[simp ↓] theorem State.occupy_extends {r s : State} (h : Extends r s) (o e) : Extends r (s.occupy o e) := by
  unfold State.occupy; simp (maxDischargeDepth := 99) [*]

@[simp ↓] theorem State.engineFree_extends {r s : State} (h : Extends r s) (e) : Extends r (s.engineFree e) := by
  unfold State.engineFree; (repeat' split) <;> simp (maxDischargeDepth := 99) [*]

@[simp ↓] theorem State.wipeEngine_extends {r s : State} (h : Extends r s) (e) : Extends r (s.wipeEngine e) := by
  unfold State.wipeEngine; simp (maxDischargeDepth := 99) [*]

@[simp ↓] theorem State.runProgram_extends {r s : State} (h : Extends r s) (o n) : Extends r (s.runProgram o n).2 := by
  unfold State.runProgram; (repeat' split) <;> simp (maxDischargeDepth := 99) [*]

@[simp ↓] theorem State.leaveEngine_extends {r s : State} (h : Extends r s) (o) : Extends r (s.leaveEngine o) := by
  unfold State.leaveEngine; split <;> simp (maxDischargeDepth := 99) [*]

@[simp ↓] theorem State.endOpBy_extends {r s : State} (h : Extends r s) (o : CombOp) (leave : State → State) (status : Nat) (ext : Nat) (hleave : ∀ y0, Extends r y0 → Extends r (leave y0)) : Extends r (s.endOpBy o leave status ext) := by
  unfold State.endOpBy; dsimp only; split <;> simp (maxDischargeDepth := 99) [*]

@[simp ↓] theorem State.endOp_extends {r s : State} (h : Extends r s) (o status ext) : Extends r (s.endOp o status ext) := by
  unfold State.endOp; simp +contextual (maxDischargeDepth := 99) [*]

@[simp ↓] theorem State.wipeOf_extends {r s : State} (h : Extends r s) (o) : Extends r (s.wipeOf o) := by
  unfold State.wipeOf; (repeat' split) <;> simp (maxDischargeDepth := 99) [*]

@[simp ↓] theorem State.dropOwn_extends {r s : State} (h : Extends r s) (job) : Extends r (s.dropOwn job) := by
  unfold State.dropOwn; split <;> simp (maxDischargeDepth := 99) [*]

@[simp ↓] theorem State.modDge_extends {r s : State} (h : Extends r s) (f) : Extends r (s.modDge f) := by
  unfold State.modDge; simp (maxDischargeDepth := 99) [*]

@[simp ↓] theorem State.mrgUpdate_extends {r s : State} (h : Extends r s) (m v) : Extends r (s.mrgUpdate m v) := by
  unfold State.mrgUpdate; simp (maxDischargeDepth := 99) [*]

@[simp ↓] theorem State.mrgOwn_extends {r s : State} (h : Extends r s) (m v) : Extends r (s.mrgOwn m v) := by
  unfold State.mrgOwn; simp (maxDischargeDepth := 99) [*]

@[simp ↓] theorem State.dgeLeave_extends {r s : State} (h : Extends r s) (slot) : Extends r (s.dgeLeave slot) := by
  unfold State.dgeLeave; simp +contextual (maxDischargeDepth := 99) [*, Extends.foldl]

@[simp ↓] theorem State.mrgExtend_extends {r s : State} (h : Extends r s) (m v) : Extends r (s.mrgExtend m v) := by
  unfold State.mrgExtend; simp (maxDischargeDepth := 99) [*]

@[simp ↓] theorem State.cvuSet_extends {r s : State} (h : Extends r s) (n lo v) : Extends r (s.cvuSet n lo v) := by
  unfold State.cvuSet; simp (maxDischargeDepth := 99) [*]

@[simp ↓] theorem State.cvuAbsorb_extends {r s : State} (h : Extends r s) (n data) : Extends r (s.cvuAbsorb n data) := by
  unfold State.cvuAbsorb; simp (maxDischargeDepth := 99) [*]

@[simp ↓] theorem State.cvuInit_extends {r s : State} (h : Extends r s) (n) : Extends r (s.cvuInit n) := by
  unfold State.cvuInit; simp (maxDischargeDepth := 99) [*]

@[simp ↓] theorem State.cvuCompare_extends {r s : State} (h : Extends r s) (n) : Extends r (s.cvuCompare n) := by
  unfold State.cvuCompare; simp (maxDischargeDepth := 99) [*]

@[simp ↓] theorem State.cvuTake_extends {r s : State} (h : Extends r s) (n slot) : Extends r (s.cvuTake n slot) := by
  unfold State.cvuTake; dsimp only; split <;> simp (maxDischargeDepth := 99) [*]

@[simp ↓] theorem State.cvuLeave_extends {r s : State} (h : Extends r s) (n) : Extends r (s.cvuLeave n) := by
  unfold State.cvuLeave; dsimp only; split <;> simp (maxDischargeDepth := 99) [*]

@[simp ↓] theorem State.forgetDigest_extends {r s : State} (h : Extends r s) (slot) : Extends r (s.forgetDigest slot) := by
  unfold State.forgetDigest; dsimp only; (repeat' split) <;> simp (maxDischargeDepth := 99) [*]

@[simp ↓] theorem State.modTod_extends {r s : State} (h : Extends r s) (f) : Extends r (s.modTod f) := by
  unfold State.modTod; simp (maxDischargeDepth := 99) [*]

@[simp ↓] theorem State.edge_extends {r s : State} (h : Extends r s) : Extends r s.edge := by
  unfold State.edge; simp (maxDischargeDepth := 99) [*]

@[simp ↓] theorem State.modPhw_extends {r s : State} (h : Extends r s) (f) : Extends r (s.modPhw f) := by
  unfold State.modPhw; simp (maxDischargeDepth := 99) [*]

@[simp ↓] theorem State.phwRestart_extends {r s : State} (h : Extends r s) : Extends r s.phwRestart := by
  unfold State.phwRestart; simp (maxDischargeDepth := 99) [*]

@[simp ↓] theorem State.phwConfigure_extends {r s : State} (h : Extends r s) : Extends r s.phwConfigure := by
  unfold State.phwConfigure; simp (maxDischargeDepth := 99) [*]

@[simp ↓] theorem State.phwNextCalibration_extends {r s : State} (h : Extends r s) : Extends r s.phwNextCalibration := by
  unfold State.phwNextCalibration; simp (maxDischargeDepth := 99) [*]

@[simp ↓] theorem State.forgetCalibration_extends {r s : State} (h : Extends r s) (slot) : Extends r (s.forgetCalibration slot) := by
  unfold State.forgetCalibration; simp (maxDischargeDepth := 99) [*]

@[simp ↓] theorem State.phwVoid_extends {r s : State} (h : Extends r s) : Extends r s.phwVoid := by
  unfold State.phwVoid; simp (maxDischargeDepth := 99) [*]

@[simp ↓] theorem State.modTrk_extends {r s : State} (h : Extends r s) (f) : Extends r (s.modTrk f) := by
  unfold State.modTrk; simp (maxDischargeDepth := 99) [*]

@[simp ↓] theorem State.modLink_extends {r s : State} (h : Extends r s) (west f) : Extends r (s.modLink west f) := by
  unfold State.modLink; simp (maxDischargeDepth := 99) [*]

@[simp ↓] theorem State.trkFrame_extends {r s : State} (h : Extends r s) (west hello body) : Extends r (s.trkFrame west hello body) := by
  unfold State.trkFrame; simp (maxDischargeDepth := 99) [*]

@[simp ↓] theorem State.trkSend_extends {r s : State} (h : Extends r s) (west typ dst detour payload) : Extends r (s.trkSend west typ dst detour payload) := by
  unfold State.trkSend; split <;> simp (maxDischargeDepth := 99) [*]

@[simp ↓] theorem State.mirrorAll_extends {r s : State} (h : Extends r s) (rs) : Extends r (s.mirrorAll rs) := by
  unfold State.mirrorAll; split <;> simp (maxDischargeDepth := 99) [*]

@[simp ↓] theorem State.mirror_extends {r s : State} (h : Extends r s) (r0) : Extends r (s.mirror r0) := by
  unfold State.mirror; simp (maxDischargeDepth := 99) [*]

@[simp ↓] theorem State.cardOff_extends {r s : State} (h : Extends r s) : Extends r s.cardOff := by
  unfold State.cardOff; simp (maxDischargeDepth := 99) [*]

@[simp ↓] theorem State.forgetClaim_extends {r s : State} (h : Extends r s) (slot) : Extends r (s.forgetClaim slot) := by
  unfold State.forgetClaim; split <;> simp (maxDischargeDepth := 99) [*]

@[simp ↓] theorem State.forgetTests_extends {r s : State} (h : Extends r s) (slot) : Extends r (s.forgetTests slot) := by
  unfold State.forgetTests; simp (maxDischargeDepth := 99) [*]

@[simp ↓] theorem State.forgetWaits_extends {r s : State} (h : Extends r s) (slot) : Extends r (s.forgetWaits slot) := by
  unfold State.forgetWaits; simp (maxDischargeDepth := 99) [*]

@[simp ↓] theorem State.forgetRing_extends {r s : State} (h : Extends r s) (slot) : Extends r (s.forgetRing slot) := by
  unfold State.forgetRing; simp (maxDischargeDepth := 99) [*]

@[simp ↓] theorem State.forgetCard_extends {r s : State} (h : Extends r s) (slot) : Extends r (s.forgetCard slot) := by
  unfold State.forgetCard; simp (maxDischargeDepth := 99) [*]

@[simp ↓] theorem State.forgetPower_extends {r s : State} (h : Extends r s) (slot) : Extends r (s.forgetPower slot) := by
  unfold State.forgetPower; simp (maxDischargeDepth := 99) [*]

@[simp ↓] theorem State.forgetDraws_extends {r s : State} (h : Extends r s) (slot) : Extends r (s.forgetDraws slot) := by
  unfold State.forgetDraws; simp (maxDischargeDepth := 99) [*]

@[simp ↓] theorem State.forgetUnit_extends {r s : State} (h : Extends r s) (slot) : Extends r (s.forgetUnit slot) := by
  unfold State.forgetUnit; simp (maxDischargeDepth := 99) [*]

@[simp ↓] theorem State.dropCeremony_extends {r s : State} (h : Extends r s) : Extends r s.dropCeremony := by
  unfold State.dropCeremony; simp (maxDischargeDepth := 99) [*]

@[simp ↓] theorem State.lapseCeremony_extends {r s : State} (h : Extends r s) : Extends r s.lapseCeremony := by
  unfold State.lapseCeremony; simp (maxDischargeDepth := 99) [*]

@[simp ↓] theorem State.dropHandshake_extends {r s : State} (h : Extends r s) (west) : Extends r (s.dropHandshake west) := by
  unfold State.dropHandshake; simp (maxDischargeDepth := 99) [*]

@[simp ↓] theorem State.linkDown_extends {r s : State} (h : Extends r s) (west) : Extends r (s.linkDown west) := by
  unfold State.linkDown; simp (maxDischargeDepth := 99) [*]

@[simp ↓] theorem State.linksFall_extends {r s : State} (h : Extends r s) : Extends r s.linksFall := by
  unfold State.linksFall; simp (maxDischargeDepth := 99) [*]

@[simp ↓] theorem State.sendLeave_extends {r s : State} (h : Extends r s) (reason) : Extends r (s.sendLeave reason) := by
  unfold State.sendLeave; simp (maxDischargeDepth := 99) [*]

@[simp ↓] theorem State.abortRestore_extends {r s : State} (h : Extends r s) (slot) : Extends r (s.abortRestore slot) := by
  unfold State.abortRestore; simp (maxDischargeDepth := 99) [*]

@[simp ↓] theorem State.abortEntry_extends {r s : State} (h : Extends r s) (slot status ext) : Extends r (s.abortEntry slot status ext) := by
  unfold State.abortEntry; (repeat' split) <;> simp (maxDischargeDepth := 99) [*]

@[simp ↓] theorem State.abortWhere_extends {r s : State} (h : Extends r s) (p status ext) : Extends r (s.abortWhere p status ext) := by
  unfold State.abortWhere; simp +contextual (maxDischargeDepth := 99) [*, Extends.foldl]

@[simp ↓] theorem State.dropEntry_extends {r s : State} (h : Extends r s) (slot) : Extends r (s.dropEntry slot) := by
  unfold State.dropEntry; dsimp only; (repeat' split) <;> simp (maxDischargeDepth := 99) [*]

@[simp ↓] theorem State.dropFunction_extends {r s : State} (h : Extends r s) (f) : Extends r (s.dropFunction f) := by
  unfold State.dropFunction; simp +contextual (maxDischargeDepth := 99) [*, Extends.foldl]

@[simp ↓] theorem State.setSource_extends {r s : State} (h : Extends r s) (n f) : Extends r (s.setSource n f) := by
  unfold State.setSource; simp (maxDischargeDepth := 99) [*]

@[simp ↓] theorem State.battLog_extends {r s : State} (h : Extends r s) (src cls sample pending) : Extends r (s.battLog src cls sample pending) := by
  unfold State.battLog; simp (maxDischargeDepth := 99) [*]

@[simp ↓] theorem State.latchEvidence_extends {r s : State} (h : Extends r s) (group zeroise) : Extends r (s.latchEvidence group zeroise) := by
  unfold State.latchEvidence; simp (maxDischargeDepth := 99) [*]

@[simp ↓] theorem State.haltResponse_extends {r s : State} (h : Extends r s) (leave) : Extends r (s.haltResponse leave) := by
  unfold State.haltResponse; simp (maxDischargeDepth := 99) [*]

@[simp ↓] theorem State.zeroiseEntropy_extends {r s : State} (h : Extends r s) : Extends r s.zeroiseEntropy := by
  unfold State.zeroiseEntropy; simp (maxDischargeDepth := 99) [*]

@[simp ↓] theorem State.endProtected_extends {r s : State} (h : Extends r s) : Extends r s.endProtected := by
  unfold State.endProtected; dsimp only; (repeat' split) <;> simp (maxDischargeDepth := 99) [*]

@[simp ↓] theorem State.zeroiseKeys_extends {r s : State} (h : Extends r s) : Extends r s.zeroiseKeys := by
  unfold State.zeroiseKeys; dsimp only; simp (maxDischargeDepth := 99) [*]

@[simp ↓] theorem State.alarm_extends {r s : State} (h : Extends r s) (src cls sample detail tag) : Extends r (s.alarm src cls sample detail tag) := by
  unfold State.alarm; simp (maxDischargeDepth := 99) [*]

@[simp ↓] theorem State.degrade_extends {r s : State} (h : Extends r s) (status ext engine tag) : Extends r (s.degrade status ext engine tag) := by
  unfold State.degrade; simp (maxDischargeDepth := 99) [*]

@[simp ↓] theorem State.degradeOp_extends {r s : State} (h : Extends r s) (o tag status ext) : Extends r (s.degradeOp o tag status ext) := by
  unfold State.degradeOp; simp (maxDischargeDepth := 99) [*]

@[simp ↓] theorem State.degradeBare_extends {r s : State} (h : Extends r s) : Extends r s.degradeBare := by
  unfold State.degradeBare; simp (maxDischargeDepth := 99) [*]

@[simp ↓] theorem State.takeEntry_extends {r s : State} (h : Extends r s) (f qid bytes) : Extends r (s.takeEntry f qid bytes) := by
  unfold State.takeEntry; dsimp only; split <;> simp (maxDischargeDepth := 99) [*]

@[simp ↓] theorem scan_extends {r s : State} (h : Extends r s) (f qid l) : Extends r (scan f qid l s) := by
  induction l generalizing s with
  | nil => simp [scan, h]
  | cons b bs ih => unfold scan; dsimp only; (repeat' split) <;> first | (apply ih; simp (maxDischargeDepth := 99) [h]) | simp (maxDischargeDepth := 99) [h]

@[simp ↓] theorem State.visit_extends {r s : State} (h : Extends r s) (f qid slots) : Extends r (s.visit f qid slots) := by
  unfold State.visit; simp (maxDischargeDepth := 99) [*]

@[simp ↓] theorem State.serve_extends {r s : State} (h : Extends r s) (f qid slots) : Extends r (s.serve f qid slots) := by
  unfold State.serve; simp (maxDischargeDepth := 99) [*]

@[simp ↓] theorem drainUnfetched_extends {r s : State} (h : Extends r s) (f qid prod l) : Extends r (drainUnfetched f qid prod l s) := by
  induction l generalizing s with
  | nil => unfold drainUnfetched; simp (maxDischargeDepth := 99) [h]
  | cons b bs ih => unfold drainUnfetched; dsimp only; (repeat' split) <;> first | (apply ih; simp (maxDischargeDepth := 99) [h]) | simp (maxDischargeDepth := 99) [h]

@[simp ↓] theorem State.drainQueue_extends {r s : State} (h : Extends r s) (f qid view slots) : Extends r (s.drainQueue f qid view slots) := by
  unfold State.drainQueue; dsimp only; (repeat' split) <;> simp (maxDischargeDepth := 99) [*]

@[simp ↓] theorem State.disableQueue_extends {r s : State} (h : Extends r s) (f qid mode prod slots) : Extends r (s.disableQueue f qid mode prod slots) := by
  unfold State.disableQueue; simp (maxDischargeDepth := 99) [*]

@[simp ↓] theorem State.queueError_extends {r s : State} (h : Extends r s) (f qid errCode detail) : Extends r (s.queueError f qid errCode detail) := by
  unfold State.queueError; simp (maxDischargeDepth := 99) [*]

@[simp ↓] theorem State.onEntry_extends {r s : State} (h : Extends r s) (slot lo hi k) (hk : ∀ x0, Extends r (k x0)) : Extends r (s.onEntry slot lo hi k) := by
  unfold State.onEntry; split <;> simp (maxDischargeDepth := 99) [*]

@[simp ↓] theorem State.reject_extends {r s : State} (h : Extends r s) (slot e) : Extends r (s.reject slot e) := by
  unfold State.reject; simp (maxDischargeDepth := 99) [*]

@[simp ↓] theorem State.checked_extends {r s k : State} (h : Extends r s) (hk : Extends r k) (slot checks) : Extends r (s.checked slot checks k) := by
  unfold State.checked; split <;> simp (maxDischargeDepth := 99) [*]

@[simp ↓] theorem State.busy_extends {r s : State} (h : Extends r s) (slot) : Extends r (s.busy slot) := by
  unfold State.busy; split <;> simp (maxDischargeDepth := 99) [*]

@[simp ↓] theorem State.modPair_extends {r s : State} (h : Extends r s) (n f) : Extends r (s.modPair n f) := by
  unfold State.modPair; simp (maxDischargeDepth := 99) [*]

@[simp ↓] theorem State.modDrbg_extends {r s : State} (h : Extends r s) (i f) : Extends r (s.modDrbg i f) := by
  unfold State.modDrbg; simp (maxDischargeDepth := 99) [*]

@[simp ↓] theorem State.giveSeed_extends {r s : State} (h : Extends r s) (c seed) : Extends r (s.giveSeed c seed) := by
  unfold State.giveSeed; simp (maxDischargeDepth := 99) [*]

@[simp ↓] theorem State.reseed_extends {r s : State} (h : Extends r s) (i block) : Extends r (s.reseed i block) := by
  unfold State.reseed; simp (maxDischargeDepth := 99) [*]

@[simp ↓] theorem State.giveBlock_extends {r s : State} (h : Extends r s) (q block) : Extends r (s.giveBlock q block) := by
  unfold State.giveBlock; dsimp only; (repeat' split) <;> simp (maxDischargeDepth := 99) [*]

@[simp ↓] theorem allocate_extends {r s : State} (h : Extends r s) (n) : Extends r (allocate n s) := by
  induction n generalizing s with
  | zero => exact h
  | succ n ih => unfold allocate; split <;> first | exact h | exact ih (by simp (maxDischargeDepth := 99) [h])

@[simp ↓] theorem State.allocateAll_extends {r s : State} (h : Extends r s) : Extends r s.allocateAll := by
  unfold State.allocateAll; simp (maxDischargeDepth := 99) [*]

@[simp ↓] theorem State.askReseed_extends {r s : State} (h : Extends r s) (i) : Extends r (s.askReseed i) := by
  unfold State.askReseed; simp (maxDischargeDepth := 99) [*]

@[simp ↓] theorem State.draw_extends {r s : State} (h : Extends r s) (i n) : Extends r (s.draw i n).2 := by
  unfold State.draw; simp (maxDischargeDepth := 99) [*]

@[simp ↓] theorem State.checkFault_extends {r s : State} (h : Extends r s) : Extends r s.checkFault := by
  unfold State.checkFault; simp +contextual (maxDischargeDepth := 99) [*, Extends.foldl]

@[simp ↓] theorem State.armEntropy_extends {r s : State} (h : Extends r s) : Extends r s.armEntropy := by
  unfold State.armEntropy; simp (maxDischargeDepth := 99) [*]

@[simp ↓] theorem State.tryReady_extends {r s : State} (h : Extends r s) : Extends r s.tryReady := by
  unfold State.tryReady; simp (maxDischargeDepth := 99) [*]

@[simp ↓] theorem State.startBlock_extends {r s : State} (h : Extends r s) (block) : Extends r (s.startBlock block) := by
  unfold State.startBlock; simp (maxDischargeDepth := 99) [*]

@[simp ↓] theorem State.deliver_extends {r s : State} (h : Extends r s) (block) : Extends r (s.deliver block) := by
  unfold State.deliver; simp (maxDischargeDepth := 99) [*]

@[simp ↓] theorem State.countHealth_extends {r s : State} (h : Extends r s) (rct apt) : Extends r (s.countHealth rct apt) := by
  unfold State.countHealth; simp (maxDischargeDepth := 99) [*]

@[simp ↓] theorem State.pairFails_extends {r s : State} (h : Extends r s) (n rct apt) : Extends r (s.pairFails n rct apt) := by
  unfold State.pairFails; simp (maxDischargeDepth := 99) [*]

@[simp ↓] theorem State.feedRaw_extends {r s : State} (h : Extends r s) (n bit) : Extends r (s.feedRaw n bit) := by
  unfold State.feedRaw; simp +contextual (maxDischargeDepth := 99) [*, Extends.foldl]

@[simp ↓] theorem State.startPair_extends {r s : State} (h : Extends r s) (n) : Extends r (s.startPair n) := by
  unfold State.startPair; simp (maxDischargeDepth := 99) [*]

@[simp ↓] theorem State.startEntropy_extends {r s : State} (h : Extends r s) (why) : Extends r (s.startEntropy why) := by
  unfold State.startEntropy; simp (maxDischargeDepth := 99) [*]

@[simp ↓] theorem State.stopEntropy_extends {r s : State} (h : Extends r s) : Extends r s.stopEntropy := by
  unfold State.stopEntropy; simp (maxDischargeDepth := 99) [*]

@[simp ↓] theorem State.readWord_extends {r s : State} (h : Extends r s) (f status) : Extends r (s.readWord f status) := by
  unfold State.readWord; split <;> simp (maxDischargeDepth := 99) [*]

@[simp ↓] theorem State.waitEntropy_extends {r s : State} (h : Extends r s) (slot) : Extends r (s.waitEntropy slot) := by
  unfold State.waitEntropy; split <;> simp (maxDischargeDepth := 99) [*]

@[simp ↓] theorem State.entropyStep_extends {r s k : State} (h : Extends r s) (hk : Extends r k) (slot i) : Extends r (s.entropyStep slot i k) := by
  unfold State.entropyStep; simp (maxDischargeDepth := 99) [*]

end Sys2Proof.Machine
end

