-- ==== Sys2Proof/Laws/ExtendsEntries.lean ====
section
/-!
SUPPORT. Each part of a command extends the state it begins from: key slots, the admission and the end of public-key operations, the forager and the journal.
-/
namespace Sys2Proof.Machine
open Sys2Proof

@[simp ↓] theorem State.commitKey_extends {r s : State} (h : Extends r s) (n content tr origin test) : Extends r (s.commitKey n content tr origin test) := by
  unfold State.commitKey; simp (maxDischargeDepth := 99) [*]

@[simp ↓] theorem State.commitSecret_extends {r s : State} (h : Extends r s) (n secret test) : Extends r (s.commitSecret n secret test) := by
  unfold State.commitSecret; simp (maxDischargeDepth := 99) [*]

@[simp ↓] theorem State.orphanTree_extends {r s : State} (h : Extends r s) (n) : Extends r (s.orphanTree n) := by
  unfold State.orphanTree; simp (maxDischargeDepth := 99) [*]

@[simp ↓] theorem State.integrityFail_extends {r s : State} (h : Extends r s) (n tag) : Extends r (s.integrityFail n tag) := by
  unfold State.integrityFail; simp (maxDischargeDepth := 99) [*]

@[simp ↓] theorem State.readSlots_extends {r s k : State} (h : Extends r s) (hk : Extends r k) (slot ns) : Extends r (s.readSlots slot ns k) := by
  unfold State.readSlots; split <;> simp (maxDischargeDepth := 99) [*]

@[simp ↓] theorem State.readOwn_extends {r s : State} (h : Extends r s) (n) : Extends r (s.readOwn n) := by
  unfold State.readOwn; simp (maxDischargeDepth := 99) [*]

@[simp ↓] theorem State.startOp_extends {r s : State} (h : Extends r s) (slot o) : Extends r (s.startOp slot o) := by
  unfold State.startOp; split <;> simp (maxDischargeDepth := 99) [*]

@[simp ↓] theorem State.keygenOp_extends {r s : State} (h : Extends r s) (slot t kind outLen zero params more) : Extends r (s.keygenOp slot t kind outLen zero params more) := by
  unfold State.keygenOp; simp (maxDischargeDepth := 99) [*]

@[simp ↓] theorem State.encapsOp_extends {r s : State} (h : Extends r s) (slot t keyLen ctLen ssLen) : Extends r (s.encapsOp slot t keyLen ctLen ssLen) := by
  unfold State.encapsOp; simp (maxDischargeDepth := 99) [*]

@[simp ↓] theorem State.secretOp_extends {r s : State} (h : Extends r s) (slot t usage kind inLen ssLen pre) : Extends r (s.secretOp slot t usage kind inLen ssLen pre) := by
  unfold State.secretOp; simp (maxDischargeDepth := 99) [*]

@[simp ↓] theorem State.signOp_extends {r s : State} (h : Extends r s) (slot t kind zero params lens pre drbg) : Extends r (s.signOp slot t kind zero params lens pre drbg) := by
  unfold State.signOp; simp (maxDischargeDepth := 99) [*]

@[simp ↓] theorem State.publicOp_extends {r s : State} (h : Extends r s) (slot t zero params lens pre drbg) : Extends r (s.publicOp slot t zero params lens pre drbg) := by
  unfold State.publicOp; simp (maxDischargeDepth := 99) [*]

@[simp ↓] theorem State.modLine_extends {r s : State} (h : Extends r s) (f) : Extends r (s.modLine f) := by
  unfold State.modLine; simp (maxDischargeDepth := 99) [*]

@[simp ↓] theorem State.setSa_extends {r s : State} (h : Extends r s) (i x) : Extends r (s.setSa i x) := by
  unfold State.setSa; simp (maxDischargeDepth := 99) [*]

@[simp ↓] theorem State.modSa_extends {r s : State} (h : Extends r s) (i f) : Extends r (s.modSa i f) := by
  unfold State.modSa; split <;> simp (maxDischargeDepth := 99) [*]

@[simp ↓] theorem State.storeSa_extends {r s : State} (h : Extends r s) (i x) : Extends r (s.storeSa i x) := by
  unfold State.storeSa; simp +contextual (maxDischargeDepth := 99) [*, Extends.foldl]

@[simp ↓] theorem State.loadSa_extends {r s : State} (h : Extends r s) (i) : Extends r (s.loadSa i) := by
  unfold State.loadSa; simp (maxDischargeDepth := 99) [*]

@[simp ↓] theorem State.evict_extends {r s : State} (h : Extends r s) : Extends r s.evict := by
  unfold State.evict; simp (maxDischargeDepth := 99) [*]

@[simp ↓] theorem State.touchSa_extends {r s : State} (h : Extends r s) (i) : Extends r (s.touchSa i) := by
  unfold State.touchSa; split <;> simp (maxDischargeDepth := 99) [*]

@[simp ↓] theorem State.mirrorSa_extends {r s : State} (h : Extends r s) (i) : Extends r (s.mirrorSa i) := by
  unfold State.mirrorSa; split <;> simp (maxDischargeDepth := 99) [*]

@[simp ↓] theorem State.removeSa_extends {r s : State} (h : Extends r s) (i) : Extends r (s.removeSa i) := by
  unfold State.removeSa; split <;> simp (maxDischargeDepth := 99) [*]

@[simp ↓] theorem State.announcePn_extends {r s : State} (h : Extends r s) (i b) : Extends r (s.announcePn i b) := by
  unfold State.announcePn; simp (maxDischargeDepth := 99) [*]

@[simp ↓] theorem State.reservePn_extends {r s : State} (h : Extends r s) (i) : Extends r (s.reservePn i) := by
  unfold State.reservePn; split <;> simp (maxDischargeDepth := 99) [*]

@[simp ↓] theorem State.confirmPn_extends {r s : State} (h : Extends r s) (i start) : Extends r (s.confirmPn i start) := by
  unfold State.confirmPn; simp (maxDischargeDepth := 99) [*]

@[simp ↓] theorem State.wideAdd_extends {r s : State} (h : Extends r s) (k n) : Extends r (s.wideAdd k n) := by
  unfold State.wideAdd; simp (maxDischargeDepth := 99) [*]

@[simp ↓] theorem State.lceCount_extends {r s : State} (h : Extends r s) (r0) : Extends r (s.lceCount r0) := by
  unfold State.lceCount; simp (maxDischargeDepth := 99) [*]

@[simp ↓] theorem State.ratchetBlocked_extends {r s : State} (h : Extends r s) (i) : Extends r (s.ratchetBlocked i) := by
  unfold State.ratchetBlocked; simp (maxDischargeDepth := 99) [*]

@[simp ↓] theorem State.beginRatchet_extends {r s : State} (h : Extends r s) (i) : Extends r (s.beginRatchet i) := by
  unfold State.beginRatchet; simp (maxDischargeDepth := 99) [*]

@[simp ↓] theorem State.usePn_extends {r s : State} (h : Extends r s) (i) : Extends r (s.usePn i) := by
  unfold State.usePn; dsimp only; (repeat' split) <;> simp (maxDischargeDepth := 99) [*]

@[simp ↓] theorem State.ratchetInstall_extends {r s : State} (h : Extends r s) (i) : Extends r (s.ratchetInstall i) := by
  unfold State.ratchetInstall; split <;> simp (maxDischargeDepth := 99) [*]

@[simp ↓] theorem State.ratchetSwitch_extends {r s : State} (h : Extends r s) (i) : Extends r (s.ratchetSwitch i) := by
  unfold State.ratchetSwitch; simp (maxDischargeDepth := 99) [*]

@[simp ↓] theorem State.ratchetAdopt_extends {r s : State} (h : Extends r s) (j) : Extends r (s.ratchetAdopt j) := by
  unfold State.ratchetAdopt; simp (maxDischargeDepth := 99) [*]

@[simp ↓] theorem State.txIndex_extends {r s : State} (h : Extends r s) (base) : Extends r (s.txIndex base).2 := by
  unfold State.txIndex; dsimp only; (repeat' split) <;> simp (maxDischargeDepth := 99) [*]

@[simp ↓] theorem State.fillDevice_extends {r s : State} (h : Extends r s) (n) : Extends r (s.fillDevice n) := by
  unfold State.fillDevice; split <;> simp (maxDischargeDepth := 99) [*]

@[simp ↓] theorem State.fillDevices_extends {r s : State} (h : Extends r s) (ns) : Extends r (s.fillDevices ns) := by
  unfold State.fillDevices; simp +contextual (maxDischargeDepth := 99) [*, Extends.foldl]

@[simp ↓] theorem State.emptyDevices_extends {r s : State} (h : Extends r s) : Extends r s.emptyDevices := by
  unfold State.emptyDevices; simp +contextual (maxDischargeDepth := 99) [*, Extends.foldl]

@[simp ↓] theorem State.clearRun_extends {r s : State} (h : Extends r s) (n unprepare) : Extends r (s.clearRun n unprepare) := by
  unfold State.clearRun; simp (maxDischargeDepth := 99) [*]

@[simp ↓] theorem State.enterKey_extends {r s : State} (h : Extends r s) (slot t n content blob origin test) : Extends r (s.enterKey slot t n content blob origin test) := by
  unfold State.enterKey; dsimp only; (repeat' split) <;> simp (maxDischargeDepth := 99) [*]

@[simp ↓] theorem State.confirmLms_extends {r s : State} (h : Extends r s) (n) : Extends r (s.confirmLms n) := by
  unfold State.confirmLms; dsimp only; (repeat' split) <;> simp (maxDischargeDepth := 99) [*]

@[simp ↓] theorem State.reserveLms_extends {r s : State} (h : Extends r s) (n) : Extends r (s.reserveLms n) := by
  unfold State.reserveLms; dsimp only; split <;> simp (maxDischargeDepth := 99) [*]

@[simp ↓] theorem State.assignLeaf_extends {r s : State} (h : Extends r s) (n) : Extends r (s.assignLeaf n).2 := by
  unfold State.assignLeaf; dsimp only; split <;> simp (maxDischargeDepth := 99) [*]

@[simp ↓] theorem State.ackLms_extends {r s : State} (h : Extends r s) (id first) : Extends r (s.ackLms id first) := by
  unfold State.ackLms; dsimp only; apply Extends.foldl <;> (intros; (repeat' split) <;> simp (maxDischargeDepth := 99) [*])

@[simp ↓] theorem State.commitBlock_extends {r s : State} (h : Extends r s) (o) : Extends r (s.commitBlock o).2 := by
  unfold State.commitBlock; dsimp only; (repeat' split) <;> simp (maxDischargeDepth := 99) [*]

@[simp ↓] theorem State.finishTree_extends {r s : State} (h : Extends r s) (o) : Extends r (s.finishTree o).2 := by
  unfold State.finishTree; dsimp only; (repeat' split) <;> simp (maxDischargeDepth := 99) [*]

@[simp ↓] theorem State.placeOn_extends {r s : State} (h : Extends r s) (o e) : Extends r (s.placeOn o e) := by
  unfold State.placeOn; simp (maxDischargeDepth := 99) [*]

@[simp ↓] theorem State.fitFills_extends {r s : State} (h : Extends r s) : Extends r s.fitFills := by
  unfold State.fitFills; simp (maxDischargeDepth := 99) [*]

@[simp ↓] theorem State.drawFor_extends {r s : State} (h : Extends r s) (o) : Extends r (s.drawFor o).2 := by
  unfold State.drawFor; dsimp only; split <;> simp (maxDischargeDepth := 99) [*]

theorem State.placeStep8_extends {r s : State} (h : Extends r s) (o) : ∀ u, s.placeStep8 o = some u → Extends r u := by
  unfold State.placeStep8; dsimp only; (repeat' split) <;> simp (maxDischargeDepth := 99) [*]

theorem State.place_extends {r s : State} (h : Extends r s) (o) : ∀ u, s.place o = some u → Extends r u := by
  have hg : ∀ (a : State) (o : CombOp), Extends r a → Extends r ((a.placeStep8 o).getD a) := fun a o ha => by
    cases hc : a.placeStep8 o with
    | none => exact ha
    | some u => exact State.placeStep8_extends ha o u hc
  intro u hu
  unfold State.place at hu
  dsimp only at hu
  (repeat' split at hu) <;> first
    | exact State.placeStep8_extends h o u hu
    | (cases hu; exact hg _ _ (by simp (maxDischargeDepth := 99) [h]))
    | (cases hu; simp (maxDischargeDepth := 99) [h])
    | simp at hu

@[simp ↓] theorem State.interruptVictim_extends {r s : State} (h : Extends r s) (v) : Extends r (s.interruptVictim v).2 := by
  unfold State.interruptVictim; simp (maxDischargeDepth := 99) [*]

@[simp ↓] theorem State.preempt_extends {r s : State} (h : Extends r s) (v e restarts) : Extends r (s.preempt v e restarts) := by
  unfold State.preempt; dsimp only; split <;> simp (maxDischargeDepth := 99) [*]

@[simp ↓] theorem State.startBody_extends {r s : State} (h : Extends r s) (o) : Extends r (s.startBody o) := by
  unfold State.startBody; dsimp only; (repeat' split) <;> simp (maxDischargeDepth := 99) [*]

@[simp ↓] theorem State.testReturns_extends {r s : State} (h : Extends r s) (e r0) : Extends r (s.testReturns e r0) := by
  unfold State.testReturns; dsimp only; split <;> simp (maxDischargeDepth := 99) [*]

@[simp ↓] theorem State.katFail_extends {r s : State} (h : Extends r s) (e kind tag) : Extends r (s.katFail e kind tag) := by
  unfold State.katFail; simp (maxDischargeDepth := 99) [*]

@[simp ↓] theorem State.testEnds_extends {r s : State} (h : Extends r s) (engine pass) : Extends r (s.testEnds engine pass) := by
  unfold State.testEnds; dsimp only; (repeat' split) <;> simp (maxDischargeDepth := 99) [*]

@[simp ↓] theorem State.modEvj_extends {r s : State} (h : Extends r s) (f) : Extends r (s.modEvj f) := by
  unfold State.modEvj; simp (maxDischargeDepth := 99) [*]

@[simp ↓] theorem State.startOwn_extends {r s : State} (h : Extends r s) (job op keySlot input params drbg) : Extends r (s.startOwn job op keySlot input params drbg) := by
  unfold State.startOwn; simp (maxDischargeDepth := 99) [*]

@[simp ↓] theorem State.startSign_extends {r s : State} (h : Extends r s) (job ctx msg) : Extends r (s.startSign job ctx msg) := by
  unfold State.startSign; simp (maxDischargeDepth := 99) [*]

@[simp ↓] theorem State.reserveJrn_extends {r s : State} (h : Extends r s) : Extends r s.reserveJrn := by
  unfold State.reserveJrn; simp (maxDischargeDepth := 99) [*]

@[simp ↓] theorem State.confirmJrn_extends {r s : State} (h : Extends r s) (start) : Extends r (s.confirmJrn start) := by
  unfold State.confirmJrn; simp (maxDischargeDepth := 99) [*]

@[simp ↓] theorem State.useSeq_extends {r s : State} (h : Extends r s) : Extends r s.useSeq := by
  unfold State.useSeq; dsimp only; split <;> simp (maxDischargeDepth := 99) [*]

@[simp ↓] theorem State.overwritten_extends {r s : State} (h : Extends r s) : Extends r s.overwritten := by
  unfold State.overwritten; simp (maxDischargeDepth := 99) [*]

@[simp ↓] theorem State.pushRecord_extends {r s : State} (h : Extends r s) (seq body) : Extends r (s.pushRecord seq body) := by
  unfold State.pushRecord; simp (maxDischargeDepth := 99) [*]

@[simp ↓] theorem chainRecords_extends {r s : State} (h : Extends r s) (l) : Extends r (chainRecords l s) := by
  induction l generalizing s with
  | nil => exact h
  | cons b bs ih => unfold chainRecords; dsimp only; split <;> first | exact h | exact ih (by simp (maxDischargeDepth := 99) [h])

@[simp ↓] theorem State.chainReady_extends {r s : State} (h : Extends r s) : Extends r s.chainReady := by
  unfold State.chainReady; simp (maxDischargeDepth := 99) [*]

theorem State.openRecord_extends {r s : State} (h : Extends r s) (fields) : ∀ u, s.openRecord fields = some u → Extends r u.2 := by
  unfold State.openRecord; simp (maxDischargeDepth := 99) [*]

@[simp ↓] theorem State.completeRecord_extends {r s : State} (h : Extends r s) (seq fill) : Extends r (s.completeRecord seq fill) := by
  unfold State.completeRecord; simp (maxDischargeDepth := 99) [*]

@[simp ↓] theorem State.bootRecord_extends {r s : State} (h : Extends r s) (digest) : Extends r (s.bootRecord digest) := by
  unfold State.bootRecord; split
  · next e => exact State.completeRecord_extends (State.openRecord_extends h _ _ e) _ _
  · exact h

@[simp ↓] theorem State.modCp_extends {r s : State} (h : Extends r s) (num f) : Extends r (s.modCp num f) := by
  unfold State.modCp; simp (maxDischargeDepth := 99) [*]

@[simp ↓] theorem State.serveReaders_extends {r s : State} (h : Extends r s) (num) : Extends r (s.serveReaders num) := by
  unfold State.serveReaders; split <;> simp +contextual (maxDischargeDepth := 99) [*, Extends.foldl]

@[simp ↓] theorem State.askCsig_extends {r s : State} (h : Extends r s) (west digest) : Extends r (s.askCsig west digest).2 := by
  unfold State.askCsig; split <;> simp (maxDischargeDepth := 99) [*]

@[simp ↓] theorem State.trimCps_extends {r s : State} (h : Extends r s) : Extends r s.trimCps := by
  unfold State.trimCps; simp (maxDischargeDepth := 99) [*]

@[simp ↓] theorem State.commitCp_extends {r s : State} (h : Extends r s) (c sig) : Extends r (s.commitCp c sig) := by
  unfold State.commitCp; simp +contextual (maxDischargeDepth := 99) [*, Extends.foldl]

@[simp ↓] theorem advanceCps_extends {r s : State} (h : Extends r s) (n) : Extends r (advanceCps n s) := by
  induction n generalizing s with
  | zero => exact h
  | succ n ih =>
    unfold advanceCps
    split
    · dsimp only; (repeat' split) <;> first | exact h | exact ih (by simp (maxDischargeDepth := 99) [h]) | simp (maxDischargeDepth := 99) [h]
    · exact h

@[simp ↓] theorem State.advance_extends {r s : State} (h : Extends r s) : Extends r s.advance := by
  unfold State.advance; simp (maxDischargeDepth := 99) [*]

@[simp ↓] theorem State.commitOldest_extends {r s : State} (h : Extends r s) : Extends r s.commitOldest := by
  unfold State.commitOldest; split <;> simp (maxDischargeDepth := 99) [*]

@[simp ↓] theorem State.takeCheckpoint_extends {r s : State} (h : Extends r s) (trigger) : Extends r (s.takeCheckpoint trigger) := by
  unfold State.takeCheckpoint; simp (maxDischargeDepth := 99) [*]

@[simp ↓] theorem State.cpSigned_extends {r s : State} (h : Extends r s) (num sig) : Extends r (s.cpSigned num sig) := by
  unfold State.cpSigned; split <;> simp (maxDischargeDepth := 99) [*]

end Sys2Proof.Machine
end

