-- ==== Sys2Proof/Laws/ExtendsLine.lean ====
section
/-!
SUPPORT. Each part of a command extends the state it begins from: the line path, the ports, SAs and the lookaside.
-/
namespace Sys2Proof.Machine
open Sys2Proof

@[simp ↓] theorem State.modGroup_extends {r s : State} (h : Extends r s) (g f) : Extends r (s.modGroup g f) := by
  unfold State.modGroup; simp (maxDischargeDepth := 99) [*]

@[simp ↓] theorem State.modPort_extends {r s : State} (h : Extends r s) (g p f) : Extends r (s.modPort g p f) := by
  unfold State.modPort; simp (maxDischargeDepth := 99) [*]

@[simp ↓] theorem State.prtCount_extends {r s : State} (h : Extends r s) (g p r0) : Extends r (s.prtCount g p r0) := by
  unfold State.prtCount; simp (maxDischargeDepth := 99) [*]

@[simp ↓] theorem State.putFlight_extends {r s : State} (h : Extends r s) (fl) : Extends r (s.putFlight fl) := by
  unfold State.putFlight; simp (maxDischargeDepth := 99) [*]

@[simp ↓] theorem State.dropFlight_extends {r s : State} (h : Extends r s) (fl) : Extends r (s.dropFlight fl) := by
  unfold State.dropFlight; simp (maxDischargeDepth := 99) [*]

@[simp ↓] theorem State.followUp_extends {r s : State} (h : Extends r s) (fl) : Extends r (s.followUp fl).2 := by
  unfold State.followUp; (repeat' split) <;> simp (maxDischargeDepth := 99) [*]

@[simp ↓] theorem State.launchHold_extends {r s : State} (h : Extends r s) (fl) : Extends r (s.launchHold fl).2 := by
  unfold State.launchHold; (repeat' split) <;> simp (maxDischargeDepth := 99) [*]

@[simp ↓] theorem State.holdResidence_extends {r s : State} (h : Extends r s) (e) : Extends r (s.holdResidence e) := by
  unfold State.holdResidence; simp (maxDischargeDepth := 99) [*]

@[simp ↓] theorem State.captureOf_extends {r s : State} (h : Extends r s) (plain tIn quality tOut port corrected) : Extends r (s.captureOf plain tIn quality tOut port corrected) := by
  unfold State.captureOf; dsimp only; split <;> simp (maxDischargeDepth := 99) [*]

@[simp ↓] theorem State.capture_extends {r s : State} (h : Extends r s) (fl tOut) : Extends r (s.capture fl tOut) := by
  unfold State.capture; simp (maxDischargeDepth := 99) [*]

@[simp ↓] theorem State.endRecord_extends {r s : State} (h : Extends r s) (fl tOut) : Extends r (s.endRecord fl tOut) := by
  unfold State.endRecord; split <;> simp (maxDischargeDepth := 99) [*]

@[simp ↓] theorem State.kill_extends {r s : State} (h : Extends r s) (fl verdict) : Extends r (s.kill fl verdict) := by
  unfold State.kill; simp (maxDischargeDepth := 99) [*]

theorem State.journal_extends {r s : State} (h : Extends r s) (fl p r0) : ∀ u, s.journal fl p r0 = some u → Extends r u.2 := by
  unfold State.journal; dsimp only; intro u e; split at e
  · cases e; exact h
  · obtain ⟨x, hx, rfl⟩ := Option.map_eq_some_iff.1 e; exact State.openRecord_extends h _ x hx

@[simp ↓] theorem State.noRecord_extends {r s : State} (h : Extends r s) (fl) : Extends r (s.noRecord fl) := by
  unfold State.noRecord; simp (maxDischargeDepth := 99) [*]

@[simp ↓] theorem State.feedPort_extends {r s : State} (h : Extends r s) (g p) : Extends r (s.feedPort g p) := by
  unfold State.feedPort; (repeat' split) <;> simp (maxDischargeDepth := 99) [*]

@[simp ↓] theorem State.toEgress_extends {r s : State} (h : Extends r s) (fl) : Extends r (s.toEgress fl) := by
  unfold State.toEgress; simp (maxDischargeDepth := 99) [*]

@[simp ↓] theorem State.failFrame_extends {r s : State} (h : Extends r s) (fl verdict) : Extends r (s.failFrame fl verdict) := by
  unfold State.failFrame; simp (maxDischargeDepth := 99) [*]

@[simp ↓] theorem State.ingressDrop_extends {r s : State} (h : Extends r s) (fl r0 verdict) : Extends r (s.ingressDrop fl r0 verdict) := by
  unfold State.ingressDrop; simp (maxDischargeDepth := 99) [*]

@[simp ↓] theorem State.mauCheck_extends {r s : State} (h : Extends r s) (fl) : Extends r (s.mauCheck fl) := by
  unfold State.mauCheck; (repeat' split) <;> simp (maxDischargeDepth := 99) [*]

@[simp ↓] theorem State.toMau_extends {r s : State} (h : Extends r s) (fl) : Extends r (s.toMau fl) := by
  unfold State.toMau; simp (maxDischargeDepth := 99) [*]

theorem State.mauAdd_inl {r s : State} (h : Extends r s) (fl u) (e : s.mauAdd fl = .inl u) : Extends r u := by
  unfold State.mauAdd at e; dsimp only at e; (repeat' split at e) <;> cases e <;> simp (maxDischargeDepth := 99) [h]

theorem State.mauAdd_inr {r s : State} (h : Extends r s) (fl u) (e : s.mauAdd fl = .inr u) : Extends r u.2 := by
  unfold State.mauAdd at e; dsimp only at e; (repeat' split at e) <;> cases e <;> simp (maxDischargeDepth := 99) [h]

@[simp ↓] theorem State.macTx_extends {r s : State} (h : Extends r s) (i) : Extends r (s.macTx i).2 := by
  unfold State.macTx; dsimp only; (repeat' split) <;> simp (maxDischargeDepth := 99) [*]

@[simp ↓] theorem State.txSa_extends {r s : State} (h : Extends r s) (i) : Extends r (s.txSa i).2 := by
  unfold State.txSa; (repeat' split) <;> simp (maxDischargeDepth := 99) [*]

@[simp ↓] theorem State.pnHold_extends {r s : State} (h : Extends r s) (i x) : Extends r (s.pnHold i x) := by
  unfold State.pnHold; simp (maxDischargeDepth := 99) [*]

@[simp ↓] theorem State.framePass_extends {r s : State} (h : Extends r s) (g n) : Extends r (s.framePass g n) := by
  unfold State.framePass; simp (maxDischargeDepth := 99) [*]

@[simp ↓] theorem State.protect_extends {r s : State} (h : Extends r s) (fl) : Extends r (s.protect fl) := by
  unfold State.protect
  have h1 := State.txSa_extends h fl.result.sa
  dsimp only
  split
  · simp (maxDischargeDepth := 99) [h]
  · next i x _ =>
    split
    · simp (maxDischargeDepth := 99) [h1]
    · split
      · next e => exact State.mauAdd_inl (State.touchSa_extends h1 _) _ _ e
      · next e =>
        have h2 := State.mauAdd_inr (State.touchSa_extends h1 _) _ _ e
        dsimp only at h2
        (repeat' split) <;> simp (maxDischargeDepth := 99) [h2]

@[simp ↓] theorem State.lceDrop_extends {r s : State} (h : Extends r s) (fl r0 verdict) : Extends r (s.lceDrop fl r0 verdict) := by
  unfold State.lceDrop; simp (maxDischargeDepth := 99) [*]

@[simp ↓] theorem State.secondLookup_extends {r s : State} (h : Extends r s) (fl verdict) : Extends r (s.secondLookup fl verdict) := by
  unfold State.secondLookup
  dsimp only
  split
  · simp (maxDischargeDepth := 99) [h]
  · split
    · simp (maxDischargeDepth := 99) [h]
    · next e =>
      have h2 := State.journal_extends h _ _ _ _ e
      dsimp only at h2
      (repeat' split) <;> simp (maxDischargeDepth := 99) [h2]

@[simp ↓] theorem State.opened_extends {r s : State} (h : Extends r s) (fl encrypted plain ok) : Extends r (s.opened fl encrypted plain ok) := by
  unfold State.opened; simp (maxDischargeDepth := 99) [*]

@[simp ↓] theorem State.macVerify_extends {r s : State} (h : Extends r s) (fl i x off encrypted) : Extends r (s.macVerify fl i x off encrypted) := by
  unfold State.macVerify; simp (maxDischargeDepth := 99) [*]

@[simp ↓] theorem State.espVerify_extends {r s : State} (h : Extends r s) (fl i x p) : Extends r (s.espVerify fl i x p) := by
  unfold State.espVerify; dsimp only; (repeat' split) <;> simp (maxDischargeDepth := 99) [*]

@[simp ↓] theorem State.verify_extends {r s : State} (h : Extends r s) (fl) : Extends r (s.verify fl) := by
  unfold State.verify; dsimp only; (repeat' split) <;> simp (maxDischargeDepth := 99) [*]

@[simp ↓] theorem State.cipherStage_extends {r s : State} (h : Extends r s) (fl) : Extends r (s.cipherStage fl) := by
  unfold State.cipherStage
  have h1 := State.followUp_extends h fl
  dsimp only
  split
  · split <;> simp (maxDischargeDepth := 99) [h]
  · split
    · simp (maxDischargeDepth := 99) [h]
    · split
      · next e => exact State.mauAdd_inl h1 _ _ e
      · next e =>
        have h2 := State.mauAdd_inr h1 _ _ e
        dsimp only at h2
        simp (maxDischargeDepth := 99) [h2]

@[simp ↓] theorem State.readContexts_extends {r s : State} (h : Extends r s) (fl) : Extends r (s.readContexts fl) := by
  unfold State.readContexts; simp (maxDischargeDepth := 99) [*]

@[simp ↓] theorem State.classify_extends {r s : State} (h : Extends r s) (fl) : Extends r (s.classify fl) := by
  unfold State.classify
  dsimp only
  split
  · simp (maxDischargeDepth := 99) [h]
  · split
    · simp (maxDischargeDepth := 99) [h]
    · next e =>
      have h2 := State.journal_extends h _ _ _ _ e
      dsimp only at h2
      (repeat' split) <;> simp (maxDischargeDepth := 99) [h2]

@[simp ↓] theorem State.resumeFrame_extends {r s : State} (h : Extends r s) (sa fl) : Extends r (State.resumeFrame sa s fl) := by
  unfold State.resumeFrame; simp (maxDischargeDepth := 99) [*]

@[simp ↓] theorem State.tcEgress_extends {r s : State} (h : Extends r s) (fl) : Extends r (s.tcEgress fl).2 := by
  unfold State.tcEgress; dsimp only; (repeat' split) <;> simp (maxDischargeDepth := 99) [*]

@[simp ↓] theorem State.dropQueued_extends {r s : State} (h : Extends r s) (g p) : Extends r (s.dropQueued g p) := by
  unfold State.dropQueued; simp +contextual (maxDischargeDepth := 99) [*, Extends.foldl]

@[simp ↓] theorem State.linkFalls_extends {r s : State} (h : Extends r s) (g p) : Extends r (s.linkFalls g p) := by
  unfold State.linkFalls; simp (maxDischargeDepth := 99) [*]

@[simp ↓] theorem State.groupDown_extends {r s : State} (h : Extends r s) (g) : Extends r (s.groupDown g) := by
  unfold State.groupDown; simp +contextual (maxDischargeDepth := 99) [*, Extends.foldl]

@[simp ↓] theorem State.groupCtrlWrite_extends {r s : State} (h : Extends r s) (g v) : Extends r (s.groupCtrlWrite g v) := by
  unfold State.groupCtrlWrite; simp (maxDischargeDepth := 99) [*]

@[simp ↓] theorem State.portCfgWrite_extends {r s : State} (h : Extends r s) (g v) : Extends r (s.portCfgWrite g v) := by
  unfold State.portCfgWrite; simp (maxDischargeDepth := 99) [*]

@[simp ↓] theorem State.pipeFail_extends {r s : State} (h : Extends r s) (p) : Extends r (s.pipeFail p) := by
  unfold State.pipeFail; simp (maxDischargeDepth := 99) [*]

@[simp ↓] theorem State.pipeTested_extends {r s : State} (h : Extends r s) (pipe result) : Extends r (s.pipeTested pipe result) := by
  unfold State.pipeTested; (repeat' split) <;> simp (maxDischargeDepth := 99) [*]

@[simp ↓] theorem State.setTxAn_extends {r s : State} (h : Extends r s) (i empty d) : Extends r (s.setTxAn i empty d) := by
  unfold State.setTxAn; simp (maxDischargeDepth := 99) [*]

@[simp ↓] theorem State.installSa_extends {r s : State} (h : Extends r s) (i x) : Extends r (s.installSa i x) := by
  unfold State.installSa; simp (maxDischargeDepth := 99) [*]

@[simp ↓] theorem State.unblockRatchet_extends {r s : State} (h : Extends r s) (i) : Extends r (s.unblockRatchet i) := by
  unfold State.unblockRatchet; dsimp only; split <;> simp (maxDischargeDepth := 99) [*]

@[simp ↓] theorem State.setCls_extends {r s : State} (h : Extends r s) (i x) : Extends r (s.setCls i x) := by
  unfold State.setCls; simp (maxDischargeDepth := 99) [*]

@[simp ↓] theorem State.lkaStart_extends {r s : State} (h : Extends r s) (slot t zero params key2 lens) : Extends r (s.lkaStart slot t zero params key2 lens) := by
  unfold State.lkaStart; simp (maxDischargeDepth := 99) [*]

@[simp ↓] theorem State.lkaCbc_extends {r s : State} (h : Extends r s) (slot t) : Extends r (s.lkaCbc slot t) := by
  unfold State.lkaCbc; simp (maxDischargeDepth := 99) [*]

@[simp ↓] theorem State.lkaXts_extends {r s : State} (h : Extends r s) (slot t) : Extends r (s.lkaXts slot t) := by
  unfold State.lkaXts; simp (maxDischargeDepth := 99) [*]

@[simp ↓] theorem State.lkaWrap_extends {r s : State} (h : Extends r s) (slot t m low n) : Extends r (s.lkaWrap slot t m low n) := by
  unfold State.lkaWrap; simp (maxDischargeDepth := 99) [*]

@[simp ↓] theorem State.exportRecord_extends {r s : State} (h : Extends r s) (ue) : Extends r (s.exportRecord ue) := by
  unfold State.exportRecord; (repeat' split) <;> simp (maxDischargeDepth := 99) [*]

@[simp ↓] theorem State.exportCp_extends {r s : State} (h : Extends r s) (ue) : Extends r (s.exportCp ue) := by
  unfold State.exportCp; (repeat' split) <;> simp (maxDischargeDepth := 99) [*]

@[simp ↓] theorem State.consumeRecords_extends {r s : State} (h : Extends r s) (v) : Extends r (s.consumeRecords v) := by
  unfold State.consumeRecords; simp (maxDischargeDepth := 99) [*]

@[simp ↓] theorem State.consumeCps_extends {r s : State} (h : Extends r s) (v) : Extends r (s.consumeCps v) := by
  unfold State.consumeCps; simp (maxDischargeDepth := 99) [*]

end Sys2Proof.Machine
end

