-- ==== Sys2Proof/Laws/ExtendsRing.lean ====
section
/-!
SUPPORT. Each part of a command extends the state it begins from: the trunk, the ring, tamper responses and the card port.
-/
namespace Sys2Proof.Machine
open Sys2Proof

theorem State.trkOpen_extends {r s : State} (h : Extends r s) (west f) : ∀ u, s.trkOpen west f = some u → Extends r u.2 := by
  unfold State.trkOpen; dsimp only; (repeat' split) <;> simp (maxDischargeDepth := 99) [*]

theorem State.trkBody_extends {r s : State} (h : Extends r s) (west f) : ∀ u, s.trkBody west f = some u → Extends r u.2 := by
  unfold State.trkBody; intro u e; split at e
  · exact State.trkOpen_extends h _ _ u e
  · split at e
    · cases e; exact h
    · cases e

@[simp ↓] theorem State.trkRelay_extends {r s : State} (h : Extends r s) (west m) : Extends r (s.trkRelay west m) := by
  unfold State.trkRelay; simp (maxDischargeDepth := 99) [*]

@[simp ↓] theorem State.trkNoted_extends {r s : State} (h : Extends r s) (west f) : Extends r (s.trkNoted west f) := by
  unfold State.trkNoted; simp (maxDischargeDepth := 99) [*]

@[simp ↓] theorem State.trkReceive_extends {r s : State} (h : Extends r s) (west f typ k) (hk : ∀ x0 x1 x2, Extends r x2 → Extends r (k x0 x1 x2)) : Extends r (s.trkReceive west f typ k) := by
  have hn := State.trkNoted_extends h west f
  unfold State.trkReceive
  split
  · exact h
  · dsimp only
    split
    · exact State.count_extends hn _
    · next e =>
      have ht := State.trkBody_extends hn _ _ _ e
      dsimp only at ht ⊢
      (repeat' split) <;> first | exact hk _ _ _ ht | simp (maxDischargeDepth := 99) [hn, ht]

@[simp ↓] theorem mirrorChunks_extends {r s : State} (h : Extends r s) (n l) : Extends r (mirrorChunks n l s) := by
  induction n generalizing s l with
  | zero => exact h
  | succ n ih => unfold mirrorChunks; split <;> first | exact h | (apply ih; simp (maxDischargeDepth := 99) [h])

@[simp ↓] theorem State.mirrorMany_extends {r s : State} (h : Extends r s) (rs) : Extends r (s.mirrorMany rs) := by
  unfold State.mirrorMany; simp (maxDischargeDepth := 99) [*]

@[simp ↓] theorem State.fullSync_extends {r s : State} (h : Extends r s) : Extends r s.fullSync := by
  unfold State.fullSync; simp (maxDischargeDepth := 99) [*]

@[simp ↓] theorem State.confirmRecord_extends {r s : State} (h : Extends r s) (r0) : Extends r (s.confirmRecord r0) := by
  unfold State.confirmRecord; split <;> simp (maxDischargeDepth := 99) [*]

@[simp ↓] theorem State.confirmMessages_extends {r s : State} (h : Extends r s) (ms) : Extends r (s.confirmMessages ms) := by
  unfold State.confirmMessages; simp +contextual (maxDischargeDepth := 99) [*, Extends.foldl]

@[simp ↓] theorem State.mirrorAcked_extends {r s : State} (h : Extends r s) (lseq) : Extends r (s.mirrorAcked lseq) := by
  unfold State.mirrorAcked; simp (maxDischargeDepth := 99) [*]

@[simp ↓] theorem State.confirmAll_extends {r s : State} (h : Extends r s) : Extends r s.confirmAll := by
  unfold State.confirmAll; simp +contextual (maxDischargeDepth := 99) [*, Extends.foldl]

@[simp ↓] theorem State.retarget_extends {r s : State} (h : Extends r s) (before) : Extends r (s.retarget before) := by
  unfold State.retarget; simp (maxDischargeDepth := 99) [*]

@[simp ↓] theorem State.trunkFalls_extends {r s : State} (h : Extends r s) (west) : Extends r (s.trunkFalls west) := by
  unfold State.trunkFalls; simp (maxDischargeDepth := 99) [*]

@[simp ↓] theorem State.ringSlot_extends {r s : State} (h : Extends r s) (n key) : Extends r (s.ringSlot n key) := by
  unfold State.ringSlot; simp (maxDischargeDepth := 99) [*]

@[simp ↓] theorem State.nextRingKey_extends {r s : State} (h : Extends r s) (key) : Extends r (s.nextRingKey key) := by
  unfold State.nextRingKey; simp (maxDischargeDepth := 99) [*]

@[simp ↓] theorem State.dropNextKey_extends {r s : State} (h : Extends r s) : Extends r s.dropNextKey := by
  unfold State.dropNextKey; simp (maxDischargeDepth := 99) [*]

@[simp ↓] theorem State.sendPass_extends {r s : State} (h : Extends r s) (west e) : Extends r (s.sendPass west e) := by
  unfold State.sendPass; simp (maxDischargeDepth := 99) [*]

@[simp ↓] theorem State.startPass_extends {r s : State} (h : Extends r s) (e) : Extends r (s.startPass e) := by
  unfold State.startPass; simp +contextual (maxDischargeDepth := 99) [*, Extends.foldl]

@[simp ↓] theorem State.keyCommit_extends {r s : State} (h : Extends r s) : Extends r s.keyCommit := by
  unfold State.keyCommit; simp (maxDischargeDepth := 99) [*]

@[simp ↓] theorem State.setCommitted_extends {r s : State} (h : Extends r s) (n) : Extends r (s.setCommitted n) := by
  unfold State.setCommitted; simp (maxDischargeDepth := 99) [*]

@[simp ↓] theorem State.commitEpoch_extends {r s : State} (h : Extends r s) (kind) : Extends r (s.commitEpoch kind) := by
  unfold State.commitEpoch; simp (maxDischargeDepth := 99) [*]

@[simp ↓] theorem State.startEpoch_extends {r s : State} (h : Extends r s) (kind target slot) : Extends r (s.startEpoch kind target slot) := by
  unfold State.startEpoch; (repeat' split) <;> simp (maxDischargeDepth := 99) [*]

@[simp ↓] theorem State.keeperAct_extends {r s : State} (h : Extends r s) : Extends r s.keeperAct := by
  unfold State.keeperAct; simp (maxDischargeDepth := 99) [*]

@[simp ↓] theorem State.epochAnswer_extends {r s : State} (h : Extends r s) (slot num) : Extends r (s.epochAnswer slot num) := by
  unfold State.epochAnswer; split <;> simp (maxDischargeDepth := 99) [*]

@[simp ↓] theorem State.runEpoch_extends {r s : State} (h : Extends r s) (slot) : Extends r (s.runEpoch slot) := by
  unfold State.runEpoch; split <;> simp (maxDischargeDepth := 99) [*]

theorem runWaiting_extends {r : State} : ∀ (l : List Nat) {s : State}, Extends r s → Extends r (runWaiting l s)
  | [], _, h => State.keeperAct_extends h
  | slot :: rest, s, h => by
    have h' : Extends r ((s.modTrk fun t => { t with waiting := rest }).runEpoch slot) := by simp (maxDischargeDepth := 99) [*]
    unfold runWaiting
    dsimp only
    split
    · exact h'
    · exact runWaiting_extends rest h'

@[simp ↓] theorem State.nextEpoch_extends {r s : State} (h : Extends r s) : Extends r s.nextEpoch := by
  unfold State.nextEpoch
  split
  · exact h
  · exact runWaiting_extends _ h

@[simp ↓] theorem State.epochOver_extends {r s : State} (h : Extends r s) : Extends r s.epochOver := by
  unfold State.epochOver; simp (maxDischargeDepth := 99) [*]

@[simp ↓] theorem State.failEpoch_extends {r s : State} (h : Extends r s) (e) : Extends r (s.failEpoch e) := by
  unfold State.failEpoch; (repeat' split) <;> simp (maxDischargeDepth := 99) [*]

@[simp ↓] theorem State.passReturned_extends {r s : State} (h : Extends r s) (e target) : Extends r (s.passReturned e target) := by
  unfold State.passReturned; (repeat' split) <;> simp (maxDischargeDepth := 99) [*]

@[simp ↓] theorem State.armReturned_extends {r s : State} (h : Extends r s) (commit kind num target) : Extends r (s.armReturned commit kind num target) := by
  unfold State.armReturned; split <;> simp (maxDischargeDepth := 99) [*]

@[simp ↓] theorem State.passOn_extends {r s : State} (h : Extends r s) (west m payload) : Extends r (s.passOn west m payload) := by
  unfold State.passOn; simp (maxDischargeDepth := 99) [*]

@[simp ↓] theorem State.compareTime_extends {r s : State} (h : Extends r s) (n map stamp acc) : Extends r (s.compareTime n map stamp acc) := by
  unfold State.compareTime; simp (maxDischargeDepth := 99) [*]

@[simp ↓] theorem State.keyLink_extends {r s : State} (h : Extends r s) (west) : Extends r (s.keyLink west) := by
  unfold State.keyLink; split <;> simp (maxDischargeDepth := 99) [*]

@[simp ↓] theorem State.helloKeyed_extends {r s : State} (h : Extends r s) (west seed) : Extends r (s.helloKeyed west seed) := by
  unfold State.helloKeyed; dsimp only; split <;> simp (maxDischargeDepth := 99) [*]

@[simp ↓] theorem State.helloReady_extends {r s : State} (h : Extends r s) (west msg sig) : Extends r (s.helloReady west msg sig) := by
  unfold State.helloReady; simp (maxDischargeDepth := 99) [*]

@[simp ↓] theorem State.helloFails_extends {r s : State} (h : Extends r s) (west m) : Extends r (s.helloFails west m) := by
  unfold State.helloFails; simp (maxDischargeDepth := 99) [*]

@[simp ↓] theorem State.notePeer_extends {r s : State} (h : Extends r s) (west m) : Extends r (s.notePeer west m) := by
  unfold State.notePeer; simp (maxDischargeDepth := 99) [*]

@[simp ↓] theorem State.helloEncapsulated_extends {r s : State} (h : Extends r s) (west ct ss) : Extends r (s.helloEncapsulated west ct ss) := by
  unfold State.helloEncapsulated; split <;> simp (maxDischargeDepth := 99) [*]

@[simp ↓] theorem State.helloSigned_extends {r s : State} (h : Extends r s) (west msg sig) : Extends r (s.helloSigned west msg sig) := by
  unfold State.helloSigned; simp (maxDischargeDepth := 99) [*]

@[simp ↓] theorem State.ackOpened_extends {r s : State} (h : Extends r s) (west ss) : Extends r (s.ackOpened west ss) := by
  unfold State.ackOpened; dsimp only; split <;> simp (maxDischargeDepth := 99) [*]

@[simp ↓] theorem State.csigSigned_extends {r s : State} (h : Extends r s) (west digest sig) : Extends r (s.csigSigned west digest sig) := by
  unfold State.csigSigned; simp (maxDischargeDepth := 99) [*]

@[simp ↓] theorem State.dropKeyEpoch_extends {r s : State} (h : Extends r s) : Extends r s.dropKeyEpoch := by
  unfold State.dropKeyEpoch; split <;> simp (maxDischargeDepth := 99) [*]

@[simp ↓] theorem State.loseNeighbour_extends {r s : State} (h : Extends r s) (west) : Extends r (s.loseNeighbour west) := by
  unfold State.loseNeighbour; split <;> simp (maxDischargeDepth := 99) [*]

@[simp ↓] theorem State.loseTarget_extends {r s : State} (h : Extends r s) (p) : Extends r (s.loseTarget p) := by
  unfold State.loseTarget; simp (maxDischargeDepth := 99) [*]

@[simp ↓] theorem State.resendMirror_extends {r s : State} (h : Extends r s) (m) : Extends r (s.resendMirror m) := by
  unfold State.resendMirror; split <;> simp (maxDischargeDepth := 99) [*]

@[simp ↓] theorem State.applyMap_extends {r s : State} (h : Extends r s) (m) : Extends r (s.applyMap m) := by
  unfold State.applyMap; simp (maxDischargeDepth := 99) [*]

@[simp ↓] theorem State.takeSa_extends {r s : State} (h : Extends r s) (p bad r0) : Extends r (s.takeSa p bad r0) := by
  unfold State.takeSa; split <;> simp (maxDischargeDepth := 99) [*]

@[simp ↓] theorem State.trkCtrlWrite_extends {r s : State} (h : Extends r s) (v) : Extends r (s.trkCtrlWrite v) := by
  unfold State.trkCtrlWrite; simp (maxDischargeDepth := 99) [*]

@[simp ↓] theorem State.clearMap_extends {r s : State} (h : Extends r s) : Extends r s.clearMap := by
  unfold State.clearMap; dsimp only; (repeat' split) <;> simp +contextual (maxDischargeDepth := 99) [*, Extends.foldl]

@[simp ↓] theorem State.ownFailed_extends {r s : State} (h : Extends r s) (job) : Extends r (s.ownFailed job) := by
  unfold State.ownFailed; split <;> simp (maxDischargeDepth := 99) [*]

@[simp ↓] theorem State.ownDone_extends {r s : State} (h : Extends r s) (o job) : Extends r (s.ownDone o job) := by
  unfold State.ownDone; split <;> simp (maxDischargeDepth := 99) [*]

@[simp ↓] theorem State.endFailedBy_extends {r s : State} (h : Extends r s) (o : CombOp) (leave : State → State) (status : Nat) (ext : Nat) (hleave : ∀ y0, Extends r y0 → Extends r (leave y0)) : Extends r (s.endFailedBy o leave status ext) := by
  unfold State.endFailedBy; dsimp only; (repeat' split) <;> simp +contextual (maxDischargeDepth := 99) [*]

@[simp ↓] theorem State.endFailed_extends {r s : State} (h : Extends r s) (o status ext) : Extends r (s.endFailed o status ext) := by
  unfold State.endFailed; simp +contextual (maxDischargeDepth := 99) [*]

@[simp ↓] theorem State.endAlarmed_extends {r s : State} (h : Extends r s) (o : CombOp) (leave : State → State) (status : Nat) (ext : Nat) (hleave : ∀ y0, Extends r y0 → Extends r (leave y0)) : Extends r (s.endAlarmed o leave status ext) := by
  unfold State.endAlarmed; simp +contextual (maxDischargeDepth := 99) [*]

@[simp ↓] theorem State.prefixEnds_extends {r s : State} (h : Extends r s) (o) : Extends r (s.prefixEnds o) := by
  unfold State.prefixEnds; (repeat' split) <;> simp (maxDischargeDepth := 99) [*]

@[simp ↓] theorem State.tailEnds_extends {r s : State} (h : Extends r s) (o slot) : Extends r (s.tailEnds o slot) := by
  unfold State.tailEnds; simp (maxDischargeDepth := 99) [*]

@[simp ↓] theorem State.hold_extends {r s : State} (h : Extends r s) (o r0) : Extends r (s.hold o r0) := by
  unfold State.hold; simp (maxDischargeDepth := 99) [*]

@[simp ↓] theorem State.detach_extends {r s : State} (h : Extends r s) (o status ext) : Extends r (s.detach o status ext) := by
  unfold State.detach; split <;> simp (maxDischargeDepth := 99) [*]

@[simp ↓] theorem State.unbuild_extends {r s : State} (h : Extends r s) (o) : Extends r (s.unbuild o) := by
  unfold State.unbuild; dsimp only; split <;> simp (maxDischargeDepth := 99) [*]

@[simp ↓] theorem State.holdIterLimit_extends {r s : State} (h : Extends r s) (o) : Extends r (s.holdIterLimit o) := by
  unfold State.holdIterLimit; simp (maxDischargeDepth := 99) [*]

@[simp ↓] theorem State.commitDest_extends {r s : State} (h : Extends r s) (o) : Extends r (s.commitDest o) := by
  unfold State.commitDest; split <;> simp (maxDischargeDepth := 99) [*]

@[simp ↓] theorem State.releaseHost_extends {r s : State} (h : Extends r s) (o slot) : Extends r (s.releaseHost o slot) := by
  unfold State.releaseHost; split <;> simp (maxDischargeDepth := 99) [*]

@[simp ↓] theorem State.releaseBlock_extends {r s : State} (h : Extends r s) (o slot) : Extends r (s.releaseBlock o slot) := by
  unfold State.releaseBlock; simp (maxDischargeDepth := 99) [*]

@[simp ↓] theorem State.fence_extends {r s : State} (h : Extends r s) (e) : Extends r (s.fence e) := by
  unfold State.fence; simp (maxDischargeDepth := 99) [*]

@[simp ↓] theorem State.testRate_extends {r s : State} (h : Extends r s) (e) : Extends r (s.testRate e) := by
  unfold State.testRate; simp (maxDischargeDepth := 99) [*]

@[simp ↓] theorem State.testRates_extends {r s : State} (h : Extends r s) : Extends r s.testRates := by
  unfold State.testRates; simp +contextual (maxDischargeDepth := 99) [*, Extends.foldl]

@[simp ↓] theorem State.correctedError_extends {r s : State} (h : Extends r s) (e) : Extends r (s.correctedError e) := by
  unfold State.correctedError; simp (maxDischargeDepth := 99) [*]

@[simp ↓] theorem State.abandon_extends {r s : State} (h : Extends r s) (o) : Extends r (s.abandon o) := by
  unfold State.abandon; (repeat' split) <;> simp (maxDischargeDepth := 99) [*]

@[simp ↓] theorem State.someCommit_extends {r s : State} (h : Extends r s) (o any) : Extends r (s.someCommit o any) := by
  unfold State.someCommit; simp (maxDischargeDepth := 99) [*]

@[simp ↓] theorem State.masterFails_extends {r s : State} (h : Extends r s) (kind) : Extends r (s.masterFails kind) := by
  unfold State.masterFails; simp +contextual (maxDischargeDepth := 99) [*, Extends.foldl]

@[simp ↓] theorem State.batteryAlarm_extends {r s : State} (h : Extends r s) (src cls) : Extends r (s.batteryAlarm src cls) := by
  unfold State.batteryAlarm; simp (maxDischargeDepth := 99) [*]

@[simp ↓] theorem State.sourceTicked_extends {r s : State} (h : Extends r s) (n r0 code) : Extends r (s.sourceTicked n r0 code) := by
  unfold State.sourceTicked; simp (maxDischargeDepth := 99) [*]

@[simp ↓] theorem State.tickOne_extends {r s : State} (h : Extends r s) (n active) : Extends r (s.tickOne n active) := by
  unfold State.tickOne; split <;> simp (maxDischargeDepth := 99) [*]

@[simp ↓] theorem State.tickMany_extends {r s : State} (h : Extends r s) (n events) : Extends r (s.tickMany n events) := by
  unfold State.tickMany; split <;> simp (maxDischargeDepth := 99) [*]

@[simp ↓] theorem State.tickSampled_extends {r s : State} (h : Extends r s) (n codes fast) : Extends r (s.tickSampled n codes fast) := by
  unfold State.tickSampled; split <;> simp (maxDischargeDepth := 99) [*]

@[simp ↓] theorem State.mainTick_extends {r s : State} (h : Extends r s) (mesh light vdd vddFast clock clockFast) : Extends r (s.mainTick mesh light vdd vddFast clock clockFast) := by
  unfold State.mainTick; simp (maxDischargeDepth := 99) [*]

@[simp ↓] theorem State.clockTick_extends {r s : State} (h : Extends r s) (stopped edges) : Extends r (s.clockTick stopped edges) := by
  unfold State.clockTick; simp (maxDischargeDepth := 99) [*]

@[simp ↓] theorem State.ustTick_extends {r s : State} (h : Extends r s) (inputs tempLow tempHigh xtalStop vbatLow edges) : Extends r (s.ustTick inputs tempLow tempHigh xtalStop vbatLow edges) := by
  unfold State.ustTick; simp +contextual (maxDischargeDepth := 99) [*, Extends.foldl]

@[simp ↓] theorem State.boundsWrite_extends {r s : State} (h : Extends r s) (v f) : Extends r (s.boundsWrite v f) := by
  unfold State.boundsWrite; simp (maxDischargeDepth := 99) [*]

@[simp ↓] theorem State.srcCfgWrite_extends {r s : State} (h : Extends r s) (v) : Extends r (s.srcCfgWrite v) := by
  unfold State.srcCfgWrite; simp (maxDischargeDepth := 99) [*]

@[simp ↓] theorem State.marginWrite_extends {r s : State} (h : Extends r s) (v) : Extends r (s.marginWrite v) := by
  unfold State.marginWrite; simp (maxDischargeDepth := 99) [*]

@[simp ↓] theorem State.hardWrite_extends {r s : State} (h : Extends r s) (v) : Extends r (s.hardWrite v) := by
  unfold State.hardWrite; simp (maxDischargeDepth := 99) [*]

@[simp ↓] theorem State.baseLimWrite_extends {r s : State} (h : Extends r s) (v) : Extends r (s.baseLimWrite v) := by
  unfold State.baseLimWrite; simp (maxDischargeDepth := 99) [*]

@[simp ↓] theorem State.modCrd_extends {r s : State} (h : Extends r s) (f) : Extends r (s.modCrd f) := by
  unfold State.modCrd; simp (maxDischargeDepth := 99) [*]

@[simp ↓] theorem State.modT1_extends {r s : State} (h : Extends r s) (f) : Extends r (s.modT1 f) := by
  unfold State.modT1; simp (maxDischargeDepth := 99) [*]

@[simp ↓] theorem State.sendBlock_extends {r s : State} (h : Extends r s) (pcb inf) : Extends r (s.sendBlock pcb inf) := by
  unfold State.sendBlock; simp (maxDischargeDepth := 99) [*]

@[simp ↓] theorem State.sendI_extends {r s : State} (h : Extends r s) : Extends r s.sendI := by
  unfold State.sendI; split <;> simp (maxDischargeDepth := 99) [*]

@[simp ↓] theorem State.sendR_extends {r s : State} (h : Extends r s) (err) : Extends r (s.sendR err) := by
  unfold State.sendR; simp (maxDischargeDepth := 99) [*]

@[simp ↓] theorem State.sendApdu_extends {r s : State} (h : Extends r s) (kind apdu) : Extends r (s.sendApdu kind apdu) := by
  unfold State.sendApdu; simp (maxDischargeDepth := 99) [*]

@[simp ↓] theorem State.cardEnd_extends {r s : State} (h : Extends r s) (status ext len out) : Extends r (s.cardEnd status ext len out) := by
  unfold State.cardEnd; split <;> simp (maxDischargeDepth := 99) [*]

@[simp ↓] theorem State.cardFail_extends {r s : State} (h : Extends r s) (status ext) : Extends r (s.cardFail status ext) := by
  unfold State.cardFail; simp (maxDischargeDepth := 99) [*]

@[simp ↓] theorem State.cardDone_extends {r s : State} (h : Extends r s) (out) : Extends r (s.cardDone out) := by
  unfold State.cardDone; simp (maxDischargeDepth := 99) [*]

@[simp ↓] theorem State.cardBroken_extends {r s : State} (h : Extends r s) (ext) : Extends r (s.cardBroken ext) := by
  unfold State.cardBroken; simp (maxDischargeDepth := 99) [*]

@[simp ↓] theorem State.sendSecure_extends {r s : State} (h : Extends r s) (kind data answer) : Extends r (s.sendSecure kind data answer) := by
  unfold State.sendSecure; simp (maxDischargeDepth := 99) [*]

@[simp ↓] theorem State.sealedOp_extends {r s : State} (h : Extends r s) : Extends r s.sealedOp := by
  unfold State.sealedOp; (repeat' split) <;> simp (maxDischargeDepth := 99) [*]

@[simp ↓] theorem State.cardServed_extends {r s : State} (h : Extends r s) (share) : Extends r (s.cardServed share) := by
  unfold State.cardServed; simp (maxDischargeDepth := 99) [*]

@[simp ↓] theorem State.takeRecord_extends {r s : State} (h : Extends r s) (c b) : Extends r (s.takeRecord c b) := by
  unfold State.takeRecord; simp (maxDischargeDepth := 99) [*]

@[simp ↓] theorem State.secureAnswer_extends {r s : State} (h : Extends r s) (op kind data) : Extends r (s.secureAnswer op kind data) := by
  unfold State.secureAnswer; dsimp only; (repeat' split) <;> simp (maxDischargeDepth := 99) [*]

@[simp ↓] theorem State.apduAnswered_extends {r s : State} (h : Extends r s) : Extends r s.apduAnswered := by
  unfold State.apduAnswered; (repeat' split) <;> simp (maxDischargeDepth := 99) [*]

@[simp ↓] theorem State.resync_extends {r s : State} (h : Extends r s) : Extends r s.resync := by
  unfold State.resync; simp (maxDischargeDepth := 99) [*]

@[simp ↓] theorem State.badBlock_extends {r s : State} (h : Extends r s) (err) : Extends r (s.badBlock err) := by
  unfold State.badBlock; simp (maxDischargeDepth := 99) [*]

@[simp ↓] theorem State.repeatBlock_extends {r s : State} (h : Extends r s) : Extends r s.repeatBlock := by
  unfold State.repeatBlock; simp (maxDischargeDepth := 99) [*]

@[simp ↓] theorem State.takeBlock_extends {r s : State} (h : Extends r s) (pcb inf) : Extends r (s.takeBlock pcb inf) := by
  unfold State.takeBlock; dsimp only; (repeat' split) <;> simp (maxDischargeDepth := 99) [*]

@[simp ↓] theorem State.t1Receive_extends {r s : State} (h : Extends r s) (b parityOk) : Extends r (s.t1Receive b parityOk) := by
  unfold State.t1Receive; simp (maxDischargeDepth := 99) [*]

@[simp ↓] theorem State.askIfs_extends {r s : State} (h : Extends r s) : Extends r s.askIfs := by
  unfold State.askIfs; simp (maxDischargeDepth := 99) [*]

@[simp ↓] theorem State.atrReceive_extends {r s : State} (h : Extends r s) (b parityOk) : Extends r (s.atrReceive b parityOk) := by
  unfold State.atrReceive; (repeat' split) <;> simp (maxDischargeDepth := 99) [*]

@[simp ↓] theorem State.ppsReceive_extends {r s : State} (h : Extends r s) (b parityOk) : Extends r (s.ppsReceive b parityOk) := by
  unfold State.ppsReceive; simp (maxDischargeDepth := 99) [*]

@[simp ↓] theorem State.cardEntry_extends {r s : State} (h : Extends r s) (slot op zero params more inOk outLen needsCard k) (hk : ∀ x0, Extends r (k x0)) : Extends r (s.cardEntry slot op zero params more inOk outLen needsCard k) := by
  unfold State.cardEntry; simp (maxDischargeDepth := 99) [*]

@[simp ↓] theorem State.cardStart_extends {r s : State} (h : Extends r s) (slot) : Extends r (s.cardStart slot) := by
  unfold State.cardStart; simp (maxDischargeDepth := 99) [*]

@[simp ↓] theorem State.sealedStart_extends {r s : State} (h : Extends r s) (slot) : Extends r (s.sealedStart slot) := by
  unfold State.sealedStart; simp (maxDischargeDepth := 99) [*]

@[simp ↓] theorem State.restoreBvr_extends {r s : State} (h : Extends r s) (cs) : Extends r (s.restoreBvr cs) := by
  unfold State.restoreBvr; split <;> simp (maxDischargeDepth := 99) [*]

end Sys2Proof.Machine
end

