-- ==== Sys2Proof/Laws/ExtendsDevice.lean ====
section
/-!
SUPPORT. Each part of a command extends the state it begins from: memory, loops, queues, functions, boot, digests, the life cycle, power, time and register writes.
-/
namespace Sys2Proof.Machine
open Sys2Proof

@[simp ↓] theorem State.scrubLine_extends {r s : State} (h : Extends r s) (n flips severity) : Extends r (s.scrubLine n flips severity) := by
  unfold State.scrubLine; dsimp only; split <;> simp (maxDischargeDepth := 99) [*]

@[simp ↓] theorem State.modAdl_extends {r s : State} (h : Extends r s) (f) : Extends r (s.modAdl f) := by
  unfold State.modAdl; simp (maxDischargeDepth := 99) [*]

@[simp ↓] theorem State.avsBelow_extends {r s : State} (h : Extends r s) (slack) : Extends r (s.avsBelow slack) := by
  unfold State.avsBelow; simp (maxDischargeDepth := 99) [*]

@[simp ↓] theorem State.avsFails_extends {r s : State} (h : Extends r s) : Extends r s.avsFails := by
  unfold State.avsFails; simp (maxDischargeDepth := 99) [*]

@[simp ↓] theorem State.modLane_extends {r s : State} (h : Extends r s) (n f) : Extends r (s.modLane n f) := by
  unfold State.modLane; simp (maxDischargeDepth := 99) [*]

@[simp ↓] theorem State.eyeMeasured_extends {r s : State} (h : Extends r s) (n eye) : Extends r (s.eyeMeasured n eye) := by
  unfold State.eyeMeasured; split <;> simp (maxDischargeDepth := 99) [*]

@[simp ↓] theorem State.freshLanes_extends {r s : State} (h : Extends r s) (target lanes) : Extends r (s.freshLanes target lanes) := by
  unfold State.freshLanes; simp +contextual (maxDischargeDepth := 99) [*, Extends.foldl]

@[simp ↓] theorem State.restartLanes_extends {r s : State} (h : Extends r s) (target lanes) : Extends r (s.restartLanes target lanes) := by
  unfold State.restartLanes; simp +contextual (maxDischargeDepth := 99) [*, Extends.foldl]

@[simp ↓] theorem State.avsBoundsWrite_extends {r s : State} (h : Extends r s) (v) : Extends r (s.avsBoundsWrite v) := by
  unfold State.avsBoundsWrite; simp (maxDischargeDepth := 99) [*]

@[simp ↓] theorem State.laneCfgWrite_extends {r s : State} (h : Extends r s) (v) : Extends r (s.laneCfgWrite v) := by
  unfold State.laneCfgWrite; simp (maxDischargeDepth := 99) [*]

@[simp ↓] theorem State.takeStores_extends {r s : State} (h : Extends r s) (mask l) : Extends r (s.takeStores mask l) := by
  unfold State.takeStores; simp (maxDischargeDepth := 99) [*]

@[simp ↓] theorem State.ring_extends {r s : State} (h : Extends r s) (f qid v) : Extends r (s.ring f qid v) := by
  unfold State.ring; simp (maxDischargeDepth := 99) [*]

@[simp ↓] theorem State.issueRead_extends {r s : State} (h : Extends r s) (f addr len noSnoop) : Extends r (s.issueRead f addr len noSnoop) := by
  unfold State.issueRead; simp +contextual (maxDischargeDepth := 99) [*, Extends.foldl]

@[simp ↓] theorem State.issueGather_extends {r s : State} (h : Extends r s) (t frags) : Extends r (s.issueGather t frags) := by
  unfold State.issueGather; simp +contextual (maxDischargeDepth := 99) [*, Extends.foldl]

@[simp ↓] theorem State.regathered_extends {r s : State} (h : Extends r s) (slot input) : Extends r (s.regathered slot input) := by
  unfold State.regathered; simp (maxDischargeDepth := 99) [*]

@[simp ↓] theorem State.clearRange_extends {r s : State} (h : Extends r s) (f) : Extends r (s.clearRange f) := by
  unfold State.clearRange; simp (maxDischargeDepth := 99) [*]

@[simp ↓] theorem State.resetFunction_extends {r s : State} (h : Extends r s) (f) : Extends r (s.resetFunction f) := by
  unfold State.resetFunction; simp (maxDischargeDepth := 99) [*]

@[simp ↓] theorem State.resetAllFunctions_extends {r s : State} (h : Extends r s) : Extends r s.resetAllFunctions := by
  unfold State.resetAllFunctions
  have h1 : Extends r ((s.slotsWhere fun _ => true).foldl State.dropEntry s) := .foldl (fun s a h => by simp (maxDischargeDepth := 99) [h]) _ h
  dsimp only
  generalize (s.slotsWhere fun _ => true).foldl State.dropEntry s = t at h1
  simp (maxDischargeDepth := 99) [h1, List.range, List.range.loop]

@[simp ↓] theorem State.syncRead_extends {r s : State} (h : Extends r s) (n) : Extends r (s.syncRead n) := by
  unfold State.syncRead; simp (maxDischargeDepth := 99) [*]

@[simp ↓] theorem State.releaseSyncs_extends {r s : State} (h : Extends r s) : Extends r s.releaseSyncs := by
  unfold State.releaseSyncs; simp +contextual (maxDischargeDepth := 99) [*, Extends.foldl]

@[simp ↓] theorem State.beginFlr_extends {r s : State} (h : Extends r s) (f) : Extends r (s.beginFlr f) := by
  unfold State.beginFlr; simp (maxDischargeDepth := 99) [*]

@[simp ↓] theorem State.haltedQueue_extends {r s : State} (h : Extends r s) (f x qid) : Extends r (s.haltedQueue f x qid) := by
  unfold State.haltedQueue; simp (maxDischargeDepth := 99) [*]

@[simp ↓] theorem State.haltChannel_extends {r s : State} (h : Extends r s) (f x) : Extends r (s.haltChannel f x) := by
  unfold State.haltChannel
  have h1 := State.dropFunction_extends h f
  dsimp only
  generalize s.dropFunction f = t at h1 ⊢
  have h2 : Extends r { t with queues := t.queues.map fun e => (e.1, if e.1 / 256 = f then e.2.halt (haltErrCode x (e.1 % 256)) else e.2) } := by
    refine Extends.mk_iff.2 ⟨h1.pending, h1.out, h1.freeUsed, h1.otp, h1.regs, h1.funcs, h1.chans, fun c => ?_, h1.vectors, h1.tracker, h1.slots, h1.lines⟩
    refine Sparse.wf_map (f := fun k q => if k / 256 = f then q.halt (haltErrCode x (k % 256)) else q) (h1.queues c) fun k v hv => ?_
    simp only [Queue.halt]
    split
    · split
      · exact hv
      · intro e
        have := congrArg Queue.state e
        simp at this
    · exact hv
  revert h2
  generalize ({ t with queues := _ } : State) = u
  intro h2
  exact State.log_extends (Extends.foldl (fun s q hs => State.haltedQueue_extends hs f x q) _ (by simp (maxDischargeDepth := 99) [h2])) _

@[simp ↓] theorem State.failTransfer_extends {r s : State} (h : Extends r s) (f x) : Extends r (s.failTransfer f x) := by
  unfold State.failTransfer; simp (maxDischargeDepth := 99) [*]

@[simp ↓] theorem State.failReads_extends {r s : State} (h : Extends r s) : Extends r s.failReads := by
  unfold State.failReads; simp +contextual (maxDischargeDepth := 99) [*, Extends.foldl]

@[simp ↓] theorem State.reissue_extends {r s : State} (h : Extends r s) (f x) : Extends r (s.reissue f x) := by
  unfold State.reissue; simp +contextual (maxDischargeDepth := 99) [*, Extends.foldl]

@[simp ↓] theorem State.modOtp_extends {r s : State} (h : Extends r s) (f) (hf : ∀ l, OtpLe l (f l)) : Extends r (s.modOtp f) := by
  unfold State.modOtp; simp (maxDischargeDepth := 99) [h]; exact OtpLe.trans h.otp (hf _)

@[simp ↓] theorem State.modLcs_extends {r s : State} (h : Extends r s) (f) (hf : ∀ l, OtpLe l.otp (f l).otp) : Extends r (s.modLcs f) := by
  unfold State.modLcs; simp (maxDischargeDepth := 99) [h]; exact OtpLe.trans h.otp (hf _)

@[simp ↓] theorem State.burnMark_extends {r s : State} (h : Extends r s) (i mask) : Extends r (s.burnMark i mask) := by
  refine State.modOtp_extends h _ fun o => ⟨by simp, by simp, by simp, by simp, fun i x y hx hy => ?_, by simp, by simp, by simp, id, id, id, id, id⟩
  rw [List.getElem?_modify, hx] at hy
  obtain rfl := Option.some.inj hy
  split <;> simp [MarkLe]

@[simp ↓] theorem State.decodeLifeCycle_extends {r s : State} (h : Extends r s) : Extends r s.decodeLifeCycle := by
  unfold State.decodeLifeCycle; simp (maxDischargeDepth := 99) [*]

@[simp ↓] theorem State.cold_extends {r s : State} (h : Extends r s) (cause) : Extends r (s.cold cause) := by
  unfold State.cold
  refine State.setReg_extends (Extends.mk_iff.2 ?_) _ _
  exact ⟨h.pending, h.out, h.freeUsed, h.otp, h.regs.filter, fun _ => rfl, fun _ => rfl, fun _ => rfl, fun _ => rfl, fun _ => rfl, fun _ => rfl, fun _ => rfl⟩

@[simp ↓] theorem State.coldReset_extends {r s : State} (h : Extends r s) (cause) : Extends r (s.coldReset cause) := by
  unfold State.coldReset; simp (maxDischargeDepth := 99) [*]

@[simp ↓] theorem State.takeBoard_extends {r s : State} (h : Extends r s) (b) : Extends r (s.takeBoard b) := by
  unfold State.takeBoard
  have h1 : ∀ f : Flash, Extends r (({ s with pwr := { s.pwr with straps := b.straps } } : State).modLcs fun l => { l with flash := f, nextActiveB := f.activeB }) := by
    intro f; simp (maxDischargeDepth := 99) [h]
  have h2 : ∀ (t : State) (x : Factory), Extends r t → Extends r (t.modOtp fun o => { o with
      serial := x.serial, vendorKeyHash := x.vendorKeyHash, vendorImageSecret := x.vendorImageSecret }) := fun t x ht =>
    State.modOtp_extends ht _ fun o => .mk (by simp) (by simp) (by simp) rfl (OtpLe.refl o).marks (by simp) (by simp) (by simp) id id id id id
  dsimp only
  (repeat' split) <;> first | exact h2 _ _ (h1 _) | exact h1 _ | (refine h2 _ _ ?_; simp (maxDischargeDepth := 99) [h]) | simp (maxDischargeDepth := 99) [h]

@[simp ↓] theorem State.checkBattery_extends {r s : State} (h : Extends r s) (b) : Extends r (s.checkBattery b) := by
  unfold State.checkBattery; simp (maxDischargeDepth := 99) [*]

@[simp ↓] theorem State.handleLatch_extends {r s : State} (h : Extends r s) : Extends r s.handleLatch := by
  unfold State.handleLatch; simp +contextual (maxDischargeDepth := 99) [*, Extends.foldl]

@[simp ↓] theorem State.startJournal_extends {r s : State} (h : Extends r s) : Extends r s.startJournal := by
  unfold State.startJournal; simp (maxDischargeDepth := 99) [*]

@[simp ↓] theorem State.bootRom_extends {r s : State} (h : Extends r s) : Extends r s.bootRom := by
  unfold State.bootRom; simp (maxDischargeDepth := 99) [*]

@[simp ↓] theorem State.bootResult_extends {r s : State} (h : Extends r s) (lo code) : Extends r (s.bootResult lo code) := by
  unfold State.bootResult; simp (maxDischargeDepth := 99) [*]

@[simp ↓] theorem State.noteSvn_extends {r s : State} (h : Extends r s) (t n) : Extends r (s.noteSvn t n) := by
  unfold State.noteSvn; simp (maxDischargeDepth := 99) [*]

@[simp ↓] theorem State.resume_extends {r s : State} (h : Extends r s) : Extends r s.resume := by
  unfold State.resume; split <;> simp +contextual (maxDischargeDepth := 99) [*, Extends.foldl]

@[simp ↓] theorem State.startFirmware_extends {r s : State} (h : Extends r s) (b) : Extends r (s.startFirmware b) := by
  unfold State.startFirmware; simp (maxDischargeDepth := 99) [*]

@[simp ↓] theorem State.loadFirmware_extends {r s : State} (h : Extends r s) : Extends r s.loadFirmware := by
  unfold State.loadFirmware; dsimp only; split <;> simp (maxDischargeDepth := 99) [*]

@[simp ↓] theorem State.bootKeys_extends {r s : State} (h : Extends r s) : Extends r s.bootKeys := by
  unfold State.bootKeys; simp (maxDischargeDepth := 99) [*]

@[simp ↓] theorem State.loadLayout_extends {r s : State} (h : Extends r s) : Extends r s.loadLayout := by
  unfold State.loadLayout; dsimp only; split <;> simp +contextual (maxDischargeDepth := 99) [*, Extends.foldl]

@[simp ↓] theorem State.patchFails_extends {r s : State} (h : Extends r s) (code diag) : Extends r (s.patchFails code diag) := by
  unfold State.patchFails; split <;> simp (maxDischargeDepth := 99) [*]

@[simp ↓] theorem State.loadPatch_extends {r s : State} (h : Extends r s) (base i b) : Extends r (s.loadPatch base i b) := by
  unfold State.loadPatch; (repeat' split) <;> simp (maxDischargeDepth := 99) [*]

@[simp ↓] theorem loadPatches_extends {r s : State} (h : Extends r s) (base i l) : Extends r (loadPatches base i l s) := by
  induction l generalizing s i with
  | nil => exact h
  | cons b bs ih => exact ih (by simp (maxDischargeDepth := 99) [h]) _

@[simp ↓] theorem State.dropLayout_extends {r s : State} (h : Extends r s) : Extends r s.dropLayout := by
  unfold State.dropLayout; simp +contextual (maxDischargeDepth := 99) [*]

@[simp ↓] theorem State.loadMcode_extends {r s : State} (h : Extends r s) : Extends r s.loadMcode := by
  unfold State.loadMcode; dsimp only; (repeat' split) <;> simp (maxDischargeDepth := 99) [*]

@[simp ↓] theorem State.beginKat_extends {r s : State} (h : Extends r s) : Extends r s.beginKat := by
  unfold State.beginKat; simp (maxDischargeDepth := 99) [*]

@[simp ↓] theorem State.bootDone_extends {r s : State} (h : Extends r s) : Extends r s.bootDone := by
  unfold State.bootDone; simp (maxDischargeDepth := 99) [*]

@[simp ↓] theorem State.firstRecord_extends {r s : State} (h : Extends r s) : Extends r s.firstRecord := by
  unfold State.firstRecord; simp (maxDischargeDepth := 99) [*]

@[simp ↓] theorem State.continueBoot_extends {r s : State} (h : Extends r s) : Extends r s.continueBoot := by
  unfold State.continueBoot; simp (maxDischargeDepth := 99) [*]

@[simp ↓] theorem State.boot_extends {r s : State} (h : Extends r s) (b) : Extends r (s.boot b) := by
  unfold State.boot; simp (maxDischargeDepth := 99) [*]

@[simp ↓] theorem State.dropOwnJobs_extends {r s : State} (h : Extends r s) : Extends r s.dropOwnJobs := by
  unfold State.dropOwnJobs; simp (maxDischargeDepth := 99) [*]

@[simp ↓] theorem State.warmReset_extends {r s : State} (h : Extends r s) : Extends r s.warmReset := by
  unfold State.warmReset; simp (maxDischargeDepth := 99) [*]

@[simp ↓] theorem State.releaseWarm_extends {r s : State} (h : Extends r s) : Extends r s.releaseWarm := by
  unfold State.releaseWarm; simp (maxDischargeDepth := 99) [*]

@[simp ↓] theorem State.recoveryStart_extends {r s : State} (h : Extends r s) : Extends r s.recoveryStart := by
  unfold State.recoveryStart; simp (maxDischargeDepth := 99) [*]

@[simp ↓] theorem State.recoveryDone_extends {r s : State} (h : Extends r s) : Extends r s.recoveryDone := by
  unfold State.recoveryDone; simp (maxDischargeDepth := 99) [*]

@[simp ↓] theorem State.recoveryCtrlWrite_extends {r s : State} (h : Extends r s) (v) : Extends r (s.recoveryCtrlWrite v) := by
  unfold State.recoveryCtrlWrite; simp (maxDischargeDepth := 99) [*]

@[simp ↓] theorem State.digestStart_extends {r s : State} (h : Extends r s) (slot t dest k) : Extends r (s.digestStart slot t dest k) := by
  unfold State.digestStart; split <;> simp (maxDischargeDepth := 99) [*]

@[simp ↓] theorem State.digestCommit_extends {r s : State} (h : Extends r s) (c t) : Extends r (s.digestCommit c t) := by
  unfold State.digestCommit; split <;> simp (maxDischargeDepth := 99) [*]

@[simp ↓] theorem State.cvuFinish_extends {r s : State} (h : Extends r s) (n slot t) : Extends r (s.cvuFinish n slot t) := by
  unfold State.cvuFinish; simp (maxDischargeDepth := 99) [*]

@[simp ↓] theorem State.cvuGuard_extends {r s k : State} (h : Extends r s) (hk : Extends r k) (n) : Extends r (s.cvuGuard n k) := by
  unfold State.cvuGuard; simp (maxDischargeDepth := 99) [*]

@[simp ↓] theorem State.cvuCtrlWrite_extends {r s : State} (h : Extends r s) (n v) : Extends r (s.cvuCtrlWrite n v) := by
  unfold State.cvuCtrlWrite; simp (maxDischargeDepth := 99) [*]

@[simp ↓] theorem State.eraseSecrets_extends {r s : State} (h : Extends r s) : Extends r s.eraseSecrets := by
  unfold State.eraseSecrets; simp +contextual (maxDischargeDepth := 99) [*, Extends.foldl]

@[simp ↓] theorem State.stopWork_extends {r s : State} (h : Extends r s) : Extends r s.stopWork := by
  unfold State.stopWork; simp (maxDischargeDepth := 99) [*]

@[simp ↓] theorem State.xferEnds_extends {r s : State} (h : Extends r s) (status) : Extends r (s.xferEnds status) := by
  unfold State.xferEnds; dsimp only; split <;> simp (maxDischargeDepth := 99) [*]

@[simp ↓] theorem State.endResume_extends {r s : State} (h : Extends r s) : Extends r s.endResume := by
  unfold State.endResume; simp (maxDischargeDepth := 99) [*]

@[simp ↓] theorem State.dropChallenge_extends {r s : State} (h : Extends r s) : Extends r s.dropChallenge := by
  unfold State.dropChallenge; simp (maxDischargeDepth := 99) [*]

@[simp ↓] theorem State.enterState_extends {r s : State} (h : Extends r s) (x) : Extends r (s.enterState x) := by
  unfold State.enterState; simp (maxDischargeDepth := 99) [*]

@[simp ↓] theorem State.xferDone_extends {r s : State} (h : Extends r s) : Extends r s.xferDone := by
  unfold State.xferDone; simp (maxDischargeDepth := 99) [*]

@[simp ↓] theorem State.stepDone_extends {r s : State} (h : Extends r s) : Extends r s.stepDone := by
  unfold State.stepDone; simp (maxDischargeDepth := 99) [*]

@[simp ↓] theorem State.xferFails_extends {r s : State} (h : Extends r s) : Extends r s.xferFails := by
  unfold State.xferFails; simp (maxDischargeDepth := 99) [*]

@[simp ↓] theorem State.confirmFails_extends {r s : State} (h : Extends r s) : Extends r s.confirmFails := by
  unfold State.confirmFails; split <;> simp (maxDischargeDepth := 99) [*]

@[simp ↓] theorem State.rootFails_extends {r s : State} (h : Extends r s) : Extends r s.rootFails := by
  unfold State.rootFails; simp (maxDischargeDepth := 99) [*]

theorem State.xferSecret_extends {r s : State} (h : Extends r s) : ∀ u, s.xferSecret = some u → Extends r u.2 := by
  unfold State.xferSecret; split <;> simp (maxDischargeDepth := 99) [*]

@[simp ↓] theorem State.burnDuk_extends {r s : State} (h : Extends r s) (good) : Extends r (s.burnDuk good) := by
  unfold State.burnDuk
  dsimp only
  split
  · split
    · next e =>
      have h1 := State.xferSecret_extends h _ e
      dsimp only at h1
      split <;> simp (maxDischargeDepth := 99) [h1]
    · exact h
  · split
    · simp (maxDischargeDepth := 99) [h]
    · split
      · next e =>
        have h1 := State.xferSecret_extends h _ e
        simp (maxDischargeDepth := 99) [h1]
      · exact h

@[simp ↓] theorem State.confirmDuk_extends {r s : State} (h : Extends r s) (good) : Extends r (s.confirmDuk good) := by
  unfold State.confirmDuk
  dsimp only
  split
  · simp (maxDischargeDepth := 99) [h]
  · split <;> simp (maxDischargeDepth := 99) [h]

@[simp ↓] theorem State.burnSeedA_extends {r s : State} (h : Extends r s) (good) : Extends r (s.burnSeedA good) := by
  unfold State.burnSeedA
  split
  · simp (maxDischargeDepth := 99) [h]
  · split
    · next e =>
      have h1 := State.xferSecret_extends h _ e
      simp (maxDischargeDepth := 99) [h1]
    · exact h

@[simp ↓] theorem State.burnSeedB_extends {r s : State} (h : Extends r s) (good) : Extends r (s.burnSeedB good) := by
  unfold State.burnSeedB
  dsimp only
  split
  · simp (maxDischargeDepth := 99) [h]
  · split
    · simp (maxDischargeDepth := 99) [h]
    · split
      · next e =>
        have h1 := State.xferSecret_extends h _ e
        simp (maxDischargeDepth := 99) [h1]
      · exact h

@[simp ↓] theorem State.runStep_extends {r s : State} (h : Extends r s) (good) : Extends r (s.runStep good) := by
  unfold State.runStep
  dsimp only
  (repeat' split) <;> simp +contextual (maxDischargeDepth := 99) [h, onesCopy]

@[simp ↓] theorem State.useChallenge_extends {r s : State} (h : Extends r s) (c) : Extends r (s.useChallenge c) := by
  unfold State.useChallenge; simp (maxDischargeDepth := 99) [*]

@[simp ↓] theorem State.beginXfer_extends {r s : State} (h : Extends r s) (slot i target record) : Extends r (s.beginXfer slot i target record) := by
  unfold State.beginXfer; simp (maxDischargeDepth := 99) [*]

@[simp ↓] theorem State.admitXfer_extends {r s : State} (h : Extends r s) (slot t) : Extends r (s.admitXfer slot t) := by
  unfold State.admitXfer; dsimp only; (repeat' split) <;> simp (maxDischargeDepth := 99) [*]

@[simp ↓] theorem State.openDebug_extends {r s : State} (h : Extends r s) (t c) : Extends r (s.openDebug t c) := by
  unfold State.openDebug; simp (maxDischargeDepth := 99) [*]

@[simp ↓] theorem State.endRestores_extends {r s : State} (h : Extends r s) (n pass) : Extends r (s.endRestores n pass) := by
  unfold State.endRestores; simp +contextual (maxDischargeDepth := 99) [*, Extends.foldl]

@[simp ↓] theorem State.pairTested_extends {r s : State} (h : Extends r s) (n pass) : Extends r (s.pairTested n pass) := by
  unfold State.pairTested; simp (maxDischargeDepth := 99) [*]

@[simp ↓] theorem State.noPair_extends {r s : State} (h : Extends r s) (why) : Extends r (s.noPair why) := by
  unfold State.noPair; simp (maxDischargeDepth := 99) [*]

@[simp ↓] theorem State.endRound_extends {r s : State} (h : Extends r s) (why) : Extends r (s.endRound why) := by
  unfold State.endRound; simp (maxDischargeDepth := 99) [*]

@[simp ↓] theorem State.stackTrained_extends {r s : State} (h : Extends r s) (i first second) : Extends r (s.stackTrained i first second) := by
  unfold State.stackTrained; simp (maxDischargeDepth := 99) [*]

@[simp ↓] theorem State.katEnds_extends {r s : State} (h : Extends r s) : Extends r s.katEnds := by
  unfold State.katEnds; simp (maxDischargeDepth := 99) [*]

@[simp ↓] theorem State.katEngine_extends {r s : State} (h : Extends r s) (engine pass) : Extends r (s.katEngine engine pass) := by
  unfold State.katEngine; split <;> simp (maxDischargeDepth := 99) [*]

@[simp ↓] theorem State.katPipe_extends {r s : State} (h : Extends r s) (pipe pass) : Extends r (s.katPipe pipe pass) := by
  unfold State.katPipe; simp (maxDischargeDepth := 99) [*]

@[simp ↓] theorem State.modPwr_extends {r s : State} (h : Extends r s) (f) : Extends r (s.modPwr f) := by
  unfold State.modPwr; simp (maxDischargeDepth := 99) [*]

@[simp ↓] theorem State.pcieDown_extends {r s : State} (h : Extends r s) : Extends r s.pcieDown := by
  unfold State.pcieDown; simp (maxDischargeDepth := 99) [*]

@[simp ↓] theorem State.trainLink_extends {r s : State} (h : Extends r s) : Extends r s.trainLink := by
  unfold State.trainLink; simp (maxDischargeDepth := 99) [*]

@[simp ↓] theorem State.replaceLeaving_extends {r s : State} (h : Extends r s) (c) : Extends r (s.replaceLeaving c) := by
  unfold State.replaceLeaving; simp +contextual (maxDischargeDepth := 99) [*, Extends.foldl]

@[simp ↓] theorem State.turnAway_extends {r s : State} (h : Extends r s) : Extends r s.turnAway := by
  unfold State.turnAway; apply Extends.foldl <;> (intros; (repeat' split) <;> simp (maxDischargeDepth := 99) [*])

@[simp ↓] theorem State.abortLeaving_extends {r s : State} (h : Extends r s) (c) : Extends r (s.abortLeaving c) := by
  unfold State.abortLeaving; apply Extends.foldl <;> (intros; (repeat' split) <;> simp (maxDischargeDepth := 99) [*])

@[simp ↓] theorem State.portsOff_extends {r s : State} (h : Extends r s) (off) : Extends r (s.portsOff off) := by
  unfold State.portsOff; simp +contextual (maxDischargeDepth := 99) [*, Extends.foldl]

@[simp ↓] theorem State.beginChange_extends {r s : State} (h : Extends r s) (slot c) : Extends r (s.beginChange slot c) := by
  unfold State.beginChange; simp (maxDischargeDepth := 99) [*]

@[simp ↓] theorem State.trunkOff_extends {r s : State} (h : Extends r s) : Extends r s.trunkOff := by
  unfold State.trunkOff; simp (maxDischargeDepth := 99) [*]

@[simp ↓] theorem State.gateChannels_extends {r s : State} (h : Extends r s) (cellOn) : Extends r (s.gateChannels cellOn) := by
  unfold State.gateChannels; simp (maxDischargeDepth := 99) [*]

@[simp ↓] theorem State.deepSleep_extends {r s : State} (h : Extends r s) (target) : Extends r (s.deepSleep target) := by
  unfold State.deepSleep; dsimp only; split <;> simp (maxDischargeDepth := 99) [h]

@[simp ↓] theorem State.portsOn_extends {r s : State} (h : Extends r s) (on) : Extends r (s.portsOn on) := by
  unfold State.portsOn; simp +contextual (maxDischargeDepth := 99) [*, Extends.foldl]

@[simp ↓] theorem State.testGated_extends {r s : State} (h : Extends r s) (e) : Extends r (s.testGated e) := by
  unfold State.testGated; (repeat' split) <;> simp (maxDischargeDepth := 99) [*]

@[simp ↓] theorem State.gateEngines_extends {r s : State} (h : Extends r s) (before) : Extends r (s.gateEngines before) := by
  unfold State.gateEngines; simp +contextual (maxDischargeDepth := 99) [*, Extends.foldl]

@[simp ↓] theorem State.finishChange_extends {r s : State} (h : Extends r s) (c) : Extends r (s.finishChange c) := by
  unfold State.finishChange; (repeat' split) <;> simp (maxDischargeDepth := 99) [*]

@[simp ↓] theorem State.recordTj_extends {r s : State} (h : Extends r s) (tj) : Extends r (s.recordTj tj) := by
  unfold State.recordTj; simp (maxDischargeDepth := 99) [*]

@[simp ↓] theorem State.thermEnter_extends {r s : State} (h : Extends r s) : Extends r s.thermEnter := by
  unfold State.thermEnter; simp (maxDischargeDepth := 99) [*]

@[simp ↓] theorem State.thermCool_extends {r s : State} (h : Extends r s) (tj) : Extends r (s.thermCool tj) := by
  unfold State.thermCool; simp (maxDischargeDepth := 99) [*]

@[simp ↓] theorem State.phwJudge_extends {r s : State} (h : Extends r s) (residual) : Extends r (s.phwJudge residual) := by
  unfold State.phwJudge; simp (maxDischargeDepth := 99) [*]

@[simp ↓] theorem State.msixWrite_extends {r s : State} (h : Extends r s) (f off v) : Extends r (s.msixWrite f off v) := by
  unfold State.msixWrite; simp (maxDischargeDepth := 99) [*]

@[simp ↓] theorem State.cvuWrite_extends {r s : State} (h : Extends r s) (key n v) : Extends r (s.cvuWrite key n v) := by
  unfold State.cvuWrite; simp (maxDischargeDepth := 99) [*]

@[simp ↓] theorem State.cvuIrqWrite_extends {r s : State} (h : Extends r s) (v) : Extends r (s.cvuIrqWrite v) := by
  unfold State.cvuIrqWrite; simp +contextual (maxDischargeDepth := 99) [*, Extends.foldl]

@[simp ↓] theorem State.mrgAlgWrite_extends {r s : State} (h : Extends r s) (v) : Extends r (s.mrgAlgWrite v) := by
  unfold State.mrgAlgWrite; simp (maxDischargeDepth := 99) [*]

@[simp ↓] theorem State.vfcWrite_extends {r s : State} (h : Extends r s) (key v) : Extends r (s.vfcWrite key v) := by
  unfold State.vfcWrite; simp (maxDischargeDepth := 99) [*]

@[simp ↓] theorem State.admqWrite_extends {r s : State} (h : Extends r s) (func key v) : Extends r (s.admqWrite func key v) := by
  unfold State.admqWrite; simp (maxDischargeDepth := 99) [*]

@[simp ↓] theorem State.pfWrite_extends {r s : State} (h : Extends r s) (key v) : Extends r (s.pfWrite key v) := by
  unfold State.pfWrite; simp (maxDischargeDepth := 99) [*]

end Sys2Proof.Machine
end

