-- ==== Sys2Proof/Laws/State.lean ====
section
/-!
SUPPORT. The state beside its updates: what each field is after each primitive update, and what each read answers after each
write.
-/
namespace Sys2Proof.Machine
open Sys2Proof

/-! ### `setReg` -/

@[simp] theorem State.setReg_pending (s : State) (k : Nat) (v : W32) : (s.setReg k v).pending = s.pending := rfl
@[simp] theorem State.setReg_regs (s : State) (k : Nat) (v : W32) : (s.setReg k v).regs = Sparse.set regReset s.regs k v := rfl
@[simp] theorem State.setReg_out (s : State) (k : Nat) (v : W32) : (s.setReg k v).out = s.out := rfl
@[simp] theorem State.setReg_freeUsed (s : State) (k : Nat) (v : W32) : (s.setReg k v).freeUsed = s.freeUsed := rfl
@[simp] theorem State.setReg_free (s : State) (k : Nat) (v : W32) : (s.setReg k v).free = s.free := rfl
@[simp] theorem State.setReg_lcs (s : State) (k : Nat) (v : W32) : (s.setReg k v).lcs = s.lcs := rfl
@[simp] theorem State.setReg_comb (s : State) (k : Nat) (v : W32) : (s.setReg k v).comb = s.comb := rfl
@[simp] theorem State.setReg_kst (s : State) (k : Nat) (v : W32) : (s.setReg k v).kst = s.kst := rfl
@[simp] theorem State.setReg_queues (s : State) (k : Nat) (v : W32) : (s.setReg k v).queues = s.queues := rfl
@[simp] theorem State.setReg_tracker (s : State) (k : Nat) (v : W32) : (s.setReg k v).tracker = s.tracker := rfl
@[simp] theorem State.setReg_fetched (s : State) (k : Nat) (v : W32) : (s.setReg k v).fetched = s.fetched := rfl
@[simp] theorem State.setReg_funcs (s : State) (k : Nat) (v : W32) : (s.setReg k v).funcs = s.funcs := rfl
@[simp] theorem State.setReg_chans (s : State) (k : Nat) (v : W32) : (s.setReg k v).chans = s.chans := rfl
@[simp] theorem State.setReg_vectors (s : State) (k : Nat) (v : W32) : (s.setReg k v).vectors = s.vectors := rfl
@[simp] theorem State.setReg_vfEnable (s : State) (k : Nat) (v : W32) : (s.setReg k v).vfEnable = s.vfEnable := rfl
@[simp] theorem State.setReg_numVfs (s : State) (k : Nat) (v : W32) : (s.setReg k v).numVfs = s.numVfs := rfl
@[simp] theorem State.setReg_saStage (s : State) (k : Nat) (v : W32) : (s.setReg k v).saStage = s.saStage := rfl
@[simp] theorem State.setReg_linkUp (s : State) (k : Nat) (v : W32) : (s.setReg k v).linkUp = s.linkUp := rfl
@[simp] theorem State.setReg_linkSpeed (s : State) (k : Nat) (v : W32) : (s.setReg k v).linkSpeed = s.linkSpeed := rfl
@[simp] theorem State.setReg_linkWidth (s : State) (k : Nat) (v : W32) : (s.setReg k v).linkWidth = s.linkWidth := rfl
@[simp] theorem State.setReg_lastFunc (s : State) (k : Nat) (v : W32) : (s.setReg k v).lastFunc = s.lastFunc := rfl
@[simp] theorem State.setReg_errLog (s : State) (k : Nat) (v : W32) : (s.setReg k v).errLog = s.errLog := rfl
@[simp] theorem State.setReg_tod (s : State) (k : Nat) (v : W32) : (s.setReg k v).tod = s.tod := rfl
@[simp] theorem State.setReg_tem (s : State) (k : Nat) (v : W32) : (s.setReg k v).tem = s.tem := rfl
@[simp] theorem State.setReg_ust (s : State) (k : Nat) (v : W32) : (s.setReg k v).ust = s.ust := rfl
@[simp] theorem State.setReg_pwr (s : State) (k : Nat) (v : W32) : (s.setReg k v).pwr = s.pwr := rfl
@[simp] theorem State.setReg_rng (s : State) (k : Nat) (v : W32) : (s.setReg k v).rng = s.rng := rfl
@[simp] theorem State.setReg_trk (s : State) (k : Nat) (v : W32) : (s.setReg k v).trk = s.trk := rfl
@[simp] theorem State.setReg_dge (s : State) (k : Nat) (v : W32) : (s.setReg k v).dge = s.dge := rfl
@[simp] theorem State.setReg_line (s : State) (k : Nat) (v : W32) : (s.setReg k v).line = s.line := rfl
@[simp] theorem State.setReg_tsu (s : State) (k : Nat) (v : W32) : (s.setReg k v).tsu = s.tsu := rfl
@[simp] theorem State.setReg_phw (s : State) (k : Nat) (v : W32) : (s.setReg k v).phw = s.phw := rfl
@[simp] theorem State.setReg_evj (s : State) (k : Nat) (v : W32) : (s.setReg k v).evj = s.evj := rfl
@[simp] theorem State.setReg_mem (s : State) (k : Nat) (v : W32) : (s.setReg k v).mem = s.mem := rfl
@[simp] theorem State.setReg_crd (s : State) (k : Nat) (v : W32) : (s.setReg k v).crd = s.crd := rfl
@[simp] theorem State.setReg_adl (s : State) (k : Nat) (v : W32) : (s.setReg k v).adl = s.adl := rfl

/-! ### `emit` -/

@[simp] theorem State.emit_pending (s : State) (m : OutMsg) : (s.emit m).pending = s.pending := rfl
@[simp] theorem State.emit_regs (s : State) (m : OutMsg) : (s.emit m).regs = s.regs := rfl
@[simp] theorem State.emit_out (s : State) (m : OutMsg) : (s.emit m).out = s.out ++ [m] := rfl
@[simp] theorem State.emit_freeUsed (s : State) (m : OutMsg) : (s.emit m).freeUsed = s.freeUsed := rfl
@[simp] theorem State.emit_free (s : State) (m : OutMsg) : (s.emit m).free = s.free := rfl
@[simp] theorem State.emit_lcs (s : State) (m : OutMsg) : (s.emit m).lcs = s.lcs := rfl
@[simp] theorem State.emit_comb (s : State) (m : OutMsg) : (s.emit m).comb = s.comb := rfl
@[simp] theorem State.emit_kst (s : State) (m : OutMsg) : (s.emit m).kst = s.kst := rfl
@[simp] theorem State.emit_queues (s : State) (m : OutMsg) : (s.emit m).queues = s.queues := rfl
@[simp] theorem State.emit_tracker (s : State) (m : OutMsg) : (s.emit m).tracker = s.tracker := rfl
@[simp] theorem State.emit_fetched (s : State) (m : OutMsg) : (s.emit m).fetched = s.fetched := rfl
@[simp] theorem State.emit_funcs (s : State) (m : OutMsg) : (s.emit m).funcs = s.funcs := rfl
@[simp] theorem State.emit_chans (s : State) (m : OutMsg) : (s.emit m).chans = s.chans := rfl
@[simp] theorem State.emit_vectors (s : State) (m : OutMsg) : (s.emit m).vectors = s.vectors := rfl
@[simp] theorem State.emit_vfEnable (s : State) (m : OutMsg) : (s.emit m).vfEnable = s.vfEnable := rfl
@[simp] theorem State.emit_numVfs (s : State) (m : OutMsg) : (s.emit m).numVfs = s.numVfs := rfl
@[simp] theorem State.emit_saStage (s : State) (m : OutMsg) : (s.emit m).saStage = s.saStage := rfl
@[simp] theorem State.emit_linkUp (s : State) (m : OutMsg) : (s.emit m).linkUp = s.linkUp := rfl
@[simp] theorem State.emit_linkSpeed (s : State) (m : OutMsg) : (s.emit m).linkSpeed = s.linkSpeed := rfl
@[simp] theorem State.emit_linkWidth (s : State) (m : OutMsg) : (s.emit m).linkWidth = s.linkWidth := rfl
@[simp] theorem State.emit_lastFunc (s : State) (m : OutMsg) : (s.emit m).lastFunc = s.lastFunc := rfl
@[simp] theorem State.emit_errLog (s : State) (m : OutMsg) : (s.emit m).errLog = s.errLog := rfl
@[simp] theorem State.emit_tod (s : State) (m : OutMsg) : (s.emit m).tod = s.tod := rfl
@[simp] theorem State.emit_tem (s : State) (m : OutMsg) : (s.emit m).tem = s.tem := rfl
@[simp] theorem State.emit_ust (s : State) (m : OutMsg) : (s.emit m).ust = s.ust := rfl
@[simp] theorem State.emit_pwr (s : State) (m : OutMsg) : (s.emit m).pwr = s.pwr := rfl
@[simp] theorem State.emit_rng (s : State) (m : OutMsg) : (s.emit m).rng = s.rng := rfl
@[simp] theorem State.emit_trk (s : State) (m : OutMsg) : (s.emit m).trk = s.trk := rfl
@[simp] theorem State.emit_dge (s : State) (m : OutMsg) : (s.emit m).dge = s.dge := rfl
@[simp] theorem State.emit_line (s : State) (m : OutMsg) : (s.emit m).line = s.line := rfl
@[simp] theorem State.emit_tsu (s : State) (m : OutMsg) : (s.emit m).tsu = s.tsu := rfl
@[simp] theorem State.emit_phw (s : State) (m : OutMsg) : (s.emit m).phw = s.phw := rfl
@[simp] theorem State.emit_evj (s : State) (m : OutMsg) : (s.emit m).evj = s.evj := rfl
@[simp] theorem State.emit_mem (s : State) (m : OutMsg) : (s.emit m).mem = s.mem := rfl
@[simp] theorem State.emit_crd (s : State) (m : OutMsg) : (s.emit m).crd = s.crd := rfl
@[simp] theorem State.emit_adl (s : State) (m : OutMsg) : (s.emit m).adl = s.adl := rfl

/-! ### `setFunc` -/

@[simp] theorem State.setFunc_pending (s : State) (n : Nat) (f : Func) : (s.setFunc n f).pending = s.pending := rfl
@[simp] theorem State.setFunc_regs (s : State) (n : Nat) (f : Func) : (s.setFunc n f).regs = s.regs := rfl
@[simp] theorem State.setFunc_out (s : State) (n : Nat) (f : Func) : (s.setFunc n f).out = s.out := rfl
@[simp] theorem State.setFunc_freeUsed (s : State) (n : Nat) (f : Func) : (s.setFunc n f).freeUsed = s.freeUsed := rfl
@[simp] theorem State.setFunc_free (s : State) (n : Nat) (f : Func) : (s.setFunc n f).free = s.free := rfl
@[simp] theorem State.setFunc_lcs (s : State) (n : Nat) (f : Func) : (s.setFunc n f).lcs = s.lcs := rfl
@[simp] theorem State.setFunc_comb (s : State) (n : Nat) (f : Func) : (s.setFunc n f).comb = s.comb := rfl
@[simp] theorem State.setFunc_kst (s : State) (n : Nat) (f : Func) : (s.setFunc n f).kst = s.kst := rfl
@[simp] theorem State.setFunc_queues (s : State) (n : Nat) (f : Func) : (s.setFunc n f).queues = s.queues := rfl
@[simp] theorem State.setFunc_tracker (s : State) (n : Nat) (f : Func) : (s.setFunc n f).tracker = s.tracker := rfl
@[simp] theorem State.setFunc_fetched (s : State) (n : Nat) (f : Func) : (s.setFunc n f).fetched = s.fetched := rfl
@[simp] theorem State.setFunc_funcs (s : State) (n : Nat) (f : Func) : (s.setFunc n f).funcs = Sparse.set funcReset s.funcs n f := rfl
@[simp] theorem State.setFunc_chans (s : State) (n : Nat) (f : Func) : (s.setFunc n f).chans = s.chans := rfl
@[simp] theorem State.setFunc_vectors (s : State) (n : Nat) (f : Func) : (s.setFunc n f).vectors = s.vectors := rfl
@[simp] theorem State.setFunc_vfEnable (s : State) (n : Nat) (f : Func) : (s.setFunc n f).vfEnable = s.vfEnable := rfl
@[simp] theorem State.setFunc_numVfs (s : State) (n : Nat) (f : Func) : (s.setFunc n f).numVfs = s.numVfs := rfl
@[simp] theorem State.setFunc_saStage (s : State) (n : Nat) (f : Func) : (s.setFunc n f).saStage = s.saStage := rfl
@[simp] theorem State.setFunc_linkUp (s : State) (n : Nat) (f : Func) : (s.setFunc n f).linkUp = s.linkUp := rfl
@[simp] theorem State.setFunc_linkSpeed (s : State) (n : Nat) (f : Func) : (s.setFunc n f).linkSpeed = s.linkSpeed := rfl
@[simp] theorem State.setFunc_linkWidth (s : State) (n : Nat) (f : Func) : (s.setFunc n f).linkWidth = s.linkWidth := rfl
@[simp] theorem State.setFunc_lastFunc (s : State) (n : Nat) (f : Func) : (s.setFunc n f).lastFunc = s.lastFunc := rfl
@[simp] theorem State.setFunc_errLog (s : State) (n : Nat) (f : Func) : (s.setFunc n f).errLog = s.errLog := rfl
@[simp] theorem State.setFunc_tod (s : State) (n : Nat) (f : Func) : (s.setFunc n f).tod = s.tod := rfl
@[simp] theorem State.setFunc_tem (s : State) (n : Nat) (f : Func) : (s.setFunc n f).tem = s.tem := rfl
@[simp] theorem State.setFunc_ust (s : State) (n : Nat) (f : Func) : (s.setFunc n f).ust = s.ust := rfl
@[simp] theorem State.setFunc_pwr (s : State) (n : Nat) (f : Func) : (s.setFunc n f).pwr = s.pwr := rfl
@[simp] theorem State.setFunc_rng (s : State) (n : Nat) (f : Func) : (s.setFunc n f).rng = s.rng := rfl
@[simp] theorem State.setFunc_trk (s : State) (n : Nat) (f : Func) : (s.setFunc n f).trk = s.trk := rfl
@[simp] theorem State.setFunc_dge (s : State) (n : Nat) (f : Func) : (s.setFunc n f).dge = s.dge := rfl
@[simp] theorem State.setFunc_line (s : State) (n : Nat) (f : Func) : (s.setFunc n f).line = s.line := rfl
@[simp] theorem State.setFunc_tsu (s : State) (n : Nat) (f : Func) : (s.setFunc n f).tsu = s.tsu := rfl
@[simp] theorem State.setFunc_phw (s : State) (n : Nat) (f : Func) : (s.setFunc n f).phw = s.phw := rfl
@[simp] theorem State.setFunc_evj (s : State) (n : Nat) (f : Func) : (s.setFunc n f).evj = s.evj := rfl
@[simp] theorem State.setFunc_mem (s : State) (n : Nat) (f : Func) : (s.setFunc n f).mem = s.mem := rfl
@[simp] theorem State.setFunc_crd (s : State) (n : Nat) (f : Func) : (s.setFunc n f).crd = s.crd := rfl
@[simp] theorem State.setFunc_adl (s : State) (n : Nat) (f : Func) : (s.setFunc n f).adl = s.adl := rfl

/-! ### `setChan` -/

@[simp] theorem State.setChan_pending (s : State) (n : Nat) (c : Channel) : (s.setChan n c).pending = s.pending := rfl
@[simp] theorem State.setChan_regs (s : State) (n : Nat) (c : Channel) : (s.setChan n c).regs = s.regs := rfl
@[simp] theorem State.setChan_out (s : State) (n : Nat) (c : Channel) : (s.setChan n c).out = s.out := rfl
@[simp] theorem State.setChan_freeUsed (s : State) (n : Nat) (c : Channel) : (s.setChan n c).freeUsed = s.freeUsed := rfl
@[simp] theorem State.setChan_free (s : State) (n : Nat) (c : Channel) : (s.setChan n c).free = s.free := rfl
@[simp] theorem State.setChan_lcs (s : State) (n : Nat) (c : Channel) : (s.setChan n c).lcs = s.lcs := rfl
@[simp] theorem State.setChan_comb (s : State) (n : Nat) (c : Channel) : (s.setChan n c).comb = s.comb := rfl
@[simp] theorem State.setChan_kst (s : State) (n : Nat) (c : Channel) : (s.setChan n c).kst = s.kst := rfl
@[simp] theorem State.setChan_queues (s : State) (n : Nat) (c : Channel) : (s.setChan n c).queues = s.queues := rfl
@[simp] theorem State.setChan_tracker (s : State) (n : Nat) (c : Channel) : (s.setChan n c).tracker = s.tracker := rfl
@[simp] theorem State.setChan_fetched (s : State) (n : Nat) (c : Channel) : (s.setChan n c).fetched = s.fetched := rfl
@[simp] theorem State.setChan_funcs (s : State) (n : Nat) (c : Channel) : (s.setChan n c).funcs = s.funcs := rfl
@[simp] theorem State.setChan_chans (s : State) (n : Nat) (c : Channel) : (s.setChan n c).chans = Sparse.set (fun _ => {}) s.chans n c := rfl
@[simp] theorem State.setChan_vectors (s : State) (n : Nat) (c : Channel) : (s.setChan n c).vectors = s.vectors := rfl
@[simp] theorem State.setChan_vfEnable (s : State) (n : Nat) (c : Channel) : (s.setChan n c).vfEnable = s.vfEnable := rfl
@[simp] theorem State.setChan_numVfs (s : State) (n : Nat) (c : Channel) : (s.setChan n c).numVfs = s.numVfs := rfl
@[simp] theorem State.setChan_saStage (s : State) (n : Nat) (c : Channel) : (s.setChan n c).saStage = s.saStage := rfl
@[simp] theorem State.setChan_linkUp (s : State) (n : Nat) (c : Channel) : (s.setChan n c).linkUp = s.linkUp := rfl
@[simp] theorem State.setChan_linkSpeed (s : State) (n : Nat) (c : Channel) : (s.setChan n c).linkSpeed = s.linkSpeed := rfl
@[simp] theorem State.setChan_linkWidth (s : State) (n : Nat) (c : Channel) : (s.setChan n c).linkWidth = s.linkWidth := rfl
@[simp] theorem State.setChan_lastFunc (s : State) (n : Nat) (c : Channel) : (s.setChan n c).lastFunc = s.lastFunc := rfl
@[simp] theorem State.setChan_errLog (s : State) (n : Nat) (c : Channel) : (s.setChan n c).errLog = s.errLog := rfl
@[simp] theorem State.setChan_tod (s : State) (n : Nat) (c : Channel) : (s.setChan n c).tod = s.tod := rfl
@[simp] theorem State.setChan_tem (s : State) (n : Nat) (c : Channel) : (s.setChan n c).tem = s.tem := rfl
@[simp] theorem State.setChan_ust (s : State) (n : Nat) (c : Channel) : (s.setChan n c).ust = s.ust := rfl
@[simp] theorem State.setChan_pwr (s : State) (n : Nat) (c : Channel) : (s.setChan n c).pwr = s.pwr := rfl
@[simp] theorem State.setChan_rng (s : State) (n : Nat) (c : Channel) : (s.setChan n c).rng = s.rng := rfl
@[simp] theorem State.setChan_trk (s : State) (n : Nat) (c : Channel) : (s.setChan n c).trk = s.trk := rfl
@[simp] theorem State.setChan_dge (s : State) (n : Nat) (c : Channel) : (s.setChan n c).dge = s.dge := rfl
@[simp] theorem State.setChan_line (s : State) (n : Nat) (c : Channel) : (s.setChan n c).line = s.line := rfl
@[simp] theorem State.setChan_tsu (s : State) (n : Nat) (c : Channel) : (s.setChan n c).tsu = s.tsu := rfl
@[simp] theorem State.setChan_phw (s : State) (n : Nat) (c : Channel) : (s.setChan n c).phw = s.phw := rfl
@[simp] theorem State.setChan_evj (s : State) (n : Nat) (c : Channel) : (s.setChan n c).evj = s.evj := rfl
@[simp] theorem State.setChan_mem (s : State) (n : Nat) (c : Channel) : (s.setChan n c).mem = s.mem := rfl
@[simp] theorem State.setChan_crd (s : State) (n : Nat) (c : Channel) : (s.setChan n c).crd = s.crd := rfl
@[simp] theorem State.setChan_adl (s : State) (n : Nat) (c : Channel) : (s.setChan n c).adl = s.adl := rfl

/-! ### `setQueue` -/

@[simp] theorem State.setQueue_pending (s : State) (f q : Nat) (x : Queue) : (s.setQueue f q x).pending = s.pending := rfl
@[simp] theorem State.setQueue_regs (s : State) (f q : Nat) (x : Queue) : (s.setQueue f q x).regs = s.regs := rfl
@[simp] theorem State.setQueue_out (s : State) (f q : Nat) (x : Queue) : (s.setQueue f q x).out = s.out := rfl
@[simp] theorem State.setQueue_freeUsed (s : State) (f q : Nat) (x : Queue) : (s.setQueue f q x).freeUsed = s.freeUsed := rfl
@[simp] theorem State.setQueue_free (s : State) (f q : Nat) (x : Queue) : (s.setQueue f q x).free = s.free := rfl
@[simp] theorem State.setQueue_lcs (s : State) (f q : Nat) (x : Queue) : (s.setQueue f q x).lcs = s.lcs := rfl
@[simp] theorem State.setQueue_comb (s : State) (f q : Nat) (x : Queue) : (s.setQueue f q x).comb = s.comb := rfl
@[simp] theorem State.setQueue_kst (s : State) (f q : Nat) (x : Queue) : (s.setQueue f q x).kst = s.kst := rfl
@[simp] theorem State.setQueue_queues (s : State) (f q : Nat) (x : Queue) : (s.setQueue f q x).queues = Sparse.set (fun _ => {}) s.queues (qkey f q) x := rfl
@[simp] theorem State.setQueue_tracker (s : State) (f q : Nat) (x : Queue) : (s.setQueue f q x).tracker = s.tracker := rfl
@[simp] theorem State.setQueue_fetched (s : State) (f q : Nat) (x : Queue) : (s.setQueue f q x).fetched = s.fetched := rfl
@[simp] theorem State.setQueue_funcs (s : State) (f q : Nat) (x : Queue) : (s.setQueue f q x).funcs = s.funcs := rfl
@[simp] theorem State.setQueue_chans (s : State) (f q : Nat) (x : Queue) : (s.setQueue f q x).chans = s.chans := rfl
@[simp] theorem State.setQueue_vectors (s : State) (f q : Nat) (x : Queue) : (s.setQueue f q x).vectors = s.vectors := rfl
@[simp] theorem State.setQueue_vfEnable (s : State) (f q : Nat) (x : Queue) : (s.setQueue f q x).vfEnable = s.vfEnable := rfl
@[simp] theorem State.setQueue_numVfs (s : State) (f q : Nat) (x : Queue) : (s.setQueue f q x).numVfs = s.numVfs := rfl
@[simp] theorem State.setQueue_saStage (s : State) (f q : Nat) (x : Queue) : (s.setQueue f q x).saStage = s.saStage := rfl
@[simp] theorem State.setQueue_linkUp (s : State) (f q : Nat) (x : Queue) : (s.setQueue f q x).linkUp = s.linkUp := rfl
@[simp] theorem State.setQueue_linkSpeed (s : State) (f q : Nat) (x : Queue) : (s.setQueue f q x).linkSpeed = s.linkSpeed := rfl
@[simp] theorem State.setQueue_linkWidth (s : State) (f q : Nat) (x : Queue) : (s.setQueue f q x).linkWidth = s.linkWidth := rfl
@[simp] theorem State.setQueue_lastFunc (s : State) (f q : Nat) (x : Queue) : (s.setQueue f q x).lastFunc = s.lastFunc := rfl
@[simp] theorem State.setQueue_errLog (s : State) (f q : Nat) (x : Queue) : (s.setQueue f q x).errLog = s.errLog := rfl
@[simp] theorem State.setQueue_tod (s : State) (f q : Nat) (x : Queue) : (s.setQueue f q x).tod = s.tod := rfl
@[simp] theorem State.setQueue_tem (s : State) (f q : Nat) (x : Queue) : (s.setQueue f q x).tem = s.tem := rfl
@[simp] theorem State.setQueue_ust (s : State) (f q : Nat) (x : Queue) : (s.setQueue f q x).ust = s.ust := rfl
@[simp] theorem State.setQueue_pwr (s : State) (f q : Nat) (x : Queue) : (s.setQueue f q x).pwr = s.pwr := rfl
@[simp] theorem State.setQueue_rng (s : State) (f q : Nat) (x : Queue) : (s.setQueue f q x).rng = s.rng := rfl
@[simp] theorem State.setQueue_trk (s : State) (f q : Nat) (x : Queue) : (s.setQueue f q x).trk = s.trk := rfl
@[simp] theorem State.setQueue_dge (s : State) (f q : Nat) (x : Queue) : (s.setQueue f q x).dge = s.dge := rfl
@[simp] theorem State.setQueue_line (s : State) (f q : Nat) (x : Queue) : (s.setQueue f q x).line = s.line := rfl
@[simp] theorem State.setQueue_tsu (s : State) (f q : Nat) (x : Queue) : (s.setQueue f q x).tsu = s.tsu := rfl
@[simp] theorem State.setQueue_phw (s : State) (f q : Nat) (x : Queue) : (s.setQueue f q x).phw = s.phw := rfl
@[simp] theorem State.setQueue_evj (s : State) (f q : Nat) (x : Queue) : (s.setQueue f q x).evj = s.evj := rfl
@[simp] theorem State.setQueue_mem (s : State) (f q : Nat) (x : Queue) : (s.setQueue f q x).mem = s.mem := rfl
@[simp] theorem State.setQueue_crd (s : State) (f q : Nat) (x : Queue) : (s.setQueue f q x).crd = s.crd := rfl
@[simp] theorem State.setQueue_adl (s : State) (f q : Nat) (x : Queue) : (s.setQueue f q x).adl = s.adl := rfl

/-! ### `setVector` -/

@[simp] theorem State.setVector_pending (s : State) (f v : Nat) (x : Vector) : (s.setVector f v x).pending = s.pending := rfl
@[simp] theorem State.setVector_regs (s : State) (f v : Nat) (x : Vector) : (s.setVector f v x).regs = s.regs := rfl
@[simp] theorem State.setVector_out (s : State) (f v : Nat) (x : Vector) : (s.setVector f v x).out = s.out := rfl
@[simp] theorem State.setVector_freeUsed (s : State) (f v : Nat) (x : Vector) : (s.setVector f v x).freeUsed = s.freeUsed := rfl
@[simp] theorem State.setVector_free (s : State) (f v : Nat) (x : Vector) : (s.setVector f v x).free = s.free := rfl
@[simp] theorem State.setVector_lcs (s : State) (f v : Nat) (x : Vector) : (s.setVector f v x).lcs = s.lcs := rfl
@[simp] theorem State.setVector_comb (s : State) (f v : Nat) (x : Vector) : (s.setVector f v x).comb = s.comb := rfl
@[simp] theorem State.setVector_kst (s : State) (f v : Nat) (x : Vector) : (s.setVector f v x).kst = s.kst := rfl
@[simp] theorem State.setVector_queues (s : State) (f v : Nat) (x : Vector) : (s.setVector f v x).queues = s.queues := rfl
@[simp] theorem State.setVector_tracker (s : State) (f v : Nat) (x : Vector) : (s.setVector f v x).tracker = s.tracker := rfl
@[simp] theorem State.setVector_fetched (s : State) (f v : Nat) (x : Vector) : (s.setVector f v x).fetched = s.fetched := rfl
@[simp] theorem State.setVector_funcs (s : State) (f v : Nat) (x : Vector) : (s.setVector f v x).funcs = s.funcs := rfl
@[simp] theorem State.setVector_chans (s : State) (f v : Nat) (x : Vector) : (s.setVector f v x).chans = s.chans := rfl
@[simp] theorem State.setVector_vectors (s : State) (f v : Nat) (x : Vector) : (s.setVector f v x).vectors = Sparse.set (fun _ => {}) s.vectors (2048 * f + v) x := rfl
@[simp] theorem State.setVector_vfEnable (s : State) (f v : Nat) (x : Vector) : (s.setVector f v x).vfEnable = s.vfEnable := rfl
@[simp] theorem State.setVector_numVfs (s : State) (f v : Nat) (x : Vector) : (s.setVector f v x).numVfs = s.numVfs := rfl
@[simp] theorem State.setVector_saStage (s : State) (f v : Nat) (x : Vector) : (s.setVector f v x).saStage = s.saStage := rfl
@[simp] theorem State.setVector_linkUp (s : State) (f v : Nat) (x : Vector) : (s.setVector f v x).linkUp = s.linkUp := rfl
@[simp] theorem State.setVector_linkSpeed (s : State) (f v : Nat) (x : Vector) : (s.setVector f v x).linkSpeed = s.linkSpeed := rfl
@[simp] theorem State.setVector_linkWidth (s : State) (f v : Nat) (x : Vector) : (s.setVector f v x).linkWidth = s.linkWidth := rfl
@[simp] theorem State.setVector_lastFunc (s : State) (f v : Nat) (x : Vector) : (s.setVector f v x).lastFunc = s.lastFunc := rfl
@[simp] theorem State.setVector_errLog (s : State) (f v : Nat) (x : Vector) : (s.setVector f v x).errLog = s.errLog := rfl
@[simp] theorem State.setVector_tod (s : State) (f v : Nat) (x : Vector) : (s.setVector f v x).tod = s.tod := rfl
@[simp] theorem State.setVector_tem (s : State) (f v : Nat) (x : Vector) : (s.setVector f v x).tem = s.tem := rfl
@[simp] theorem State.setVector_ust (s : State) (f v : Nat) (x : Vector) : (s.setVector f v x).ust = s.ust := rfl
@[simp] theorem State.setVector_pwr (s : State) (f v : Nat) (x : Vector) : (s.setVector f v x).pwr = s.pwr := rfl
@[simp] theorem State.setVector_rng (s : State) (f v : Nat) (x : Vector) : (s.setVector f v x).rng = s.rng := rfl
@[simp] theorem State.setVector_trk (s : State) (f v : Nat) (x : Vector) : (s.setVector f v x).trk = s.trk := rfl
@[simp] theorem State.setVector_dge (s : State) (f v : Nat) (x : Vector) : (s.setVector f v x).dge = s.dge := rfl
@[simp] theorem State.setVector_line (s : State) (f v : Nat) (x : Vector) : (s.setVector f v x).line = s.line := rfl
@[simp] theorem State.setVector_tsu (s : State) (f v : Nat) (x : Vector) : (s.setVector f v x).tsu = s.tsu := rfl
@[simp] theorem State.setVector_phw (s : State) (f v : Nat) (x : Vector) : (s.setVector f v x).phw = s.phw := rfl
@[simp] theorem State.setVector_evj (s : State) (f v : Nat) (x : Vector) : (s.setVector f v x).evj = s.evj := rfl
@[simp] theorem State.setVector_mem (s : State) (f v : Nat) (x : Vector) : (s.setVector f v x).mem = s.mem := rfl
@[simp] theorem State.setVector_crd (s : State) (f v : Nat) (x : Vector) : (s.setVector f v x).crd = s.crd := rfl
@[simp] theorem State.setVector_adl (s : State) (f v : Nat) (x : Vector) : (s.setVector f v x).adl = s.adl := rfl

/-! ### `setTrack` -/

@[simp] theorem State.setTrack_pending (s : State) (n : Nat) (t : Option Track) : (s.setTrack n t).pending = s.pending := rfl
@[simp] theorem State.setTrack_regs (s : State) (n : Nat) (t : Option Track) : (s.setTrack n t).regs = s.regs := rfl
@[simp] theorem State.setTrack_out (s : State) (n : Nat) (t : Option Track) : (s.setTrack n t).out = s.out := rfl
@[simp] theorem State.setTrack_freeUsed (s : State) (n : Nat) (t : Option Track) : (s.setTrack n t).freeUsed = s.freeUsed := rfl
@[simp] theorem State.setTrack_free (s : State) (n : Nat) (t : Option Track) : (s.setTrack n t).free = s.free := rfl
@[simp] theorem State.setTrack_lcs (s : State) (n : Nat) (t : Option Track) : (s.setTrack n t).lcs = s.lcs := rfl
@[simp] theorem State.setTrack_comb (s : State) (n : Nat) (t : Option Track) : (s.setTrack n t).comb = s.comb := rfl
@[simp] theorem State.setTrack_kst (s : State) (n : Nat) (t : Option Track) : (s.setTrack n t).kst = s.kst := rfl
@[simp] theorem State.setTrack_queues (s : State) (n : Nat) (t : Option Track) : (s.setTrack n t).queues = s.queues := rfl
@[simp] theorem State.setTrack_tracker (s : State) (n : Nat) (t : Option Track) : (s.setTrack n t).tracker = Sparse.set (fun _ => none) s.tracker n t := rfl
@[simp] theorem State.setTrack_fetched (s : State) (n : Nat) (t : Option Track) : (s.setTrack n t).fetched = s.fetched := rfl
@[simp] theorem State.setTrack_funcs (s : State) (n : Nat) (t : Option Track) : (s.setTrack n t).funcs = s.funcs := rfl
@[simp] theorem State.setTrack_chans (s : State) (n : Nat) (t : Option Track) : (s.setTrack n t).chans = s.chans := rfl
@[simp] theorem State.setTrack_vectors (s : State) (n : Nat) (t : Option Track) : (s.setTrack n t).vectors = s.vectors := rfl
@[simp] theorem State.setTrack_vfEnable (s : State) (n : Nat) (t : Option Track) : (s.setTrack n t).vfEnable = s.vfEnable := rfl
@[simp] theorem State.setTrack_numVfs (s : State) (n : Nat) (t : Option Track) : (s.setTrack n t).numVfs = s.numVfs := rfl
@[simp] theorem State.setTrack_saStage (s : State) (n : Nat) (t : Option Track) : (s.setTrack n t).saStage = s.saStage := rfl
@[simp] theorem State.setTrack_linkUp (s : State) (n : Nat) (t : Option Track) : (s.setTrack n t).linkUp = s.linkUp := rfl
@[simp] theorem State.setTrack_linkSpeed (s : State) (n : Nat) (t : Option Track) : (s.setTrack n t).linkSpeed = s.linkSpeed := rfl
@[simp] theorem State.setTrack_linkWidth (s : State) (n : Nat) (t : Option Track) : (s.setTrack n t).linkWidth = s.linkWidth := rfl
@[simp] theorem State.setTrack_lastFunc (s : State) (n : Nat) (t : Option Track) : (s.setTrack n t).lastFunc = s.lastFunc := rfl
@[simp] theorem State.setTrack_errLog (s : State) (n : Nat) (t : Option Track) : (s.setTrack n t).errLog = s.errLog := rfl
@[simp] theorem State.setTrack_tod (s : State) (n : Nat) (t : Option Track) : (s.setTrack n t).tod = s.tod := rfl
@[simp] theorem State.setTrack_tem (s : State) (n : Nat) (t : Option Track) : (s.setTrack n t).tem = s.tem := rfl
@[simp] theorem State.setTrack_ust (s : State) (n : Nat) (t : Option Track) : (s.setTrack n t).ust = s.ust := rfl
@[simp] theorem State.setTrack_pwr (s : State) (n : Nat) (t : Option Track) : (s.setTrack n t).pwr = s.pwr := rfl
@[simp] theorem State.setTrack_rng (s : State) (n : Nat) (t : Option Track) : (s.setTrack n t).rng = s.rng := rfl
@[simp] theorem State.setTrack_trk (s : State) (n : Nat) (t : Option Track) : (s.setTrack n t).trk = s.trk := rfl
@[simp] theorem State.setTrack_dge (s : State) (n : Nat) (t : Option Track) : (s.setTrack n t).dge = s.dge := rfl
@[simp] theorem State.setTrack_line (s : State) (n : Nat) (t : Option Track) : (s.setTrack n t).line = s.line := rfl
@[simp] theorem State.setTrack_tsu (s : State) (n : Nat) (t : Option Track) : (s.setTrack n t).tsu = s.tsu := rfl
@[simp] theorem State.setTrack_phw (s : State) (n : Nat) (t : Option Track) : (s.setTrack n t).phw = s.phw := rfl
@[simp] theorem State.setTrack_evj (s : State) (n : Nat) (t : Option Track) : (s.setTrack n t).evj = s.evj := rfl
@[simp] theorem State.setTrack_mem (s : State) (n : Nat) (t : Option Track) : (s.setTrack n t).mem = s.mem := rfl
@[simp] theorem State.setTrack_crd (s : State) (n : Nat) (t : Option Track) : (s.setTrack n t).crd = s.crd := rfl
@[simp] theorem State.setTrack_adl (s : State) (n : Nat) (t : Option Track) : (s.setTrack n t).adl = s.adl := rfl

/-! ### `setSlot` -/

@[simp] theorem State.setSlot_pending (s : State) (n : Nat) (k : KeySlot) : (s.setSlot n k).pending = s.pending := rfl
@[simp] theorem State.setSlot_regs (s : State) (n : Nat) (k : KeySlot) : (s.setSlot n k).regs = s.regs := rfl
@[simp] theorem State.setSlot_out (s : State) (n : Nat) (k : KeySlot) : (s.setSlot n k).out = s.out := rfl
@[simp] theorem State.setSlot_freeUsed (s : State) (n : Nat) (k : KeySlot) : (s.setSlot n k).freeUsed = s.freeUsed := rfl
@[simp] theorem State.setSlot_free (s : State) (n : Nat) (k : KeySlot) : (s.setSlot n k).free = s.free := rfl
@[simp] theorem State.setSlot_lcs (s : State) (n : Nat) (k : KeySlot) : (s.setSlot n k).lcs = s.lcs := rfl
@[simp] theorem State.setSlot_comb (s : State) (n : Nat) (k : KeySlot) : (s.setSlot n k).comb = s.comb := rfl
@[simp] theorem State.setSlot_kst (s : State) (n : Nat) (k : KeySlot) : (s.setSlot n k).kst = { s.kst with slots := Sparse.set slotReset s.kst.slots n k } := rfl
@[simp] theorem State.setSlot_queues (s : State) (n : Nat) (k : KeySlot) : (s.setSlot n k).queues = s.queues := rfl
@[simp] theorem State.setSlot_tracker (s : State) (n : Nat) (k : KeySlot) : (s.setSlot n k).tracker = s.tracker := rfl
@[simp] theorem State.setSlot_fetched (s : State) (n : Nat) (k : KeySlot) : (s.setSlot n k).fetched = s.fetched := rfl
@[simp] theorem State.setSlot_funcs (s : State) (n : Nat) (k : KeySlot) : (s.setSlot n k).funcs = s.funcs := rfl
@[simp] theorem State.setSlot_chans (s : State) (n : Nat) (k : KeySlot) : (s.setSlot n k).chans = s.chans := rfl
@[simp] theorem State.setSlot_vectors (s : State) (n : Nat) (k : KeySlot) : (s.setSlot n k).vectors = s.vectors := rfl
@[simp] theorem State.setSlot_vfEnable (s : State) (n : Nat) (k : KeySlot) : (s.setSlot n k).vfEnable = s.vfEnable := rfl
@[simp] theorem State.setSlot_numVfs (s : State) (n : Nat) (k : KeySlot) : (s.setSlot n k).numVfs = s.numVfs := rfl
@[simp] theorem State.setSlot_saStage (s : State) (n : Nat) (k : KeySlot) : (s.setSlot n k).saStage = s.saStage := rfl
@[simp] theorem State.setSlot_linkUp (s : State) (n : Nat) (k : KeySlot) : (s.setSlot n k).linkUp = s.linkUp := rfl
@[simp] theorem State.setSlot_linkSpeed (s : State) (n : Nat) (k : KeySlot) : (s.setSlot n k).linkSpeed = s.linkSpeed := rfl
@[simp] theorem State.setSlot_linkWidth (s : State) (n : Nat) (k : KeySlot) : (s.setSlot n k).linkWidth = s.linkWidth := rfl
@[simp] theorem State.setSlot_lastFunc (s : State) (n : Nat) (k : KeySlot) : (s.setSlot n k).lastFunc = s.lastFunc := rfl
@[simp] theorem State.setSlot_errLog (s : State) (n : Nat) (k : KeySlot) : (s.setSlot n k).errLog = s.errLog := rfl
@[simp] theorem State.setSlot_tod (s : State) (n : Nat) (k : KeySlot) : (s.setSlot n k).tod = s.tod := rfl
@[simp] theorem State.setSlot_tem (s : State) (n : Nat) (k : KeySlot) : (s.setSlot n k).tem = s.tem := rfl
@[simp] theorem State.setSlot_ust (s : State) (n : Nat) (k : KeySlot) : (s.setSlot n k).ust = s.ust := rfl
@[simp] theorem State.setSlot_pwr (s : State) (n : Nat) (k : KeySlot) : (s.setSlot n k).pwr = s.pwr := rfl
@[simp] theorem State.setSlot_rng (s : State) (n : Nat) (k : KeySlot) : (s.setSlot n k).rng = s.rng := rfl
@[simp] theorem State.setSlot_trk (s : State) (n : Nat) (k : KeySlot) : (s.setSlot n k).trk = s.trk := rfl
@[simp] theorem State.setSlot_dge (s : State) (n : Nat) (k : KeySlot) : (s.setSlot n k).dge = s.dge := rfl
@[simp] theorem State.setSlot_line (s : State) (n : Nat) (k : KeySlot) : (s.setSlot n k).line = s.line := rfl
@[simp] theorem State.setSlot_tsu (s : State) (n : Nat) (k : KeySlot) : (s.setSlot n k).tsu = s.tsu := rfl
@[simp] theorem State.setSlot_phw (s : State) (n : Nat) (k : KeySlot) : (s.setSlot n k).phw = s.phw := rfl
@[simp] theorem State.setSlot_evj (s : State) (n : Nat) (k : KeySlot) : (s.setSlot n k).evj = s.evj := rfl
@[simp] theorem State.setSlot_mem (s : State) (n : Nat) (k : KeySlot) : (s.setSlot n k).mem = s.mem := rfl
@[simp] theorem State.setSlot_crd (s : State) (n : Nat) (k : KeySlot) : (s.setSlot n k).crd = s.crd := rfl
@[simp] theorem State.setSlot_adl (s : State) (n : Nat) (k : KeySlot) : (s.setSlot n k).adl = s.adl := rfl

/-! ### Reads after writes -/

theorem State.reg_setReg {s : State} (h : Sparse.wf regReset s.regs = true) (k i : Nat) (v : W32) :
    (s.setReg k v).reg i = if i = k then v else s.reg i := Sparse.get_set h

theorem State.func_setFunc {s : State} (h : Sparse.wf funcReset s.funcs = true) (n i : Nat) (f : Func) :
    (s.setFunc n f).func i = if i = n then f else s.func i := Sparse.get_set h

theorem State.chan_setChan {s : State} (h : Sparse.wf (fun _ => {}) s.chans = true) (n i : Nat) (c : Channel) :
    (s.setChan n c).chan i = if i = n then c else s.chan i := Sparse.get_set h

theorem State.queue_setQueue {s : State} (h : Sparse.wf (fun _ => {}) s.queues = true) (f q g p : Nat) (x : Queue) :
    (s.setQueue f q x).queue g p = if qkey g p = qkey f q then x else s.queue g p := Sparse.get_set h

theorem State.vector_setVector {s : State} (h : Sparse.wf (fun _ => {}) s.vectors = true) (f v g w : Nat) (x : Vector) :
    (s.setVector f v x).vector g w = if 2048 * g + w = 2048 * f + v then x else s.vector g w := Sparse.get_set h

theorem State.track_setTrack {s : State} (h : Sparse.wf (fun _ => none) s.tracker = true) (n i : Nat) (t : Option Track) :
    (s.setTrack n t).track i = if i = n then t else s.track i := Sparse.get_set h

theorem State.slot_setSlot {s : State} (h : Sparse.wf slotReset s.kst.slots = true) (n i : Nat) (k : KeySlot) :
    (s.setSlot n k).slot i = if i = n then k else s.slot i := Sparse.get_set h

@[simp] theorem State.setReg_func (s : State) (k : Nat) (v : W32) (i : Nat) : (s.setReg k v).func i = s.func i := rfl
@[simp] theorem State.setReg_chan (s : State) (k : Nat) (v : W32) (i : Nat) : (s.setReg k v).chan i = s.chan i := rfl
@[simp] theorem State.setReg_queue (s : State) (k : Nat) (v : W32) (g p : Nat) : (s.setReg k v).queue g p = s.queue g p := rfl
@[simp] theorem State.setReg_vector (s : State) (k : Nat) (v : W32) (g w : Nat) : (s.setReg k v).vector g w = s.vector g w := rfl
@[simp] theorem State.setReg_track (s : State) (k : Nat) (v : W32) (i : Nat) : (s.setReg k v).track i = s.track i := rfl
@[simp] theorem State.setReg_slot (s : State) (k : Nat) (v : W32) (i : Nat) : (s.setReg k v).slot i = s.slot i := rfl
@[simp] theorem State.emit_reg (s : State) (m : OutMsg) (i : Nat) : (s.emit m).reg i = s.reg i := rfl
@[simp] theorem State.emit_func (s : State) (m : OutMsg) (i : Nat) : (s.emit m).func i = s.func i := rfl
@[simp] theorem State.emit_chan (s : State) (m : OutMsg) (i : Nat) : (s.emit m).chan i = s.chan i := rfl
@[simp] theorem State.emit_queue (s : State) (m : OutMsg) (g p : Nat) : (s.emit m).queue g p = s.queue g p := rfl
@[simp] theorem State.emit_vector (s : State) (m : OutMsg) (g w : Nat) : (s.emit m).vector g w = s.vector g w := rfl
@[simp] theorem State.emit_track (s : State) (m : OutMsg) (i : Nat) : (s.emit m).track i = s.track i := rfl
@[simp] theorem State.emit_slot (s : State) (m : OutMsg) (i : Nat) : (s.emit m).slot i = s.slot i := rfl
@[simp] theorem State.setFunc_reg (s : State) (n : Nat) (f : Func) (i : Nat) : (s.setFunc n f).reg i = s.reg i := rfl
@[simp] theorem State.setFunc_chan (s : State) (n : Nat) (f : Func) (i : Nat) : (s.setFunc n f).chan i = s.chan i := rfl
@[simp] theorem State.setFunc_queue (s : State) (n : Nat) (f : Func) (g p : Nat) : (s.setFunc n f).queue g p = s.queue g p := rfl
@[simp] theorem State.setFunc_vector (s : State) (n : Nat) (f : Func) (g w : Nat) : (s.setFunc n f).vector g w = s.vector g w := rfl
@[simp] theorem State.setFunc_track (s : State) (n : Nat) (f : Func) (i : Nat) : (s.setFunc n f).track i = s.track i := rfl
@[simp] theorem State.setFunc_slot (s : State) (n : Nat) (f : Func) (i : Nat) : (s.setFunc n f).slot i = s.slot i := rfl
@[simp] theorem State.setChan_reg (s : State) (n : Nat) (c : Channel) (i : Nat) : (s.setChan n c).reg i = s.reg i := rfl
@[simp] theorem State.setChan_func (s : State) (n : Nat) (c : Channel) (i : Nat) : (s.setChan n c).func i = s.func i := rfl
@[simp] theorem State.setChan_queue (s : State) (n : Nat) (c : Channel) (g p : Nat) : (s.setChan n c).queue g p = s.queue g p := rfl
@[simp] theorem State.setChan_vector (s : State) (n : Nat) (c : Channel) (g w : Nat) : (s.setChan n c).vector g w = s.vector g w := rfl
@[simp] theorem State.setChan_track (s : State) (n : Nat) (c : Channel) (i : Nat) : (s.setChan n c).track i = s.track i := rfl
@[simp] theorem State.setChan_slot (s : State) (n : Nat) (c : Channel) (i : Nat) : (s.setChan n c).slot i = s.slot i := rfl
@[simp] theorem State.setQueue_reg (s : State) (f q : Nat) (x : Queue) (i : Nat) : (s.setQueue f q x).reg i = s.reg i := rfl
@[simp] theorem State.setQueue_func (s : State) (f q : Nat) (x : Queue) (i : Nat) : (s.setQueue f q x).func i = s.func i := rfl
@[simp] theorem State.setQueue_chan (s : State) (f q : Nat) (x : Queue) (i : Nat) : (s.setQueue f q x).chan i = s.chan i := rfl
@[simp] theorem State.setQueue_vector (s : State) (f q : Nat) (x : Queue) (g w : Nat) : (s.setQueue f q x).vector g w = s.vector g w := rfl
@[simp] theorem State.setQueue_track (s : State) (f q : Nat) (x : Queue) (i : Nat) : (s.setQueue f q x).track i = s.track i := rfl
@[simp] theorem State.setQueue_slot (s : State) (f q : Nat) (x : Queue) (i : Nat) : (s.setQueue f q x).slot i = s.slot i := rfl
@[simp] theorem State.setVector_reg (s : State) (f v : Nat) (x : Vector) (i : Nat) : (s.setVector f v x).reg i = s.reg i := rfl
@[simp] theorem State.setVector_func (s : State) (f v : Nat) (x : Vector) (i : Nat) : (s.setVector f v x).func i = s.func i := rfl
@[simp] theorem State.setVector_chan (s : State) (f v : Nat) (x : Vector) (i : Nat) : (s.setVector f v x).chan i = s.chan i := rfl
@[simp] theorem State.setVector_queue (s : State) (f v : Nat) (x : Vector) (g p : Nat) : (s.setVector f v x).queue g p = s.queue g p := rfl
@[simp] theorem State.setVector_track (s : State) (f v : Nat) (x : Vector) (i : Nat) : (s.setVector f v x).track i = s.track i := rfl
@[simp] theorem State.setVector_slot (s : State) (f v : Nat) (x : Vector) (i : Nat) : (s.setVector f v x).slot i = s.slot i := rfl
@[simp] theorem State.setTrack_reg (s : State) (n : Nat) (t : Option Track) (i : Nat) : (s.setTrack n t).reg i = s.reg i := rfl
@[simp] theorem State.setTrack_func (s : State) (n : Nat) (t : Option Track) (i : Nat) : (s.setTrack n t).func i = s.func i := rfl
@[simp] theorem State.setTrack_chan (s : State) (n : Nat) (t : Option Track) (i : Nat) : (s.setTrack n t).chan i = s.chan i := rfl
@[simp] theorem State.setTrack_queue (s : State) (n : Nat) (t : Option Track) (g p : Nat) : (s.setTrack n t).queue g p = s.queue g p := rfl
@[simp] theorem State.setTrack_vector (s : State) (n : Nat) (t : Option Track) (g w : Nat) : (s.setTrack n t).vector g w = s.vector g w := rfl
@[simp] theorem State.setTrack_slot (s : State) (n : Nat) (t : Option Track) (i : Nat) : (s.setTrack n t).slot i = s.slot i := rfl
@[simp] theorem State.setSlot_reg (s : State) (n : Nat) (k : KeySlot) (i : Nat) : (s.setSlot n k).reg i = s.reg i := rfl
@[simp] theorem State.setSlot_func (s : State) (n : Nat) (k : KeySlot) (i : Nat) : (s.setSlot n k).func i = s.func i := rfl
@[simp] theorem State.setSlot_chan (s : State) (n : Nat) (k : KeySlot) (i : Nat) : (s.setSlot n k).chan i = s.chan i := rfl
@[simp] theorem State.setSlot_queue (s : State) (n : Nat) (k : KeySlot) (g p : Nat) : (s.setSlot n k).queue g p = s.queue g p := rfl
@[simp] theorem State.setSlot_vector (s : State) (n : Nat) (k : KeySlot) (g w : Nat) : (s.setSlot n k).vector g w = s.vector g w := rfl
@[simp] theorem State.setSlot_track (s : State) (n : Nat) (k : KeySlot) (i : Nat) : (s.setSlot n k).track i = s.track i := rfl

end Sys2Proof.Machine
end

