-- ==== Sys2Proof/Laws/Ops.lean ====
section
/-!
SUPPORT. What the shared operations can do: whether a work entry is begun and its checks pass, what a register access does while its block
is on, what writing to the host and completing an entry can touch, and what ends every command.
-/
namespace Sys2Proof.Machine
open Sys2Proof

/-! ### A work entry and its checks -/

/-- A begun entry runs its command. -/
theorem State.onEntry_begun {s : State} {slot lo hi : Nat} {t : Track} {k : Track → State} (h : Begun s slot lo hi t) :
    s.onEntry slot lo hi k = k t := by
  obtain ⟨h1, h2, h3, h4⟩ := h
  simp [State.onEntry, h1, h2, h3, h4]

/-- A command whose slot holds no begun entry changes nothing. -/
theorem State.onEntry_none {s : State} {slot lo hi : Nat} {k : Track → State} (h : ¬ ∃ t, Begun s slot lo hi t) :
    s.onEntry slot lo hi k = s := by
  unfold State.onEntry
  split
  · next t ht =>
    split
    · next hh => exact absurd ⟨t, ht, hh.1, hh.2.1, hh.2.2⟩ h
    · rfl
  · rfl

/-- Where every check passes, the command goes on. -/
theorem State.checked_passes {s k : State} {slot : Nat} {l : List (Option (Nat × Nat))} (h : Passes l) : s.checked slot l k = k := by
  unfold State.checked; rw [h]

/-- The first check that fails ends the entry. -/
theorem State.checked_fails {s k : State} {slot : Nat} {l : List (Option (Nat × Nat))} {e : Nat × Nat} (h : FailsWith l e) :
    s.checked slot l k = s.reject slot e := by
  unfold State.checked; rw [h.1]; simp [h.2]

/-- Where the input is still to be gathered, the entry waits for it. -/
theorem State.checked_awaits {s k : State} {slot : Nat} {l : List (Option (Nat × Nat))} (h : AwaitsInput l) : s.checked slot l k = s := by
  unfold State.checked; rw [h]; simp

@[simp] theorem chk_true {a b : Nat} : chk true a b = none := rfl
@[simp] theorem chk_false {a b : Nat} : chk false a b = some (a, b) := rfl

@[simp] theorem Passes.nil : Passes [] := rfl
@[simp] theorem Passes.cons_none {l : List (Option (Nat × Nat))} : Passes (none :: l) ↔ Passes l := Iff.rfl
@[simp] theorem Passes.cons_some {l : List (Option (Nat × Nat))} {e : Nat × Nat} : ¬ Passes (some e :: l) := by simp [Passes]

theorem Passes.append {a b : List (Option (Nat × Nat))} (ha : Passes a) (hb : Passes b) : Passes (a ++ b) := by
  simp only [Passes] at *; rw [List.findSome?_append, ha, hb]; rfl

theorem FailsWith.append_left {a b : List (Option (Nat × Nat))} {e : Nat × Nat} (ha : FailsWith a e) : FailsWith (a ++ b) e := by
  refine ⟨?_, ha.2⟩; rw [List.findSome?_append, ha.1]; rfl

theorem FailsWith.append_right {a b : List (Option (Nat × Nat))} {e : Nat × Nat} (ha : Passes a) (hb : FailsWith b e) : FailsWith (a ++ b) e := by
  simp only [Passes] at ha; refine ⟨?_, hb.2⟩; rw [List.findSome?_append, ha, hb.1]; rfl

/-- The checks of a public-key operation pass when each of them does (Table 5.7). -/
theorem State.combChecks_passes {s : State} {t : Track} {prog : Nat} {zero params : Bool} {fields slots lens : List (Option (Nat × Nat))}
    (hz : zero = true) (he : s.engineCheck prog = none) (hp : params = true) (hf : Passes fields) (hs : Passes slots) (hd : t.dmaFail = none)
    (hl : Passes lens) : Passes (s.combChecks t prog zero params fields slots lens) := by
  simp only [State.combChecks, hz, he, hp, hd, chk_true]
  exact (((Passes.append (by simp) hf).append hs).append (by simp)).append hl

/-! ### Register accesses -/

theorem State.regWrite_on {s k : State} {key : Nat} (h : s.regsOpen = true) (hb : s.blockDown key = false) : s.regWrite key k = k := by
  simp [State.regWrite, h, hb]

theorem State.regWrite_closed {s k : State} {key : Nat} (h : s.regsOpen = false) : s.regWrite key k = s := by
  simp [State.regWrite, h]

theorem State.regWrite_down {s k : State} {key : Nat} (h : s.regsOpen = true) (hb : s.blockDown key = true) :
    s.regWrite key k = s.logDown key 256 := by
  simp [State.regWrite, h, hb]

theorem State.regRead_on {s k : State} {key : Nat} (h : s.lcs.phase ≠ .reset) (ht : s.lcs.state ≠ .terminated) (hb : s.blockDown key = false) :
    s.regRead key k = k := by
  simp [State.regRead, h, ht, hb]

/-! ### Writing to the host -/

/-- `t` is `s` but for registers, output, functions, channels and vectors: all that writing to the host can touch. -/
def Sends (s t : State) : Prop := t = { s with regs := t.regs, out := t.out, funcs := t.funcs, chans := t.chans, vectors := t.vectors }

theorem Sends.refl (s : State) : Sends s s := rfl

theorem Sends.trans {s t u : State} (h1 : Sends s t) (h2 : Sends t u) : Sends s u := by
  unfold Sends at *; rw [h2, h1]

theorem Sends.foldl {α : Type} {f : State → α → State} (h : ∀ s a, Sends s (f s a)) (l : List α) (s : State) : Sends s (l.foldl f s) := by
  induction l generalizing s with
  | nil => exact .refl s
  | cons a l ih => exact (h s a).trans (ih _)

theorem State.dirtyMark_sends (s : State) (f addr len : Nat) : Sends s (s.dirtyMark f addr len) := by
  unfold State.dirtyMark
  dsimp only
  split
  · exact .refl s
  · exact Sends.foldl (fun s i => by (repeat' split) <;> rfl) _ s

theorem State.sendRun_sends (s : State) (relaxed : Bool) (w : HostWrite) : Sends s (s.sendRun relaxed w) := by
  unfold State.sendRun
  exact Sends.foldl (fun s p => by split <;> rfl) _ s

theorem State.issueWrite_sends (s : State) (x : ChanWrite) : Sends s (s.issueWrite x) := by
  unfold State.issueWrite
  exact Sends.foldl (fun s p => (State.sendRun_sends s _ _).trans (State.dirtyMark_sends _ _ _ _)) _ s

theorem State.sendWrite_sends (s : State) (x : ChanWrite) : Sends s (s.sendWrite x) :=
  Sends.trans (t := s.setChan x.write.func { s.chan x.write.func with unflushed := (s.chan x.write.func).unflushed ++ [x] }) rfl
    (State.issueWrite_sends _ _)

theorem State.msix_sends (s : State) (f v : Nat) : Sends s (s.msix f v) := by
  unfold State.msix
  dsimp only
  split
  · exact Sends.trans (t := s.emit (.msix f v (s.vector f v).addr (s.vector f v).data)) rfl (State.dirtyMark_sends _ _ _ _)
  · rfl

theorem State.hostWrite_sends (s : State) (kind : XferKind) (qid tag : Nat) (w : HostWrite) : Sends s (s.hostWrite kind qid tag w) := by
  unfold State.hostWrite
  dsimp only
  split
  · exact .refl s
  · split
    · exact State.sendWrite_sends s _
    · rfl

/-! ### What ends every command -/

/-- Nothing but output, functions, channels and vectors, beside registers, is touched by the messages that end a command. -/
theorem settle_sends (s t : State) : Sends t (settle s t) := by
  unfold settle
  dsimp only
  have h : ∀ b : Bool, Sends t (if b = true then t.msix 0 (field (t.reg Reg.ercVec) 10 0) else t) := fun b => by
    split
    · exact State.msix_sends _ _ _
    · exact .refl t
  split
  · exact Sends.trans (h _) (State.msix_sends _ _ _)
  · exact h _

/-- A command that leaves the summary bits and the response as they are, or lower, sends nothing. -/
theorem settle_quiet {s t : State} (h : t.sumSignal &&& ~~~s.sumSignal = 0) (hr : t.tem.resp ≤ s.tem.resp) : settle s t = t := by
  simp [settle, h, Nat.not_lt.2 hr]

@[simp] theorem settle_self (s : State) : settle s s = s := settle_quiet (by simp) (Nat.le_refl _)

/-! ### Completing an entry -/

/-- `t` is `s` but for what completing an entry can touch: also the tracker and the queues. -/
def Finishes (s t : State) : Prop :=
  t = { s with regs := t.regs, out := t.out, funcs := t.funcs, chans := t.chans, vectors := t.vectors, queues := t.queues, tracker := t.tracker }

theorem Finishes.refl (s : State) : Finishes s s := rfl

theorem Finishes.trans {s t u : State} (h1 : Finishes s t) (h2 : Finishes t u) : Finishes s u := by
  unfold Finishes at *; rw [h2, h1]

theorem Sends.finishes {s t : State} (h : Sends s t) : Finishes s t := by
  unfold Sends at h; unfold Finishes; rw [h]

theorem State.retireEntry_finishes (s : State) (slot : Nat) (t : Track) : Finishes s (s.retireEntry slot t) := by
  unfold State.retireEntry
  dsimp only
  split <;> rfl

theorem State.completeLen_finishes (s : State) (slot status ext len : Nat) (out : Bytes) : Finishes s (s.completeLen slot status ext len out) := by
  unfold State.completeLen
  split
  · exact .refl s
  · next t _ =>
    dsimp only
    have h0 : Finishes s (if t.entry.opcode / 256 = 6 then s.modReg Reg.dgeCmdCount (· + 1) else s) := by split <;> rfl
    revert h0
    generalize (if t.entry.opcode / 256 = 6 then s.modReg Reg.dgeCmdCount (· + 1) else s) = s0
    intro h0
    have h1 := (h0.trans (State.hostWrite_sends _ .outputWrite t.qid t.entry.tag ⟨t.func, t.entry.outAddr, out⟩).finishes).trans
      (State.hostWrite_sends _ .statusWrite t.qid t.entry.tag
        ⟨t.func, (s.queue t.func t.qid).slotAddr t.index + 56, statusBytes status ext len⟩).finishes
    split
    · exact h1.trans (State.retireEntry_finishes _ _ _)
    · exact h1.trans rfl

theorem State.complete_finishes (s : State) (slot status ext : Nat) (out : Bytes) : Finishes s (s.complete slot status ext out) :=
  State.completeLen_finishes _ _ _ _ _ _

theorem State.fail_finishes (s : State) (slot : Nat) (e : Nat × Nat) : Finishes s (s.fail slot e) := State.complete_finishes _ _ _ _ _

/-! ### Fields that completing an entry and ending a command leave alone -/

@[simp] theorem settle_pending (s t : State) : (settle s t).pending = t.pending := by rw [settle_sends s t]
@[simp] theorem State.complete_pending (s : State) (slot status ext : Nat) (out : Bytes) : (s.complete slot status ext out).pending = s.pending := by
  rw [State.complete_finishes s slot status ext out]
@[simp] theorem State.fail_pending (s : State) (slot : Nat) (e : Nat × Nat) : (s.fail slot e).pending = s.pending := State.complete_pending _ _ _ _ _
@[simp] theorem settle_freeUsed (s t : State) : (settle s t).freeUsed = t.freeUsed := by rw [settle_sends s t]
@[simp] theorem State.complete_freeUsed (s : State) (slot status ext : Nat) (out : Bytes) : (s.complete slot status ext out).freeUsed = s.freeUsed := by
  rw [State.complete_finishes s slot status ext out]
@[simp] theorem State.fail_freeUsed (s : State) (slot : Nat) (e : Nat × Nat) : (s.fail slot e).freeUsed = s.freeUsed := State.complete_freeUsed _ _ _ _ _
@[simp] theorem settle_free (s t : State) : (settle s t).free = t.free := by rw [settle_sends s t]
@[simp] theorem State.complete_free (s : State) (slot status ext : Nat) (out : Bytes) : (s.complete slot status ext out).free = s.free := by
  rw [State.complete_finishes s slot status ext out]
@[simp] theorem State.fail_free (s : State) (slot : Nat) (e : Nat × Nat) : (s.fail slot e).free = s.free := State.complete_free _ _ _ _ _
@[simp] theorem settle_lcs (s t : State) : (settle s t).lcs = t.lcs := by rw [settle_sends s t]
@[simp] theorem State.complete_lcs (s : State) (slot status ext : Nat) (out : Bytes) : (s.complete slot status ext out).lcs = s.lcs := by
  rw [State.complete_finishes s slot status ext out]
@[simp] theorem State.fail_lcs (s : State) (slot : Nat) (e : Nat × Nat) : (s.fail slot e).lcs = s.lcs := State.complete_lcs _ _ _ _ _
@[simp] theorem settle_comb (s t : State) : (settle s t).comb = t.comb := by rw [settle_sends s t]
@[simp] theorem State.complete_comb (s : State) (slot status ext : Nat) (out : Bytes) : (s.complete slot status ext out).comb = s.comb := by
  rw [State.complete_finishes s slot status ext out]
@[simp] theorem State.fail_comb (s : State) (slot : Nat) (e : Nat × Nat) : (s.fail slot e).comb = s.comb := State.complete_comb _ _ _ _ _
@[simp] theorem settle_kst (s t : State) : (settle s t).kst = t.kst := by rw [settle_sends s t]
@[simp] theorem State.complete_kst (s : State) (slot status ext : Nat) (out : Bytes) : (s.complete slot status ext out).kst = s.kst := by
  rw [State.complete_finishes s slot status ext out]
@[simp] theorem State.fail_kst (s : State) (slot : Nat) (e : Nat × Nat) : (s.fail slot e).kst = s.kst := State.complete_kst _ _ _ _ _
@[simp] theorem settle_fetched (s t : State) : (settle s t).fetched = t.fetched := by rw [settle_sends s t]
@[simp] theorem State.complete_fetched (s : State) (slot status ext : Nat) (out : Bytes) : (s.complete slot status ext out).fetched = s.fetched := by
  rw [State.complete_finishes s slot status ext out]
@[simp] theorem State.fail_fetched (s : State) (slot : Nat) (e : Nat × Nat) : (s.fail slot e).fetched = s.fetched := State.complete_fetched _ _ _ _ _
@[simp] theorem settle_vfEnable (s t : State) : (settle s t).vfEnable = t.vfEnable := by rw [settle_sends s t]
@[simp] theorem State.complete_vfEnable (s : State) (slot status ext : Nat) (out : Bytes) : (s.complete slot status ext out).vfEnable = s.vfEnable := by
  rw [State.complete_finishes s slot status ext out]
@[simp] theorem State.fail_vfEnable (s : State) (slot : Nat) (e : Nat × Nat) : (s.fail slot e).vfEnable = s.vfEnable := State.complete_vfEnable _ _ _ _ _
@[simp] theorem settle_numVfs (s t : State) : (settle s t).numVfs = t.numVfs := by rw [settle_sends s t]
@[simp] theorem State.complete_numVfs (s : State) (slot status ext : Nat) (out : Bytes) : (s.complete slot status ext out).numVfs = s.numVfs := by
  rw [State.complete_finishes s slot status ext out]
@[simp] theorem State.fail_numVfs (s : State) (slot : Nat) (e : Nat × Nat) : (s.fail slot e).numVfs = s.numVfs := State.complete_numVfs _ _ _ _ _
@[simp] theorem settle_saStage (s t : State) : (settle s t).saStage = t.saStage := by rw [settle_sends s t]
@[simp] theorem State.complete_saStage (s : State) (slot status ext : Nat) (out : Bytes) : (s.complete slot status ext out).saStage = s.saStage := by
  rw [State.complete_finishes s slot status ext out]
@[simp] theorem State.fail_saStage (s : State) (slot : Nat) (e : Nat × Nat) : (s.fail slot e).saStage = s.saStage := State.complete_saStage _ _ _ _ _
@[simp] theorem settle_linkUp (s t : State) : (settle s t).linkUp = t.linkUp := by rw [settle_sends s t]
@[simp] theorem State.complete_linkUp (s : State) (slot status ext : Nat) (out : Bytes) : (s.complete slot status ext out).linkUp = s.linkUp := by
  rw [State.complete_finishes s slot status ext out]
@[simp] theorem State.fail_linkUp (s : State) (slot : Nat) (e : Nat × Nat) : (s.fail slot e).linkUp = s.linkUp := State.complete_linkUp _ _ _ _ _
@[simp] theorem settle_linkSpeed (s t : State) : (settle s t).linkSpeed = t.linkSpeed := by rw [settle_sends s t]
@[simp] theorem State.complete_linkSpeed (s : State) (slot status ext : Nat) (out : Bytes) : (s.complete slot status ext out).linkSpeed = s.linkSpeed := by
  rw [State.complete_finishes s slot status ext out]
@[simp] theorem State.fail_linkSpeed (s : State) (slot : Nat) (e : Nat × Nat) : (s.fail slot e).linkSpeed = s.linkSpeed := State.complete_linkSpeed _ _ _ _ _
@[simp] theorem settle_linkWidth (s t : State) : (settle s t).linkWidth = t.linkWidth := by rw [settle_sends s t]
@[simp] theorem State.complete_linkWidth (s : State) (slot status ext : Nat) (out : Bytes) : (s.complete slot status ext out).linkWidth = s.linkWidth := by
  rw [State.complete_finishes s slot status ext out]
@[simp] theorem State.fail_linkWidth (s : State) (slot : Nat) (e : Nat × Nat) : (s.fail slot e).linkWidth = s.linkWidth := State.complete_linkWidth _ _ _ _ _
@[simp] theorem settle_lastFunc (s t : State) : (settle s t).lastFunc = t.lastFunc := by rw [settle_sends s t]
@[simp] theorem State.complete_lastFunc (s : State) (slot status ext : Nat) (out : Bytes) : (s.complete slot status ext out).lastFunc = s.lastFunc := by
  rw [State.complete_finishes s slot status ext out]
@[simp] theorem State.fail_lastFunc (s : State) (slot : Nat) (e : Nat × Nat) : (s.fail slot e).lastFunc = s.lastFunc := State.complete_lastFunc _ _ _ _ _
@[simp] theorem settle_errLog (s t : State) : (settle s t).errLog = t.errLog := by rw [settle_sends s t]
@[simp] theorem State.complete_errLog (s : State) (slot status ext : Nat) (out : Bytes) : (s.complete slot status ext out).errLog = s.errLog := by
  rw [State.complete_finishes s slot status ext out]
@[simp] theorem State.fail_errLog (s : State) (slot : Nat) (e : Nat × Nat) : (s.fail slot e).errLog = s.errLog := State.complete_errLog _ _ _ _ _
@[simp] theorem settle_tod (s t : State) : (settle s t).tod = t.tod := by rw [settle_sends s t]
@[simp] theorem State.complete_tod (s : State) (slot status ext : Nat) (out : Bytes) : (s.complete slot status ext out).tod = s.tod := by
  rw [State.complete_finishes s slot status ext out]
@[simp] theorem State.fail_tod (s : State) (slot : Nat) (e : Nat × Nat) : (s.fail slot e).tod = s.tod := State.complete_tod _ _ _ _ _
@[simp] theorem settle_tem (s t : State) : (settle s t).tem = t.tem := by rw [settle_sends s t]
@[simp] theorem State.complete_tem (s : State) (slot status ext : Nat) (out : Bytes) : (s.complete slot status ext out).tem = s.tem := by
  rw [State.complete_finishes s slot status ext out]
@[simp] theorem State.fail_tem (s : State) (slot : Nat) (e : Nat × Nat) : (s.fail slot e).tem = s.tem := State.complete_tem _ _ _ _ _
@[simp] theorem settle_ust (s t : State) : (settle s t).ust = t.ust := by rw [settle_sends s t]
@[simp] theorem State.complete_ust (s : State) (slot status ext : Nat) (out : Bytes) : (s.complete slot status ext out).ust = s.ust := by
  rw [State.complete_finishes s slot status ext out]
@[simp] theorem State.fail_ust (s : State) (slot : Nat) (e : Nat × Nat) : (s.fail slot e).ust = s.ust := State.complete_ust _ _ _ _ _
@[simp] theorem settle_pwr (s t : State) : (settle s t).pwr = t.pwr := by rw [settle_sends s t]
@[simp] theorem State.complete_pwr (s : State) (slot status ext : Nat) (out : Bytes) : (s.complete slot status ext out).pwr = s.pwr := by
  rw [State.complete_finishes s slot status ext out]
@[simp] theorem State.fail_pwr (s : State) (slot : Nat) (e : Nat × Nat) : (s.fail slot e).pwr = s.pwr := State.complete_pwr _ _ _ _ _
@[simp] theorem settle_rng (s t : State) : (settle s t).rng = t.rng := by rw [settle_sends s t]
@[simp] theorem State.complete_rng (s : State) (slot status ext : Nat) (out : Bytes) : (s.complete slot status ext out).rng = s.rng := by
  rw [State.complete_finishes s slot status ext out]
@[simp] theorem State.fail_rng (s : State) (slot : Nat) (e : Nat × Nat) : (s.fail slot e).rng = s.rng := State.complete_rng _ _ _ _ _
@[simp] theorem settle_trk (s t : State) : (settle s t).trk = t.trk := by rw [settle_sends s t]
@[simp] theorem State.complete_trk (s : State) (slot status ext : Nat) (out : Bytes) : (s.complete slot status ext out).trk = s.trk := by
  rw [State.complete_finishes s slot status ext out]
@[simp] theorem State.fail_trk (s : State) (slot : Nat) (e : Nat × Nat) : (s.fail slot e).trk = s.trk := State.complete_trk _ _ _ _ _
@[simp] theorem settle_dge (s t : State) : (settle s t).dge = t.dge := by rw [settle_sends s t]
@[simp] theorem State.complete_dge (s : State) (slot status ext : Nat) (out : Bytes) : (s.complete slot status ext out).dge = s.dge := by
  rw [State.complete_finishes s slot status ext out]
@[simp] theorem State.fail_dge (s : State) (slot : Nat) (e : Nat × Nat) : (s.fail slot e).dge = s.dge := State.complete_dge _ _ _ _ _
@[simp] theorem settle_line (s t : State) : (settle s t).line = t.line := by rw [settle_sends s t]
@[simp] theorem State.complete_line (s : State) (slot status ext : Nat) (out : Bytes) : (s.complete slot status ext out).line = s.line := by
  rw [State.complete_finishes s slot status ext out]
@[simp] theorem State.fail_line (s : State) (slot : Nat) (e : Nat × Nat) : (s.fail slot e).line = s.line := State.complete_line _ _ _ _ _
@[simp] theorem settle_tsu (s t : State) : (settle s t).tsu = t.tsu := by rw [settle_sends s t]
@[simp] theorem State.complete_tsu (s : State) (slot status ext : Nat) (out : Bytes) : (s.complete slot status ext out).tsu = s.tsu := by
  rw [State.complete_finishes s slot status ext out]
@[simp] theorem State.fail_tsu (s : State) (slot : Nat) (e : Nat × Nat) : (s.fail slot e).tsu = s.tsu := State.complete_tsu _ _ _ _ _
@[simp] theorem settle_phw (s t : State) : (settle s t).phw = t.phw := by rw [settle_sends s t]
@[simp] theorem State.complete_phw (s : State) (slot status ext : Nat) (out : Bytes) : (s.complete slot status ext out).phw = s.phw := by
  rw [State.complete_finishes s slot status ext out]
@[simp] theorem State.fail_phw (s : State) (slot : Nat) (e : Nat × Nat) : (s.fail slot e).phw = s.phw := State.complete_phw _ _ _ _ _
@[simp] theorem settle_evj (s t : State) : (settle s t).evj = t.evj := by rw [settle_sends s t]
@[simp] theorem State.complete_evj (s : State) (slot status ext : Nat) (out : Bytes) : (s.complete slot status ext out).evj = s.evj := by
  rw [State.complete_finishes s slot status ext out]
@[simp] theorem State.fail_evj (s : State) (slot : Nat) (e : Nat × Nat) : (s.fail slot e).evj = s.evj := State.complete_evj _ _ _ _ _
@[simp] theorem settle_mem (s t : State) : (settle s t).mem = t.mem := by rw [settle_sends s t]
@[simp] theorem State.complete_mem (s : State) (slot status ext : Nat) (out : Bytes) : (s.complete slot status ext out).mem = s.mem := by
  rw [State.complete_finishes s slot status ext out]
@[simp] theorem State.fail_mem (s : State) (slot : Nat) (e : Nat × Nat) : (s.fail slot e).mem = s.mem := State.complete_mem _ _ _ _ _
@[simp] theorem settle_crd (s t : State) : (settle s t).crd = t.crd := by rw [settle_sends s t]
@[simp] theorem State.complete_crd (s : State) (slot status ext : Nat) (out : Bytes) : (s.complete slot status ext out).crd = s.crd := by
  rw [State.complete_finishes s slot status ext out]
@[simp] theorem State.fail_crd (s : State) (slot : Nat) (e : Nat × Nat) : (s.fail slot e).crd = s.crd := State.complete_crd _ _ _ _ _
@[simp] theorem settle_adl (s t : State) : (settle s t).adl = t.adl := by rw [settle_sends s t]
@[simp] theorem State.complete_adl (s : State) (slot status ext : Nat) (out : Bytes) : (s.complete slot status ext out).adl = s.adl := by
  rw [State.complete_finishes s slot status ext out]
@[simp] theorem State.fail_adl (s : State) (slot : Nat) (e : Nat × Nat) : (s.fail slot e).adl = s.adl := State.complete_adl _ _ _ _ _
@[simp] theorem settle_queues (s t : State) : (settle s t).queues = t.queues := by rw [settle_sends s t]
@[simp] theorem settle_tracker (s t : State) : (settle s t).tracker = t.tracker := by rw [settle_sends s t]

end Sys2Proof.Machine
end

