-- ==== Sys2Proof/WellFormed.lean ====
section
/-!
DEFINITION. Which commands are well formed: every number that names a thing of the block names one that it has (R11, R88, R188, R204, R263, R276,
R293, R516).
-/
namespace Sys2Proof

/-- A key of a register write or of a counter read: an offset in PF0's BAR0, or in the BAR0 of VF 1 to 255 after it, or a configuration
control (log entry 17). -/
def keyOk (key : Nat) : Bool :=
  decide (key < 0x8000000) || (decide (0x8010000 ≤ key) && decide (key < 0x9000000)) ||
    (decide (0x10000000 ≤ key) && decide (key < 0x10100000))

/-- A command is well formed. -/
def wellFormed : Instr → Bool
  | .registerWrite key _ | .counterLoRead key => keyOk key
  | .wrongSizeAccess func _ _ _ | .vfRngDataRead func | .admqEnable func _ | .admqDisable func _ _
  | .busMasterEnableChange func _ | .d3hotEntry func | .vfFlr func | .flrComplete func | .dmaRetry func _
  | .syncReadReturn func _ => decide (func < 256)
  | .poweredDownAccess _ _ | .lineEnWrite _ | .tcLaunch _ _ | .frameEgressEnd _ | .checkpointCount | .checkpointTimer
  | .csigTimeout _ _ | .exportCopy _ _ | .expCtrlWrite _ | .porstRise _ | .hbmTrainingDone _ _ | .supplyMonitorReset _
  | .porstFall | .testmodeAssert | .mainPowerLoss | .vddUstReturn | .warm _ | .perstAssert | .perstDeassert | .pcieRefLoss
  | .thermalSample _ _ | .drainTimeout | .powerStateChangeDone | .challengeLapse | .returnAuthLapse | .recoveryStart _
  | .recoveryDataWrite _ | .recoveryDone _ | .operationPlace | .priorityAging _ | .preemption | .gridTick | .classPEnd _ _
  | .classCBodyEnd _ _ _ | .classCRelease _ | .releaseGridWrite _ | .stPeriodWrite _ | .periodicSelftest | .blockConditioned
  | .minPairsWrite _ | .rngFifoRefill | .rngDataRead | .mrgLock _ | .pf0Flr | .vfEnableClear | .chanClear _ | .sync _
  | .saBaseWrite _ | .saCountWrite _ | .pipeUnfence _ _ | .rateWrite _ | .servoOffsetWrite _ | .lockTimeout | .todNsRead
  | .capCtrlEnable _ | .phwCalibrationEnd _ _ _ | .phwWindow _ _ _ _ | .rtcSync | .trkEnable _ | .soloWrite _ | .helloSend _
  | .hello _ _ | .helloAck _ _ | .epochRetry | .heartbeatSend _ | .heartbeat _ _ | .mirror _ _ | .mirrorAck _ _
  | .mirrorAckTimeout | .rxStateSend | .probe _ _ | .probeReply _ _ | .heartbeatSilence _ | .probeTimeout _
  | .takeoverDone _ _ | .takeoverNotice _ _ | .leave _ _ | .epochPrepare _ _ | .epochCommit _ _ | .epochPassTimeout
  | .oldRingKeyExpire | .csigReq _ _ | .csigResp _ _ | .tamperTick _ | .respClearDegrade _ | .temLock _ | .rtcSet _
  | .rtcSubRead | .logData0Read | .cardInsert _ | .cardRemove | .t1BlockReceive _ _ | .t1WaitTimeout _ | .ceremonyLapse
  | .crdRxDataRead | .patrolScrub _ _ | .avsStep _ _ | .droopEpisodeBegin | .droopEpisodeEnd | .avsCalibrationEnd _ _
  | .serdesRecalEnd _ | .supplyMonitorRelease _ | .testmodeDeassert _ | .pcieRefReturn | .pcieLinkDown | .pcieLinkUp
  | .holdoverLimit | .atrWaitTimeout => true
  | .frameReceive group port _ _ _ => decide (group < 8) && decide (port < 4)
  | .linkUp group port _ | .linkDown group port _ _ _ _ => decide (group < 10) && decide (port < 4)
  | .saContextFetchDone sa _ | .ratchetDeriveDone sa | .ratchetOverlapEnd sa => decide (sa < 16777216)
  | .tcEntryLapse pair _ => decide (pair < 16)
  | .setPowerState slot | .powerQuery slot | .lcsQuery slot | .lcsTransition slot _ | .lcsChallenge slot | .debugUnlock slot
  | .debugLock slot | .imageStage slot | .imageActivate slot | .svnAdvance slot | .selftestRun slot | .engineFence slot
  | .engineUnfence slot | .mlkemKeygen slot | .mlkemEncaps slot | .mlkemDecaps slot | .mldsaKeygen slot | .mldsaSign slot
  | .mldsaVerify slot | .slhdsaKeygen slot | .slhdsaSign slot | .slhdsaVerify slot | .lmsKeygen slot | .lmsTreeBuild slot
  | .lmsSign slot | .lmsLeafWaitTimeout slot | .lmsVerify slot | .hssVerify slot | .hqcKeygen slot | .hqcEncaps slot
  | .hqcDecaps slot | .ecKeygen slot | .ecdsaSign slot | .ecdsaVerify slot | .ecdh slot | .edKeygen slot | .edSign slot
  | .edVerify slot | .xdhKeygen slot | .xdh slot | .rsaSign slot | .rsaVerify slot | .rsaOaepDecrypt slot
  | .rsaOaepEncrypt slot | .stallTimeout slot | .rngGenerate slot | .rngRawRead slot | .rngPairRestore slot
  | .keyPrepare slot | .keyGenerate slot | .keyImport slot | .keyDerive slot | .keyWrap slot | .keyUnwrap slot
  | .keyDelete slot | .keyRestrict slot | .keyQuery slot | .keyRangeSet slot | .keyBvrInit slot | .hash slot | .hmac slot
  | .hmacVerify slot | .kmac slot | .mrgExtend slot | .cvuRun slot | .dmaReadComplete slot _ | .nop slot | .queueCreate slot
  | .queueDisable slot _ | .queueEnable slot | .queueDestroy slot | .entryAbort slot | .queueQuery slot | .saInstall slot
  | .saRemove slot | .saPin slot | .saQuery slot | .clsWrite slot | .clsRead slot | .clsClear slot | .clsInfo slot
  | .aesGcmEncrypt slot | .aesGcmDecrypt slot | .aesGmacGen slot | .aesGmacVerify slot | .aesCtr slot | .aesCbcEncrypt slot
  | .aesCbcDecrypt slot | .aesXtsEncrypt slot | .aesXtsDecrypt slot | .aesKwWrap slot | .aesKwUnwrap slot | .aesKwpWrap slot
  | .aesKwpUnwrap slot | .timeRead slot | .timeStep slot | .phwCalibrate slot | .jrnPubkey slot | .jrnRead slot _
  | .jrnCheckpoint slot | .jrnReadCp slot _ | .ringMapSet slot | .ringMapClear slot | .ringStatus slot | .ringEpoch slot
  | .cardActivate slot | .cardDeactivate slot | .cardApdu slot | .ceremonyBegin slot | .ceremonyCard slot
  | .ceremonyEnd slot | .sealedRead slot | .sealedWrite slot | .sealedCounter slot | .avsCalibrate slot | .serdesRecal slot
  | .digestCommit slot _ | .lookasideCipherEnd slot _ => decide (slot < 8192)
  | .engineWipeEnd engine | .instructionInterrupt engine _ _ | .operandMemoryUe engine | .controlStoreUe engine _
  | .watchdog engine | .iterLimit engine | .selftestDone engine _ => decide (engine < 96)
  | .lmsBlockConfirm keySlot | .deviceSlotRederive keySlot => decide (keySlot < 4096)
  | .pairSample pair _ | .startupTestEnd pair => decide (pair < 8)
  | .channelReseed channel => decide (channel < 64)
  | .drbgReseedDue inst | .drbgStop inst => decide (inst < 4)
  | .cvuStart unit _ | .cvuCheck unit _ | .cvuData8Write unit _ | .cvuData32Write unit _ => decide (unit < 8)
  | .doorbell func qid _ | .phaseRetry func qid _ | .scanResume func qid _ | .flushingReadReturn func qid _
  | .headIdxWrite func qid | .dmaTransferFail func _ _ _ qid _ => decide (func < 256) && decide (qid < 256)
  | .applyGroup group _ | .applyDone group | .portCounterClear group _ | .tallyBurnDone group => decide (group < 8)
  | .pipelineSelftest pipe _ => decide (pipe < 16)
  | .serdesAdaptStep lane _ _ => decide (lane < 36)
  | .msixPendingSend func vec => decide (func < 256) && decide (vec < 2048)
  | .hotRefreshChange stack _ => decide (stack < 4)

end Sys2Proof
end

