-- ==== Sys2Proof/Tests/Slice0.lean ====
section
/-!
SUPPORT. Tests: well-formedness, worked values of the spec, and a concrete state and operands for every statement with
hypotheses. A witness applies its statement to them, so that each hypothesis is met as the statement has it.
-/
set_option Elab.async false
namespace Sys2Proof.Tests
open Sys2Proof Sys2Proof.Machine

/-! ### States for the tests -/

/-- Parameter bytes 40 to 55, with strings put at their offsets. -/
def par (l : List (Nat × Bytes)) : Bytes := l.foldl (fun b e => putAt b (e.1 - 40) e.2) (zeros 16)

/-- A ready entry of the admin queue of PF0. -/
def ready (op : Nat) (params : Bytes := zeros 16) (key : Nat := noSlot) (len : Nat := 0) (cap : Nat := 0)
    (input : Bytes := []) (flags : Byte := 0) (func : Nat := 0) : Track :=
  { func := func, qid := 0, index := 0, input := input
    entry := { opcode := op, flags := flags, msgLen := len, outAddr := 0x1000, outCap := cap, keySlot := key, params := params } }

/-- A state whose tracker slot 5 holds an entry. -/
def holding (s : State) (t : Track) : State := { s with tracker := [(5, some t)] }

/-- The Comb with one engine of each kind and a program for every opcode that it may carry. -/
def combOn : Comb :=
  { groupMask := 0xFFF, kindLoaded := 15
    engines := [{ kind := 0, firstCell := 0, maskCh := 16 }, { kind := 1, firstCell := 4, maskCh := 17 },
      { kind := 2, firstCell := 8, maskCh := 18 }, { kind := 3, firstCell := 12, maskCh := 19 }]
    programs := ((List.range 559).map (256 + ·)).map fun op => { kind := engineKind op, opcode := op, classC := true } }

/-- A booted device on its link: OWNED, PF0 with Bus Master Enable. -/
def live : State :=
  { State.reset with
    lcs := { phase := .done, state := .owned }
    pwr := { porstLow := false, perstLow := false, refOk := true, cellOn := 0xFFF }
    linkUp := true
    funcs := [(0, { funcReset 0 with bme := true })]
    comb := combOn }

/-- An open queue 1 of PF0, of DEPTH 64. -/
def openQueue : Queue := { state := .enabled, ring := 0x10000, qcb := 0x20000, log2 := 6 }

/-- The live device with a queue 1 of PF0. -/
def withQueue (q : Queue) : State := { live with queues := [(1, q)] }

/-- The live device with a key slot 16. -/
def withKey (k : KeySlot) : State := { live with kst := { slots := [(16, k)] } }

/-- An attribute word: VALID, KIND, usage bits, CLEN. -/
def attrOf (valid : Bool) (kind : Nat) (usage : List Nat) (clen : Nat := 0) : W64 :=
  BitVec.ofNat 64 (b2n valid + 16 * kind + (usage.map (2 ^ ·)).sum + 2 ^ 24 * clen)

/-- The live device with entropy: pairs in service, channels seeded, DRBG instances live. -/
def serving : State :=
  { live with rng := {
      running := true, ready := true, armed := true, pairs := List.replicate 8 { inService := true }
      chans := List.replicate 64 { seeded := true, queue := List.replicate 2 (zeros 16) }
      drbgs := List.replicate 4 { live := true } } }

/-- A host operation of ML-KEM key generation, from tracker slot 5. -/
def anOp : CombOp := { id := 5, src := .host 5, entryOp := 0x100, opcode := 0x100, kind := 0, classC := true }

/-- A verification, of class P. -/
def aVerify : CombOp := { anOp with entryOp := 0x118, opcode := 0x118, classC := false, iterating := true }

/-- The serving device with operations and its entry. -/
def withOps (l : List CombOp) (t : Track := { ready 0x100 (cap := 800) with phase := .held }) : State :=
  { serving with comb := { serving.comb with ops := l }, tracker := [(5, some t)] }

/-- Slot 16 prepared for a KIND. -/
def prepared (kind : Nat) : State := withKey { attr := attrOf false kind [] }
/-- Slot 16 holding a key of a KIND with one usage bit. -/
def keyed (kind use : Nat) (content : Bytes := []) : State := withKey { attr := attrOf true kind [use], content := content }

/-! ### Well-formed commands: one ill-formed term for each check -/

theorem test_wf_registerKey : wellFormed (.registerWrite 0x9000000 0) = false ∧ wellFormed (.registerWrite 0x7FFFFFC 0) = true := by decide
theorem test_wf_configKey : wellFormed (.registerWrite 0x10100000 0) = false ∧ wellFormed (.registerWrite 0x100FF010 0) = true := by decide
theorem test_wf_func : wellFormed (.flrComplete 256) = false ∧ wellFormed (.flrComplete 255) = true := by decide
theorem test_wf_port : wellFormed (.linkUp 10 0 false) = false ∧ wellFormed (.linkUp 0 4 false) = false ∧ wellFormed (.linkUp 7 3 false) = true := by decide
theorem test_wf_sa : wellFormed (.ratchetDeriveDone 16777216) = false ∧ wellFormed (.ratchetDeriveDone 16777215) = true := by decide
theorem test_wf_pair : wellFormed (.tcEntryLapse 16 true) = false ∧ wellFormed (.pairSample 8 true) = false := by decide
theorem test_wf_slot : wellFormed (.nop 8192) = false ∧ wellFormed (.nop 8191) = true := by decide
theorem test_wf_engine : wellFormed (.watchdog 96) = false ∧ wellFormed (.watchdog 95) = true := by decide
theorem test_wf_keySlot : wellFormed (.deviceSlotRederive 4096) = false := by decide
theorem test_wf_channel : wellFormed (.channelReseed 64) = false := by decide
theorem test_wf_drbg : wellFormed (.drbgStop 4) = false := by decide
theorem test_wf_cvu : wellFormed (.cvuStart 8 0) = false := by decide
theorem test_wf_queue : wellFormed (.headIdxWrite 256 0) = false ∧ wellFormed (.headIdxWrite 0 256) = false ∧ wellFormed (.headIdxWrite 255 255) = true := by decide
theorem test_wf_group : wellFormed (.applyDone 8) = false := by decide
theorem test_wf_pipe : wellFormed (.pipelineSelftest 16 none) = false := by decide
theorem test_wf_lane : wellFormed (.serdesAdaptStep 36 none 0) = false := by decide
theorem test_wf_vector : wellFormed (.msixPendingSend 0 2048) = false ∧ wellFormed (.msixPendingSend 0 2047) = true := by decide
theorem test_wf_stack : wellFormed (.hotRefreshChange 4 0) = false := by decide

/-! ### Queues (chapter 10) -/

/-- Queue 1 with two entries taken, its scan at the target. -/
def busyQueue : Queue := { openQueue with fetch := 2, target := 2 }

theorem witness_doorbell_dropped (h : Obligations.DoorbellEffect) : ∃ u, exec (.doorbell 0 1 ⟨1, []⟩) (live) = .next u :=
  ⟨_, (h (live) 0 1 ⟨1, []⟩ (by decide +kernel) (by decide +kernel)).1 (by decide +kernel)⟩
theorem witness_doorbell_waits (h : Obligations.DoorbellEffect) : ∃ u, exec (.doorbell 0 1 ⟨1, []⟩) ({ withQueue openQueue with funcs := [] }) = .next u :=
  ⟨_, (h ({ withQueue openQueue with funcs := [] }) 0 1 ⟨1, []⟩ (by decide +kernel) (by decide +kernel)).2.1 (by decide +kernel) (by decide +kernel)⟩
theorem witness_doorbell_merged (h : Obligations.DoorbellEffect) : ∃ u, exec (.doorbell 0 1 ⟨1, []⟩) (withQueue { openQueue with waiting := true }) = .next u :=
  ⟨_, (h (withQueue { openQueue with waiting := true }) 0 1 ⟨1, []⟩ (by decide +kernel) (by decide +kernel)).2.1 (by decide +kernel) (by decide +kernel)⟩
theorem witness_doorbell_overrun (h : Obligations.DoorbellEffect) : ∃ u, exec (.doorbell 0 1 ⟨65, []⟩) (withQueue openQueue) = .next u := by
  refine ⟨_, (h (withQueue openQueue) 0 1 ⟨65, []⟩ ?_ ?_).2.2.1 ?_ ?_ ?_ ?_ ?_⟩
  all_goals decide +kernel
theorem witness_doorbell_scans (h : Obligations.DoorbellEffect) : ∃ u, exec (.doorbell 0 1 ⟨64, []⟩) (withQueue openQueue) = .next u := by
  refine ⟨_, (h (withQueue openQueue) 0 1 ⟨64, []⟩ ?_ ?_).2.2.2.1 ?_ ?_ ?_ ?_ ?_ ?_⟩
  all_goals decide +kernel
theorem witness_doorbell_behind (h : Obligations.DoorbellEffect) : ∃ u, exec (.doorbell 0 1 ⟨1, []⟩) (withQueue busyQueue) = .next u := by
  refine ⟨_, (h (withQueue busyQueue) 0 1 ⟨1, []⟩ ?_ ?_).2.2.2.2 ?_ ?_ ?_ ?_ ?_ ?_⟩
  all_goals decide +kernel
/-- Queue 1 with one entry to take. -/
def dueQueue : Queue := { openQueue with target := 1 }
/-- A ring slot with PHASE 1, and one with PHASE 0. -/
def phase1 : Bytes := putAt (zeros 64) 3 [128]

theorem witness_scan_atTarget (h : Obligations.ScanTurn) : ∃ u, scan 0 1 [phase1] (withQueue openQueue) = u :=
  ⟨_, (h (withQueue openQueue) 0 1 phase1 [] (by constructor <;> decide +kernel) (by decide +kernel)).1 (by decide +kernel)⟩
/-- VF 1 with a due queue and its one tracker slot held. -/
def fullVf : State := { live with
  regs := [(Reg.qenTrackQuota, 1)], queues := [(257, dueQueue)], tracker := [(9, some { ready 0 with func := 1 })] }

theorem witness_scan_waits (h : Obligations.ScanTurn) : ∃ u, scan 1 1 [phase1] fullVf = u :=
  ⟨_, (h fullVf 1 1 phase1 [] (by constructor <;> decide +kernel) (by decide +kernel)).2.1 (by decide +kernel) (by decide +kernel)⟩
theorem witness_scan_retries (h : Obligations.ScanTurn) : ∃ u, scan 0 1 [(zeros 64)] (withQueue dueQueue) = u :=
  ⟨_, (h (withQueue dueQueue) 0 1 (zeros 64) [] (by constructor <;> decide +kernel) (by decide +kernel)).2.2.1 (by decide +kernel) (by decide +kernel) (by decide +kernel)⟩
theorem witness_scan_takes (h : Obligations.ScanTurn) : ∃ u, scan 0 1 [phase1] (withQueue dueQueue) = u :=
  ⟨_, (h (withQueue dueQueue) 0 1 phase1 [] (by constructor <;> decide +kernel) (by decide +kernel)).2.2.2.1 (by decide +kernel) (by decide +kernel) (by decide +kernel)⟩
/-- Queues 1 and 2 of PF0 that wait to be served, queue 1 served last; and queues 1 of PF0 and of VF 1, PF0 served last. -/
def twoDue : State := { live with
  queues := [(1, { dueQueue with waiting := true }), (2, { dueQueue with waiting := true })],
  funcs := [(0, { funcReset 0 with bme := true, lastQueue := 1 })] }
def fourDue : State := { live with
  queues := [(1, { dueQueue with waiting := true }), (257, { dueQueue with waiting := true })],
  vfEnable := true, numVfs := 1, funcs := [(0, { funcReset 0 with bme := true }), (1, { funcReset 1 with bme := true })] }

theorem witness_served_waits (h : Obligations.QueuesServedInTurn) : ∃ u, twoDue.serve 0 1 [phase1] = u :=
  ⟨_, (h twoDue 0 1 [phase1]).1 (by decide +kernel) (by decide +kernel)⟩
theorem witness_served_turn (h : Obligations.QueuesServedInTurn) : ∃ u, twoDue.serve 0 2 [phase1] = u :=
  ⟨_, (h twoDue 0 2 [phase1]).2.1 (by decide +kernel) (by decide +kernel)⟩
theorem witness_turn (h : Obligations.QueuesServedInTurn) : twoDue.wantsVisit 0 2 = true :=
  ((h twoDue 0 0 []).2.2 0 2 (by decide +kernel)).1
theorem witness_turn_function (h : Obligations.QueuesServedInTurn) : State.lastFunc fourDue < 1 :=
  ((h fourDue 0 0 []).2.2 1 1 (by decide +kernel)).2.1 ⟨1, 1, (by decide +kernel), (by decide +kernel)⟩
theorem witness_turn_queue (h : Obligations.QueuesServedInTurn) : (twoDue.func 0).lastQueue < 2 :=
  ((h twoDue 0 0 []).2.2 0 2 (by decide +kernel)).2.2 ⟨2, (by decide +kernel), (by decide +kernel), (by decide +kernel)⟩
theorem witness_requests (h : Obligations.CompletionOrder) : (live.requestsOf ⟨0, 0x1FF0, zeros 32⟩).flatMap (·.bytes) = zeros 32 :=
  (h.1 live ⟨0, 0x1FF0, zeros 32⟩ (by decide +kernel)).1
theorem witness_completion (h : Obligations.CompletionOrder) : ∃ u, (holding live (ready 0x500 (flags := 3))).completeLen 5 0 0 0 [] = u ∧ u.track 5 = none :=
  ⟨_, rfl, ((h.2 (holding live (ready 0x500 (flags := 3))) 5 0 0 0 [] (ready 0x500 (flags := 3)) (by constructor <;> decide +kernel) (by decide +kernel) (by decide +kernel) (by decide +kernel) (by decide +kernel) (by decide +kernel)).2.2.2.1 (by decide +kernel) (by decide +kernel) (by decide +kernel)).1⟩
theorem witness_completion_held (h : Obligations.CompletionOrder) : ((holding { live with funcs := [] } (ready 0x500)).completeLen 5 0 0 0 []).out = [] :=
  ((h.2 (holding { live with funcs := [] } (ready 0x500)) 5 0 0 0 [] (ready 0x500) (by constructor <;> decide +kernel) (by decide +kernel) (by decide +kernel) (by decide +kernel) (by decide +kernel) (by decide +kernel)).2.2.2.2 (by decide +kernel)).1
theorem witness_nop (h : Obligations.AdminCommandsComplete) : ∃ u, exec (.nop 5) (holding live (ready 0)) = .next u := by
  apply Exists.intro; apply (h (holding live (ready 0)) 5 (ready 0)).1
  all_goals decide +kernel
theorem witness_queueCreate (h : Obligations.AdminCommandsComplete) : ∃ u, exec (.queueCreate 5) (holding live (ready 1 (par [(40, [1, 0, 6, 0, 0xFF, 7])]) (len := 16) (input := toLE 8 0x1000 ++ toLE 8 0x40))) = .next u := by
  apply Exists.intro; apply (h (holding live (ready 1 (par [(40, [1, 0, 6, 0, 0xFF, 7])]) (len := 16) (input := toLE 8 0x1000 ++ toLE 8 0x40))) 5 (ready 1 (par [(40, [1, 0, 6, 0, 0xFF, 7])]) (len := 16) (input := toLE 8 0x1000 ++ toLE 8 0x40))).2.1
  all_goals decide +kernel
theorem witness_queueCreate_last (h : Obligations.AdminCommandsComplete) : ∃ u, exec (.queueCreate 5) (holding live (ready 1 (par [(40, [0xFF, 0, 16, 0, 0, 0])]) (len := 16) (input := zeros 16))) = .next u := by
  apply Exists.intro; apply (h (holding live (ready 1 (par [(40, [0xFF, 0, 16, 0, 0, 0])]) (len := 16) (input := zeros 16))) 5 (ready 1 (par [(40, [0xFF, 0, 16, 0, 0, 0])]) (len := 16) (input := zeros 16))).2.1
  all_goals decide +kernel
theorem witness_queueDisable (h : Obligations.AdminCommandsComplete) : ∃ u, exec (.queueDisable 5 ⟨0, []⟩) (holding (withQueue openQueue) (ready 2 (par [(40, [1, 0, 1])]))) = .next u := by
  refine ⟨_, (h (holding (withQueue openQueue) (ready 2 (par [(40, [1, 0, 1])]))) 5 (ready 2 (par [(40, [1, 0, 1])]))).2.2.1 ⟨0, []⟩ ?_ ?_ ?_ ?_ ?_ ?_ ?_⟩
  all_goals decide +kernel
theorem witness_queueEnable (h : Obligations.AdminCommandsComplete) : ∃ u, exec (.queueEnable 5) (holding (withQueue { openQueue with state := .idle }) (ready 3 (par [(40, [1, 0])]))) = .next u := by
  apply Exists.intro; apply (h (holding (withQueue { openQueue with state := .idle }) (ready 3 (par [(40, [1, 0])]))) 5 (ready 3 (par [(40, [1, 0])]))).2.2.2.1
  all_goals decide +kernel
theorem witness_queueDestroy (h : Obligations.AdminCommandsComplete) : ∃ u, exec (.queueDestroy 5) (holding (withQueue { openQueue with state := .idle }) (ready 4 (par [(40, [1, 0])]))) = .next u := by
  apply Exists.intro; apply (h (holding (withQueue { openQueue with state := .idle }) (ready 4 (par [(40, [1, 0])]))) 5 (ready 4 (par [(40, [1, 0])]))).2.2.2.2.1
  all_goals decide +kernel
theorem witness_entryAbort (h : Obligations.AdminCommandsComplete) : ∃ u, exec (.entryAbort 5) (holding (withQueue openQueue) (ready 5 (par [(40, [1, 0]), (48, [64])]))) = .next u := by
  apply Exists.intro; apply (h (holding (withQueue openQueue) (ready 5 (par [(40, [1, 0]), (48, [64])]))) 5 (ready 5 (par [(40, [1, 0]), (48, [64])]))).2.2.2.2.2.1
  all_goals decide +kernel
theorem witness_queueQuery (h : Obligations.AdminCommandsComplete) : ∃ u, exec (.queueQuery 5) (holding live (ready 6 (par [(40, [0xFF])]) (cap := 32))) = .next u := by
  apply Exists.intro; apply (h (holding live (ready 6 (par [(40, [0xFF])]) (cap := 32))) 5 (ready 6 (par [(40, [0xFF])]) (cap := 32))).2.2.2.2.2.2
  all_goals decide +kernel
theorem witness_phaseRetry_current (h : Obligations.QueueEventsComplete) : ∃ u, exec (.phaseRetry 0 1 ⟨0, [phase1]⟩) (withQueue { dueQueue with retries := some 14 }) = .next u :=
  ⟨_, (h (withQueue { dueQueue with retries := some 14 }) 0 1 ⟨0, [phase1]⟩).1 phase1 [] (by decide +kernel) (by decide +kernel) (by decide +kernel) (by decide +kernel) (by decide +kernel)⟩
theorem witness_phaseRetry_miss (h : Obligations.QueueEventsComplete) : ∃ u, exec (.phaseRetry 0 1 ⟨0, [zeros 64]⟩) (withQueue { dueQueue with retries := some 14 }) = .next u :=
  ⟨_, (h (withQueue { dueQueue with retries := some 14 }) 0 1 ⟨0, [zeros 64]⟩).2.1 (zeros 64) [] 14 (by decide +kernel) (by decide +kernel) (by decide +kernel) (by decide +kernel) (by decide +kernel)⟩
theorem witness_phaseRetry_stall (h : Obligations.QueueEventsComplete) : ∃ u, exec (.phaseRetry 0 1 ⟨0, [zeros 64]⟩) (withQueue { dueQueue with retries := some 15 }) = .next u :=
  ⟨_, (h (withQueue { dueQueue with retries := some 15 }) 0 1 ⟨0, [zeros 64]⟩).2.1 (zeros 64) [] 15 (by decide +kernel) (by decide +kernel) (by decide +kernel) (by decide +kernel) (by decide +kernel)⟩
theorem witness_scanResume (h : Obligations.QueueEventsComplete) : ∃ u, exec (.scanResume 0 1 ⟨0, [phase1]⟩) (withQueue { dueQueue with waiting := true }) = .next u :=
  ⟨_, (h (withQueue { dueQueue with waiting := true }) 0 1 ⟨0, [phase1]⟩).2.2.1 (by decide +kernel) (by decide +kernel) (by decide +kernel) (by decide +kernel)⟩
theorem witness_scanResume_rung (h : Obligations.QueueEventsComplete) : ∃ u, exec (.scanResume 0 1 ⟨1, [phase1]⟩) (withQueue { openQueue with rung := true }) = .next u := by
  refine ⟨_, (h (withQueue { openQueue with rung := true }) 0 1 ⟨1, [phase1]⟩).2.2.2.1 ?_ ?_ ?_ ?_ ?_ ?_ ?_ ?_⟩
  all_goals decide +kernel
theorem witness_scanResume_drain (h : Obligations.QueueEventsComplete) : ∃ u, exec (.scanResume 0 1 ⟨1, [phase1]⟩) (withQueue { dueQueue with state := .draining }) = .next u :=
  ⟨_, (h (withQueue { dueQueue with state := .draining }) 0 1 ⟨1, [phase1]⟩).2.2.2.2.1 (by decide +kernel) (by decide +kernel) (by decide +kernel)⟩
theorem witness_dmaReadComplete (h : Obligations.QueueEventsComplete) : ∃ u, exec (.dmaReadComplete 5 ⟨[], []⟩) (holding live { ready 0x500 with phase := .gather }) = .next u :=
  ⟨_, (h (holding live { ready 0x500 with phase := .gather }) 0 1 ⟨0, []⟩).2.2.2.2.2.1 5 { ready 0x500 with phase := .gather } ⟨[], []⟩ (by decide +kernel) (by decide +kernel) (by decide +kernel)⟩
theorem witness_flushingReadReturn (h : Obligations.QueueEventsComplete) : ∃ u, exec (.flushingReadReturn 0 1 0) (withQueue { openQueue with flushing := [0] }) = .next u :=
  ⟨_, (h (withQueue { openQueue with flushing := [0] }) 0 1 ⟨0, []⟩).2.2.2.2.2.2.1 0 (by decide +kernel)⟩
theorem witness_headIdxWrite (h : Obligations.QueueEventsComplete) : ∃ u, exec (.headIdxWrite 0 1) (withQueue { openQueue with head := 1, irq := [0] }) = .next u :=
  ⟨_, (h (withQueue { openQueue with head := 1, irq := [0] }) 0 1 ⟨0, []⟩).2.2.2.2.2.2.2.1 (by decide +kernel)⟩
theorem witness_admqEnable_again (h : Obligations.QueueEventsComplete) : ∃ u, exec (.admqEnable 0 6) ({ live with queues := [(0, openQueue)] }) = .next u :=
  ⟨_, (h ({ live with queues := [(0, openQueue)] }) 0 1 ⟨0, []⟩).2.2.2.2.2.2.2.2.1 6 (by decide +kernel) (by decide +kernel) (.inl (by decide +kernel))⟩
theorem witness_admqEnable (h : Obligations.QueueEventsComplete) : ∃ u, exec (.admqEnable 0 6) (live) = .next u :=
  ⟨_, (h (live) 0 1 ⟨0, []⟩).2.2.2.2.2.2.2.2.2.1 6 (by decide +kernel) (by decide +kernel) (by decide +kernel)⟩
theorem witness_admqDisable (h : Obligations.QueueEventsComplete) : ∃ u, exec (.admqDisable 0 0x200 ⟨0, []⟩) ({ live with queues := [(0, openQueue)] }) = .next u :=
  ⟨_, (h ({ live with queues := [(0, openQueue)] }) 0 1 ⟨0, []⟩).2.2.2.2.2.2.2.2.2.2 0x200 (by decide +kernel) (by decide +kernel) (by decide +kernel)⟩
theorem witness_overrun (h : Obligations.ProducerOverrun) : ∃ u, exec (.doorbell 0 1 ⟨65, []⟩) (withQueue openQueue) = .next u := by
  refine Exists.imp (fun u hu => hu.1) ((h (withQueue openQueue) 0 1 ⟨65, []⟩ (by constructor <;> decide +kernel) ?_ ?_ ?_ ?_ ?_ ?_ ?_ ?_).1 ?_)
  all_goals decide +kernel
theorem witness_overrun_behind (h : Obligations.ProducerOverrun) : ∃ u, exec (.doorbell 0 1 ⟨1, []⟩) (withQueue busyQueue) = .next u := by
  refine Exists.imp (fun u hu => hu.1) ((h (withQueue busyQueue) 0 1 ⟨1, []⟩ (by constructor <;> decide +kernel) ?_ ?_ ?_ ?_ ?_ ?_ ?_ ?_).2 ?_ ?_)
  all_goals decide +kernel
theorem witness_queueCreate_enables (h : Obligations.QueueCreateEnables) : ∃ u, exec (.queueCreate 5) (holding live (ready 1 (par [(40, [1, 0, 6, 0, 0xFF, 7])]) (len := 16) (input := toLE 8 0x1000 ++ toLE 8 0x40))) = .next u :=
  let ⟨u, hu, _⟩ := h (holding live (ready 1 (par [(40, [1, 0, 6, 0, 0xFF, 7])]) (len := 16) (input := toLE 8 0x1000 ++ toLE 8 0x40))) 5 (ready 1 (par [(40, [1, 0, 6, 0, 0xFF, 7])]) (len := 16) (input := toLE 8 0x1000 ++ toLE 8 0x40)) (by constructor <;> decide +kernel) (by decide +kernel) (by decide +kernel) (by decide +kernel) (by decide +kernel) (by decide +kernel)
  ⟨u, hu⟩
/-- The state that an outcome answers. -/
def nextOf : Host.Outcome State Fault Refusal → State
  | .next u => u
  | _ => State.reset

theorem witness_created_doorbell (h : Obligations.QueueCreateEnables) : ∃ u, exec (.queueCreate 5) (holding live (ready 1 (par [(40, [1, 0, 6, 0, 0xFF, 7])]) (len := 16) (input := toLE 8 0x1000 ++ toLE 8 0x40))) = .next u ∧ ∃ w, exec (.doorbell 0 1 ⟨1, [phase1]⟩) u = .next w :=
  by
  obtain ⟨u, hu, _, _, _, _, _, hc⟩ := h (holding live (ready 1 (par [(40, [1, 0, 6, 0, 0xFF, 7])]) (len := 16) (input := toLE 8 0x1000 ++ toLE 8 0x40))) 5 (ready 1 (par [(40, [1, 0, 6, 0, 0xFF, 7])]) (len := 16) (input := toLE 8 0x1000 ++ toLE 8 0x40)) (by constructor <;> decide +kernel) (by decide +kernel) (by decide +kernel) (by decide +kernel) (by decide +kernel) (by decide +kernel)
  have e : u = nextOf (exec (.queueCreate 5) (holding live (ready 1 (par [(40, [1, 0, 6, 0, 0xFF, 7])]) (len := 16) (input := toLE 8 0x1000 ++ toLE 8 0x40)))) := by rw [hu]; rfl
  subst e
  exact ⟨_, hu, _, hc phase1 (by decide +kernel) (by decide +kernel) (by decide +kernel) (by decide +kernel) (by decide +kernel) (by decide +kernel)⟩
theorem witness_retire (h : Obligations.HeadStopsAtLowestNotRetired) : (openQueue.retire 0).head ∉ (openQueue.retire 0).retired :=
  (h openQueue 0).1
theorem witness_step (h : Obligations.StepRunsFrontCommand) : step { live with pending := [.lockTimeout] } = exec .lockTimeout { live with pending := [] } :=
  h { live with pending := [.lockTimeout] } .lockTimeout [] rfl

/-! ### Comb entries (chapters 5 and 6) -/

theorem witness_mlkemKeygen (h : Obligations.KeygenCommandsAdmit) : ∃ u, exec (.mlkemKeygen 5) (holding (prepared 0x12) (ready 0x102 (key := 16) (cap := 1568))) = .next u := by
  apply Exists.intro; apply h.1 _ (.head _) (holding (prepared 0x12) (ready 0x102 (key := 16) (cap := 1568))) 5 (ready 0x102 (key := 16) (cap := 1568))
  all_goals decide +kernel
theorem witness_mldsaKeygen (h : Obligations.KeygenCommandsAdmit) : ∃ u, exec (.mldsaKeygen 5) (holding (prepared 0x16) (ready 0x112 (key := 16) (cap := 2592))) = .next u := by
  apply Exists.intro; apply h.1 _ (.tail _ (.head _)) (holding (prepared 0x16) (ready 0x112 (key := 16) (cap := 2592))) 5 (ready 0x112 (key := 16) (cap := 2592))
  all_goals decide +kernel
theorem witness_slhdsaKeygen (h : Obligations.KeygenCommandsAdmit) : ∃ u, exec (.slhdsaKeygen 5) (holding (prepared 0x18) (ready 0x200 (key := 16) (cap := 32))) = .next u := by
  apply Exists.intro; apply h.1 _ (.tail _ (.tail _ (.head _))) (holding (prepared 0x18) (ready 0x200 (key := 16) (cap := 32))) 5 (ready 0x200 (key := 16) (cap := 32))
  all_goals decide +kernel
theorem witness_hqcKeygen (h : Obligations.KeygenCommandsAdmit) : ∃ u, exec (.hqcKeygen 5) (holding (prepared 0x24) (ready 0x240 (key := 16) (cap := 2249))) = .next u := by
  apply Exists.intro; apply h.1 _ (.tail _ (.tail _ (.tail _ (.head _)))) (holding (prepared 0x24) (ready 0x240 (key := 16) (cap := 2249))) 5 (ready 0x240 (key := 16) (cap := 2249))
  all_goals decide +kernel
theorem witness_ecKeygen (h : Obligations.KeygenCommandsAdmit) : ∃ u, exec (.ecKeygen 5) (holding (prepared 0x32) (ready 0x302 (key := 16) (cap := 132))) = .next u := by
  apply Exists.intro; apply h.1 _ (.tail _ (.tail _ (.tail _ (.tail _ (.head _))))) (holding (prepared 0x32) (ready 0x302 (key := 16) (cap := 132))) 5 (ready 0x302 (key := 16) (cap := 132))
  all_goals decide +kernel
theorem witness_edKeygen (h : Obligations.KeygenCommandsAdmit) : ∃ u, exec (.edKeygen 5) (holding (prepared 0x35) (ready 0x311 (key := 16) (cap := 57))) = .next u := by
  apply Exists.intro; apply h.1 _ (.tail _ (.tail _ (.tail _ (.tail _ (.tail _ (.head _)))))) (holding (prepared 0x35) (ready 0x311 (key := 16) (cap := 57))) 5 (ready 0x311 (key := 16) (cap := 57))
  all_goals decide +kernel
theorem witness_xdhKeygen (h : Obligations.KeygenCommandsAdmit) : ∃ u, exec (.xdhKeygen 5) (holding (prepared 0x36) (ready 0x318 (key := 16) (cap := 32))) = .next u := by
  apply Exists.intro; apply h.1 _ (.tail _ (.tail _ (.tail _ (.tail _ (.tail _ (.tail _ (.head _))))))) (holding (prepared 0x36) (ready 0x318 (key := 16) (cap := 32))) 5 (ready 0x318 (key := 16) (cap := 32))
  all_goals decide +kernel
theorem witness_lmsKeygen_first (h : Obligations.KeygenCommandsAdmit) : ∃ u, exec (.lmsKeygen 5) (holding (prepared 0x20) (ready 0x230 (par [(40, [10, 0, 0, 0, 8])]) (key := 16))) = .next u := by
  apply Exists.intro; apply (h.2 (holding (prepared 0x20) (ready 0x230 (par [(40, [10, 0, 0, 0, 8])]) (key := 16))) 5 (ready 0x230 (par [(40, [10, 0, 0, 0, 8])]) (key := 16)))
  all_goals decide +kernel
theorem witness_lmsKeygen_last (h : Obligations.KeygenCommandsAdmit) : ∃ u, exec (.lmsKeygen 5) (holding (prepared 0x20) (ready 0x230 (par [(40, [13, 0, 0, 0, 5])]) (key := 16))) = .next u := by
  apply Exists.intro; apply (h.2 (holding (prepared 0x20) (ready 0x230 (par [(40, [13, 0, 0, 0, 5])]) (key := 16))) 5 (ready 0x230 (par [(40, [13, 0, 0, 0, 5])]) (key := 16)))
  all_goals decide +kernel

theorem witness_mlkemEncaps (h : Obligations.SecretCommandsAdmit) : ∃ u, exec (.mlkemEncaps 5) (holding (live) (ready 0x104 (len := 800) (cap := 800))) = .next u := by
  apply Exists.intro; apply h.1 _ (.head _) (holding (live) (ready 0x104 (len := 800) (cap := 800))) 5 (ready 0x104 (len := 800) (cap := 800))
  all_goals decide +kernel
theorem witness_hqcEncaps_slot (h : Obligations.SecretCommandsAdmit) : ∃ u, exec (.hqcEncaps 5) (holding (prepared 3) (ready 0x246 (par [(40, [1]), (44, [16])]) (len := 7245) (cap := 14421))) = .next u := by
  apply Exists.intro; apply h.1 _ (.tail _ (.head _)) (holding (prepared 3) (ready 0x246 (par [(40, [1]), (44, [16])]) (len := 7245) (cap := 14421))) 5 (ready 0x246 (par [(40, [1]), (44, [16])]) (len := 7245) (cap := 14421))
  all_goals decide +kernel
theorem witness_mlkemDecaps (h : Obligations.SecretCommandsAdmit) : ∃ u, exec (.mlkemDecaps 5) (holding (keyed 0x10 13) (ready 0x108 (key := 16) (len := 768) (cap := 32))) = .next u := by
  apply Exists.intro; apply h.2.1 _ (.head _) (holding (keyed 0x10 13) (ready 0x108 (key := 16) (len := 768) (cap := 32))) 5 (ready 0x108 (key := 16) (len := 768) (cap := 32))
  all_goals decide +kernel
theorem witness_hqcDecaps (h : Obligations.SecretCommandsAdmit) : ∃ u, exec (.hqcDecaps 5) (holding (keyed 0x26 13) (ready 0x24a (key := 16) (len := 14421) (cap := 64))) = .next u := by
  apply Exists.intro; apply h.2.1 _ (.tail _ (.head _)) (holding (keyed 0x26 13) (ready 0x24a (key := 16) (len := 14421) (cap := 64))) 5 (ready 0x24a (key := 16) (len := 14421) (cap := 64))
  all_goals decide +kernel
theorem witness_ecdh (h : Obligations.SecretCommandsAdmit) : ∃ u, exec (.ecdh 5) (holding (keyed 0x32 14) (ready 0x30e (key := 16) (len := 132) (cap := 66))) = .next u := by
  apply Exists.intro; apply h.2.1 _ (.tail _ (.tail _ (.head _))) (holding (keyed 0x32 14) (ready 0x30e (key := 16) (len := 132) (cap := 66))) 5 (ready 0x30e (key := 16) (len := 132) (cap := 66))
  all_goals decide +kernel
theorem witness_xdh (h : Obligations.SecretCommandsAdmit) : ∃ u, exec (.xdh 5) (holding (keyed 0x36 14) (ready 0x31a (key := 16) (len := 32) (cap := 32))) = .next u := by
  apply Exists.intro; apply h.2.1 _ (.tail _ (.tail _ (.tail _ (.head _)))) (holding (keyed 0x36 14) (ready 0x31a (key := 16) (len := 32) (cap := 32))) 5 (ready 0x31a (key := 16) (len := 32) (cap := 32))
  all_goals decide +kernel
theorem witness_mlkemDecaps_slot (h : Obligations.SecretCommandsAdmit) : ∃ u, exec (.mlkemDecaps 5) (holding ({ live with kst := { slots := [(16, { attr := attrOf true 0x10 [13] }), (17, { attr := attrOf false 3 [] })] } }) (ready 0x108 (par [(40, [1]), (44, [17])]) (key := 16) (len := 768))) = .next u := by
  apply Exists.intro; apply h.2.1 _ (.head _) (holding ({ live with kst := { slots := [(16, { attr := attrOf true 0x10 [13] }), (17, { attr := attrOf false 3 [] })] } }) (ready 0x108 (par [(40, [1]), (44, [17])]) (key := 16) (len := 768))) 5 (ready 0x108 (par [(40, [1]), (44, [17])]) (key := 16) (len := 768))
  all_goals decide +kernel
theorem witness_rsaOaepDecrypt (h : Obligations.SecretCommandsAdmit) : ∃ u, exec (.rsaOaepDecrypt 5) (holding (keyed 0x38 13 [0, 8]) (ready 0x328 (par [(40, [2, 0, 1])]) (key := 16) (len := 256) (cap := 190))) = .next u := by
  apply Exists.intro; apply (h.2.2 (holding (keyed 0x38 13 [0, 8]) (ready 0x328 (par [(40, [2, 0, 1])]) (key := 16) (len := 256) (cap := 190))) 5 (ready 0x328 (par [(40, [2, 0, 1])]) (key := 16) (len := 256) (cap := 190)))
  all_goals decide +kernel
theorem witness_mldsaSign (h : Obligations.SigningCommandsAdmit) : ∃ u, exec (.mldsaSign 5) (holding (keyed 0x14 12) (ready 0x114 (par [(41, [255])]) (key := 16) (len := 255) (cap := 2420))) = .next u := by
  apply Exists.intro; apply (h (holding (keyed 0x14 12) (ready 0x114 (par [(41, [255])]) (key := 16) (len := 255) (cap := 2420))) 5 (ready 0x114 (par [(41, [255])]) (key := 16) (len := 255) (cap := 2420))).1
  all_goals decide +kernel
theorem witness_mldsaSign_prehash (h : Obligations.SigningCommandsAdmit) : ∃ u, exec (.mldsaSign 5) (holding (keyed 0x16 12) (ready 0x116 (par [(40, [3, 0, 8])]) (key := 16) (len := 64) (cap := 4627))) = .next u := by
  apply Exists.intro; apply (h (holding (keyed 0x16 12) (ready 0x116 (par [(40, [3, 0, 8])]) (key := 16) (len := 64) (cap := 4627))) 5 (ready 0x116 (par [(40, [3, 0, 8])]) (key := 16) (len := 64) (cap := 4627))).1
  all_goals decide +kernel
theorem witness_slhdsaSign (h : Obligations.SigningCommandsAdmit) : ∃ u, exec (.slhdsaSign 5) (holding (keyed 0x1F 12) (ready 0x217 (key := 16) (len := 16384) (cap := 35664))) = .next u := by
  apply Exists.intro; apply (h (holding (keyed 0x1F 12) (ready 0x217 (key := 16) (len := 16384) (cap := 35664))) 5 (ready 0x217 (key := 16) (len := 16384) (cap := 35664))).2.1
  all_goals decide +kernel
theorem witness_ecdsaSign_first (h : Obligations.SigningCommandsAdmit) : ∃ u, exec (.ecdsaSign 5) (holding (keyed 0x30 12) (ready 0x304 (key := 16) (len := 32) (cap := 64))) = .next u := by
  apply Exists.intro; apply (h (holding (keyed 0x30 12) (ready 0x304 (key := 16) (len := 32) (cap := 64))) 5 (ready 0x304 (key := 16) (len := 32) (cap := 64))).2.2.1
  all_goals decide +kernel
theorem witness_ecdsaSign_last (h : Obligations.SigningCommandsAdmit) : ∃ u, exec (.ecdsaSign 5) (holding (keyed 0x32 12) (ready 0x306 (key := 16) (len := 64) (cap := 132))) = .next u := by
  apply Exists.intro; apply (h (holding (keyed 0x32 12) (ready 0x306 (key := 16) (len := 64) (cap := 132))) 5 (ready 0x306 (key := 16) (len := 64) (cap := 132))).2.2.1
  all_goals decide +kernel
theorem witness_edSign (h : Obligations.SigningCommandsAdmit) : ∃ u, exec (.edSign 5) (holding (keyed 0x35 12) (ready 0x313 (key := 16) (len := 16384) (cap := 114))) = .next u := by
  apply Exists.intro; apply (h (holding (keyed 0x35 12) (ready 0x313 (key := 16) (len := 16384) (cap := 114))) 5 (ready 0x313 (key := 16) (len := 16384) (cap := 114))).2.2.2.1
  all_goals decide +kernel
theorem witness_rsaSign (h : Obligations.SigningCommandsAdmit) : ∃ u, exec (.rsaSign 5) (holding (keyed 0x38 12 [0, 8]) (ready 0x320 (par [(40, [0, 32, 1])]) (key := 16) (len := 32) (cap := 256))) = .next u := by
  apply Exists.intro; apply (h (holding (keyed 0x38 12 [0, 8]) (ready 0x320 (par [(40, [0, 32, 1])]) (key := 16) (len := 32) (cap := 256))) 5 (ready 0x320 (par [(40, [0, 32, 1])]) (key := 16) (len := 32) (cap := 256))).2.2.2.2
  all_goals decide +kernel

theorem witness_mldsaVerify (h : Obligations.PublicCommandsAdmit) : ∃ u, exec (.mldsaVerify 5) (holding live (ready 0x11A (len := 7219))) = .next u := by
  apply Exists.intro; apply (h (holding live (ready 0x11A (len := 7219))) 5 (ready 0x11A (len := 7219))).1
  all_goals decide +kernel
theorem witness_slhdsaVerify (h : Obligations.PublicCommandsAdmit) : ∃ u, exec (.slhdsaVerify 5) (holding live (ready 0x220 (len := 7888))) = .next u := by
  apply Exists.intro; apply (h (holding live (ready 0x220 (len := 7888))) 5 (ready 0x220 (len := 7888))).2.1
  all_goals decide +kernel
theorem witness_lmsVerify (h : Obligations.PublicCommandsAdmit) : ∃ u, exec (.lmsVerify 5) (holding live (ready 0x23C (par [(44, [10])]) (len := 66) (input := [0, 0, 0, 5]))) = .next u := by
  apply Exists.intro; apply (h (holding live (ready 0x23C (par [(44, [10])]) (len := 66) (input := [0, 0, 0, 5]))) 5 (ready 0x23C (par [(44, [10])]) (len := 66) (input := [0, 0, 0, 5]))).2.2.1
  all_goals decide +kernel
theorem witness_hssVerify (h : Obligations.PublicCommandsAdmit) : ∃ u, exec (.hssVerify 5) (holding live (ready 0x23D (par [(44, [10])]) (len := 62) (input := [0, 0, 0, 1, 0, 0, 0, 10]))) = .next u := by
  apply Exists.intro; apply (h (holding live (ready 0x23D (par [(44, [10])]) (len := 62) (input := [0, 0, 0, 1, 0, 0, 0, 10]))) 5 (ready 0x23D (par [(44, [10])]) (len := 62) (input := [0, 0, 0, 1, 0, 0, 0, 10]))).2.2.2.1
  all_goals decide +kernel
theorem witness_ecdsaVerify_first (h : Obligations.PublicCommandsAdmit) : ∃ u, exec (.ecdsaVerify 5) (holding live (ready 0x308 (len := 160))) = .next u := by
  apply Exists.intro; apply (h (holding live (ready 0x308 (len := 160))) 5 (ready 0x308 (len := 160))).2.2.2.2.1
  all_goals decide +kernel
theorem witness_ecdsaVerify_last (h : Obligations.PublicCommandsAdmit) : ∃ u, exec (.ecdsaVerify 5) (holding live (ready 0x30A (len := 328))) = .next u := by
  apply Exists.intro; apply (h (holding live (ready 0x30A (len := 328))) 5 (ready 0x30A (len := 328))).2.2.2.2.1
  all_goals decide +kernel
theorem witness_edVerify (h : Obligations.PublicCommandsAdmit) : ∃ u, exec (.edVerify 5) (holding live (ready 0x315 (len := 171))) = .next u := by
  apply Exists.intro; apply (h (holding live (ready 0x315 (len := 171))) 5 (ready 0x315 (len := 171))).2.2.2.2.2.1
  all_goals decide +kernel
theorem witness_rsaVerify (h : Obligations.PublicCommandsAdmit) : ∃ u, exec (.rsaVerify 5) (holding live (ready 0x324 (par [(40, [1, 0, 6]), (44, [0, 8])]) (len := 580))) = .next u := by
  apply Exists.intro; apply (h (holding live (ready 0x324 (par [(40, [1, 0, 6]), (44, [0, 8])]) (len := 580))) 5 (ready 0x324 (par [(40, [1, 0, 6]), (44, [0, 8])]) (len := 580))).2.2.2.2.2.2.1
  all_goals decide +kernel
theorem witness_rsaOaepEncrypt (h : Obligations.PublicCommandsAdmit) : ∃ u, exec (.rsaOaepEncrypt 5) (holding live (ready 0x32E (par [(40, [2, 0, 1]), (44, [0, 16]), (48, [0, 64])]) (len := 16900) (cap := 512))) = .next u := by
  apply Exists.intro; apply (h (holding live (ready 0x32E (par [(40, [2, 0, 1]), (44, [0, 16]), (48, [0, 64])]) (len := 16900) (cap := 512))) 5 (ready 0x32E (par [(40, [2, 0, 1]), (44, [0, 16]), (48, [0, 64])]) (len := 16900) (cap := 512))).2.2.2.2.2.2.2
  all_goals decide +kernel
/-- An LMS key of height 5 and W4, its tree built. -/
def lmsKey (state : Byte) (tree : Option TreeDesc) : State :=
  { withKey { attr := attrOf true 0x20 [12], content := [0, 0, 0, 10, 0, 0, 0, 7] ++ zeros 48 ++ [state], tree := tree } with
    regs := [(Reg.memPartOwn, 1)] }

theorem witness_lmsSign (h : Obligations.LmsCommandsComplete) : ∃ u, exec (.lmsSign 5) (holding (lmsKey 2 none) (ready 0x23A (key := 16) (cap := 3000))) = .next u := by
  apply Exists.intro; apply (h (holding (lmsKey 2 none) (ready 0x23A (key := 16) (cap := 3000))) 5 (ready 0x23A (key := 16) (cap := 3000))).1
  all_goals decide +kernel
theorem witness_cacheRoom (h : Obligations.LmsCommandsComplete) : (lmsKey 1 none).partStart 3 ≤ 0 :=
  ((h (lmsKey 1 none) 0 (ready 0)).2.2.1 64 0 (by decide +kernel)).1
theorem witness_lmsTreeBuild_first (h : Obligations.LmsCommandsComplete) : ∃ u, exec (.lmsTreeBuild 5) (holding (lmsKey 1 (none)) (ready 0x236 (par [(40, [0])]) (key := 16) (cap := 48))) = .next u := by
  refine ⟨_, ((h (holding (lmsKey 1 (none)) (ready 0x236 (par [(40, [0])]) (key := 16) (cap := 48))) 5 (ready 0x236 (par [(40, [0])]) (key := 16) (cap := 48))).2.1 32 ?_ ?_ ?_ ?_ ?_ ?_ ?_ ?_ ?_ ?_ ?_ ?_).1 0 ?_ ?_ ?_⟩
  all_goals decide +kernel
theorem witness_lmsTreeBuild_more (h : Obligations.LmsCommandsComplete) : ∃ u, exec (.lmsTreeBuild 5) (holding (lmsKey 1 (some { cacheAt := 0, func := 0, recordAddr := 0, floor := 0 })) (ready 0x236 (par [(40, [0])]) (key := 16) (cap := 48))) = .next u := by
  refine ⟨_, ((h (holding (lmsKey 1 (some { cacheAt := 0, func := 0, recordAddr := 0, floor := 0 })) (ready 0x236 (par [(40, [0])]) (key := 16) (cap := 48))) 5 (ready 0x236 (par [(40, [0])]) (key := 16) (cap := 48))).2.1 32 ?_ ?_ ?_ ?_ ?_ ?_ ?_ ?_ ?_ ?_ ?_ ?_).2.1 { cacheAt := 0, func := 0, recordAddr := 0, floor := 0 } ?_ ?_ ?_ ?_⟩
  all_goals decide +kernel
theorem witness_lmsTreeBuild_again (h : Obligations.LmsCommandsComplete) : ∃ u, exec (.lmsTreeBuild 5) (holding (lmsKey 1 (some { cacheAt := 0, func := 0, recordAddr := 0, floor := 0, built := [0] })) (ready 0x236 (par [(40, [0])]) (key := 16) (cap := 48))) = .next u := by
  refine ⟨_, ((h (holding (lmsKey 1 (some { cacheAt := 0, func := 0, recordAddr := 0, floor := 0, built := [0] })) (ready 0x236 (par [(40, [0])]) (key := 16) (cap := 48))) 5 (ready 0x236 (par [(40, [0])]) (key := 16) (cap := 48))).2.1 32 ?_ ?_ ?_ ?_ ?_ ?_ ?_ ?_ ?_ ?_ ?_ ?_).2.2 { cacheAt := 0, func := 0, recordAddr := 0, floor := 0, built := [0] } ?_ ?_ ?_⟩
  all_goals decide +kernel
theorem witness_lmsBlockConfirm_record (h : Obligations.LmsCommandsComplete) : ∃ u, exec (.lmsBlockConfirm 16) (lmsKey 2 (some { cacheAt := 0, func := 0, recordAddr := 0, floor := 0, block := some { first := 0, stop := 32 } })) = .next u :=
  ⟨_, (h (lmsKey 2 (some { cacheAt := 0, func := 0, recordAddr := 0, floor := 0, block := some { first := 0, stop := 32 } })) 0 (ready 0)).2.2.2 16 { cacheAt := 0, func := 0, recordAddr := 0, floor := 0, block := some { first := 0, stop := 32 } } { first := 0, stop := 32 } (by decide +kernel) (by decide +kernel)⟩
theorem witness_lmsBlockConfirm_both (h : Obligations.LmsCommandsComplete) : ∃ u, exec (.lmsBlockConfirm 16) (lmsKey 2 (some { cacheAt := 0, func := 0, recordAddr := 0, floor := 0, block := some { first := 0, stop := 32, mirrorOk := true } })) = .next u :=
  ⟨_, (h (lmsKey 2 (some { cacheAt := 0, func := 0, recordAddr := 0, floor := 0, block := some { first := 0, stop := 32, mirrorOk := true } })) 0 (ready 0)).2.2.2 16 { cacheAt := 0, func := 0, recordAddr := 0, floor := 0, block := some { first := 0, stop := 32, mirrorOk := true } } { first := 0, stop := 32, mirrorOk := true } (by decide +kernel) (by decide +kernel)⟩

/-! ### The Comb (chapter 4) -/

theorem witness_choice_none (h : Obligations.ForagerChoice) : (({ serving with comb := {} } : State).openEngines anOp).filter (fun e => ({ serving with comb := {} } : State).engineIs e fun g => ({ serving with comb := {} } : State).covered g anOp) = [] :=
  (h { serving with comb := {} } anOp).1 (by decide +kernel)
theorem witness_choice_some (h : Obligations.ForagerChoice) : serving.depth 0 ≤ serving.depth 0 :=
  (((h serving anOp).2.1 0 (by decide +kernel)).2 0 (by decide +kernel)).1
theorem witness_ecScalar (h : Obligations.EcScalarInRange) : 1 ≤ ecScalar 2 (zeros 66) :=
  (h 2 (zeros 66) (by decide +kernel)).1
theorem witness_operationPlace (h : Obligations.ForagerEventsComplete) : ∃ u, exec (.operationPlace) (withOps [anOp]) = .next u := by
  apply Exists.intro
  apply (h (withOps [anOp])).1 anOp [] 0 (by decide +kernel) (by decide +kernel) (by decide +kernel) (.inl (by decide +kernel))
  all_goals decide +kernel
theorem witness_operationPlace_draw (h : Obligations.ForagerEventsComplete) : ∃ u, exec (.operationPlace) (withOps [{ anOp with drbg := true }]) = .next u := by
  apply Exists.intro
  apply (h (withOps [{ anOp with drbg := true }])).2.1 { anOp with drbg := true } [] 0 (by decide +kernel) (by decide +kernel) (by decide +kernel) (.inl (by decide +kernel)) (by decide +kernel) (.inr (by decide +kernel))
  all_goals decide +kernel
theorem witness_operationPlace_fault (h : Obligations.ForagerEventsComplete) : ∃ u, exec (.operationPlace) ({ withOps [{ anOp with drbg := true }] with rng := { serving.rng with fault := true } }) = .next u := by
  apply Exists.intro
  apply (h ({ withOps [{ anOp with drbg := true }] with rng := { serving.rng with fault := true } })).2.2.1 { anOp with drbg := true } [] (by decide +kernel) (by decide +kernel) (by decide +kernel) (.inl (by decide +kernel))
  all_goals decide +kernel
/-- An LMS_SIGN that waits for a leaf. -/
def aSign : CombOp := { anOp with entryOp := 0x23A, opcode := 0x23A, kind := 1, keySlot := 16, drbg := true, hasPrefix := true }
/-- A device with an LMS key 16 of height 5 that stands at NEXT_LEAF and BLOCK_END. -/
def leafState (next stop : Byte) : State :=
  { withOps [aSign] with
    kst := { slots := [(16, KeySlot.mk ([0, 0, 0, 10, 0, 0, 0, 7] ++ zeros 43 ++ [next, 0, 0, 0, stop, 2]) (attrOf true 0x20 [12]) []
      (some { recordAddr := 0, floor := 0 }) false)] } }

theorem witness_operationPlace_exhausted (h : Obligations.ForagerEventsComplete) : ∃ u, exec (.operationPlace) (leafState 32 32) = .next u := by
  apply Exists.intro
  apply ((h (leafState 32 32)).2.2.2.1 aSign [] (by decide +kernel) (by decide +kernel) (by decide +kernel) (by decide +kernel) (by decide +kernel)).1 
  all_goals decide +kernel
theorem witness_operationPlace_noBlock (h : Obligations.ForagerEventsComplete) : ∃ u, exec (.operationPlace) (leafState 0 0) = .next u := by
  apply Exists.intro
  apply ((h (leafState 0 0)).2.2.2.1 aSign [] (by decide +kernel) (by decide +kernel) (by decide +kernel) (by decide +kernel) (by decide +kernel)).2.1 
  all_goals decide +kernel
theorem witness_operationPlace_leaf (h : Obligations.ForagerEventsComplete) : ∃ u, exec (.operationPlace) (leafState 31 32) = .next u := by
  apply Exists.intro
  apply ((h (leafState 31 32)).2.2.2.1 aSign [] (by decide +kernel) (by decide +kernel) (by decide +kernel) (by decide +kernel) (by decide +kernel)).2.2 
  all_goals decide +kernel
theorem witness_operationPlace_none (h : Obligations.ForagerEventsComplete) : ∃ u, exec (.operationPlace) (serving) = .next u := by
  apply Exists.intro
  apply (h (serving)).2.2.2.2.1 
  all_goals decide +kernel
theorem witness_priorityAging (h : Obligations.ForagerEventsComplete) : ∃ u, exec (.priorityAging 5) (withOps [{ anOp with prio := 3 }]) = .next u := by
  apply Exists.intro
  apply (h (withOps [{ anOp with prio := 3 }])).2.2.2.2.2.1 5
  all_goals decide +kernel
/-- A priority-3 operation whose engine is taken by a verification, which has restarted. -/
def preemptState (restarts : Nat) : State :=
  { withOps [{ aVerify with id := 7, src := .host 7, stage := .body, engine := some 0, restarts := restarts }, { anOp with prio := 3 }] with
    regs := [(Reg.fgsCtrl, 1), (Reg.fgsAging, 0)] }

theorem witness_preemptor (h : Obligations.ForagerEventsComplete) : ∃ v, (preemptState 0).victim 0 = some v :=
  (((h (preemptState 0)).2.2.2.2.2.2.1 { anOp with prio := 3 } (by decide +kernel)).2.2.2.2.2.imp fun _ hv => hv.1)
theorem witness_preemption_0 (h : Obligations.ForagerEventsComplete) : ∃ u, exec .preemption (preemptState 0) = .next u :=
  let w := ((h (preemptState 0)).2.2.2.2.2.2.2.1 { anOp with prio := 3 }
    { aVerify with id := 7, src := .host 7, stage := .body, engine := some 0, restarts := 0 } 0 (by decide +kernel) (by decide +kernel) (by decide +kernel) (by decide +kernel) (by decide +kernel))
  (Nat.lt_or_ge 16 _).elim (fun g => ⟨_, w.2 g⟩) fun g => ⟨_, w.1 g⟩
theorem witness_preemption_16 (h : Obligations.ForagerEventsComplete) : ∃ u, exec .preemption (preemptState 16) = .next u :=
  let w := ((h (preemptState 16)).2.2.2.2.2.2.2.1 { anOp with prio := 3 }
    { aVerify with id := 7, src := .host 7, stage := .body, engine := some 0, restarts := 16 } 0 (by decide +kernel) (by decide +kernel) (by decide +kernel) (by decide +kernel) (by decide +kernel))
  (Nat.lt_or_ge 16 _).elim (fun g => ⟨_, w.2 g⟩) fun g => ⟨_, w.1 g⟩
theorem witness_gridTick (h : Obligations.ForagerEventsComplete) : ∃ u, exec (.gridTick) (withOps [{ anOp with stage := .tickWait, engine := some 0 }]) = .next u := by
  apply Exists.intro
  apply (h (withOps [{ anOp with stage := .tickWait, engine := some 0 }])).2.2.2.2.2.2.2.2.1 
  all_goals decide +kernel
theorem witness_gridTick_outstanding (h : Obligations.ForagerEventsComplete) : ∃ u, exec (.gridTick) ({ withOps [{ anOp with stage := .body, engine := some 0 }] with comb := { (withOps [{ anOp with stage := .body, engine := some 0 }]).comb with gridPending := true } }) = .next u := by
  apply Exists.intro
  apply (h ({ withOps [{ anOp with stage := .body, engine := some 0 }] with comb := { (withOps [{ anOp with stage := .body, engine := some 0 }]).comb with gridPending := true } })).2.2.2.2.2.2.2.2.2.1 
  all_goals decide +kernel
theorem witness_gridTick_newGrid (h : Obligations.ForagerEventsComplete) : ∃ u, exec (.gridTick) ({ withOps [] with comb := { (withOps []).comb with gridPending := true } }) = .next u := by
  apply Exists.intro
  apply (h ({ withOps [] with comb := { (withOps []).comb with gridPending := true } })).2.2.2.2.2.2.2.2.2.2.1 
  all_goals decide +kernel
theorem witness_releaseGridWrite (h : Obligations.ForagerEventsComplete) : ∃ u, exec (.releaseGridWrite 63) (live) = .next u := by
  apply Exists.intro
  apply (h (live)).2.2.2.2.2.2.2.2.2.2.2.1 63
  all_goals decide +kernel
theorem witness_stPeriodWrite (h : Obligations.ForagerEventsComplete) : ∃ u, exec (.stPeriodWrite 0) (live) = .next u := by
  apply Exists.intro
  apply (h (live)).2.2.2.2.2.2.2.2.2.2.2.2.1 0
  all_goals decide +kernel
/-- The live device with one engine, and what runs or is under test on it. -/
def engineIn (g : Engine) (l : List CombOp := []) (test : Option (Nat × TestReason) := none) (passed : Bool := false) : State :=
  { live with comb := { combOn with ops := l, engines := [g], testing := test, testPassed := passed } }
/-- Engine 0 of kind 0 in a state. -/
def eng0 (x : EngState := .ready) (fenced : Bool := false) : Engine := { kind := 0, firstCell := 0, maskCh := 16, state := x, fenced := fenced }

theorem witness_engineWipeEnd (h : Obligations.ForagerEventsComplete) : ∃ u, exec (.engineWipeEnd 0) (engineIn (eng0 .wiping)) = .next u := by
  apply Exists.intro
  apply (h (engineIn (eng0 .wiping))).2.2.2.2.2.2.2.2.2.2.2.2.2.1 0 (eng0 .wiping)
  all_goals decide +kernel
theorem witness_engineWipeEnd_test (h : Obligations.ForagerEventsComplete) : ∃ u, exec (.engineWipeEnd 0) (engineIn (eng0 .wiping) [] (some (0, .periodic))) = .next u := by
  apply Exists.intro
  apply (h (engineIn (eng0 .wiping) [] (some (0, .periodic)))).2.2.2.2.2.2.2.2.2.2.2.2.2.2.1 0 (eng0 .wiping) .periodic
  all_goals decide +kernel
theorem witness_engineWipeEnd_tested (h : Obligations.ForagerEventsComplete) : ∃ u, exec (.engineWipeEnd 0) (engineIn (eng0 .wiping) [] (some (0, .periodic)) true) = .next u := by
  apply Exists.intro
  apply (h (engineIn (eng0 .wiping) [] (some (0, .periodic)) true)).2.2.2.2.2.2.2.2.2.2.2.2.2.2.2 0 (eng0 .wiping)
  all_goals decide +kernel
theorem witness_classPEnd_prefixFail (h : Obligations.CombOperationsEnd) : ∃ u, exec (.classPEnd 5 .clean) (withOps [{ anOp with opcode := 0x104, stage := .prefixRun, engine := some 0, input := List.replicate 800 255 }]) = .next u := by
  apply Exists.intro
  apply (h (withOps [{ anOp with opcode := 0x104, stage := .prefixRun, engine := some 0, input := List.replicate 800 255 }]) ({ anOp with opcode := 0x104, stage := .prefixRun, engine := some 0, input := List.replicate 800 255 })).1 5 (St.outOfRange, 0x40)
  all_goals decide +kernel
theorem witness_classPEnd_prefix (h : Obligations.CombOperationsEnd) : ∃ u, exec (.classPEnd 5 .clean) (withOps [{ anOp with stage := .prefixRun, engine := some 0 }]) = .next u := by
  apply Exists.intro
  apply (h (withOps [{ anOp with stage := .prefixRun, engine := some 0 }]) ({ anOp with stage := .prefixRun, engine := some 0 })).2.1 5
  all_goals decide +kernel
theorem witness_classPEnd_verdict (h : Obligations.CombOperationsEnd) : ∃ u, exec (.classPEnd 5 (.corrected true)) (withOps [{ aVerify with stage := .body, engine := some 0 }]) = .next u := by
  apply Exists.intro
  apply (h (withOps [{ aVerify with stage := .body, engine := some 0 }]) ({ aVerify with stage := .body, engine := some 0 })).2.2.1 5
  all_goals decide +kernel
theorem witness_classPEnd_tail (h : Obligations.CombOperationsEnd) : ∃ u, exec (.classPEnd 5 .clean) (withOps [{ anOp with stage := .tail, engine := some 0 }]) = .next u := by
  apply Exists.intro
  apply (h (withOps [{ anOp with stage := .tail, engine := some 0 }]) ({ anOp with stage := .tail, engine := some 0 })).2.2.2.1 5 5
  all_goals decide +kernel
theorem witness_classPEnd_ue (h : Obligations.CombOperationsEnd) : ∃ u, exec (.classPEnd 5 (.uncorrectable ⟨64, true⟩)) (withOps [{ anOp with stage := .prefixRun, engine := some 0 }]) = .next u := by
  apply Exists.intro
  apply (h (withOps [{ anOp with stage := .prefixRun, engine := some 0 }]) ({ anOp with stage := .prefixRun, engine := some 0 })).2.2.2.2.1 5 _ ⟨64, true⟩
  all_goals decide +kernel
theorem witness_classCBodyEnd (h : Obligations.CombOperationsEnd) : ∃ u, exec (.classCBodyEnd 5 .sound .clean) (withOps [{ anOp with stage := .body, engine := some 0 }]) = .next u := by
  apply Exists.intro
  apply (h (withOps [{ anOp with stage := .body, engine := some 0 }]) ({ anOp with stage := .body, engine := some 0 })).2.2.2.2.2.1 5
  all_goals decide +kernel
theorem witness_classCBodyEnd_fault (h : Obligations.CombOperationsEnd) : ∃ u, exec (.classCBodyEnd 5 .invariant .clean) (withOps [{ anOp with stage := .body, engine := some 0 }]) = .next u := by
  apply Exists.intro
  apply (h (withOps [{ anOp with stage := .body, engine := some 0 }]) ({ anOp with stage := .body, engine := some 0 })).2.2.2.2.2.2.1 5
  all_goals decide +kernel
theorem witness_classCBodyEnd_passes (h : Obligations.CombOperationsEnd) : ∃ u, exec (.classCBodyEnd 5 .sound .clean) (withOps [{ anOp with stage := .body, engine := some 0, iterating := true, passes := 3, iterMax := 2 }]) = .next u := by
  apply Exists.intro
  apply (h (withOps [{ anOp with stage := .body, engine := some 0, iterating := true, passes := 3, iterMax := 2 }]) ({ anOp with stage := .body, engine := some 0, iterating := true, passes := 3, iterMax := 2 })).2.2.2.2.2.2.2.1 5
  all_goals decide +kernel
theorem witness_classCBodyEnd_ue (h : Obligations.CombOperationsEnd) : ∃ u, exec (.classCBodyEnd 5 .sound (.uncorrectable ⟨64, false⟩)) (withOps [{ anOp with stage := .body, engine := some 0 }]) = .next u := by
  apply Exists.intro
  apply (h (withOps [{ anOp with stage := .body, engine := some 0 }]) ({ anOp with stage := .body, engine := some 0 })).2.2.2.2.2.2.2.2.1 5 _ _ ⟨64, false⟩
  all_goals decide +kernel
theorem witness_classCRelease (h : Obligations.CombOperationsEnd) : ∃ u, exec (.classCRelease 5) (withOps [{ anOp with stage := .ended, engine := some 0, result := { out := zeros 800 } }]) = .next u := by
  apply Exists.intro
  apply (h (withOps [{ anOp with stage := .ended, engine := some 0, result := { out := zeros 800 } }]) ({ anOp with stage := .ended, engine := some 0, result := { out := zeros 800 } })).2.2.2.2.2.2.2.2.2.1 5 5 { ready 0x100 (cap := 800) with phase := .held }
  all_goals decide +kernel
theorem witness_classCRelease_block (h : Obligations.CombOperationsEnd) : ∃ u, exec (.classCRelease 5) (withOps [{ anOp with opcode := 0x236, stage := .ended, engine := some 0 }]) = .next u := by
  apply Exists.intro
  apply (h (withOps [{ anOp with opcode := 0x236, stage := .ended, engine := some 0 }]) ({ anOp with opcode := 0x236, stage := .ended, engine := some 0 })).2.2.2.2.2.2.2.2.2.2.1 5 5
  all_goals decide +kernel
theorem witness_classCRelease_failed (h : Obligations.CombOperationsEnd) : ∃ u, exec (.classCRelease 5) (withOps [{ anOp with stage := .ended, engine := some 0, result := { status := 0x22, ext := 0x10 } }]) = .next u := by
  apply Exists.intro
  apply (h (withOps [{ anOp with stage := .ended, engine := some 0, result := { status := 0x22, ext := 0x10 } }]) ({ anOp with stage := .ended, engine := some 0, result := { status := 0x22, ext := 0x10 } })).2.2.2.2.2.2.2.2.2.2.2.1 5
  all_goals decide +kernel
theorem witness_classCRelease_own (h : Obligations.CombOperationsEnd) : ∃ u, exec (.classCRelease 8192) (withOps [{ anOp with id := 8192, src := .own (.cpSign 0), stage := .ended, engine := some 0 }]) = .next u := by
  apply Exists.intro
  apply (h (withOps [{ anOp with id := 8192, src := .own (.cpSign 0), stage := .ended, engine := some 0 }]) ({ anOp with id := 8192, src := .own (.cpSign 0), stage := .ended, engine := some 0 })).2.2.2.2.2.2.2.2.2.2.2.2.1 8192 (.cpSign 0)
  all_goals decide +kernel
theorem witness_interrupt_restart (h : Obligations.CombOperationsEnd) : ∃ u, exec (.instructionInterrupt 0 .underrun true) (withOps [{ anOp with stage := .body, engine := some 0, restarts := 3 }]) = .next u := by
  apply Exists.intro
  apply (h (withOps [{ anOp with stage := .body, engine := some 0, restarts := 3 }]) ({ anOp with stage := .body, engine := some 0, restarts := 3 })).2.2.2.2.2.2.2.2.2.2.2.2.2.1 0 true
  all_goals decide +kernel
theorem witness_interrupt_abandon (h : Obligations.CombOperationsEnd) : ∃ u, exec (.instructionInterrupt 0 .underrun true) (withOps [{ anOp with stage := .body, engine := some 0, restarts := 4 }]) = .next u := by
  apply Exists.intro
  apply (h (withOps [{ anOp with stage := .body, engine := some 0, restarts := 4 }]) ({ anOp with stage := .body, engine := some 0, restarts := 4 })).2.2.2.2.2.2.2.2.2.2.2.2.2.2.1 0 true
  all_goals decide +kernel
theorem witness_interrupt_classP (h : Obligations.CombOperationsEnd) : ∃ u, exec (.instructionInterrupt 0 .underrun false) (withOps [{ aVerify with stage := .body, engine := some 0, restarts := 16 }]) = .next u := by
  apply Exists.intro
  apply (h (withOps [{ aVerify with stage := .body, engine := some 0, restarts := 16 }]) ({ aVerify with stage := .body, engine := some 0, restarts := 16 })).2.2.2.2.2.2.2.2.2.2.2.2.2.2.2.1 0
  all_goals decide +kernel
theorem witness_operandMemoryUe (h : Obligations.CombOperationsEnd) : ∃ u, exec (.operandMemoryUe 0) (withOps [{ anOp with stage := .body, engine := some 0 }]) = .next u := by
  apply Exists.intro
  apply (h (withOps [{ anOp with stage := .body, engine := some 0 }]) ({ anOp with stage := .body, engine := some 0 })).2.2.2.2.2.2.2.2.2.2.2.2.2.2.2.2.1 0
  all_goals decide +kernel
theorem witness_watchdog (h : Obligations.CombOperationsEnd) : ∃ u, exec (.watchdog 0) (withOps [{ aVerify with stage := .body, engine := some 0 }]) = .next u := by
  apply Exists.intro
  apply (h (withOps [{ aVerify with stage := .body, engine := some 0 }]) ({ aVerify with stage := .body, engine := some 0 })).2.2.2.2.2.2.2.2.2.2.2.2.2.2.2.2.2.1 0
  all_goals decide +kernel
theorem witness_iterLimit (h : Obligations.CombOperationsEnd) : ∃ u, exec (.iterLimit 0) (withOps [{ aVerify with stage := .body, engine := some 0 }]) = .next u := by
  apply Exists.intro
  apply (h (withOps [{ aVerify with stage := .body, engine := some 0 }]) ({ aVerify with stage := .body, engine := some 0 })).2.2.2.2.2.2.2.2.2.2.2.2.2.2.2.2.2.2.1 0
  all_goals decide +kernel
theorem witness_iterLimit_classC (h : Obligations.CombOperationsEnd) : ∃ u, exec (.iterLimit 0) (withOps [{ anOp with stage := .body, engine := some 0, iterating := true, passes := 3, iterMax := 2 }]) = .next u := by
  apply Exists.intro
  apply (h (withOps [{ anOp with stage := .body, engine := some 0, iterating := true, passes := 3, iterMax := 2 }]) ({ anOp with stage := .body, engine := some 0, iterating := true, passes := 3, iterMax := 2 })).2.2.2.2.2.2.2.2.2.2.2.2.2.2.2.2.2.2.1 0
  all_goals decide +kernel
theorem witness_controlStoreUe (h : Obligations.CombOperationsEnd) : ∃ u, exec (.controlStoreUe 0 true) (withOps [anOp]) = .next u := by
  apply Exists.intro
  apply (h (withOps [anOp]) (anOp)).2.2.2.2.2.2.2.2.2.2.2.2.2.2.2.2.2.2.2 0 { kind := 0, firstCell := 0, maskCh := 16 }
  all_goals decide +kernel
theorem witness_engineFence (h : Obligations.TestAndFenceComplete) : ∃ u, exec (.engineFence 5) (holding (engineIn (eng0)) (ready 0xD01)) = .next u := by
  apply Exists.intro
  apply (h (holding (engineIn (eng0)) (ready 0xD01)) 5 (ready 0xD01)).1 (eng0)
  all_goals decide +kernel
theorem witness_engineFence_waits (h : Obligations.TestAndFenceComplete) : ∃ u, exec (.engineFence 5) (holding (engineIn (eng0) [{ anOp with stage := .body, engine := some 0 }]) (ready 0xD01)) = .next u := by
  apply Exists.intro
  apply (h (holding (engineIn (eng0) [{ anOp with stage := .body, engine := some 0 }]) (ready 0xD01)) 5 (ready 0xD01)).2.1 (eng0) { anOp with stage := .body, engine := some 0 }
  all_goals decide +kernel
theorem witness_dropHomeless (h : Obligations.TestAndFenceComplete) : ∀ w ∈ (withOps [{ anOp with kind := 9 }]).dropHomeless.comb.ops, w.src ≠ .host 5 :=
  fun w hw => (h (withOps [{ anOp with kind := 9 }]) 5 (ready 0)).2.2.1 { anOp with kind := 9 } (by decide +kernel) w hw (by decide +kernel) (by decide +kernel) (by decide +kernel)
theorem witness_engineUnfence (h : Obligations.TestAndFenceComplete) : ∃ u, exec (.engineUnfence 5) (holding (engineIn (eng0 .ready true)) (ready 0xD02)) = .next u := by
  apply Exists.intro
  apply (h (holding (engineIn (eng0 .ready true)) (ready 0xD02)) 5 (ready 0xD02)).2.2.2.1 (eng0 .ready true)
  all_goals decide +kernel
theorem witness_engineUnfence_ready (h : Obligations.TestAndFenceComplete) : ∃ u, exec (.engineUnfence 5) (holding (engineIn (eng0)) (ready 0xD02)) = .next u := by
  apply Exists.intro
  apply (h (holding (engineIn (eng0)) (ready 0xD02)) 5 (ready 0xD02)).2.2.2.2.1 (eng0)
  all_goals decide +kernel
theorem witness_selftestRun (h : Obligations.TestAndFenceComplete) : ∃ u, exec (.selftestRun 5) (holding (live) (ready 0xD00 (par [(40, [2])]) (cap := 16))) = .next u := by
  apply Exists.intro
  apply (h (holding (live) (ready 0xD00 (par [(40, [2])]) (cap := 16))) 5 (ready 0xD00 (par [(40, [2])]) (cap := 16))).2.2.2.2.2.1 
  all_goals decide +kernel
theorem witness_selftestRun_none (h : Obligations.TestAndFenceComplete) : ∃ u, exec (.selftestRun 5) (holding (engineIn (eng0 .ready true)) (ready 0xD00 (par [(40, [2])]) (cap := 16))) = .next u := by
  apply Exists.intro
  apply (h (holding (engineIn (eng0 .ready true)) (ready 0xD00 (par [(40, [2])]) (cap := 16))) 5 (ready 0xD00 (par [(40, [2])]) (cap := 16))).2.2.2.2.2.1 
  all_goals decide +kernel
theorem witness_periodicSelftest (h : Obligations.TestAndFenceComplete) : ∃ u, exec (.periodicSelftest) (live) = .next u := by
  apply Exists.intro
  apply (h live 0 (ready 0)).2.2.2.2.2.2.1 0
  all_goals decide +kernel
theorem witness_selftestDone_true (h : Obligations.TestAndFenceComplete) : ∃ u, exec (.selftestDone 0 true) (engineIn (eng0 .withdrawn) [] (some (0, .periodic))) = .next u :=
  ⟨_, ((h (engineIn (eng0 .withdrawn) [] (some (0, .periodic))) 0 (ready 0)).2.2.2.2.2.2.2.1 0 (eng0 .withdrawn) (by decide +kernel) (by decide +kernel) (by decide +kernel) (by decide +kernel) (by decide +kernel)).1⟩
theorem witness_selftestDone_false (h : Obligations.TestAndFenceComplete) : ∃ u, exec (.selftestDone 0 false) (engineIn (eng0 .withdrawn) [] (some (0, .periodic))) = .next u :=
  ⟨_, ((h (engineIn (eng0 .withdrawn) [] (some (0, .periodic))) 0 (ready 0)).2.2.2.2.2.2.2.1 0 (eng0 .withdrawn) (by decide +kernel) (by decide +kernel) (by decide +kernel) (by decide +kernel) (by decide +kernel)).2⟩
theorem witness_stallTimeout (h : Obligations.TestAndFenceComplete) : ∃ u, exec (.stallTimeout 5) ({ withOps [anOp] with rng := { fault := true } }) = .next u := by
  apply Exists.intro
  apply (h ({ withOps [anOp] with rng := { fault := true } }) 5 (ready 0)).2.2.2.2.2.2.2.2.1 anOp
  all_goals decide +kernel
/-- A key whose next block is announced and not confirmed. -/
def blockedLeaf : State :=
  { withOps [{ aSign with stage := .leafWait }] with
    kst := { slots := [(16, KeySlot.mk [] (attrOf true 0x20 [12]) []
      (some { recordAddr := 0, floor := 0, block := some { first := 0, stop := 32 } }) false)] } }

theorem witness_lmsLeafWaitTimeout (h : Obligations.TestAndFenceComplete) : ∃ u, exec (.lmsLeafWaitTimeout 5) (blockedLeaf) = .next u := by
  apply Exists.intro
  apply (h blockedLeaf 5 (ready 0)).2.2.2.2.2.2.2.2.2 { aSign with stage := .leafWait } { recordAddr := 0, floor := 0, block := some { first := 0, stop := 32 } } { first := 0, stop := 32 }
  all_goals decide +kernel

/-! ### Time (chapter 14) -/

theorem witness_idle (h : Obligations.TimeAdvancesExactly) : step State.reset = .next State.reset ∧ step live = .next live.edge :=
  ⟨(h.1 State.reset rfl).1 rfl, (h.1 live rfl).2 (by decide +kernel)⟩
theorem witness_edges (h : Obligations.TimeAdvancesExactly) : ((State.edge^[3]) live).free = live.free + 3 :=
  (h.2 live 3 (by decide +kernel) (by decide +kernel) (by decide +kernel) (by decide +kernel)).2.1
/-- The live device with a servo report of an age and offset, LOCK_TMO 1 and DRIFT_PPB 100. -/
def servoAt (age : Nat) (offset : W32) (suspect : W32 := 0) : State :=
  { live with
    regs := [(Reg.tsuServoOffset, offset), (Reg.tsuLockCfg, 0x00640001), (Reg.phwSuspect, suspect)]
    tod := { servoSeen := true, servoAge := age } }

theorem witness_quality_none (h : Obligations.QualityCode) : live.qualityCode = 0x40 + 0 :=
  (h live).1 (by decide +kernel)
theorem witness_quality_locked (h : Obligations.QualityCode) : (servoAt 79999999 99 1).qualityCode = 0x80 :=
  (h (servoAt 79999999 99 1)).2.1 (by decide +kernel) (by decide +kernel)
theorem witness_quality_aged (h : Obligations.QualityCode) : (servoAt 80000000 99).qualityCode = 0x10 + 0 :=
  (h (servoAt 80000000 99)).2.2.1 (by decide +kernel) (by decide +kernel) (by decide +kernel)
theorem witness_quality_offset (h : Obligations.QualityCode) : (servoAt 0 100).qualityCode = 0x10 + 0 :=
  (h (servoAt 0 100)).2.2.1 (by decide +kernel) (by decide +kernel) (by decide +kernel)
theorem witness_quality_last_ns (h : Obligations.QualityCode) : (servoAt 6400000000 199).qualityCode = 0x10 + 0 :=
  (h (servoAt 6400000000 199)).2.2.1 (by decide +kernel) (by decide +kernel) (by decide +kernel)
theorem witness_quality_spent (h : Obligations.QualityCode) : (servoAt 0 1000).qualityCode = 0x20 + 0 :=
  (h (servoAt 0 1000)).2.2.2 (by decide +kernel) (by decide +kernel) (by decide +kernel)
theorem witness_rateWrite (h : Obligations.TimeCommandsComplete) : ∃ u, exec (.rateWrite 65536000) (live) = .next u := by
  apply Exists.intro
  apply (h (live) 5 (ready 0)).1 65536000
  all_goals decide +kernel
theorem witness_rateWrite_jump (h : Obligations.TimeCommandsComplete) : ∃ u, exec (.rateWrite 0xFC17FFFF) (live) = .next u := by
  apply Exists.intro
  apply (h (live) 5 (ready 0)).1 0xFC17FFFF
  all_goals decide +kernel
theorem witness_servoOffsetWrite (h : Obligations.TimeCommandsComplete) : ∃ u, exec (.servoOffsetWrite 1000) (live) = .next u := by
  apply Exists.intro
  apply (h (live) 5 (ready 0)).2.1 1000
  all_goals decide +kernel
theorem witness_lockTimeout (h : Obligations.TimeCommandsComplete) : ∃ u, exec (.lockTimeout) (live) = .next u := by
  apply Exists.intro
  apply (h (live) 5 (ready 0)).2.2.1 
theorem witness_holdoverLimit (h : Obligations.TimeCommandsComplete) : ∃ u, exec (.holdoverLimit) (servoAt 0 99) = .next u := by
  apply Exists.intro
  apply (h (servoAt 0 99) 5 (ready 0)).2.2.2.1 ((servoAt 0 99).holdoverEdges.getD 0)
  all_goals decide +kernel
theorem witness_todNsRead (h : Obligations.TimeCommandsComplete) : ∃ u, exec (.todNsRead) (live) = .next u := by
  apply Exists.intro
  apply (h (live) 5 (ready 0)).2.2.2.2.1 
  all_goals decide +kernel
theorem witness_capCtrlEnable (h : Obligations.TimeCommandsComplete) : ∃ u, exec (.capCtrlEnable 0x106) (live) = .next u := by
  apply Exists.intro
  apply (h (live) 5 (ready 0)).2.2.2.2.2.1 0x106
  all_goals decide +kernel
theorem witness_timeRead (h : Obligations.TimeCommandsComplete) : ∃ u, exec (.timeRead 5) (holding (live) (ready 0x900 (cap := 32))) = .next u := by
  apply Exists.intro
  apply (h (holding (live) (ready 0x900 (cap := 32))) 5 (ready 0x900 (cap := 32))).2.2.2.2.2.2.1 
  all_goals decide +kernel
theorem witness_timeStep_absolute (h : Obligations.TimeCommandsComplete) : ∃ u, exec (.timeStep 5) (holding (live) (ready 0x901 (par [(40, [1, 0, 5]), (48, [0xFF, 0xC9, 0x9A, 0x3B])]))) = .next u := by
  apply Exists.intro
  apply (h (holding (live) (ready 0x901 (par [(40, [1, 0, 5]), (48, [0xFF, 0xC9, 0x9A, 0x3B])]))) 5 (ready 0x901 (par [(40, [1, 0, 5]), (48, [0xFF, 0xC9, 0x9A, 0x3B])]))).2.2.2.2.2.2.2.1 
  all_goals decide +kernel
theorem witness_timeStep (h : Obligations.TimeCommandsComplete) : ∃ u, exec (.timeStep 5) (holding ({ live with tod := { ns := 1 } }) (ready 0x901 (par [(44, List.replicate 8 255)]))) = .next u := by
  apply Exists.intro
  apply (h (holding ({ live with tod := { ns := 1 } }) (ready 0x901 (par [(44, List.replicate 8 255)]))) 5 (ready 0x901 (par [(44, List.replicate 8 255)]))).2.2.2.2.2.2.2.2.1 0
  all_goals decide +kernel
theorem witness_phwCalibrate (h : Obligations.TimeCommandsComplete) : ∃ u, exec (.phwCalibrate 5) (holding (live) (ready 0x902 (cap := 8))) = .next u := by
  apply Exists.intro
  apply (h (holding (live) (ready 0x902 (cap := 8))) 5 (ready 0x902 (cap := 8))).2.2.2.2.2.2.2.2.2.1 
  all_goals decide +kernel
theorem witness_phwCalibrationEnd_low (h : Obligations.TimeCommandsComplete) : ∃ u, exec (.phwCalibrationEnd 570000 (-1) 65536) ({ live with phw := { live.phw with calib := [5], state := 7 } }) = .next u := by
  apply Exists.intro
  apply (h ({ live with phw := { live.phw with calib := [5], state := 7 } }) 5 (ready 0)).2.2.2.2.2.2.2.2.2.2.1 570000 (-1) 65536 []
  all_goals decide +kernel
theorem witness_phwCalibrationEnd_high (h : Obligations.TimeCommandsComplete) : ∃ u, exec (.phwCalibrationEnd 630000 (-1) 65536) ({ live with phw := { live.phw with calib := [5], state := 7 } }) = .next u := by
  apply Exists.intro
  apply (h ({ live with phw := { live.phw with calib := [5], state := 7 } }) 5 (ready 0)).2.2.2.2.2.2.2.2.2.2.1 630000 (-1) 65536 []
  all_goals decide +kernel
theorem witness_phwCalibrationEnd_below (h : Obligations.TimeCommandsComplete) : ∃ u, exec (.phwCalibrationEnd 569999 0 0) ({ live with phw := { live.phw with calib := [5], state := 7 } }) = .next u := by
  apply Exists.intro
  apply (h ({ live with phw := { live.phw with calib := [5], state := 7 } }) 5 (ready 0)).2.2.2.2.2.2.2.2.2.2.2 569999 0 0 [] (by decide +kernel) (.inl (by decide +kernel))
theorem witness_phwCalibrationEnd_above (h : Obligations.TimeCommandsComplete) : ∃ u, exec (.phwCalibrationEnd 630001 0 0) ({ live with phw := { live.phw with calib := [5], state := 7 } }) = .next u := by
  apply Exists.intro
  apply (h ({ live with phw := { live.phw with calib := [5], state := 7 } }) 5 (ready 0)).2.2.2.2.2.2.2.2.2.2.2 630001 0 0 [] (by decide +kernel) (.inr (by decide +kernel))
theorem witness_phwWindow_off (h : Obligations.PhaseWitnessWindow) : ∃ u, exec (.phwWindow 0 0 0 0) (live) = .next u :=
  ⟨_, (h live 0 0 0 0).1 (by decide +kernel)⟩
/-- The live device with the phase witness in a state, NOMINAL_MV 1,000. -/
def phwAt (state windows : Nat) : State :=
  { live with regs := [(Reg.phwNominalMv, 1000)], phw := { live.phw with state := state, windows := windows } }

theorem witness_phwWindow_noSignal (h : Obligations.PhaseWitnessWindow) : ∃ u, exec (.phwWindow 99 99 50000 0) (phwAt 2 0) = .next u ∧ u.phw.state = 5 :=
  let ⟨u, hu, _, _, _, _, h5, h6, h7, _⟩ := (h (phwAt 2 0) 99 99 50000 0).2 (by constructor <;> decide +kernel) (by decide +kernel) (by decide +kernel)
  ⟨u, hu, h5 (by decide +kernel)⟩
theorem witness_phwWindow_outOfRange_low (h : Obligations.PhaseWitnessWindow) : ∃ u, exec (.phwWindow 100 100 44999 0) (phwAt 2 0) = .next u ∧ u.phw.state = 6 :=
  let ⟨u, hu, _, _, _, _, h5, h6, h7, _⟩ := (h (phwAt 2 0) 100 100 44999 0).2 (by constructor <;> decide +kernel) (by decide +kernel) (by decide +kernel)
  ⟨u, hu, h6 (by decide +kernel) (by decide +kernel)⟩
theorem witness_phwWindow_outOfRange_high (h : Obligations.PhaseWitnessWindow) : ∃ u, exec (.phwWindow 100 100 65001 0) (phwAt 2 0) = .next u ∧ u.phw.state = 6 :=
  let ⟨u, hu, _, _, _, _, h5, h6, h7, _⟩ := (h (phwAt 2 0) 100 100 65001 0).2 (by constructor <;> decide +kernel) (by decide +kernel) (by decide +kernel)
  ⟨u, hu, h6 (by decide +kernel) (by decide +kernel)⟩
theorem witness_phwWindow_acquires_low (h : Obligations.PhaseWitnessWindow) : ∃ u, exec (.phwWindow 1000 1000 45000 0) (phwAt 6 0) = .next u ∧ u.phw.state = 1 :=
  let ⟨u, hu, _, _, _, _, h5, h6, h7, _⟩ := (h (phwAt 6 0) 1000 1000 45000 0).2 (by constructor <;> decide +kernel) (by decide +kernel) (by decide +kernel)
  ⟨u, hu, (h7 (by decide +kernel) (by decide +kernel) (by decide +kernel)).1 (by decide +kernel)⟩
theorem witness_phwWindow_acquires_high (h : Obligations.PhaseWitnessWindow) : ∃ u, exec (.phwWindow 1000 1000 65000 0) (phwAt 5 0) = .next u ∧ u.phw.state = 1 :=
  let ⟨u, hu, _, _, _, _, h5, h6, h7, _⟩ := (h (phwAt 5 0) 1000 1000 65000 0).2 (by constructor <;> decide +kernel) (by decide +kernel) (by decide +kernel)
  ⟨u, hu, (h7 (by decide +kernel) (by decide +kernel) (by decide +kernel)).1 (by decide +kernel)⟩
theorem witness_phwWindow_acquiring (h : Obligations.PhaseWitnessWindow) : ∃ u, exec (.phwWindow 1000 1000 50000 0) (phwAt 1 18) = .next u ∧ u.phw.state = if 18 + 1 < 20 then 1 else 2 :=
  let ⟨u, hu, _, _, _, _, h5, h6, h7, _⟩ := (h (phwAt 1 18) 1000 1000 50000 0).2 (by constructor <;> decide +kernel) (by decide +kernel) (by decide +kernel)
  ⟨u, hu, (h7 (by decide +kernel) (by decide +kernel) (by decide +kernel)).2.1 (by decide +kernel)⟩
theorem witness_phwWindow_tracks (h : Obligations.PhaseWitnessWindow) : ∃ u, exec (.phwWindow 1000 1000 50000 0) (phwAt 1 19) = .next u ∧ u.phw.state = if 19 + 1 < 20 then 1 else 2 :=
  let ⟨u, hu, _, _, _, _, h5, h6, h7, _⟩ := (h (phwAt 1 19) 1000 1000 50000 0).2 (by constructor <;> decide +kernel) (by decide +kernel) (by decide +kernel)
  ⟨u, hu, (h7 (by decide +kernel) (by decide +kernel) (by decide +kernel)).2.1 (by decide +kernel)⟩
theorem witness_phwWindow_wide (h : Obligations.PhaseWitnessWindow) : ∃ u, exec (.phwWindow 1149 1149 50000 0) (phwAt 2 0) = .next u ∧ u.phw.state = 3 :=
  let ⟨u, hu, _, _, _, _, h5, h6, h7, _⟩ := (h (phwAt 2 0) 1149 1149 50000 0).2 (by constructor <;> decide +kernel) (by decide +kernel) (by decide +kernel)
  ⟨u, hu, (h7 (by decide +kernel) (by decide +kernel) (by decide +kernel)).2.2.1 (by decide +kernel) (by decide +kernel)⟩
theorem witness_phwWindow_settles (h : Obligations.PhaseWitnessWindow) : ∃ u, exec (.phwWindow 1148 1148 50000 0) (phwAt 3 0) = .next u ∧ u.phw.state = 4 :=
  let ⟨u, hu, _, _, _, _, h5, h6, h7, _⟩ := (h (phwAt 3 0) 1148 1148 50000 0).2 (by constructor <;> decide +kernel) (by decide +kernel) (by decide +kernel)
  ⟨u, hu, (h7 (by decide +kernel) (by decide +kernel) (by decide +kernel)).2.2.2.1 (by decide +kernel) (by decide +kernel)⟩
theorem witness_phwWindow_settling (h : Obligations.PhaseWitnessWindow) : ∃ u, exec (.phwWindow 1000 1000 50000 0) (phwAt 4 3) = .next u ∧ u.phw.state = if 3 + 1 < 5 then 4 else 2 :=
  let ⟨u, hu, _, _, _, _, h5, h6, h7, _⟩ := (h (phwAt 4 3) 1000 1000 50000 0).2 (by constructor <;> decide +kernel) (by decide +kernel) (by decide +kernel)
  ⟨u, hu, (h7 (by decide +kernel) (by decide +kernel) (by decide +kernel)).2.2.2.2.1 (by decide +kernel) (by decide +kernel)⟩
theorem witness_phwWindow_settled (h : Obligations.PhaseWitnessWindow) : ∃ u, exec (.phwWindow 1000 1000 50000 0) (phwAt 4 4) = .next u ∧ u.phw.state = if 4 + 1 < 5 then 4 else 2 :=
  let ⟨u, hu, _, _, _, _, h5, h6, h7, _⟩ := (h (phwAt 4 4) 1000 1000 50000 0).2 (by constructor <;> decide +kernel) (by decide +kernel) (by decide +kernel)
  ⟨u, hu, (h7 (by decide +kernel) (by decide +kernel) (by decide +kernel)).2.2.2.2.1 (by decide +kernel) (by decide +kernel)⟩
theorem witness_phwWindow_tracking (h : Obligations.PhaseWitnessWindow) : ∃ u, exec (.phwWindow 852 852 50000 0) (phwAt 2 7) = .next u ∧ u.phw.state = 2 :=
  let ⟨u, hu, _, _, _, _, h5, h6, h7, _⟩ := (h (phwAt 2 7) 852 852 50000 0).2 (by constructor <;> decide +kernel) (by decide +kernel) (by decide +kernel)
  ⟨u, hu, (h7 (by decide +kernel) (by decide +kernel) (by decide +kernel)).2.2.2.2.2 (by decide +kernel) (by decide +kernel)⟩

/-! ### Entropy (chapter 7) -/

/-- The serving device with pair 0 as given. -/
def withPair (p : Pair) : State := { serving with rng := { serving.rng with pairs := [p] } }
/-- The serving device with channel 0 as given, and channel 16 without a queued seed. -/
def withChan (m : MaskChan) : State :=
  { serving with rng := { serving.rng with chans := m :: List.replicate 63 { seeded := true } } }

theorem witness_health (h : Obligations.HealthTestCounts) : (([true].foldl (fun (p : Pair) b => (p.test b).1) ((({} : Pair).test true).1))).aptCount = 2 :=
  (h true [true]).2 (by decide +kernel)
theorem witness_pairSample (h : Obligations.EntropyEventsComplete) : ∃ u, exec (.pairSample 0 true) (withPair { inService := true }) = .next u := by
  apply Exists.intro
  apply (h (withPair { inService := true })).1 0 { inService := true } true
  all_goals decide +kernel
theorem witness_pairSample_rct (h : Obligations.EntropyEventsComplete) : ∃ u, exec (.pairSample 0 true) (withPair { inService := true, lastBit := some true, run := 60 }) = .next u := by
  apply Exists.intro
  apply (h (withPair { inService := true, lastBit := some true, run := 60 })).2.1 0 { inService := true, lastBit := some true, run := 60 } true true false
  all_goals decide +kernel
theorem witness_pairSample_startup (h : Obligations.EntropyEventsComplete) : ∃ u, exec (.pairSample 0 true) (withPair { starting := some 1023 }) = .next u := by
  apply Exists.intro
  apply (h (withPair { starting := some 1023 })).2.2.1 0 1023 { starting := some 1023 } true
  all_goals decide +kernel
theorem witness_pairSample_tested (h : Obligations.EntropyEventsComplete) : ∃ u, exec (.pairSample 0 true) (withPair { starting := some 1024 }) = .next u := by
  apply Exists.intro
  apply (h (withPair { starting := some 1024 })).2.2.2.1 0 1024 { starting := some 1024 } true
  all_goals decide +kernel
theorem witness_pairSample_raw (h : Obligations.EntropyEventsComplete) : ∃ u, exec (.pairSample 0 true) ({ withPair {} with rng := { (withPair {}).rng with rawReads := [⟨5, 0, 8, []⟩] } }) = .next u := by
  apply Exists.intro
  apply (h ({ withPair {} with rng := { (withPair {}).rng with rawReads := [⟨5, 0, 8, []⟩] } })).2.2.2.2.1 0 {} true ⟨5, 0, 8, []⟩
  all_goals decide +kernel
theorem witness_blockConditioned (h : Obligations.EntropyEventsComplete) : ∃ u, exec (.blockConditioned) ({ serving with rng := { serving.rng with raw := List.replicate 1024 true } }) = .next u := by
  apply Exists.intro
  apply (h ({ serving with rng := { serving.rng with raw := List.replicate 1024 true } })).2.2.2.2.2.1 
  all_goals decide +kernel
theorem witness_channelReseed (h : Obligations.EntropyEventsComplete) : ∃ u, exec (.channelReseed 0) (serving) = .next u :=
  ⟨_, ((h (serving)).2.2.2.2.2.2.1 0 { seeded := true, queue := List.replicate 2 (zeros 16) } (by decide +kernel) (by decide +kernel) (by decide +kernel) (by decide +kernel)).1 (zeros 16) [zeros 16] rfl⟩
theorem witness_channelReseed_holds (h : Obligations.EntropyEventsComplete) : ∃ u, exec (.channelReseed 15) (withChan {}) = .next u :=
  ⟨_, ((h (withChan {})).2.2.2.2.2.2.1 15 { seeded := true } (by decide +kernel) (by decide +kernel) (by decide +kernel) (by decide +kernel)).2.1 rfl (.inl (by decide))⟩
theorem witness_channelReseed_stops (h : Obligations.EntropyEventsComplete) : ∃ u, exec (.channelReseed 16) (withChan {}) = .next u :=
  ⟨_, ((h (withChan {})).2.2.2.2.2.2.1 16 { seeded := true } (by decide +kernel) (by decide +kernel) (by decide +kernel) (by decide +kernel)).2.2 rfl (by decide) (by decide)⟩
theorem witness_drbgReseedDue (h : Obligations.EntropyEventsComplete) : ∃ u, exec (.drbgReseedDue 3) (serving) = .next u := by
  apply Exists.intro
  apply (h (serving)).2.2.2.2.2.2.2.1 3
  all_goals decide +kernel
theorem witness_drbgStop (h : Obligations.EntropyEventsComplete) : ∃ u, exec (.drbgStop 0) ({ serving with rng := { serving.rng with drbgs := List.replicate 4 { live := true, reseedDue := true } } }) = .next u := by
  apply Exists.intro
  apply (h ({ serving with rng := { serving.rng with drbgs := List.replicate 4 { live := true, reseedDue := true } } })).2.2.2.2.2.2.2.2.1 0
  all_goals decide +kernel
theorem witness_startupTestEnd (h : Obligations.EntropyEventsComplete) : ∃ u, exec (.startupTestEnd 0) (withPair { starting := some 2048 }) = .next u := by
  apply Exists.intro
  apply (h (withPair { starting := some 2048 })).2.2.2.2.2.2.2.2.2.1 0 { starting := some 2048 }
  all_goals decide +kernel
theorem witness_minPairsWrite (h : Obligations.EntropyEventsComplete) : ∃ u, exec (.minPairsWrite 0x108) (serving) = .next u := by
  apply Exists.intro
  apply (h (serving)).2.2.2.2.2.2.2.2.2.2.1 0x108
  all_goals decide +kernel
theorem witness_rngFifoRefill (h : Obligations.EntropyEventsComplete) : ∃ u, exec (.rngFifoRefill) (serving) = .next u := by
  apply Exists.intro
  apply (h (serving)).2.2.2.2.2.2.2.2.2.2.2.1 255
  all_goals decide +kernel
theorem witness_rngDataRead (h : Obligations.EntropyEventsComplete) : ∃ u, exec (.rngDataRead) ({ serving with funcs := [(0, { funcReset 0 with fifo := [7] })] }) = .next u := by
  apply Exists.intro
  apply (h ({ serving with funcs := [(0, { funcReset 0 with fifo := [7] })] })).2.2.2.2.2.2.2.2.2.2.2.2.1 7 []
  all_goals decide +kernel
theorem witness_rngDataRead_underrun (h : Obligations.EntropyEventsComplete) : ∃ u, exec (.rngDataRead) (serving) = .next u := by
  apply Exists.intro
  apply (h (serving)).2.2.2.2.2.2.2.2.2.2.2.2.2.1 
  all_goals decide +kernel
/-- The serving device with VF 255. -/
def vfLive : State := { serving with
  vfEnable := true, numVfs := 255, funcs := [(255, { funcReset 255 with fifo := [7] })] }

theorem witness_vfRngDataRead (h : Obligations.EntropyEventsComplete) : ∃ u, exec (.vfRngDataRead 255) (vfLive) = .next u := by
  apply Exists.intro
  apply (h (vfLive)).2.2.2.2.2.2.2.2.2.2.2.2.2.2 255 7 []
  all_goals decide +kernel
theorem witness_rngGenerate (h : Obligations.EntropyCommandsComplete) : ∃ u, exec (.rngGenerate 5) (holding (serving) (ready 0x400 (par [(40, [0, 0, 1])]) (cap := 65536))) = .next u := by
  apply Exists.intro
  apply (h (holding (serving) (ready 0x400 (par [(40, [0, 0, 1])]) (cap := 65536))) 5 (ready 0x400 (par [(40, [0, 0, 1])]) (cap := 65536))).1 
  all_goals decide +kernel
theorem witness_rngGenerate_pr (h : Obligations.EntropyCommandsComplete) : ∃ u, exec (.rngGenerate 5) (holding (serving) (ready 0x400 (par [(40, [1, 0, 0, 0, 1])]) (cap := 1))) = .next u := by
  apply Exists.intro
  apply (h (holding (serving) (ready 0x400 (par [(40, [1, 0, 0, 0, 1])]) (cap := 1))) 5 (ready 0x400 (par [(40, [1, 0, 0, 0, 1])]) (cap := 1))).2.1 
  all_goals decide +kernel
theorem witness_rngGenerate_fault (h : Obligations.EntropyCommandsComplete) : ∃ u, exec (.rngGenerate 5) (holding ({ serving with rng := { serving.rng with fault := true } }) (ready 0x400 (par [(40, [1])]) (cap := 1))) = .next u := by
  apply Exists.intro
  apply (h (holding ({ serving with rng := { serving.rng with fault := true } }) (ready 0x400 (par [(40, [1])]) (cap := 1))) 5 (ready 0x400 (par [(40, [1])]) (cap := 1))).2.2.1 
  all_goals decide +kernel
theorem witness_rngRawRead (h : Obligations.EntropyCommandsComplete) : ∃ u, exec (.rngRawRead 5) (holding (serving) (ready 0x401 (par [(40, [0, 16, 0, 0, 7])]) (cap := 4096))) = .next u := by
  apply Exists.intro
  apply (h (holding (serving) (ready 0x401 (par [(40, [0, 16, 0, 0, 7])]) (cap := 4096))) 5 (ready 0x401 (par [(40, [0, 16, 0, 0, 7])]) (cap := 4096))).2.2.2.1 
  all_goals decide +kernel
theorem witness_rngPairRestore_inService (h : Obligations.EntropyCommandsComplete) : ∃ u, exec (.rngPairRestore 5) (holding (serving) (ready 0x402)) = .next u := by
  apply Exists.intro
  apply (h (holding (serving) (ready 0x402)) 5 (ready 0x402)).2.2.2.2 { inService := true }
  all_goals decide +kernel
theorem witness_rngPairRestore_starts (h : Obligations.EntropyCommandsComplete) : ∃ u, exec (.rngPairRestore 5) (holding (withPair {}) (ready 0x402)) = .next u := by
  apply Exists.intro
  apply (h (holding (withPair {}) (ready 0x402)) 5 (ready 0x402)).2.2.2.2 {}
  all_goals decide +kernel
theorem witness_rngPairRestore_joins (h : Obligations.EntropyCommandsComplete) : ∃ u, exec (.rngPairRestore 5) (holding (withPair { starting := some 5 }) (ready 0x402)) = .next u := by
  apply Exists.intro
  apply (h (holding (withPair { starting := some 5 }) (ready 0x402)) 5 (ready 0x402)).2.2.2.2 { starting := some 5 }
  all_goals decide +kernel
theorem witness_attr (h : Obligations.AttributeWordAfterCommit) : bitOf (committedAttr 0xFFFF000000F00300 3 true).toNat 34 = true :=
  (h 0xFFFF000000F00300 3 true (by decide +kernel)).2.2.2.1

/-! ### Keys (chapter 8) -/

theorem witness_keyPrepare (h : Obligations.KeyCommandsComplete) : ∃ u, exec (.keyPrepare 5) (holding (live) (ready 0x500 (par [(40, toLE 8 (attrOf false 0x3A [12, 22]).toNat)]) (key := 4092))) = .next u := by
  apply Exists.intro
  apply (h (holding (live) (ready 0x500 (par [(40, toLE 8 (attrOf false 0x3A [12, 22]).toNat)]) (key := 4092))) 5 (ready 0x500 (par [(40, toLE 8 (attrOf false 0x3A [12, 22]).toNat)]) (key := 4092))).1 
  all_goals decide +kernel
theorem witness_keyGenerate (h : Obligations.KeyCommandsComplete) : ∃ u, exec (.keyGenerate 5) (holding ({ serving with kst := { slots := [(16, { attr := attrOf false 3 [] 255 })] } }) (ready 0x501 (key := 16))) = .next u := by
  apply Exists.intro
  apply (h (holding ({ serving with kst := { slots := [(16, { attr := attrOf false 3 [] 255 })] } }) (ready 0x501 (key := 16))) 5 (ready 0x501 (key := 16))).2.1 
  all_goals decide +kernel
theorem witness_keyGenerate_waited (h : Obligations.KeyCommandsComplete) : ∃ u, exec (.keyGenerate 5) (holding ({ serving with kst := { slots := [(16, { attr := attrOf false 3 [] 255 })] } }) ({ ready 0x501 (key := 16) with step8 := true })) = .next u := by
  apply Exists.intro
  apply (h (holding ({ serving with kst := { slots := [(16, { attr := attrOf false 3 [] 255 })] } }) ({ ready 0x501 (key := 16) with step8 := true })) 5 ({ ready 0x501 (key := 16) with step8 := true })).2.2.1 
  all_goals decide +kernel
theorem witness_keyDelete (h : Obligations.KeyCommandsComplete) : ∃ u, exec (.keyDelete 5) (holding (withKey { attr := attrOf true 0x10 [13] }) (ready 0x506 (par [(40, [1])]) (key := 16))) = .next u := by
  apply Exists.intro
  apply (h (holding (withKey { attr := attrOf true 0x10 [13] }) (ready 0x506 (par [(40, [1])]) (key := 16))) 5 (ready 0x506 (par [(40, [1])]) (key := 16))).2.2.2.1 
  all_goals decide +kernel
theorem witness_keyRestrict (h : Obligations.KeyCommandsComplete) : ∃ u, exec (.keyRestrict 5) (holding (withKey { attr := attrOf true 0x10 [13] }) (ready 0x507 (par [(40, [0, 0xF0, 0x7F, 0, 1])]) (key := 16))) = .next u := by
  apply Exists.intro
  apply (h (holding (withKey { attr := attrOf true 0x10 [13] }) (ready 0x507 (par [(40, [0, 0xF0, 0x7F, 0, 1])]) (key := 16))) 5 (ready 0x507 (par [(40, [0, 0xF0, 0x7F, 0, 1])]) (key := 16))).2.2.2.2.1 
  all_goals decide +kernel
theorem witness_keyQuery (h : Obligations.KeyCommandsComplete) : ∃ u, exec (.keyQuery 5) (holding (withKey { attr := attrOf true 0x10 [13] }) (ready 0x508 (key := 16) (cap := 16))) = .next u := by
  apply Exists.intro
  apply (h (holding (withKey { attr := attrOf true 0x10 [13] }) (ready 0x508 (key := 16) (cap := 16))) 5 (ready 0x508 (key := 16) (cap := 16))).2.2.2.2.2.1 
  all_goals decide +kernel
theorem witness_keyRangeSet (h : Obligations.KeyCommandsComplete) : ∃ u, exec (.keyRangeSet 5) (holding ({ live with funcs := [(0, { funcReset 0 with keyBase := 17, keyCount := 16, bme := true })] }) (ready 0x510 (par [(40, [1, 0, 16, 0, 1, 0, 1])]))) = .next u := by
  apply Exists.intro
  apply (h (holding ({ live with funcs := [(0, { funcReset 0 with keyBase := 17, keyCount := 16, bme := true })] }) (ready 0x510 (par [(40, [1, 0, 16, 0, 1, 0, 1])]))) 5 (ready 0x510 (par [(40, [1, 0, 16, 0, 1, 0, 1])]))).2.2.2.2.2.2.1 
  all_goals decide +kernel
theorem witness_keyBvrInit (h : Obligations.KeyCommandsComplete) : ∃ u, exec (.keyBvrInit 5) (holding ({ serving with lcs := { serving.lcs with otp := { serving.lcs.otp with ownerRecord := some { imageKeyHash := [], debugKeyHash := [], bvrPolicy := true } } } }) (ready 0x511)) = .next u := by
  apply Exists.intro
  apply (h (holding ({ serving with lcs := { serving.lcs with otp := { serving.lcs.otp with ownerRecord := some { imageKeyHash := [], debugKeyHash := [], bvrPolicy := true } } } }) (ready 0x511)) 5 (ready 0x511)).2.2.2.2.2.2.2.1 
  all_goals decide +kernel
theorem witness_deviceSlotRederive (h : Obligations.KeyCommandsComplete) : ∃ u, exec (.deviceSlotRederive 8) ({ live with kst := { rederive := [8] } }) = .next u := by
  apply Exists.intro
  apply (h ({ live with kst := { rederive := [8] } }) 5 (ready 0)).2.2.2.2.2.2.2.2 8
  all_goals decide +kernel
theorem witness_keyImport (h : Obligations.KeyTransportComplete) : ∃ u, exec (.keyImport 5) (holding ({ (withKey { attr := attrOf false 1 [20] }) with funcs := [(0, { funcReset 0 with bme := true, plainImport := true })] }) (ready 0x502 (key := 16) (len := 16) (input := zeros 16))) = .next u := by
  refine ⟨_, ((h (holding ({ (withKey { attr := attrOf false 1 [20] }) with funcs := [(0, { funcReset 0 with bme := true, plainImport := true })] }) (ready 0x502 (key := 16) (len := 16) (input := zeros 16))) 5 (ready 0x502 (key := 16) (len := 16) (input := zeros 16))).1 ?_ ?_ ?_ ?_ ?_ ?_ ?_ ?_ ?_).1 ?_⟩
  all_goals decide +kernel
theorem witness_keyImport_job (h : Obligations.KeyTransportComplete) : ∃ u, exec (.keyImport 5) (holding ({ (withKey { attr := attrOf false 0x14 [12] }) with funcs := [(0, { funcReset 0 with bme := true, plainImport := true })] }) (ready 0x502 (key := 16) (len := 32) (input := zeros 32))) = .next u := by
  refine ⟨_, ((h (holding ({ (withKey { attr := attrOf false 0x14 [12] }) with funcs := [(0, { funcReset 0 with bme := true, plainImport := true })] }) (ready 0x502 (key := 16) (len := 32) (input := zeros 32))) 5 (ready 0x502 (key := 16) (len := 32) (input := zeros 32))).1 ?_ ?_ ?_ ?_ ?_ ?_ ?_ ?_ ?_).2.1 0x110 ?_ ?_ ?_⟩
  all_goals decide +kernel
/-- An import into an RSA run of size class 0. -/
def rsaImport : Track := ready 0x502 (par [(40, [0, 8])]) (key := 16) (len := 904) (input := putAt (zeros 904) 1 [8])
/-- A device that holds it, with plain import and a prepared run. -/
def rsaState : State := { holding live rsaImport with
  funcs := [(0, { funcReset 0 with bme := true, plainImport := true })]
  kst := { slots := [(16, { attr := attrOf false 0x38 [12] }), (17, { attr := 0x3F0 })] } }

theorem witness_keyImport_rsa (h : Obligations.KeyTransportComplete) : ∃ u, exec (.keyImport 5) (rsaState) = .next u := by
  refine ⟨_, ((h rsaState 5 rsaImport).1 ?_ ?_ ?_ ?_ ?_ ?_ ?_ ?_ ?_).2.1 0x320 ?_ ?_ ?_⟩
  all_goals decide +kernel
theorem witness_keyImport_range (h : Obligations.KeyTransportComplete) : ∃ u, exec (.keyImport 5) (holding ({ (withKey { attr := attrOf false 0x30 [12] }) with funcs := [(0, { funcReset 0 with bme := true, plainImport := true })] }) (ready 0x502 (key := 16) (len := 96) (input := zeros 96))) = .next u := by
  refine ⟨_, ((h (holding ({ (withKey { attr := attrOf false 0x30 [12] }) with funcs := [(0, { funcReset 0 with bme := true, plainImport := true })] }) (ready 0x502 (key := 16) (len := 96) (input := zeros 96))) 5 (ready 0x502 (key := 16) (len := 96) (input := zeros 96))).1 ?_ ?_ ?_ ?_ ?_ ?_ ?_ ?_ ?_).2.2 (St.outOfRange, 0x54) ?_⟩
  all_goals decide +kernel
theorem witness_keyDerive (h : Obligations.KeyTransportComplete) : ∃ u, exec (.keyDerive 5) (holding ({ live with kst := { slots := [(16, { attr := attrOf true 3 [15] 32 }), (17, { attr := attrOf false 2 [20] })] } }) (ready 0x503 (par [(40, [1, 0, 0, 1, 17])]) (key := 16) (len := 256) (input := zeros 256))) = .next u := by
  refine ⟨_, ((h (holding ({ live with kst := { slots := [(16, { attr := attrOf true 3 [15] 32 }), (17, { attr := attrOf false 2 [20] })] } }) (ready 0x503 (par [(40, [1, 0, 0, 1, 17])]) (key := 16) (len := 256) (input := zeros 256))) 5 (ready 0x503 (par [(40, [1, 0, 0, 1, 17])]) (key := 16) (len := 256) (input := zeros 256))).2.1 ?_ ?_ ?_ ?_ ?_ ?_ ?_ ?_ ?_ ?_ ?_ ?_ ?_).1 ?_ ?_⟩
  all_goals decide +kernel
theorem witness_keyDerive_job (h : Obligations.KeyTransportComplete) : ∃ u, exec (.keyDerive 5) (holding ({ live with kst := { slots := [(16, { attr := attrOf true 3 [15] 32 }), (17, { attr := attrOf false 0x14 [12] })] } }) (ready 0x503 (par [(40, [1, 0, 0, 1, 17])]) (key := 16) (len := 256) (input := zeros 256))) = .next u := by
  refine ⟨_, ((h (holding ({ live with kst := { slots := [(16, { attr := attrOf true 3 [15] 32 }), (17, { attr := attrOf false 0x14 [12] })] } }) (ready 0x503 (par [(40, [1, 0, 0, 1, 17])]) (key := 16) (len := 256) (input := zeros 256))) 5 (ready 0x503 (par [(40, [1, 0, 0, 1, 17])]) (key := 16) (len := 256) (input := zeros 256))).2.1 ?_ ?_ ?_ ?_ ?_ ?_ ?_ ?_ ?_ ?_ ?_ ?_ ?_).2.1 0x110 ?_ ?_ ?_⟩
  all_goals decide +kernel
theorem witness_keyDerive_waits (h : Obligations.KeyTransportComplete) : ∃ u, exec (.keyDerive 5) (holding ({ { live with kst := { slots := [(16, { attr := attrOf true 3 [15] 32 }), (17, { attr := attrOf false 2 [20] })] } } with dge := { cmds := (List.range 8).map fun n => { slot := 9 + n, order := n, lane := some n } } }) (ready 0x503 (par [(40, [1, 0, 0, 1, 17])]) (key := 16) (len := 256) (input := zeros 256))) = .next u := by
  refine ⟨_, ((h (holding ({ { live with kst := { slots := [(16, { attr := attrOf true 3 [15] 32 }), (17, { attr := attrOf false 2 [20] })] } } with dge := { cmds := (List.range 8).map fun n => { slot := 9 + n, order := n, lane := some n } } }) (ready 0x503 (par [(40, [1, 0, 0, 1, 17])]) (key := 16) (len := 256) (input := zeros 256))) 5 (ready 0x503 (par [(40, [1, 0, 0, 1, 17])]) (key := 16) (len := 256) (input := zeros 256))).2.1 ?_ ?_ ?_ ?_ ?_ ?_ ?_ ?_ ?_ ?_ ?_ ?_ ?_).2.2 ?_⟩
  all_goals decide +kernel
theorem witness_keyWrap (h : Obligations.KeyTransportComplete) : ∃ u, exec (.keyWrap 5) (holding ({ live with kst := { slots := [(16, { attr := attrOf true 2 [22, 20] }), (17, { attr := attrOf true 2 [16] })] } }) (ready 0x504 (par [(44, [17])]) (key := 16) (cap := 64))) = .next u := by
  refine ⟨_, (h (holding ({ live with kst := { slots := [(16, { attr := attrOf true 2 [22, 20] }), (17, { attr := attrOf true 2 [16] })] } }) (ready 0x504 (par [(44, [17])]) (key := 16) (cap := 64))) 5 (ready 0x504 (par [(44, [17])]) (key := 16) (cap := 64))).2.2.1 ?_ ?_ ?_ ?_ ?_ ?_ ?_ ?_ ?_ ?_ ?_ ?_⟩
  all_goals decide +kernel
/-- A device whose slot 16 unwraps into slot 17. -/
def unwrapState : State := holding ({ live with kst := { slots := [(16, { attr := attrOf true 2 [17] }), (17, { attr := attrOf false 1 [20] })] } }) (ready 0x505 (par [(44, [17])]) (key := 16) (len := 40) (input := zeros 40))

theorem witness_keyUnwrap_refused (h : Obligations.KeyTransportComplete) : Config.stdHolds .aesKwpOk 0 [(unwrapState.slot 16).content, zeros 40] = false → ∃ u, exec (.keyUnwrap 5) unwrapState = .next u :=
  by
  intro k
  apply Exists.intro
  apply ((h unwrapState 5 (ready 0x505 (par [(44, [17])]) (key := 16) (len := 40) (input := zeros 40))).2.2.2 ?_ ?_ ?_ ?_ ?_ ?_ ?_ ?_ ?_ ?_).1 k
  all_goals decide +kernel
theorem witness_keyUnwrap (h : Obligations.KeyTransportComplete) : Config.stdHolds .aesKwpOk 0 [(unwrapState.slot 16).content, zeros 40] = true → blobOk (Config.std .aesKwpUnwrap 0 [(unwrapState.slot 16).content, zeros 40]) = true →
    blobKind (Config.std .aesKwpUnwrap 0 [(unwrapState.slot 16).content, zeros 40]) = 1 → ∃ u, exec (.keyUnwrap 5) unwrapState = .next u :=
  by
  intro k k1 k2
  apply Exists.intro
  apply ((h unwrapState 5 (ready 0x505 (par [(44, [17])]) (key := 16) (len := 40) (input := zeros 40))).2.2.2 ?_ ?_ ?_ ?_ ?_ ?_ ?_ ?_ ?_ ?_).2.1 (by constructor <;> decide +kernel) k k1 k2
  all_goals decide +kernel

/-! ### Digests and check values (chapter 9) -/

theorem witness_cvuSplits (h : Obligations.CvuSplitsInput) : ((live.cvuAbsorb 7 [0x31]).cvuAbsorb 7 [0x32]).cvuResult 7 = (live.cvuAbsorb 7 ([0x31] ++ [0x32])).cvuResult 7 :=
  (h live 7 [0x31] [0x32] (by constructor <;> decide +kernel) (by decide +kernel)).2
theorem witness_hash (h : Obligations.DigestCommandsAdmit) : ∃ u, exec (.hash 5) (holding (live) (ready 0x600 (par [(40, [1])]) (cap := 32))) = .next u := by
  apply Exists.intro
  apply (h (holding (live) (ready 0x600 (par [(40, [1])]) (cap := 32))) 5 (ready 0x600 (par [(40, [1])]) (cap := 32))).1 
  all_goals decide +kernel
theorem witness_hash_xof (h : Obligations.DigestCommandsAdmit) : ∃ u, exec (.hash 5) (holding (live) (ready 0x600 (par [(40, [8]), (44, [0, 0, 1])]) (cap := 65536))) = .next u := by
  apply Exists.intro
  apply (h (holding (live) (ready 0x600 (par [(40, [8]), (44, [0, 0, 1])]) (cap := 65536))) 5 (ready 0x600 (par [(40, [8]), (44, [0, 0, 1])]) (cap := 65536))).1 
  all_goals decide +kernel
theorem witness_hmac (h : Obligations.DigestCommandsAdmit) : ∃ u, exec (.hmac 5) (holding (withKey { attr := attrOf true 3 [18] 16 }) (ready 0x601 (par [(40, [6])]) (key := 16) (cap := 64))) = .next u := by
  apply Exists.intro
  apply (h (holding (withKey { attr := attrOf true 3 [18] 16 }) (ready 0x601 (par [(40, [6])]) (key := 16) (cap := 64))) 5 (ready 0x601 (par [(40, [6])]) (key := 16) (cap := 64))).2.1 
  all_goals decide +kernel
theorem witness_hmac_slot (h : Obligations.DigestCommandsAdmit) : ∃ u, exec (.hmac 5) (holding ({ live with comb := { combOn with dgeSlotEn := true }, kst := { slots := [(16, { attr := attrOf true 3 [18] 16 }), (17, { attr := attrOf false 1 [20] })] } }) (ready 0x601 (par [(40, [1, 2, 0, 0, 16]), (48, [17])]) (key := 16))) = .next u := by
  apply Exists.intro
  apply (h (holding ({ live with comb := { combOn with dgeSlotEn := true }, kst := { slots := [(16, { attr := attrOf true 3 [18] 16 }), (17, { attr := attrOf false 1 [20] })] } }) (ready 0x601 (par [(40, [1, 2, 0, 0, 16]), (48, [17])]) (key := 16))) 5 (ready 0x601 (par [(40, [1, 2, 0, 0, 16]), (48, [17])]) (key := 16))).2.2.1 
  all_goals decide +kernel
theorem witness_hmacVerify (h : Obligations.DigestCommandsAdmit) : ∃ u, exec (.hmacVerify 5) (holding (withKey { attr := attrOf true 3 [18] 16 }) (ready 0x602 (par [(40, [1, 0, 0, 0, 16])]) (key := 16) (len := 16))) = .next u := by
  apply Exists.intro
  apply (h (holding (withKey { attr := attrOf true 3 [18] 16 }) (ready 0x602 (par [(40, [1, 0, 0, 0, 16])]) (key := 16) (len := 16))) 5 (ready 0x602 (par [(40, [1, 0, 0, 0, 16])]) (key := 16) (len := 16))).2.2.2.1 
  all_goals decide +kernel
theorem witness_kmac (h : Obligations.DigestCommandsAdmit) : ∃ u, exec (.kmac 5) (holding (withKey { attr := attrOf true 3 [19] 16 }) (ready 0x603 (par [(40, [0xB, 0, 2, 0, 0, 0, 1]), (52, [5])]) (key := 16) (len := 5) (cap := 65536))) = .next u :=
  by
  refine ⟨_, ((h (holding (withKey { attr := attrOf true 3 [19] 16 }) (ready 0x603 (par [(40, [0xB, 0, 2, 0, 0, 0, 1]), (52, [5])]) (key := 16) (len := 5) (cap := 65536))) 5 (ready 0x603 (par [(40, [0xB, 0, 2, 0, 0, 0, 1]), (52, [5])]) (key := 16) (len := 5) (cap := 65536))).2.2.2.2.1 ?_ (.inr ?_) ?_ ?_ ?_ ?_ ?_ ?_ ?_ ?_ ?_ ?_).1 ?_⟩
  all_goals decide +kernel
theorem witness_kmac_slot (h : Obligations.DigestCommandsAdmit) : ∃ u, exec (.kmac 5) (holding ({ live with comb := { combOn with dgeSlotEn := true }, kst := { slots := [(16, { attr := attrOf true 3 [19] 16 }), (17, { attr := attrOf false 1 [20] })] } }) (ready 0x603 (par [(40, [0xB, 2, 2, 0, 16]), (48, [17])]) (key := 16))) = .next u :=
  by
  refine ⟨_, ((h (holding ({ live with comb := { combOn with dgeSlotEn := true }, kst := { slots := [(16, { attr := attrOf true 3 [19] 16 }), (17, { attr := attrOf false 1 [20] })] } }) (ready 0x603 (par [(40, [0xB, 2, 2, 0, 16]), (48, [17])]) (key := 16))) 5 (ready 0x603 (par [(40, [0xB, 2, 2, 0, 16]), (48, [17])]) (key := 16))).2.2.2.2.1 ?_ (.inr ?_) ?_ ?_ ?_ ?_ ?_ ?_ ?_ ?_ ?_ ?_).2 ?_ ?_ ?_ ?_⟩
  all_goals decide +kernel
theorem witness_mrgExtend_last (h : Obligations.DigestCommandsAdmit) : ∃ u, exec (.mrgExtend 5) (holding (live) (ready 0x604 (par [(43, [31])]) (len := 48))) = .next u := by
  apply Exists.intro
  apply (h (holding (live) (ready 0x604 (par [(43, [31])]) (len := 48))) 5 (ready 0x604 (par [(43, [31])]) (len := 48))).2.2.2.2.2.1 
  all_goals decide +kernel
theorem witness_mrgExtend_first (h : Obligations.DigestCommandsAdmit) : ∃ u, exec (.mrgExtend 5) (holding (live) (ready 0x604 (par [(43, [8])]) (len := 48))) = .next u := by
  apply Exists.intro
  apply (h (holding (live) (ready 0x604 (par [(43, [8])]) (len := 48))) 5 (ready 0x604 (par [(43, [8])]) (len := 48))).2.2.2.2.2.1 
  all_goals decide +kernel
theorem witness_cvuRun (h : Obligations.DigestCommandsAdmit) : ∃ u, exec (.cvuRun 5) (holding (live) (ready 0x605 (par [(40, [7, 3])]) (cap := 8))) = .next u := by
  apply Exists.intro
  apply (h (holding (live) (ready 0x605 (par [(40, [7, 3])]) (cap := 8))) 5 (ready 0x605 (par [(40, [7, 3])]) (cap := 8))).2.2.2.2.2.2 
  all_goals decide +kernel
theorem witness_cvuRun_waits (h : Obligations.DigestCommandsAdmit) : ∃ u, exec (.cvuRun 5) (holding ({ live with dge := { cvuOwned := [(7, 9)] } }) (ready 0x605 (par [(40, [7, 3])]) (cap := 8))) = .next u := by
  apply Exists.intro
  apply (h (holding ({ live with dge := { cvuOwned := [(7, 9)] } }) (ready 0x605 (par [(40, [7, 3])]) (cap := 8))) 5 (ready 0x605 (par [(40, [7, 3])]) (cap := 8))).2.2.2.2.2.2 
  all_goals decide +kernel
theorem witness_commit_extend (h : Obligations.DigestCommandsCommit) : ∃ u, exec (.digestCommit 5 true) (holding ({ live with dge := { cmds := [{ slot := 5, order := 0, lane := some 0 }] } }) (ready 0x604 (par [(43, [29])]) (len := 48) (input := zeros 48))) = .next u :=
  ⟨_, (h (holding ({ live with dge := { cmds := [{ slot := 5, order := 0, lane := some 0 }] } }) (ready 0x604 (par [(43, [29])]) (len := 48) (input := zeros 48))) 5 (ready 0x604 (par [(43, [29])]) (len := 48) (input := zeros 48)) { slot := 5, order := 0, lane := some 0 } (by decide +kernel)).1 (by decide +kernel) (by decide +kernel) |>.1 (by decide +kernel)⟩
theorem witness_commit_verify (h : Obligations.DigestCommandsCommit) : ∃ u, exec (.digestCommit 5 true) (holding ({ live with dge := { cmds := [{ slot := 5, order := 0, lane := some 0 }] } }) (ready 0x602 (par [(40, [1])]))) = .next u :=
  ⟨_, (h (holding ({ live with dge := { cmds := [{ slot := 5, order := 0, lane := some 0 }] } }) (ready 0x602 (par [(40, [1])]))) 5 (ready 0x602 (par [(40, [1])])) { slot := 5, order := 0, lane := some 0 } (by decide +kernel)).1 (by decide +kernel) (by decide +kernel) |>.2.1 (by decide +kernel)⟩
theorem witness_commit_digest (h : Obligations.DigestCommandsCommit) : ∃ u, exec (.digestCommit 5 true) (holding ({ live with dge := { cmds := [{ slot := 5, order := 0, lane := some 0 }] } }) (ready 0x600 (par [(40, [1])]))) = .next u :=
  ⟨_, (h (holding ({ live with dge := { cmds := [{ slot := 5, order := 0, lane := some 0 }] } }) (ready 0x600 (par [(40, [1])]))) 5 (ready 0x600 (par [(40, [1])])) { slot := 5, order := 0, lane := some 0 } (by decide +kernel)).1 (by decide +kernel) (by decide +kernel) |>.2.2.1 (.inl (by decide +kernel)) (by decide +kernel) (by decide +kernel)⟩
theorem witness_commit_register (h : Obligations.DigestCommandsCommit) : ∃ u, exec (.digestCommit 5 true) (holding ({ live with dge := { cmds := [{ slot := 5, order := 0, lane := some 0 }] } }) (ready 0x603 (par [(40, [0xA, 1, 0, 8])]))) = .next u :=
  ⟨_, (h (holding ({ live with dge := { cmds := [{ slot := 5, order := 0, lane := some 0 }] } }) (ready 0x603 (par [(40, [0xA, 1, 0, 8])]))) 5 (ready 0x603 (par [(40, [0xA, 1, 0, 8])])) { slot := 5, order := 0, lane := some 0 } (by decide +kernel)).1 (by decide +kernel) (by decide +kernel) |>.2.2.2.1 (.inr (.inr (by decide +kernel))) (by decide +kernel) (by decide +kernel)⟩
theorem witness_commit_slot (h : Obligations.DigestCommandsCommit) : ∃ u, exec (.digestCommit 5 true) (holding ({ live with dge := { cmds := [{ slot := 5, order := 0, lane := some 0, dest := some 16 }] } }) (ready 0x601 (par [(40, [1, 2, 0, 0, 16])]))) = .next u :=
  ⟨_, (h (holding ({ live with dge := { cmds := [{ slot := 5, order := 0, lane := some 0, dest := some 16 }] } }) (ready 0x601 (par [(40, [1, 2, 0, 0, 16])]))) 5 (ready 0x601 (par [(40, [1, 2, 0, 0, 16])])) { slot := 5, order := 0, lane := some 0, dest := some 16 } (by decide +kernel)).1 (by decide +kernel) (by decide +kernel) |>.2.2.2.2 16 (.inl (by decide +kernel)) (by decide +kernel)⟩
theorem witness_commit_derive (h : Obligations.DigestCommandsCommit) : ∃ u, exec (.digestCommit 5 true) (holding ({ live with dge := { cmds := [{ slot := 5, order := 0, lane := some 0, internal := true, dest := some 16, key := zeros 16 }] } }) (ready 0x503)) = .next u :=
  ⟨_, (h (holding ({ live with dge := { cmds := [{ slot := 5, order := 0, lane := some 0, internal := true, dest := some 16, key := zeros 16 }] } }) (ready 0x503)) 5 (ready 0x503) { slot := 5, order := 0, lane := some 0, internal := true, dest := some 16, key := zeros 16 } (by decide +kernel)).2.1 (by decide +kernel) |>.1 16 (by decide +kernel) (by decide +kernel)⟩
theorem witness_commit_unsound (h : Obligations.DigestCommandsCommit) : ∃ u, exec (.digestCommit 5 false) (holding ({ live with dge := { cmds := [{ slot := 5, order := 0, lane := some 0 }] } }) (ready 0x601)) = .next u :=
  ⟨_, (h (holding ({ live with dge := { cmds := [{ slot := 5, order := 0, lane := some 0 }] } }) (ready 0x601)) 5 (ready 0x601) { slot := 5, order := 0, lane := some 0 } (by decide +kernel)).2.1 (by decide +kernel) |>.2⟩
theorem witness_commit_cvu (h : Obligations.DigestCommandsCommit) : ∃ u, exec (.digestCommit 5 true) (holding ({ live with dge := { cvuOwned := [(2, 5)] } }) (ready 0x605 (par [(40, [2, 1])]) (cap := 8))) = .next u :=
  ⟨_, (h (holding ({ live with dge := { cvuOwned := [(2, 5)] } }) (ready 0x605 (par [(40, [2, 1])]) (cap := 8))) 5 (ready 0x605 (par [(40, [2, 1])]) (cap := 8)) { slot := 5, order := 0, lane := some 0 } (by decide +kernel)).2.2.1 2 true (by decide +kernel) (by decide +kernel) (by decide +kernel)⟩
theorem witness_commit_cvuCheck (h : Obligations.DigestCommandsCommit) : ∃ u, exec (.digestCommit 5 true) (holding ({ live with dge := { cvuOwned := [(2, 5)] } }) (ready 0x605 (par [(40, [2, 3])]) (cap := 8))) = .next u :=
  ⟨_, (h (holding ({ live with dge := { cvuOwned := [(2, 5)] } }) (ready 0x605 (par [(40, [2, 3])]) (cap := 8))) 5 (ready 0x605 (par [(40, [2, 3])]) (cap := 8)) { slot := 5, order := 0, lane := some 0 } (by decide +kernel)).2.2.2.1 2 true (by decide +kernel) (by decide +kernel) (by decide +kernel)⟩
theorem witness_mrgLock (h : Obligations.DigestCommandsCommit) : ∃ u, exec (.mrgLock 1) (holding live (ready 0)) = .next u :=
  ⟨_, (h (holding live (ready 0)) 5 (ready 0) { slot := 5, order := 0, lane := some 0 } (by decide +kernel)).2.2.2.2.1 (by decide +kernel) (by decide +kernel) 1⟩
theorem witness_cvuData8Write (h : Obligations.DigestCommandsCommit) : ∃ u, exec (.cvuData8Write 7 0xFF) (holding live (ready 0)) = .next u :=
  ⟨_, (h (holding live (ready 0)) 5 (ready 0) { slot := 5, order := 0, lane := some 0 } (by decide +kernel)).2.2.2.2.2 (by decide +kernel) (by decide +kernel) 7 0xFF (by decide +kernel) |>.1 (by decide +kernel) |>.1⟩
theorem witness_cvuData8Write_lost (h : Obligations.DigestCommandsCommit) : ∃ u, exec (.cvuData8Write 2 0xFF) (holding ({ live with dge := { cvuOwned := [(2, 5)] } }) (ready 0)) = .next u :=
  ⟨_, (h (holding ({ live with dge := { cvuOwned := [(2, 5)] } }) (ready 0)) 5 (ready 0) { slot := 5, order := 0, lane := some 0 } (by decide +kernel)).2.2.2.2.2 (by decide +kernel) (by decide +kernel) 2 0xFF (by decide +kernel) |>.2 (by decide +kernel) _ (.head _)⟩
theorem witness_cvuData32Write (h : Obligations.DigestCommandsCommit) : ∃ u, exec (.cvuData32Write 7 0xFF) (holding live (ready 0)) = .next u :=
  ⟨_, (h (holding live (ready 0)) 5 (ready 0) { slot := 5, order := 0, lane := some 0 } (by decide +kernel)).2.2.2.2.2 (by decide +kernel) (by decide +kernel) 7 0xFF (by decide +kernel) |>.1 (by decide +kernel) |>.2.1⟩
theorem witness_cvuData32Write_lost (h : Obligations.DigestCommandsCommit) : ∃ u, exec (.cvuData32Write 2 0xFF) (holding ({ live with dge := { cvuOwned := [(2, 5)] } }) (ready 0)) = .next u :=
  ⟨_, (h (holding ({ live with dge := { cvuOwned := [(2, 5)] } }) (ready 0)) 5 (ready 0) { slot := 5, order := 0, lane := some 0 } (by decide +kernel)).2.2.2.2.2 (by decide +kernel) (by decide +kernel) 2 0xFF (by decide +kernel) |>.2 (by decide +kernel) _ (.tail _ (.head _))⟩
theorem witness_cvuStart (h : Obligations.DigestCommandsCommit) : ∃ u, exec (.cvuStart 7 0x200) (holding live (ready 0)) = .next u := by
  refine ⟨_, (h (holding live (ready 0)) 5 (ready 0) { slot := 5, order := 0, lane := some 0 } ?_).2.2.2.2.2 ?_ ?_ 7 0x200 ?_ |>.1 ?_ |>.2.2.1 ?_ ?_⟩
  all_goals decide +kernel
theorem witness_cvuStart_lost (h : Obligations.DigestCommandsCommit) : ∃ u, exec (.cvuStart 2 0x200) (holding ({ live with dge := { cvuOwned := [(2, 5)] } }) (ready 0)) = .next u :=
  ⟨_, (h (holding ({ live with dge := { cvuOwned := [(2, 5)] } }) (ready 0)) 5 (ready 0) { slot := 5, order := 0, lane := some 0 } (by decide +kernel)).2.2.2.2.2 (by decide +kernel) (by decide +kernel) 2 0x200 (by decide +kernel) |>.2 (by decide +kernel) _ (.tail _ (.tail _ (.head _)))⟩
theorem witness_cvuCheck (h : Obligations.DigestCommandsCommit) : ∃ u, exec (.cvuCheck 7 0x400) (holding live (ready 0)) = .next u := by
  refine ⟨_, (h (holding live (ready 0)) 5 (ready 0) { slot := 5, order := 0, lane := some 0 } ?_).2.2.2.2.2 ?_ ?_ 7 0x400 ?_ |>.1 ?_ |>.2.2.2 ?_ ?_⟩
  all_goals decide +kernel
theorem witness_cvuCheck_lost (h : Obligations.DigestCommandsCommit) : ∃ u, exec (.cvuCheck 2 0x400) (holding ({ live with dge := { cvuOwned := [(2, 5)] } }) (ready 0)) = .next u :=
  ⟨_, (h (holding ({ live with dge := { cvuOwned := [(2, 5)] } }) (ready 0)) 5 (ready 0) { slot := 5, order := 0, lane := some 0 } (by decide +kernel)).2.2.2.2.2 (by decide +kernel) (by decide +kernel) 2 0x400 (by decide +kernel) |>.2 (by decide +kernel) _ (.tail _ (.tail _ (.tail _ (.head _))))⟩

/-! ### Lookaside ciphers (chapter 13) -/

theorem witness_aesGcmEncrypt (h : Obligations.CipherCommandsAdmit) : ∃ u, exec (.aesGcmEncrypt 5) (holding (keyed 2 20) (ready 0x700 (par [(52, [16, 0, 12])]) (key := 16) (len := 16) (cap := 12))) = .next u := by
  refine ⟨_, (h (holding (keyed 2 20) (ready 0x700 (par [(52, [16, 0, 12])]) (key := 16) (len := 16) (cap := 12))) 5 (ready 0x700 (par [(52, [16, 0, 12])]) (key := 16) (len := 16) (cap := 12)) ?_ ?_ ?_ ?_ ?_ ?_ ?_).1 ?_ ?_ ?_ ?_ ?_⟩
  all_goals decide +kernel
theorem witness_aesGcmDecrypt (h : Obligations.CipherCommandsAdmit) : ∃ u, exec (.aesGcmDecrypt 5) (holding (keyed 1 20) (ready 0x701 (par [(52, [16, 0, 16])]) (key := 16) (len := 32) (cap := 0))) = .next u := by
  refine ⟨_, (h (holding (keyed 1 20) (ready 0x701 (par [(52, [16, 0, 16])]) (key := 16) (len := 32) (cap := 0))) 5 (ready 0x701 (par [(52, [16, 0, 16])]) (key := 16) (len := 32) (cap := 0)) ?_ ?_ ?_ ?_ ?_ ?_ ?_).2.1 ?_ ?_ ?_ ?_ ?_⟩
  all_goals decide +kernel
theorem witness_aesGmacGen (h : Obligations.CipherCommandsAdmit) : ∃ u, exec (.aesGmacGen 5) (holding (keyed 2 20) (ready 0x702 (par [(54, [16])]) (key := 16) (len := 0) (cap := 16))) = .next u := by
  refine ⟨_, (h (holding (keyed 2 20) (ready 0x702 (par [(54, [16])]) (key := 16) (len := 0) (cap := 16))) 5 (ready 0x702 (par [(54, [16])]) (key := 16) (len := 0) (cap := 16)) ?_ ?_ ?_ ?_ ?_ ?_ ?_).2.2.1 ?_ ?_ ?_ ?_ ?_⟩
  all_goals decide +kernel
theorem witness_aesGmacVerify (h : Obligations.CipherCommandsAdmit) : ∃ u, exec (.aesGmacVerify 5) (holding (keyed 2 20) (ready 0x703 (par [(54, [16])]) (key := 16) (len := 16) (cap := 0))) = .next u := by
  refine ⟨_, (h (holding (keyed 2 20) (ready 0x703 (par [(54, [16])]) (key := 16) (len := 16) (cap := 0))) 5 (ready 0x703 (par [(54, [16])]) (key := 16) (len := 16) (cap := 0)) ?_ ?_ ?_ ?_ ?_ ?_ ?_).2.2.2.1 ?_ ?_ ?_ ?_ ?_⟩
  all_goals decide +kernel
theorem witness_aesCtr (h : Obligations.CipherCommandsAdmit) : ∃ u, exec (.aesCtr 5) (holding (keyed 2 20) (ready 0x704 (par []) (key := 16) (len := 16777216) (cap := 16777216))) = .next u := by
  refine ⟨_, (h (holding (keyed 2 20) (ready 0x704 (par []) (key := 16) (len := 16777216) (cap := 16777216))) 5 (ready 0x704 (par []) (key := 16) (len := 16777216) (cap := 16777216)) ?_ ?_ ?_ ?_ ?_ ?_ ?_).2.2.2.2.1 ?_ ?_⟩
  all_goals decide +kernel
theorem witness_aesCbcEncrypt (h : Obligations.CipherCommandsAdmit) : ∃ u, exec (.aesCbcEncrypt 5) (holding (keyed 2 20) (ready 0x705 (par []) (key := 16) (len := 16) (cap := 16))) = .next u := by
  refine ⟨_, (h (holding (keyed 2 20) (ready 0x705 (par []) (key := 16) (len := 16) (cap := 16))) 5 (ready 0x705 (par []) (key := 16) (len := 16) (cap := 16)) ?_ ?_ ?_ ?_ ?_ ?_ ?_).2.2.2.2.2.1 ?_ ?_ ?_⟩
  all_goals decide +kernel
theorem witness_aesCbcDecrypt (h : Obligations.CipherCommandsAdmit) : ∃ u, exec (.aesCbcDecrypt 5) (holding (keyed 2 20) (ready 0x706 (par []) (key := 16) (len := 16) (cap := 16))) = .next u := by
  refine ⟨_, (h (holding (keyed 2 20) (ready 0x706 (par []) (key := 16) (len := 16) (cap := 16))) 5 (ready 0x706 (par []) (key := 16) (len := 16) (cap := 16)) ?_ ?_ ?_ ?_ ?_ ?_ ?_).2.2.2.2.2.2.1 ?_ ?_ ?_⟩
  all_goals decide +kernel
theorem witness_aesXtsEncrypt (h : Obligations.CipherCommandsAdmit) : ∃ u, exec (.aesXtsEncrypt 5) (holding ({ live with kst := { slots := [(16, { attr := attrOf true 1 [20], content := [1] }), (17, { attr := attrOf true 1 [20], content := [2] })] } }) (ready 0x707 (par [(48, [17])]) (key := 16) (len := 16) (cap := 16))) = .next u := by
  refine ⟨_, ((h (holding ({ live with kst := { slots := [(16, { attr := attrOf true 1 [20], content := [1] }), (17, { attr := attrOf true 1 [20], content := [2] })] } }) (ready 0x707 (par [(48, [17])]) (key := 16) (len := 16) (cap := 16))) 5 (ready 0x707 (par [(48, [17])]) (key := 16) (len := 16) (cap := 16)) ?_ ?_ ?_ ?_ ?_ ?_ ?_).2.2.2.2.2.2.2.1 17 ?_ ?_ ?_ ?_ ?_ ?_ ?_ ?_ ?_ ?_).1 ?_⟩
  all_goals decide +kernel
theorem witness_aesXtsDecrypt (h : Obligations.CipherCommandsAdmit) : ∃ u, exec (.aesXtsDecrypt 5) (holding ({ live with kst := { slots := [(16, { attr := attrOf true 1 [20], content := [1] }), (17, { attr := attrOf true 1 [20], content := [2] })] } }) (ready 0x708 (par [(48, [17])]) (key := 16) (len := 17) (cap := 17))) = .next u := by
  refine ⟨_, ((h (holding ({ live with kst := { slots := [(16, { attr := attrOf true 1 [20], content := [1] }), (17, { attr := attrOf true 1 [20], content := [2] })] } }) (ready 0x708 (par [(48, [17])]) (key := 16) (len := 17) (cap := 17))) 5 (ready 0x708 (par [(48, [17])]) (key := 16) (len := 17) (cap := 17)) ?_ ?_ ?_ ?_ ?_ ?_ ?_).2.2.2.2.2.2.2.1 17 ?_ ?_ ?_ ?_ ?_ ?_ ?_ ?_ ?_ ?_).2 ?_⟩
  all_goals decide +kernel
theorem witness_aesKwWrap (h : Obligations.CipherCommandsAdmit) : ∃ u, exec (.aesKwWrap 5) (holding (keyed 2 20) (ready 0x709 (par []) (key := 16) (len := 16) (cap := 24))) = .next u := by
  refine ⟨_, ((h (holding (keyed 2 20) (ready 0x709 (par []) (key := 16) (len := 16) (cap := 24))) 5 (ready 0x709 (par []) (key := 16) (len := 16) (cap := 24)) ?_ ?_ ?_ ?_ ?_ ?_ ?_).2.2.2.2.2.2.2.2 ?_).1 ?_ ?_ ?_ ?_⟩
  all_goals decide +kernel
theorem witness_aesKwUnwrap (h : Obligations.CipherCommandsAdmit) : ∃ u, exec (.aesKwUnwrap 5) (holding (keyed 2 20) (ready 0x70A (par []) (key := 16) (len := 24) (cap := 16))) = .next u := by
  refine ⟨_, ((h (holding (keyed 2 20) (ready 0x70A (par []) (key := 16) (len := 24) (cap := 16))) 5 (ready 0x70A (par []) (key := 16) (len := 24) (cap := 16)) ?_ ?_ ?_ ?_ ?_ ?_ ?_).2.2.2.2.2.2.2.2 ?_).2.1 ?_ ?_ ?_ ?_⟩
  all_goals decide +kernel
theorem witness_aesKwpWrap (h : Obligations.CipherCommandsAdmit) : ∃ u, exec (.aesKwpWrap 5) (holding (keyed 2 20) (ready 0x70B (par []) (key := 16) (len := 1) (cap := 16))) = .next u := by
  refine ⟨_, ((h (holding (keyed 2 20) (ready 0x70B (par []) (key := 16) (len := 1) (cap := 16))) 5 (ready 0x70B (par []) (key := 16) (len := 1) (cap := 16)) ?_ ?_ ?_ ?_ ?_ ?_ ?_).2.2.2.2.2.2.2.2 ?_).2.2.1 ?_ ?_ ?_⟩
  all_goals decide +kernel
theorem witness_aesKwpUnwrap (h : Obligations.CipherCommandsAdmit) : ∃ u, exec (.aesKwpUnwrap 5) (holding (keyed 2 20) (ready 0x70C (par []) (key := 16) (len := 16) (cap := 0))) = .next u := by
  refine ⟨_, ((h (holding (keyed 2 20) (ready 0x70C (par []) (key := 16) (len := 16) (cap := 0))) 5 (ready 0x70C (par []) (key := 16) (len := 16) (cap := 0)) ?_ ?_ ?_ ?_ ?_ ?_ ?_).2.2.2.2.2.2.2.2 ?_).2.2.2 ?_ ?_ ?_⟩
  all_goals decide +kernel
theorem witness_cipherEnd_fenced (h : Obligations.CipherCommandsEnd) : ∃ u, exec (.lookasideCipherEnd 5 .clean) (holding { live with line := { lka := [{ slot := 5, key := [] }], fenced := 0xFFFF } } (ready 0x704)) = .next u :=
  ⟨_, (h (holding { live with line := { lka := [{ slot := 5, key := [] }], fenced := 0xFFFF } } (ready 0x704)) 5 (ready 0x704) { slot := 5, key := [] } (by decide +kernel) (by decide +kernel)).1 _ (by decide +kernel)⟩
theorem witness_cipherEnd (h : Obligations.CipherCommandsEnd) : ∃ u, exec (.lookasideCipherEnd 5 .clean) (holding { live with line := { lka := [{ slot := 5, key := [] }], fenced := 0xFFFE } } (ready 0x704)) = .next u :=
  ⟨_, (h (holding { live with line := { lka := [{ slot := 5, key := [] }], fenced := 0xFFFE } } (ready 0x704)) 5 (ready 0x704) { slot := 5, key := [] } (by decide +kernel) (by decide +kernel)).2.1 _ (by decide +kernel) (by decide +kernel)⟩
theorem witness_cipherEnd_hold (h : Obligations.CipherCommandsEnd) : ∃ u, exec (.lookasideCipherEnd 5 (.uncorrectable ⟨3, true⟩)) (holding { live with line := { lka := [{ slot := 5, key := [] }], fenced := 0 } } (ready 0x701)) = .next u :=
  ⟨_, (h (holding { live with line := { lka := [{ slot := 5, key := [] }], fenced := 0 } } (ready 0x701)) 5 (ready 0x701) { slot := 5, key := [] } (by decide +kernel) (by decide +kernel)).2.2.1 _ ⟨3, true⟩ (by decide +kernel) (by decide +kernel) (by decide +kernel)⟩
theorem witness_cipher_gcm (h : Obligations.CipherCommandsEnd) : (lkaResult (ready 0x700 (par [(52, [0, 0, 12])])).entry { slot := 5, key := [] } []).1 = (0, 0) :=
  congrArg Prod.fst ((h (holding { live with line := { lka := [{ slot := 5, key := [] }] } } (ready 0x700 (par [(52, [0, 0, 12])]))) 5 (ready 0x700 (par [(52, [0, 0, 12])])) { slot := 5, key := [] } (by decide +kernel) (by decide +kernel)).2.2.2.1 (by decide +kernel))
theorem witness_cipher_ctr (h : Obligations.CipherCommandsEnd) : (lkaResult (ready 0x704).entry { slot := 5, key := [] } []).1 = (0, 0) :=
  congrArg Prod.fst ((h (holding { live with line := { lka := [{ slot := 5, key := [] }] } } (ready 0x704)) 5 (ready 0x704) { slot := 5, key := [] } (by decide +kernel) (by decide +kernel)).2.2.2.2.2.1 (by decide +kernel))

/-! ### SAs and the classifier (chapters 12 and 13) -/

/-- A MACSEC_TX descriptor without options, and one of a ratcheting channel. -/
def txDesc : Bytes := putAt (zeros 64) 28 [1]
def ratchetDesc : Bytes := putAt (putAt (putAt txDesc 1 [32]) 40 [17]) 46 [1]
/-- An SA of it. -/
def txSa : Sa := { saType := 1, desc := txDesc, next := 1 }
/-- PF0 owns SA indices 8 to 11; slots 16 and 17 hold an AES-128 and an AES-256 key of usage SA; the SA partition is 1 MiB. -/
def saState (l : List (Nat × Option Sa) := []) : State :=
  { live with
    regs := [(Reg.memPartSa, 1)]
    funcs := [(0, { funcReset 0 with bme := true, saBase := 8, saCount := 4 })]
    kst := { slots := [(16, { attr := attrOf true 1 [21] }), (17, { attr := attrOf true 2 [21] })] }
    line := { sas := l } }

theorem witness_saInstall (h : Obligations.SaCommandsComplete) : ∃ u, exec (.saInstall 5) (holding (saState) (ready 0x800 (par [(40, [16, 0, 0, 0, 1])]) (key := 8) (len := 64) (input := txDesc))) = .next u := by
  apply Exists.intro
  apply (h (holding (saState) (ready 0x800 (par [(40, [16, 0, 0, 0, 1])]) (key := 8) (len := 64) (input := txDesc))) 5 (ready 0x800 (par [(40, [16, 0, 0, 0, 1])]) (key := 8) (len := 64) (input := txDesc))).1 
  all_goals decide +kernel
theorem witness_saInstall_window (h : Obligations.SaCommandsComplete) : ∃ u, exec (.saInstall 5) (holding (saState) (ready 0x800 (par [(40, [17, 0, 0, 0, 4])]) (key := 11) (len := 64) (input := (putAt (putAt (zeros 64) 4 [0, 0, 1]) 20 [0, 16])) (flags := 8))) = .next u := by
  apply Exists.intro
  apply (h (holding (saState) (ready 0x800 (par [(40, [17, 0, 0, 0, 4])]) (key := 11) (len := 64) (input := (putAt (putAt (zeros 64) 4 [0, 0, 1]) 20 [0, 16])) (flags := 8))) 5 (ready 0x800 (par [(40, [17, 0, 0, 0, 4])]) (key := 11) (len := 64) (input := (putAt (putAt (zeros 64) 4 [0, 0, 1]) 20 [0, 16])) (flags := 8))).1 
  all_goals decide +kernel
theorem witness_saInstall_mau (h : Obligations.SaCommandsComplete) : ∃ u, exec (.saInstall 5) (holding (saState) (ready 0x800 (par [(40, [17, 0, 0, 0, 6])]) (key := 11) (len := 64) (input := (putAt (zeros 64) 0 [2])))) = .next u := by
  apply Exists.intro
  apply (h (holding (saState) (ready 0x800 (par [(40, [17, 0, 0, 0, 6])]) (key := 11) (len := 64) (input := (putAt (zeros 64) 0 [2])))) 5 (ready 0x800 (par [(40, [17, 0, 0, 0, 6])]) (key := 11) (len := 64) (input := (putAt (zeros 64) 0 [2])))).1 
  all_goals decide +kernel
theorem witness_saInstall_ratchet (h : Obligations.SaCommandsComplete) : ∃ u, exec (.saInstall 5) (holding (saState) (ready 0x800 (par [(40, [16, 0, 0, 0, 1])]) (key := 8) (len := 64) (input := ratchetDesc))) = .next u := by
  apply Exists.intro
  apply (h (holding (saState) (ready 0x800 (par [(40, [16, 0, 0, 0, 1])]) (key := 8) (len := 64) (input := ratchetDesc))) 5 (ready 0x800 (par [(40, [16, 0, 0, 0, 1])]) (key := 8) (len := 64) (input := ratchetDesc))).2.1 
  all_goals decide +kernel
theorem witness_saInstall_outside (h : Obligations.SaCommandsComplete) : ∃ u, exec (.saInstall 5) (holding (saState) (ready 0x800 (par [(40, [16, 0, 0, 0, 1])]) (key := 12) (len := 64) (input := txDesc))) = .next u := by
  apply Exists.intro
  apply (h (holding (saState) (ready 0x800 (par [(40, [16, 0, 0, 0, 1])]) (key := 12) (len := 64) (input := txDesc))) 5 (ready 0x800 (par [(40, [16, 0, 0, 0, 1])]) (key := 12) (len := 64) (input := txDesc))).2.2.1 
  all_goals decide +kernel
theorem witness_saInstall_occupied (h : Obligations.SaCommandsComplete) : ∃ u, exec (.saInstall 5) (holding (saState [(8, some txSa)]) (ready 0x800 (par [(40, [16, 0, 0, 0, 1])]) (key := 8) (len := 64) (input := txDesc))) = .next u := by
  apply Exists.intro
  apply (h (holding (saState [(8, some txSa)]) (ready 0x800 (par [(40, [16, 0, 0, 0, 1])]) (key := 8) (len := 64) (input := txDesc))) 5 (ready 0x800 (par [(40, [16, 0, 0, 0, 1])]) (key := 8) (len := 64) (input := txDesc))).2.2.2.1 
  all_goals decide +kernel
theorem witness_saRemove (h : Obligations.SaCommandsComplete) : ∃ u, exec (.saRemove 5) (holding (saState [(11, some txSa)]) (ready 0x801 (key := 11))) = .next u := by
  apply Exists.intro
  apply (h (holding (saState [(11, some txSa)]) (ready 0x801 (key := 11))) 5 (ready 0x801 (key := 11))).2.2.2.2.1 
  all_goals decide +kernel
theorem witness_saRemove_empty (h : Obligations.SaCommandsComplete) : ∃ u, exec (.saRemove 5) (holding (saState) (ready 0x801 (key := 11))) = .next u := by
  apply Exists.intro
  apply (h (holding (saState) (ready 0x801 (key := 11))) 5 (ready 0x801 (key := 11))).2.2.2.2.2.1 
  all_goals decide +kernel
theorem witness_saPin (h : Obligations.SaCommandsComplete) : ∃ u, exec (.saPin 5) (holding (saState [(8, some txSa)]) (ready 0x802 (par [(40, [1])]) (key := 8))) = .next u := by
  apply Exists.intro
  apply (h (holding (saState [(8, some txSa)]) (ready 0x802 (par [(40, [1])]) (key := 8))) 5 (ready 0x802 (par [(40, [1])]) (key := 8))).2.2.2.2.2.2.1 txSa
  all_goals decide +kernel
theorem witness_saUnpin (h : Obligations.SaCommandsComplete) : ∃ u, exec (.saPin 5) (holding (saState [(8, some { txSa with pinned := true })]) (ready 0x802 (key := 8))) = .next u := by
  apply Exists.intro
  apply (h (holding (saState [(8, some { txSa with pinned := true })]) (ready 0x802 (key := 8))) 5 (ready 0x802 (key := 8))).2.2.2.2.2.2.2.1 { txSa with pinned := true }
  all_goals decide +kernel
theorem witness_saQuery (h : Obligations.SaCommandsComplete) : ∃ u, exec (.saQuery 5) (holding (saState [(8, some txSa)]) (ready 0x803 (key := 8) (cap := 16))) = .next u := by
  apply Exists.intro
  apply (h (holding (saState [(8, some txSa)]) (ready 0x803 (key := 8) (cap := 16))) 5 (ready 0x803 (key := 8) (cap := 16))).2.2.2.2.2.2.2.2.1 txSa
  all_goals decide +kernel
theorem witness_saQuery_empty (h : Obligations.SaCommandsComplete) : ∃ u, exec (.saQuery 5) (holding (saState) (ready 0x803 (key := 8) (cap := 16))) = .next u := by
  apply Exists.intro
  apply (h (holding (saState) (ready 0x803 (key := 8) (cap := 16))) 5 (ready 0x803 (key := 8) (cap := 16))).2.2.2.2.2.2.2.2.2 
  all_goals decide +kernel
theorem witness_clsWrite (h : Obligations.ClassifierCommandsComplete) : ∃ u, exec (.clsWrite 5) (holding live (ready 0x810 (par [(40, [0xFF, 0x3F])]) (len := 80) (input := zeros 80))) = .next u := by
  apply Exists.intro
  apply (h (holding live (ready 0x810 (par [(40, [0xFF, 0x3F])]) (len := 80) (input := zeros 80))) 5 (ready 0x810 (par [(40, [0xFF, 0x3F])]) (len := 80) (input := zeros 80))).1 1
  all_goals decide +kernel
theorem witness_clsRead (h : Obligations.ClassifierCommandsComplete) : ∃ u, exec (.clsRead 5) (holding live (ready 0x811 (par [(40, [0, 0, 0, 1])]) (cap := 20480))) = .next u := by
  apply Exists.intro
  apply (h (holding live (ready 0x811 (par [(40, [0, 0, 0, 1])]) (cap := 20480))) 5 (ready 0x811 (par [(40, [0, 0, 0, 1])]) (cap := 20480))).2.1 
  all_goals decide +kernel
theorem witness_clsClear (h : Obligations.ClassifierCommandsComplete) : ∃ u, exec (.clsClear 5) (holding live (ready 0x812 (par [(40, [0xFE, 0x3F, 2])]))) = .next u := by
  apply Exists.intro
  apply (h (holding live (ready 0x812 (par [(40, [0xFE, 0x3F, 2])]))) 5 (ready 0x812 (par [(40, [0xFE, 0x3F, 2])]))).2.2.1 
  all_goals decide +kernel
theorem witness_clsInfo (h : Obligations.ClassifierCommandsComplete) : ∃ u, exec (.clsInfo 5) (holding live (ready 0x813 (cap := 16))) = .next u := by
  apply Exists.intro
  apply (h (holding live (ready 0x813 (cap := 16))) 5 (ready 0x813 (cap := 16))).2.2.2.1 
  all_goals decide +kernel
theorem witness_clsStore (h : Obligations.ClassifierCommandsComplete) : (live.setCls 1 [7]).clsEntry 1 = if (1 : Nat) = 1 then [7] else live.clsEntry 1 :=
  (h live 0 (ready 0)).2.2.2.2 1 1 [7] (by decide +kernel)
theorem witness_pnValue (h : Obligations.PacketNumberUsedOnce) : 4 ≤ pnMax 1 txDesc :=
  ((h (saState [(8, some { txSa with next := 4, blocks := [{ start := 1, stop := 5, confirmed := true }] })]) 8 ({ txSa with next := 4, blocks := [{ start := 1, stop := 5, confirmed := true }] }) (by decide +kernel) (by decide +kernel)).1 4 (by decide +kernel)).2.1
theorem witness_pnExhausted (h : Obligations.PacketNumberUsedOnce) : ({ txSa with next := 2 ^ 32 } : Sa).nextValue = .exhausted :=
  (h (saState [(8, some { txSa with next := 2 ^ 32 })]) 8 ({ txSa with next := 2 ^ 32 }) (by decide +kernel) (by decide +kernel)).2.1 (by decide +kernel)

/-! ### Line ports (chapter 12) -/

/-- A line with one port up on each side of pair 0, and its classification table. -/
def lineLive (cls : List (Nat × Bytes) := []) (l : List Flight := []) : State :=
  { serving with
    regs := [(Reg.gctlCtrl, 1), (Reg.prtGroupCtrl, 0x100)]
    pwr := { serving.pwr with portOn := 0xFF }
    line := {
      groups := (List.range 8).map fun g => if g % 4 = 0 then { mode := 1, ports := [{ link := true }, {}, {}, {}] } else {}
      cls := cls
      flights := l } }
/-- A classification entry that every frame matches: class 3, one ACTION. -/
def matchAll (action : Byte) : Bytes := putAt (zeros 80) 72 [3, action, 0, 1]

theorem witness_frameReceive_fcs (h : Obligations.FramePathEffects) : ∃ u, exec (.frameReceive 0 0 (zeros 60) .fcsError false) (lineLive) = .next u :=
  ⟨_, ((h (lineLive)).1 0 0 (zeros 60) false .fcsError (by decide +kernel)).1⟩
theorem witness_frameReceive_short (h : Obligations.FramePathEffects) : ∃ u, exec (.frameReceive 0 0 (zeros 59) .sound false) (lineLive) = .next u :=
  ⟨_, ((h (lineLive)).1 0 0 (zeros 59) false .sound (by decide +kernel)).2.1 (.inl (by decide +kernel)) (by decide +kernel)⟩
theorem witness_frameReceive_inactive (h : Obligations.FramePathEffects) : ∃ u, exec (.frameReceive 4 0 (zeros 60) .sound false) ({ lineLive with regs := [(Reg.prtGroupCtrl, 0x100)] }) = .next u :=
  ⟨_, ((h ({ lineLive with regs := [(Reg.prtGroupCtrl, 0x100)] })).1 4 0 (zeros 60) false .sound (by decide +kernel)).2.1 (.inr (.inr (.inl (by decide +kernel)))) (by decide +kernel)⟩
theorem witness_frameReceive_icode (h : Obligations.FramePathEffects) : ∃ u, exec (.frameReceive 4 0 (zeros 60) .integrityError false) (lineLive) = .next u :=
  ⟨_, ((h (lineLive)).1 4 0 (zeros 60) false .integrityError (by decide +kernel)).2.2 (by decide +kernel) (by decide +kernel) (by decide +kernel) (by decide +kernel) (by decide +kernel) |>.1⟩
theorem witness_frameReceive (h : Obligations.FramePathEffects) : ∃ u, exec (.frameReceive 4 0 (zeros 60) .sound false) (lineLive) = .next u :=
  ⟨_, ((h (lineLive)).1 4 0 (zeros 60) false .sound (by decide +kernel)).2.2 (by decide +kernel) (by decide +kernel) (by decide +kernel) (by decide +kernel) (by decide +kernel) |>.2.1⟩
theorem witness_frame_miss (h : Obligations.FramePathEffects) : ∃ (v : State) (fl : Flight), v.classify fl = (v.prtCount 0 0 Reg.prtClsMissLo).kill fl 0 :=
  ⟨_, _, (((h lineLive).1 0 0 (zeros 60) false .sound (by decide +kernel)).2.2 (by decide +kernel) (by decide +kernel) (by decide +kernel) (by decide +kernel) (by decide +kernel)).2.2.1 (by decide +kernel)⟩
theorem witness_frame_drop (h : Obligations.FramePathEffects) : ∃ (v : State) (fl x : Flight), v.classify fl = (v.prtCount 0 0 Reg.prtRxDropLo).kill x 0x0B :=
  ⟨_, _, _, (((h (lineLive [(0, matchAll 0)])).1 0 0 (zeros 60) false .sound (by decide +kernel)).2.2 (by decide +kernel) (by decide +kernel) (by decide +kernel) (by decide +kernel) (by decide +kernel)).2.2.2.1 (clsResult 0 (matchAll 0)) (by decide +kernel) (by decide +kernel) (by decide +kernel)⟩
theorem witness_frame_bypass (h : Obligations.FramePathEffects) : ∃ (v : State) (fl x : Flight), v.classify fl = v.toEgress x :=
  by
  refine ⟨_, _, _, (((h (lineLive [(0, matchAll 2)])).1 4 0 (zeros 60) false .sound ?_).2.2 ?_ ?_ ?_ ?_ ?_).2.2.2.2 (clsResult 0 (matchAll 2)) ?_ ?_ ?_ ?_ ?_ ?_ ?_⟩
  all_goals decide +kernel
theorem witness_saContextFetchDone (h : Obligations.FramePathEffects) : ∃ u, exec (.saContextFetchDone 8 .clean) (saState [(8, some txSa)]) = .next u := by
  apply Exists.intro
  apply (h (saState [(8, some txSa)])).2.1 8 .clean
  all_goals decide +kernel
theorem witness_saContextFetchDone_ue (h : Obligations.FramePathEffects) : ∃ u, exec (.saContextFetchDone 8 (.uncorrectable ⟨64, true⟩)) (saState [(8, some txSa)]) = .next u := by
  apply Exists.intro
  apply (h (saState [(8, some txSa)])).2.2.1 8 _ ⟨64, true⟩
  all_goals decide +kernel
theorem witness_saContextFetchDone_frame (h : Obligations.FramePathEffects) : ∃ u, exec (.saContextFetchDone 8 .clean) ({ saState with line := { sas := [(8, some txSa)], flights := [{ id := 0, group := 0, port := 0, frame := zeros 60, wire := zeros 60, stage := .firstRead, awaits := [8] }] } }) = .next u := by
  apply Exists.intro
  apply (h ({ saState with line := { sas := [(8, some txSa)], flights := [{ id := 0, group := 0, port := 0, frame := zeros 60, wire := zeros 60, stage := .firstRead, awaits := [8] }] } })).2.2.2.1 8 .clean ({ id := 0, group := 0, port := 0, frame := zeros 60, wire := zeros 60, stage := .firstRead, awaits := [8] })
  all_goals decide +kernel
theorem witness_frameEgressEnd (h : Obligations.FramePathEffects) : ∃ u, exec (.frameEgressEnd 0) (lineLive [] [{ id := 0, group := 4, port := 0, frame := zeros 60, wire := zeros 60, stage := .wire }]) = .next u :=
  ⟨_, ((h (lineLive [] [{ id := 0, group := 4, port := 0, frame := zeros 60, wire := zeros 60, stage := .wire }])).2.2.2.2.1 0 ({ id := 0, group := 4, port := 0, frame := zeros 60, wire := zeros 60, stage := .wire }) (by decide +kernel)).2 (by decide +kernel) (by decide +kernel) (by decide +kernel)⟩
theorem witness_frameEgressEnd_down (h : Obligations.FramePathEffects) : ∃ u, exec (.frameEgressEnd 0) ({ live with line := { flights := [{ id := 0, group := 4, port := 0, frame := zeros 60, wire := zeros 60, stage := .wire }] } }) = .next u :=
  ⟨_, ((h ({ live with line := { flights := [{ id := 0, group := 4, port := 0, frame := zeros 60, wire := zeros 60, stage := .wire }] } })).2.2.2.2.1 0 ({ id := 0, group := 4, port := 0, frame := zeros 60, wire := zeros 60, stage := .wire }) (by decide +kernel)).1 (by decide +kernel)⟩
theorem witness_tcLaunch (h : Obligations.FramePathEffects) : ∃ u, exec (.tcLaunch 0 true) (lineLive [] [{ id := 0, group := 4, port := 0, frame := zeros 60, wire := zeros 60, stage := .launch }]) = .next u :=
  ⟨_, ((h (lineLive [] [{ id := 0, group := 4, port := 0, frame := zeros 60, wire := zeros 60, stage := .launch }])).2.2.2.2.2.1 0 ({ id := 0, group := 4, port := 0, frame := zeros 60, wire := zeros 60, stage := .launch }) (by decide +kernel)).1 (by decide +kernel)⟩
theorem witness_tcLaunch_busy (h : Obligations.FramePathEffects) : ∃ u, exec (.tcLaunch 0 true) (lineLive [] [{ id := 0, group := 4, port := 0, frame := zeros 60, wire := zeros 60, stage := .launch }, { id := 1, group := 4, port := 0, frame := zeros 60, wire := zeros 60, stage := .wire }]) = .next u :=
  ⟨_, ((h (lineLive [] [{ id := 0, group := 4, port := 0, frame := zeros 60, wire := zeros 60, stage := .launch }, { id := 1, group := 4, port := 0, frame := zeros 60, wire := zeros 60, stage := .wire }])).2.2.2.2.2.1 0 ({ id := 0, group := 4, port := 0, frame := zeros 60, wire := zeros 60, stage := .launch }) (by decide +kernel)).2.1 (by decide +kernel)⟩
theorem witness_tcLaunch_late (h : Obligations.FramePathEffects) : ∃ u, exec (.tcLaunch 0 false) (lineLive [] [{ id := 0, group := 4, port := 0, frame := zeros 60, wire := zeros 60, stage := .launch }]) = .next u :=
  ⟨_, ((h (lineLive [] [{ id := 0, group := 4, port := 0, frame := zeros 60, wire := zeros 60, stage := .launch }])).2.2.2.2.2.1 0 ({ id := 0, group := 4, port := 0, frame := zeros 60, wire := zeros 60, stage := .launch }) (by decide +kernel)).2.2⟩
theorem witness_tcEntryLapse (h : Obligations.FramePathEffects) : ∃ u, exec (.tcEntryLapse 3 true) ({ live with line := { tc := [{ pair := 3, fromLine := true, domain := 0, source := [], seqId := [], residence := 0 }] } }) = .next u :=
  ⟨_, (h ({ live with line := { tc := [{ pair := 3, fromLine := true, domain := 0, source := [], seqId := [], residence := 0 }] } })).2.2.2.2.2.2 3 true ({ pair := 3, fromLine := true, domain := 0, source := [], seqId := [], residence := 0 }) (by decide +kernel)⟩
theorem witness_lineEnWrite (h : Obligations.PortCommandsComplete) : ∃ u, exec (.lineEnWrite 1) (lineLive) = .next u :=
  ⟨_, (h (lineLive)).1 1 (by decide +kernel) (by decide +kernel)⟩
theorem witness_applyGroup (h : Obligations.PortCommandsComplete) : ∃ u, exec (.applyGroup 7 0x236) (lineLive) = .next u :=
  ⟨_, (h (lineLive)).2.1 7 0x236 (by decide +kernel) (by decide +kernel) (by decide +kernel)⟩
theorem witness_applyDone (h : Obligations.PortCommandsComplete) : ∃ u, exec (.applyDone 7) (lineLive) = .next u :=
  ⟨_, (h (lineLive)).2.2.1 7⟩
theorem witness_portCounterClear (h : Obligations.PortCommandsComplete) : ∃ u, exec (.portCounterClear 7 0x100) (lineLive) = .next u :=
  let ⟨u, hu, _⟩ := (h lineLive).2.2.2.1 7 0x100 (by decide +kernel) (by decide +kernel) (by decide +kernel)
  ⟨u, hu⟩
theorem witness_counterLoRead (h : Obligations.PortCommandsComplete) : ∃ u, exec (.counterLoRead Reg.lceLkaBytesLo) (lineLive) = .next u :=
  ⟨_, (h (lineLive)).2.2.2.2.1 Reg.lceLkaBytesLo (4 * Reg.lceLkaBytesLo) (by decide +kernel) (by decide +kernel) (by decide +kernel) (by decide +kernel)⟩
theorem witness_linkUp (h : Obligations.PortCommandsComplete) : ∃ u, exec (.linkUp 0 0 true) (lineLive) = .next u :=
  ⟨_, (h (lineLive)).2.2.2.2.2.1 0 0 true (by decide +kernel) (by decide +kernel) (by decide +kernel) (by decide +kernel) (by decide +kernel)⟩
theorem witness_linkDown (h : Obligations.PortCommandsComplete) : ∃ u, exec (.linkDown 7 3 true true true true) (lineLive) = .next u :=
  ⟨_, (h (lineLive)).2.2.2.2.2.2.1 7 3 true true true true (by decide +kernel)⟩
theorem witness_ratchetDeriveDone (h : Obligations.PortCommandsComplete) : ∃ u, exec (.ratchetDeriveDone 8) (saState [(8, some { txSa with deriving_ := true })]) = .next u :=
  ⟨_, (h (saState [(8, some { txSa with deriving_ := true })])).2.2.2.2.2.2.2.1 8 ({ txSa with deriving_ := true }) (by decide +kernel) (by decide +kernel) |>.2 (by decide +kernel)⟩
theorem witness_ratchetDeriveDone_blocked (h : Obligations.PortCommandsComplete) : ∃ u, exec (.ratchetDeriveDone 8) (saState [(8, some { txSa with deriving_ := true }), (9, some txSa)]) = .next u :=
  ⟨_, (h (saState [(8, some { txSa with deriving_ := true }), (9, some txSa)])).2.2.2.2.2.2.2.1 8 ({ txSa with deriving_ := true }) (by decide +kernel) (by decide +kernel) |>.1 (by decide +kernel)⟩
theorem witness_ratchetOverlapEnd (h : Obligations.PortCommandsComplete) : ∃ u, exec (.ratchetOverlapEnd 8) (saState [(8, some { txSa with overlap := true })]) = .next u :=
  ⟨_, (h (saState [(8, some { txSa with overlap := true })])).2.2.2.2.2.2.2.2.1 8 ({ txSa with overlap := true }) (by decide +kernel) (by decide +kernel)⟩
theorem witness_pipelineSelftest_deferred (h : Obligations.PortCommandsComplete) : ∃ u, exec (.pipelineSelftest 15 none) (lineLive) = .next u :=
  ⟨_, (h (lineLive)).2.2.2.2.2.2.2.2.2.1 15 (by decide +kernel) (by decide +kernel) (by decide +kernel) |>.1⟩
theorem witness_pipelineSelftest_passes (h : Obligations.PortCommandsComplete) : ∃ u, exec (.pipelineSelftest 15 (some true)) (lineLive) = .next u :=
  ⟨_, (h (lineLive)).2.2.2.2.2.2.2.2.2.1 15 (by decide +kernel) (by decide +kernel) (by decide +kernel) |>.2.1⟩
theorem witness_pipelineSelftest_fails (h : Obligations.PortCommandsComplete) : ∃ u, exec (.pipelineSelftest 15 (some false)) (lineLive) = .next u :=
  ⟨_, (h (lineLive)).2.2.2.2.2.2.2.2.2.1 15 (by decide +kernel) (by decide +kernel) (by decide +kernel) |>.2.2⟩
theorem witness_pipeUnfence (h : Obligations.PortCommandsComplete) : ∃ u, exec (.pipeUnfence 0x8001 0xFFFF) (lineLive) = .next u :=
  let ⟨u, hu, _⟩ := (h lineLive).2.2.2.2.2.2.2.2.2.2.1 0x8001 0xFFFF (by decide +kernel) (by decide +kernel) (by decide +kernel)
  ⟨u, hu⟩
theorem witness_saBaseWrite (h : Obligations.PortCommandsComplete) : ∃ u, exec (.saBaseWrite 0xFFFFFF) (lineLive) = .next u :=
  ⟨_, (h (lineLive)).2.2.2.2.2.2.2.2.2.2.2.1 0xFFFFFF (by decide +kernel) (by decide +kernel)⟩
theorem witness_saCountWrite (h : Obligations.PortCommandsComplete) : ∃ u, exec (.saCountWrite 1) ({ lineLive with saStage := 0xFFFFFF }) = .next u :=
  ⟨_, (h ({ lineLive with saStage := 0xFFFFFF })).2.2.2.2.2.2.2.2.2.2.2.2 1 (by decide +kernel) (by decide +kernel) |>.1 (by decide +kernel) (by decide +kernel) (List.forall_mem_nil _)⟩
theorem witness_saCountWrite_refused (h : Obligations.PortCommandsComplete) : ∃ u, exec (.saCountWrite 2) ({ lineLive with saStage := 0xFFFFFF }) = .next u :=
  ⟨_, (h ({ lineLive with saStage := 0xFFFFFF })).2.2.2.2.2.2.2.2.2.2.2.2 2 (by decide +kernel) (by decide +kernel) |>.2 (.inr (by decide +kernel))⟩

/-! ### Functions and transfers (chapters 10 and 11) -/

/-- The live device with 255 VFs. -/
def vfs : State := { live with vfEnable := true, numVfs := 255 }
/-- VF 255 with an enabled queue 255, its channel as given. -/
def vfQueue (c : Channel := {}) (x : Func := funcReset 255) : State :=
  { vfs with queues := [(65535, openQueue)], chans := [(255, c)], funcs := [(255, x)] }

theorem witness_wrongSizeAccess (h : Obligations.FunctionCommandsComplete) : ∃ u, exec (.wrongSizeAccess 255 1 2 true) (vfs) = .next u :=
  ⟨_, (h (vfs) 255).1 1 2 true (by decide +kernel)⟩
theorem witness_poweredDownAccess (h : Obligations.FunctionCommandsComplete) : ∃ u, exec (.poweredDownAccess 0x100000 true) ({ live with pwr := { live.pwr with state := 2 } }) = .next u :=
  ⟨_, (h ({ live with pwr := { live.pwr with state := 2 } }) 0).2.1 0x100000 (by decide +kernel) (by decide +kernel) |>.1⟩
theorem witness_poweredDownAccess_read (h : Obligations.FunctionCommandsComplete) : ∃ u, exec (.poweredDownAccess 0x170000 false) ({ live with pwr := { live.pwr with state := 1, portOn := 0x7F } }) = .next u :=
  ⟨_, (h ({ live with pwr := { live.pwr with state := 1, portOn := 0x7F } }) 0).2.1 0x170000 (by decide +kernel) (by decide +kernel) |>.2⟩
theorem witness_busMasterEnable_off (h : Obligations.FunctionCommandsComplete) : ∃ u, exec (.busMasterEnableChange 255 false) (vfs) = .next u :=
  ⟨_, (h (vfs) 255).2.2.1 false (by decide +kernel)⟩
theorem witness_busMasterEnable_on (h : Obligations.FunctionCommandsComplete) : ∃ u, exec (.busMasterEnableChange 255 true) (vfs) = .next u :=
  ⟨_, (h (vfs) 255).2.2.1 true (by decide +kernel)⟩
theorem witness_d3hotEntry (h : Obligations.FunctionCommandsComplete) : ∃ u, exec (.d3hotEntry 0) (vfs) = .next u :=
  ⟨_, (h (vfs) 0).2.2.2.2.1 (by decide +kernel) (by decide +kernel)⟩
theorem witness_d3hotEntry_resets (h : Obligations.FunctionCommandsComplete) : ∃ u, exec (.d3hotEntry 255) ({ vfs with queues := [(65535, openQueue)] }) = .next u :=
  ⟨_, (h ({ vfs with queues := [(65535, openQueue)] }) 255).2.2.2.2.2.1 (by decide +kernel) (by decide +kernel)⟩
theorem witness_vfFlr (h : Obligations.FunctionCommandsComplete) : ∃ u, exec (.vfFlr 255) (vfs) = .next u :=
  ⟨_, (h (vfs) 255).2.2.2.2.2.2.1 (by decide +kernel) (by decide +kernel)⟩
theorem witness_pf0Flr (h : Obligations.FunctionCommandsComplete) : ∃ u, exec (.pf0Flr) (vfs) = .next u :=
  ⟨_, (h (vfs) 0).2.2.2.2.2.2.2.1 ⟩
theorem witness_vfEnableClear (h : Obligations.FunctionCommandsComplete) : ∃ u, exec (.vfEnableClear) (vfs) = .next u :=
  ⟨_, (h (vfs) 0).2.2.2.2.2.2.2.2.1 (by decide +kernel)⟩
theorem witness_flrComplete (h : Obligations.FunctionCommandsComplete) : ∃ u, exec (.flrComplete 255) (vfs) = .next u :=
  ⟨_, (h (vfs) 255).2.2.2.2.2.2.2.2.2.1 ⟩
theorem witness_vfReset (h : Obligations.FunctionCommandsComplete) : (({ vfs with queues := [(65535, openQueue)] } : State).beginFlr 255).chan 255 = {} :=
  ((h ({ vfs with queues := [(65535, openQueue)] }) 255).2.2.2.2.2.2.2.2.2.2 (by constructor <;> decide +kernel) (by decide +kernel) (by decide +kernel)).2.1
theorem witness_transferFail_halts (h : Obligations.TransferCommandsComplete) : ∃ u, exec (.dmaTransferFail 0 .entryRead .unsupported 0 0 0) ({ live with regs := [(Reg.dmaCtrl, 0)] }) = .next u :=
  ⟨_, (h ({ live with regs := [(Reg.dmaCtrl, 0)] }) 0).1 .entryRead .unsupported 0 0 0 (by decide +kernel) (by decide +kernel) (.inl rfl) |>.1 (by decide +kernel)⟩
theorem witness_transferFail_flush (h : Obligations.TransferCommandsComplete) : ∃ u, exec (.dmaTransferFail 0 .entryRead .flushing 64 0 0) ({ live with regs := [(Reg.dmaCtrl, 1)], chans := [(0, { unflushed := [⟨⟨0, 64, [1]⟩, .statusWrite, 0, 0⟩] })] }) = .next u :=
  ⟨_, (h ({ live with regs := [(Reg.dmaCtrl, 1)], chans := [(0, { unflushed := [⟨⟨0, 64, [1]⟩, .statusWrite, 0, 0⟩] })] }) 0).1 .entryRead .flushing 64 0 0 (by decide +kernel) (by decide +kernel) (.inr (.inr (.inr rfl))) |>.2 (by decide +kernel)⟩
theorem witness_transferFail (h : Obligations.TransferCommandsComplete) : ∃ u, exec (.dmaTransferFail 0 .statusWrite .flushing 0 0 0) ({ live with regs := [(Reg.dmaCtrl, 1)] }) = .next u :=
  ⟨_, (h ({ live with regs := [(Reg.dmaCtrl, 1)] }) 0).1 .statusWrite .flushing 0 0 0 (by decide +kernel) (by decide +kernel) (.inr (.inr (.inr rfl))) |>.2 (by decide +kernel)⟩
/-- RETRY and a failed transfer of PF0 tried n times. -/
def failing (n : Nat) (retry : W32 := 7) : State :=
  { live with
    regs := [(Reg.dmaCtrl, retry)]
    chans := [(0, { failed := [{ kind := .entryRead, cause := .unsupported, addr := 0, qid := 0, tag := 0, tries := n }] })] }

theorem witness_retry_none (h : Obligations.TransferCommandsComplete) : ∃ u, exec (.dmaRetry 0 true) (failing 0 0) = .next u :=
  ⟨_, ((h (failing 0 0) 0).2.1 ({ kind := .entryRead, cause := .unsupported, addr := 0, qid := 0, tag := 0, tries := 0 }) [] (by decide +kernel) (by decide +kernel)).1 (by decide +kernel) true⟩
theorem witness_retry_lands (h : Obligations.TransferCommandsComplete) : ∃ u, exec (.dmaRetry 0 true) (failing 6) = .next u :=
  ⟨_, ((h (failing 6) 0).2.1 ({ kind := .entryRead, cause := .unsupported, addr := 0, qid := 0, tag := 0, tries := 6 }) [] (by decide +kernel) (by decide +kernel)).2.1 (by decide +kernel) (by decide +kernel)⟩
theorem witness_retry_again (h : Obligations.TransferCommandsComplete) : ∃ u, exec (.dmaRetry 0 false) (failing 5) = .next u :=
  ⟨_, ((h (failing 5) 0).2.1 ({ kind := .entryRead, cause := .unsupported, addr := 0, qid := 0, tag := 0, tries := 5 }) [] (by decide +kernel) (by decide +kernel)).2.2.1 false (by decide +kernel) (.inl rfl) (by decide +kernel)⟩
theorem witness_retry_last (h : Obligations.TransferCommandsComplete) : ∃ u, exec (.dmaRetry 0 false) (failing 6) = .next u :=
  ⟨_, ((h (failing 6) 0).2.1 ({ kind := .entryRead, cause := .unsupported, addr := 0, qid := 0, tag := 0, tries := 6 }) [] (by decide +kernel) (by decide +kernel)).2.2.2 false (by decide +kernel) (.inl rfl) (by decide +kernel)⟩
theorem witness_halt (h : Obligations.TransferCommandsComplete) : ((live.haltChannel 0 ({ kind := .entryRead, cause := .unsupported, addr := 0, qid := 0, tag := 0, tries := 0 })).chan 0).halted = true :=
  ((h live 0).2.2.1 ({ kind := .entryRead, cause := .unsupported, addr := 0, qid := 0, tag := 0, tries := 0 }) (by constructor <;> decide +kernel) (by decide +kernel)).1
theorem witness_chanClear (h : Obligations.TransferCommandsComplete) : ∃ u, exec (.chanClear 1) (live) = .next u :=
  ⟨_, (h (live) 0).2.2.2.1 1 (by decide +kernel) (by decide +kernel) (by decide +kernel) (by decide +kernel)⟩
theorem witness_sync (h : Obligations.TransferCommandsComplete) : ∃ u, exec (.sync 3) ({ live with regs := [(Reg.vfcFuncSel, 255)] }) = .next u :=
  ⟨_, (h ({ live with regs := [(Reg.vfcFuncSel, 255)] }) 0).2.2.2.2.1 3 (by decide +kernel) (by decide +kernel) (by decide +kernel) (by decide +kernel) |>.1 (by decide +kernel) (by decide +kernel)⟩
theorem witness_sync_waits (h : Obligations.TransferCommandsComplete) : ∃ u, exec (.sync 3) ({ live with regs := [(Reg.vfcFuncSel, 255)], funcs := [] }) = .next u :=
  ⟨_, (h ({ live with regs := [(Reg.vfcFuncSel, 255)], funcs := [] }) 0).2.2.2.2.1 3 (by decide +kernel) (by decide +kernel) (by decide +kernel) (by decide +kernel) |>.2 (by decide +kernel)⟩
theorem witness_syncReadReturn (h : Obligations.TransferCommandsComplete) : ∃ u, exec (.syncReadReturn 255 false) (vfQueue {} { funcReset 255 with syncing := true }) = .next u :=
  ⟨_, (h (vfQueue {} { funcReset 255 with syncing := true }) 255).2.2.2.2.2.1 false (by decide +kernel) (by decide +kernel)⟩
theorem witness_msixPendingSend (h : Obligations.TransferCommandsComplete) : ∃ u, exec (.msixPendingSend 0 7) ({ live with vectors := [(7, { pending := true })] }) = .next u :=
  ⟨_, (h ({ live with vectors := [(7, { pending := true })] }) 0).2.2.2.2.2.2 7 (by decide +kernel)⟩

/-! ### Registers (chapters 0 and 1) -/

theorem witness_access_rw (h : Obligations.RegisterWriteEffect) : ∃ w, flag (({ off := 0, rw := 1 } : RegRow).write 0 1) 0 = w :=
  ⟨_, (h.1 ({ off := 0, rw := 1 }) 0 1 0 (by decide +kernel) (by decide +kernel) (by decide +kernel)).1 (by decide +kernel)⟩
theorem witness_access_w1c (h : Obligations.RegisterWriteEffect) : ∃ w, flag (({ off := 0, w1c := 1 } : RegRow).write 1 1) 0 = w :=
  ⟨_, (h.1 ({ off := 0, w1c := 1 }) 1 1 0 (by decide +kernel) (by decide +kernel) (by decide +kernel)).2.1 (by decide +kernel)⟩
theorem witness_access_w1s (h : Obligations.RegisterWriteEffect) : ∃ w, flag (({ off := 0, w1s := 1 } : RegRow).write 0 1) 0 = w :=
  ⟨_, (h.1 ({ off := 0, w1s := 1 }) 0 1 0 (by decide +kernel) (by decide +kernel) (by decide +kernel)).2.2.1 (by decide +kernel)⟩
theorem witness_access_kept (h : Obligations.RegisterWriteEffect) : flag (({ off := 0 } : RegRow).write 1 0) 0 = flag 1 0 :=
  (h.1 { off := 0 } 1 0 0 (by decide +kernel) (by decide +kernel) (by decide +kernel)).2.2.2 (by decide +kernel) (by decide +kernel) (by decide +kernel)
theorem witness_access_absent (h : Obligations.RegisterWriteEffect) : live.plainWrite 2 1 = live :=
  ((h.2 live 1).1 2 (by constructor <;> decide +kernel)).1 (by decide +kernel)
theorem witness_access_row (h : Obligations.RegisterWriteEffect) : ∃ r : RegRow, (live.plainWrite Reg.gctlScratch 1).reg Reg.gctlScratch = r.write (live.reg Reg.gctlScratch) 1 :=
  ⟨{ off := Reg.gctlScratch, rw := 0xFFFFFFFF }, ((h.2 live 1).1 Reg.gctlScratch (by constructor <;> decide +kernel)).2.1 _ (by decide +kernel)⟩
theorem witness_access_other (h : Obligations.RegisterWriteEffect) : (live.plainWrite Reg.gctlScratch 1).reg 0 = live.reg 0 :=
  ((h.2 live 1).1 Reg.gctlScratch (by constructor <;> decide +kernel)).2.2 0 (by decide +kernel)
theorem witness_scratch (h : Obligations.RegisterWriteEffect) : ∃ u, exec (.registerWrite Reg.gctlScratch 0xFFFFFFFF) (live) = .next u :=
  ⟨_, (h.2 (live) 0xFFFFFFFF).2.1 (by decide +kernel) (by decide +kernel)⟩
theorem witness_mrgAlg_locked (h : Obligations.RegisterWriteEffect) : ∃ u, exec (.registerWrite Reg.dgeMrgAlg 1) ({ live with regs := [(Reg.dgeMrgCtrl, 1)] }) = .next u :=
  ⟨_, (h.2 ({ live with regs := [(Reg.dgeMrgCtrl, 1)] }) 1).2.2.2.2.2.2.2.1 (by decide +kernel) (by decide +kernel) (by decide +kernel)⟩
theorem witness_mrgAlg_poweredDown (h : Obligations.RegisterWriteEffect) : ∃ u, exec (.registerWrite Reg.dgeMrgAlg 1) ({ live with pwr := { live.pwr with state := 3 } }) = .next u :=
  ⟨_, (h.2 ({ live with pwr := { live.pwr with state := 3 } }) 1).2.2.2.2.2.2.2.2.1 (by decide +kernel) (by decide +kernel)⟩
theorem witness_scratch_terminated (h : Obligations.RegisterWriteEffect) : ∃ u, exec (.registerWrite Reg.gctlScratch 1) ({ live with lcs := { live.lcs with state := .terminated } }) = .next u :=
  ⟨_, (h.2 ({ live with lcs := { live.lcs with state := .terminated } }) 1).2.2.2.2.2.2.2.2.2.1 (by decide +kernel) (by decide +kernel)⟩
theorem witness_write_unaligned (h : Obligations.RegisterWriteEffect) : exec (.registerWrite 0x7FFFFFF 1) live = exec (.wrongSizeAccess 0 0x7FFFFFF 4 true) live :=
  (h.2 live 1).2.2.2.2.2.2.2.2.2.2.1 0x7FFFFFF (by decide +kernel) (by decide +kernel)
theorem witness_deviceControl (h : Obligations.RegisterWriteEffect) : ∃ u, exec (.registerWrite (0x10000000 + 0x1000 * 255 + 0x404) 0x20F0) (vfs) = .next u :=
  ⟨_, (h.2 (vfs) 0x20F0).2.2.2.2.2.2.2.2.2.2.2.1 255 (by decide +kernel) (by decide +kernel) (by decide +kernel)⟩
theorem witness_vendorId_vf (h : Obligations.RegisterWriteEffect) : live.configRead 255 0 = 0xFFFFFFFF :=
  ((h.2 live 0).2.2.2.2.2.2.2.2.2.2.2.2.2.1 255).1 (by decide +kernel)
theorem witness_write_outside_first (h : Obligations.RegisterWriteEffect) : exec (.registerWrite 0x8000000 1) live = .fault .outsideBar :=
  (h.2 live 1).2.2.2.2.2.2.2.2.2.2.2.2.2.2 0x8000000 (by decide +kernel)
theorem witness_write_outside_last (h : Obligations.RegisterWriteEffect) : exec (.registerWrite 0x10100000 1) live = .fault .outsideBar :=
  (h.2 live 1).2.2.2.2.2.2.2.2.2.2.2.2.2.2 0x10100000 (by decide +kernel)

/-! ### Reset, boot and power (chapters 2 and 20) -/

theorem witness_porstFall (h : Obligations.ColdResetKeeps) : ∃ u, exec (.porstFall) (live) = .next u :=
  let ⟨u, hu, _⟩ := h (live) (.porstFall) 2 0 (by constructor <;> decide +kernel) (by decide +kernel) (.inl ⟨rfl, rfl⟩)
  ⟨u, hu⟩
theorem witness_testmodeAssert (h : Obligations.ColdResetKeeps) : ∃ u, exec (.testmodeAssert) (live) = .next u :=
  let ⟨u, hu, _⟩ := h (live) (.testmodeAssert) 2 0 (by constructor <;> decide +kernel) (by decide +kernel) (.inr (.inl ⟨rfl, rfl⟩))
  ⟨u, hu⟩
theorem witness_supplyMonitorReset (h : Obligations.ColdResetKeeps) : ∃ u, exec (.supplyMonitorReset 0x7FE) (live) = .next u :=
  let ⟨u, hu, _⟩ := h (live) (.supplyMonitorReset 0x7FE) 4 0x7FE (by constructor <;> decide +kernel) (by decide +kernel) (.inr (.inr (.inl ⟨rfl, rfl, (by decide +kernel)⟩)))
  ⟨u, hu⟩
theorem witness_mainPowerLoss (h : Obligations.ColdResetKeeps) : ∃ u, exec (.mainPowerLoss) (live) = .next u :=
  let ⟨u, hu, _⟩ := h (live) (.mainPowerLoss) 1 0 (by constructor <;> decide +kernel) (by decide +kernel) (.inr (.inr (.inr ⟨rfl, rfl, (by decide +kernel)⟩)))
  ⟨u, hu⟩
theorem witness_porstRise (h : Obligations.BootCommandsComplete) : ∃ u, exec (.porstRise {}) (State.reset) = .next u :=
  ⟨_, (h (State.reset) {}).1 ⟩
theorem witness_testmodeDeassert (h : Obligations.BootCommandsComplete) : ∃ u, exec (.testmodeDeassert {}) (State.reset) = .next u :=
  ⟨_, (h (State.reset) {}).2.1 ⟩
theorem witness_supplyMonitorRelease (h : Obligations.BootCommandsComplete) : ∃ u, exec (.supplyMonitorRelease {}) ({ State.reset with pwr := { State.reset.pwr with supplyHold := true } }) = .next u :=
  ⟨_, (h ({ State.reset with pwr := { State.reset.pwr with supplyHold := true } }) {}).2.2.1 (by decide +kernel) (by decide +kernel)⟩
theorem witness_boot_held (h : Obligations.BootCommandsComplete) : State.reset.boot {} = State.reset :=
  (h State.reset {}).2.2.2.1 (by decide +kernel)
theorem witness_boot_again (h : Obligations.BootCommandsComplete) : live.boot {} = live :=
  (h live {}).2.2.2.2.1 (by decide +kernel)
theorem witness_boot_blank (h : Obligations.BootCommandsComplete) : (({ State.reset with pwr := { State.reset.pwr with porstLow := false } } : State).boot {}).lcs.decodeInvalid = (stateOfCode 0).isNone :=
  ((h ({ State.reset with pwr := { State.reset.pwr with porstLow := false } }) {}).2.2.2.2.2.1 (by decide +kernel) (by decide +kernel)).2
theorem witness_vddUstReturn (h : Obligations.BootCommandsComplete) : ∃ u, exec (.vddUstReturn) (live) = .next u :=
  ⟨_, (h (live) {}).2.2.2.2.2.2.1 ⟩
theorem witness_hbmTrainingDone (h : Obligations.BootCommandsComplete) : ∃ u, exec (.hbmTrainingDone 15 15) ({ live with lcs := { live.lcs with phase := .rom } }) = .next u :=
  ⟨_, (h ({ live with lcs := { live.lcs with phase := .rom } }) {}).2.2.2.2.2.2.2.1 15 15 (.inl (by decide +kernel)) (by decide +kernel)⟩
theorem witness_warm (h : Obligations.BootCommandsComplete) : ∃ u, exec (.warm 1) (live) = .next u := by
  refine Exists.imp (fun u hu => hu.1) ((h live {}).2.2.2.2.2.2.2.2 1 (by constructor <;> decide +kernel) ?_ ?_ ?_ ?_ ?_ ?_ ?_)
  all_goals decide +kernel
theorem witness_perstAssert (h : Obligations.PowerCommandsComplete) : ∃ u, exec (.perstAssert) (live) = .next u :=
  ⟨_, (h (live)).1 (by decide +kernel) (by decide +kernel)⟩
theorem witness_perstDeassert (h : Obligations.PowerCommandsComplete) : ∃ u, exec (.perstDeassert) (live) = .next u :=
  ⟨_, (h (live)).2.1 ⟩
theorem witness_pcieRefLoss (h : Obligations.PowerCommandsComplete) : ∃ u, exec (.pcieRefLoss) (live) = .next u :=
  ⟨_, (h (live)).2.2.1 ⟩
theorem witness_pcieRefReturn (h : Obligations.PowerCommandsComplete) : ∃ u, exec (.pcieRefReturn) (live) = .next u :=
  ⟨_, (h (live)).2.2.2.1 ⟩
theorem witness_pcieLinkDown (h : Obligations.PowerCommandsComplete) : ∃ u, exec (.pcieLinkDown) (live) = .next u :=
  ⟨_, (h (live)).2.2.2.2.1 ⟩
theorem witness_pcieDown_down (h : Obligations.PowerCommandsComplete) : State.reset.pcieDown = State.reset :=
  (h State.reset).2.2.2.2.2.1 (by decide +kernel)
theorem witness_pcieDown (h : Obligations.PowerCommandsComplete) : live.pcieDown.linkUp = false :=
  ((h live).2.2.2.2.2.2.1 (by decide +kernel)).2
theorem witness_pcieLinkUp (h : Obligations.PowerCommandsComplete) : ∃ u, exec (.pcieLinkUp) (live) = .next u :=
  ⟨_, (h (live)).2.2.2.2.2.2.2.1 (by decide +kernel) (by decide +kernel) (by decide +kernel) |>.2.2.2⟩
theorem witness_setPowerState_same (h : Obligations.PowerCommandsComplete) : ∃ u, exec (.setPowerState 5) (holding live (ready 0x20)) = .next u :=
  by
  refine ⟨_, ((h (holding live (ready 0x20))).2.2.2.2.2.2.2.2.1 5 (ready 0x20) ?_ ?_ ?_ ?_ ?_ ?_ ?_ ?_ ?_).1 ?_ ?_⟩
  all_goals decide +kernel
theorem witness_setPowerState (h : Obligations.PowerCommandsComplete) : ∃ u, exec (.setPowerState 5) (holding live (ready 0x20 (par [(40, [4])]))) = .next u :=
  by
  refine ⟨_, ((h (holding live (ready 0x20 (par [(40, [4])])))).2.2.2.2.2.2.2.2.1 5 (ready 0x20 (par [(40, [4])])) ?_ ?_ ?_ ?_ ?_ ?_ ?_ ?_ ?_).2 (.inl ?_)⟩
  all_goals decide +kernel
theorem witness_setPowerState_p1 (h : Obligations.PowerCommandsComplete) : ∃ u, exec (.setPowerState 5) (holding live (ready 0x20 (par [(40, [1, 1, 1])]))) = .next u :=
  by
  refine ⟨_, ((h (holding live (ready 0x20 (par [(40, [1, 1, 1])])))).2.2.2.2.2.2.2.2.1 5 (ready 0x20 (par [(40, [1, 1, 1])])) ?_ ?_ ?_ ?_ ?_ ?_ ?_ ?_ ?_).2 (.inr ?_)⟩
  all_goals decide +kernel
theorem witness_powerQuery (h : Obligations.PowerCommandsComplete) : ∃ u, exec (.powerQuery 5) (holding live (ready 0x21 (cap := 16))) = .next u :=
  ⟨_, (h (holding live (ready 0x21 (cap := 16)))).2.2.2.2.2.2.2.2.2.1 5 (ready 0x21 (cap := 16)) (by decide +kernel) (by decide +kernel) (by decide +kernel) (by decide +kernel) (by decide +kernel) (by decide +kernel)⟩
theorem witness_drainTimeout (h : Obligations.PowerCommandsComplete) : ∃ u, exec (.drainTimeout) ({ live with pwr := { live.pwr with change := some { slot := none, target := 2, cellOn := 0, portOn := 0, trunkOn := false, began := 0 } } }) = .next u :=
  ⟨_, (h ({ live with pwr := { live.pwr with change := some { slot := none, target := 2, cellOn := 0, portOn := 0, trunkOn := false, began := 0 } } })).2.2.2.2.2.2.2.2.2.2.1 ({ slot := none, target := 2, cellOn := 0, portOn := 0, trunkOn := false, began := 0 }) (by decide +kernel) (by decide +kernel)⟩
theorem witness_powerStateChangeDone (h : Obligations.PowerCommandsComplete) : ∃ u, exec (.powerStateChangeDone) ({ live with pwr := { live.pwr with change := some { slot := none, target := 2, cellOn := 0, portOn := 0, trunkOn := false, began := 0 } } }) = .next u :=
  let ⟨u, hu, _⟩ := (h ({ live with pwr := { live.pwr with change := some { slot := none, target := 2, cellOn := 0, portOn := 0, trunkOn := false, began := 0 } } })).2.2.2.2.2.2.2.2.2.2.2.1 ({ slot := none, target := 2, cellOn := 0, portOn := 0, trunkOn := false, began := 0 }) (by decide +kernel) (by decide +kernel) (by decide +kernel) (by decide +kernel)
  ⟨u, hu⟩
theorem witness_thermal_enters (h : Obligations.PowerCommandsComplete) : ∃ u, exec (.thermalSample [110] (-40)) (live) = .next u ∧ u.pwr.thermLimit = true :=
  let ⟨u, hu, _, h1, h2, h3, h4⟩ := (h (live)).2.2.2.2.2.2.2.2.2.2.2.2 [110] (-40) (by decide +kernel)
  ⟨u, hu, (h1 (by decide +kernel) (by decide +kernel)).1⟩
theorem witness_thermal_cool (h : Obligations.PowerCommandsComplete) : ∃ u, exec (.thermalSample [109] (-40)) (live) = .next u ∧ u.pwr.thermLimit = false :=
  let ⟨u, hu, _, h1, h2, h3, h4⟩ := (h (live)).2.2.2.2.2.2.2.2.2.2.2.2 [109] (-40) (by decide +kernel)
  ⟨u, hu, h2 (by decide +kernel) (by decide +kernel)⟩
theorem witness_thermal_stays (h : Obligations.PowerCommandsComplete) : ∃ u, exec (.thermalSample [105] (-40)) ({ live with pwr := { live.pwr with thermLimit := true, thermBelow := 3 } }) = .next u ∧ u.pwr.thermLimit = true :=
  let ⟨u, hu, _, h1, h2, h3, h4⟩ := (h ({ live with pwr := { live.pwr with thermLimit := true, thermBelow := 3 } })).2.2.2.2.2.2.2.2.2.2.2.2 [105] (-40) (by decide +kernel)
  ⟨u, hu, (h3 (by decide +kernel) (by decide +kernel)).1⟩
theorem witness_thermal_ninth (h : Obligations.PowerCommandsComplete) : ∃ u, exec (.thermalSample [104] (-40)) ({ live with pwr := { live.pwr with thermLimit := true, thermBelow := 8 } }) = .next u ∧ u.pwr.thermLimit = decide (8 < 9) :=
  let ⟨u, hu, _, h1, h2, h3, h4⟩ := (h ({ live with pwr := { live.pwr with thermLimit := true, thermBelow := 8 } })).2.2.2.2.2.2.2.2.2.2.2.2 [104] (-40) (by decide +kernel)
  ⟨u, hu, (h4 (by decide +kernel) (by decide +kernel)).1⟩
theorem witness_thermal_leaves (h : Obligations.PowerCommandsComplete) : ∃ u, exec (.thermalSample [104] (-40)) ({ live with pwr := { live.pwr with thermLimit := true, thermBelow := 9 } }) = .next u ∧ u.pwr.thermLimit = decide (9 < 9) :=
  let ⟨u, hu, _, h1, h2, h3, h4⟩ := (h ({ live with pwr := { live.pwr with thermLimit := true, thermBelow := 9 } })).2.2.2.2.2.2.2.2.2.2.2.2 [104] (-40) (by decide +kernel)
  ⟨u, hu, (h4 (by decide +kernel) (by decide +kernel)).1⟩

/-! ### The life cycle (chapter 2) -/

/-- The live device in a life-cycle state. -/
def inState (x : LcState) (c : Option Bytes := none) : State := { serving with lcs := { serving.lcs with state := x, challenge := c } }

theorem witness_xfer_unlisted (h : Obligations.LifeCycleTransitions) : ∃ u, exec (.lcsTransition 5 true) (holding (inState .owned) (ready 0xC01 (par [(40, [0])]) (len := 0))) = .next u :=
  ⟨_, (h (holding (inState .owned) (ready 0xC01 (par [(40, [0])]) (len := 0))) 5 (ready 0xC01 (par [(40, [0])]) (len := 0)) true .blank (by decide +kernel) (by decide +kernel) (by decide +kernel)).1 (by decide +kernel) (by decide +kernel)⟩
theorem witness_xfer_running (h : Obligations.LifeCycleTransitions) : ∃ u, exec (.lcsTransition 5 true) (holding ({ live with lcs := { live.lcs with xferActive := true } }) (ready 0xC01 (par [(40, [5])]) (len := 0))) = .next u :=
  ⟨_, (h (holding ({ live with lcs := { live.lcs with xferActive := true } }) (ready 0xC01 (par [(40, [5])]) (len := 0))) 5 (ready 0xC01 (par [(40, [5])]) (len := 0)) true .terminated (by decide +kernel) (by decide +kernel) (by decide +kernel)).2.1 (by decide +kernel)⟩
theorem witness_xfer_alone (h : Obligations.LifeCycleTransitions) : ∃ u, exec (.lcsTransition 5 true) (holding (inState .manufacture) (ready 0xC01 (par [(40, [5])]) (len := 0))) = .next u := by
  refine ⟨_, (h (holding (inState .manufacture) (ready 0xC01 (par [(40, [5])]) (len := 0))) 5 (ready 0xC01 (par [(40, [5])]) (len := 0)) true .terminated ?_ ?_ ?_).2.2.1 0 ?_ ?_ ?_ ?_ ?_ (.inl ?_) ?_ |>.1⟩
  all_goals decide +kernel
theorem witness_xfer_ceremony (h : Obligations.LifeCycleTransitions) : ∃ u, exec (.lcsTransition 5 true) (holding ({ live with lcs := { live.lcs with returnAuth := true } }) (ready 0xC01 (par [(40, [4])]) (len := 0))) = .next u := by
  refine ⟨_, (h (holding ({ live with lcs := { live.lcs with returnAuth := true } }) (ready 0xC01 (par [(40, [4])]) (len := 0))) 5 (ready 0xC01 (par [(40, [4])]) (len := 0)) true .returned ?_ ?_ ?_).2.2.1 0 ?_ ?_ ?_ ?_ ?_ (.inr ?_) ?_ |>.1⟩
  all_goals decide +kernel
theorem witness_xfer_noChallenge (h : Obligations.LifeCycleTransitions) : ∃ u, exec (.lcsTransition 5 true) (holding (inState .blank) (ready 0xC01 (par [(40, [1])]) (len := 4627))) = .next u := by
  refine ⟨_, (h (holding (inState .blank) (ready 0xC01 (par [(40, [1])]) (len := 4627))) 5 (ready 0xC01 (par [(40, [1])]) (len := 4627)) true .manufacture ?_ ?_ ?_).2.2.2 0 ?_ ?_ ?_ ?_ ?_ ?_ ?_ |>.1 ?_⟩
  all_goals decide +kernel
theorem witness_xfer_signed_true (h : Obligations.LifeCycleTransitions) : lcsSigOk [] (zeros 0) [7] = true → ∃ u, exec (.lcsTransition 5 true) (holding (inState .blank (some [7])) (ready 0xC01 (par [(40, [1])]) (len := 4627))) = .next u :=
  by
  intro k
  refine ⟨_, (((h (holding (inState .blank (some [7])) (ready 0xC01 (par [(40, [1])]) (len := 4627))) 5 (ready 0xC01 (par [(40, [1])]) (len := 4627)) true .manufacture ?_ ?_ ?_).2.2.2 0 ?_ ?_ ?_ ?_ ?_ ?_ ?_).2 [7] ?_).1 k⟩
  all_goals decide +kernel
theorem witness_xfer_signed_false (h : Obligations.LifeCycleTransitions) : lcsSigOk [] (zeros 0) [7] = false → ∃ u, exec (.lcsTransition 5 true) (holding (inState .blank (some [7])) (ready 0xC01 (par [(40, [1])]) (len := 4627))) = .next u :=
  by
  intro k
  refine ⟨_, (((h (holding (inState .blank (some [7])) (ready 0xC01 (par [(40, [1])]) (len := 4627))) 5 (ready 0xC01 (par [(40, [1])]) (len := 4627)) true .manufacture ?_ ?_ ?_).2.2.2 0 ?_ ?_ ?_ ?_ ?_ ?_ ?_).2 [7] ?_).2.1 k ?_⟩
  all_goals decide +kernel
theorem witness_xfer_signed_lapsed (h : Obligations.LifeCycleTransitions) : lcsSigOk [] (zeros 0) [7] = false → lcsSigOk [] (zeros 0) [8] = true → ∃ u, exec (.lcsTransition 5 true) (holding { inState .blank (some [7]) with lcs := { (inState .blank (some [7])).lcs with lapsed := [[8]] } } (ready 0xC01 (par [(40, [1])]) (len := 4627))) = .next u :=
  by
  intro k k2
  refine ⟨_, (((h (holding { inState .blank (some [7]) with lcs := { (inState .blank (some [7])).lcs with lapsed := [[8]] } } (ready 0xC01 (par [(40, [1])]) (len := 4627))) 5 (ready 0xC01 (par [(40, [1])]) (len := 4627)) true .manufacture ?_ ?_ ?_).2.2.2 0 ?_ ?_ ?_ ?_ ?_ ?_ ?_).2 [7] ?_).2.2 k ?_⟩
  all_goals first | decide +kernel | exact (Bool.or_false _).trans k2
/-- A transition that runs, at a step, its mark entry burnt as given. -/
def stepping (target : LcState) (step : Nat) (m : W32 := 4) : State :=
  { live with lcs := { live.lcs with
      xferActive := true, xferTarget := target, xferStep := step, otp := { marks := (m, m, m) :: List.replicate 7 (0, 0, 0) } } }

/-- Without tracked entries no entry waits at the slot. -/
theorem noEntry (s : State) (h : s.tracker = []) :
    ∀ t, s.track 5 = some t → (t.phase ≠ .ready ∧ t.phase ≠ .gather) ∨ t.entry.opcode ≠ 0xC01 := by
  intro t a; simp [State.track, Sparse.get, h] at a

theorem witness_step_runs (h : Obligations.TransitionSteps) : ∃ u, exec (.lcsTransition 5 true) (stepping .terminated 1) = .next u :=
  ⟨_, (h (stepping .terminated 1) 5 true (by decide +kernel) (noEntry _ rfl)).1⟩
theorem witness_step_erase (h : Obligations.TransitionSteps) : (stepping .terminated 1).runStep true = (stepping .terminated 1).eraseSecrets.stepDone :=
  (h (stepping .terminated 1) 5 true (by decide +kernel) (noEntry _ rfl)).2 .erase (by decide +kernel) |>.1 rfl |>.1
theorem witness_step_writeCode (h : Obligations.TransitionSteps) : ∃ u, (stepping .manufacture 0).runStep true = u :=
  (h (stepping .manufacture 0) 5 true (by decide +kernel) (noEntry _ rfl)).2 .writeCode (by decide +kernel) |>.2.1 rfl |> fun x => ⟨_, x⟩
theorem witness_step_confirmed (h : Obligations.TransitionSteps) : (stepping .returned 2).runStep true = (stepping .returned 2).stepDone :=
  (h (stepping .returned 2) 5 true (by decide +kernel) (noEntry _ rfl)).2 .confirmErase (by decide +kernel) |>.2.2 rfl |>.1 rfl
theorem witness_step_firstFailure (h : Obligations.TransitionSteps) : (stepping .returned 2).runStep false = (((stepping .returned 2).burnMark 0 0x1000).modLcs fun l => { l with retryDue := true }).xferFails :=
  (h (stepping .returned 2) 5 false (by decide +kernel) (noEntry _ rfl)).2 .confirmErase (by decide +kernel) |>.2.2 rfl |>.2.1 rfl (by decide +kernel)
theorem witness_step_secondFailure (h : Obligations.TransitionSteps) : (stepping .returned 2 0x1004).runStep false = (((stepping .returned 2 0x1004).burnMark 0 0x2000).modLcs fun l => { l with retryDue := true }).xferFails :=
  (h (stepping .returned 2 0x1004) 5 false (by decide +kernel) (noEntry _ rfl)).2 .confirmErase (by decide +kernel) |>.2.2 rfl |>.2.2.1 rfl (by decide +kernel)
theorem witness_step_thirdFailure (h : Obligations.TransitionSteps) : ((stepping .returned 2 0x3004).runStep false).lcs.xferTarget = .terminated :=
  (h (stepping .returned 2 0x3004) 5 false (by decide +kernel) (noEntry _ rfl)).2 .confirmErase (by decide +kernel) |>.2.2 rfl |>.2.2.2 1 rfl (by decide +kernel) (by decide +kernel) |>.1
theorem witness_lcsQuery (h : Obligations.LifeCycleCommandsComplete) : ∃ u, exec (.lcsQuery 5) (holding live (ready 0xC00 (cap := 64))) = .next u :=
  let ⟨_, hb, _⟩ := (h (holding live (ready 0xC00 (cap := 64))) 5 (ready 0xC00 (cap := 64))).1 (by decide +kernel) (by decide +kernel) (by decide +kernel) (by decide +kernel) (by decide +kernel)
  ⟨_, hb⟩
theorem witness_lcsChallenge (h : Obligations.LifeCycleCommandsComplete) : ∃ u, exec (.lcsChallenge 5) (holding (inState .blank) (ready 0xC02 (cap := 64))) = .next u := by
  refine ⟨_, (h (holding (inState .blank) (ready 0xC02 (cap := 64))) 5 (ready 0xC02 (cap := 64))).2.1 ?_ ?_ ?_ ?_ ?_ (.inl ?_) ?_ ?_⟩
  all_goals decide +kernel
theorem witness_challengeLapse (h : Obligations.LifeCycleCommandsComplete) : ∃ u, exec (.challengeLapse) (live) = .next u :=
  ⟨_, (h live 0 (ready 0)).2.2.1⟩
theorem witness_returnAuthLapse (h : Obligations.LifeCycleCommandsComplete) : ∃ u, exec (.returnAuthLapse) (live) = .next u :=
  ⟨_, (h live 0 (ready 0)).2.2.2.1⟩
theorem witness_debugUnlock (h : Obligations.LifeCycleCommandsComplete) : lcsSigOk [] [] [7] = true → ∃ u, exec (.debugUnlock 5) (holding (inState .manufacture (some [7])) (ready 0xC03 (len := 4627))) = .next u :=
  fun k => ⟨_, ((h (holding (inState .manufacture (some [7])) (ready 0xC03 (len := 4627))) 5 (ready 0xC03 (len := 4627))).2.2.2.2.1 [7] (by decide +kernel) (by decide +kernel) (by decide +kernel) (by decide +kernel) (by decide +kernel) (by decide +kernel) k).1⟩
theorem witness_debugLock (h : Obligations.LifeCycleCommandsComplete) : ∃ u, exec (.debugLock 5) (holding (serving) (ready 0xC04)) = .next u :=
  ⟨_, (h (holding (serving) (ready 0xC04)) 5 (ready 0xC04)).2.2.2.2.2.1 (by decide +kernel) (by decide +kernel) (by decide +kernel) (by decide +kernel)⟩
theorem witness_imageStage (h : Obligations.LifeCycleCommandsComplete) : live.stageFail [] = (none, none) → ∃ u, exec (.imageStage 5) (holding live (ready 0xC10)) = .next u :=
  fun k => ⟨_, (h (holding live (ready 0xC10)) 5 (ready 0xC10)).2.2.2.2.2.2.1 (by decide +kernel) (by decide +kernel) (by decide +kernel) k⟩
theorem witness_imageActivate (h : Obligations.LifeCycleCommandsComplete) : ∃ u, exec (.imageActivate 5) (holding (serving) (ready 0xC11)) = .next u :=
  ⟨_, (h (holding (serving) (ready 0xC11)) 5 (ready 0xC11)).2.2.2.2.2.2.2.1 (by decide +kernel) (by decide +kernel) (by decide +kernel) (by decide +kernel)⟩
theorem witness_svnAdvance (h : Obligations.LifeCycleCommandsComplete) : ∃ u, exec (.svnAdvance 5) (holding (serving) (ready 0xC12 (par [(40, [1])]))) = .next u :=
  ⟨_, (h (holding (serving) (ready 0xC12 (par [(40, [1])]))) 5 (ready 0xC12 (par [(40, [1])]))).2.2.2.2.2.2.2.2.1 (by decide +kernel) (by decide +kernel) (.inr (by decide +kernel)) (by decide +kernel) (by decide +kernel) (by decide +kernel)⟩
/-- The ROM waits for an image of 5 bytes. -/
def romWaits (busy : Bool) (words : Nat) : State :=
  { live with
    regs := [(Reg.lcsRecoveryLen, 5)]
    lcs := { live.lcs with phase := .rom, recoveryBusy := busy, recoveryLen := 5, recoveryWords := words } }

theorem witness_recoveryStart (h : Obligations.LifeCycleCommandsComplete) : ∃ u, exec (.recoveryStart 1) (romWaits false 0) = .next u :=
  let ⟨u, hu, _⟩ := (h (romWaits false 0) 0 (ready 0)).2.2.2.2.2.2.2.2.2.1 1 (by decide +kernel) (by decide +kernel) (by decide +kernel) (by decide +kernel) (by decide +kernel) (by decide +kernel)
  ⟨u, hu⟩
theorem witness_recoveryData (h : Obligations.LifeCycleCommandsComplete) : ∃ u, exec (.recoveryDataWrite 1) (romWaits true 1) = .next u :=
  ⟨_, (h (romWaits true 1) 0 (ready 0)).2.2.2.2.2.2.2.2.2.2.1 1 (by decide +kernel) (by decide +kernel) (by decide +kernel) (by decide +kernel) (by decide +kernel)⟩
theorem witness_recoveryDone (h : Obligations.LifeCycleCommandsComplete) : (romWaits true 2).imageFail 1 [] = none → ∃ u, exec (.recoveryDone 2) (romWaits true 2) = .next u :=
  fun k => ⟨_, (h (romWaits true 2) 0 (ready 0)).2.2.2.2.2.2.2.2.2.2.2 2 (by constructor <;> decide +kernel) (by decide +kernel) (by decide +kernel) (by decide +kernel) (by decide +kernel) (by decide +kernel) (by decide +kernel) k⟩

/-! ### The journal (chapter 15) -/

/-- The live device with a journal. -/
def withEvj (j : Evj) (ctrl : W32 := 0) : State := { live with regs := [(Reg.evjExpCtrl, ctrl)], evj := j }
/-- One SEQ left of a confirmed block. -/
def lastSeq : Evj := { on := true, nextSeq := 4, blocks := [{ start := 0, stop := 5, confirmed := true }] }

theorem witness_openRecord (h : Obligations.JournalCommandsComplete) : ((withEvj lastSeq).openRecord fun _ => []).isSome = true → ∃ n u, (withEvj lastSeq).openRecord (fun _ => []) = some (n, u) ∧ n = 4 :=
  fun k => let ⟨x, hx⟩ := Option.isSome_iff_exists.1 k
  ⟨x.1, x.2, hx, ((h (withEvj lastSeq) 0 (ready 0)).1 (fun _ => []) x.1 x.2 hx).1⟩
theorem test_openRecord : ((withEvj lastSeq).openRecord fun _ => []).isSome = true := by decide +kernel

theorem witness_chainRecord (h : Obligations.JournalCommandsComplete) : (withEvj { queue := [{ seq := 3, body := zeros 64, done := true }] }).chainReady.evj.endSeq = 4 :=
  (((h (withEvj { queue := [{ seq := 3, body := zeros 64, done := true }] }) 0 (ready 0)).2.1 ({ seq := 3, body := zeros 64, done := true }) (by decide +kernel) (by decide +kernel)).1 (by decide +kernel)).2.2
theorem witness_chainWaits (h : Obligations.JournalCommandsComplete) : (withEvj { queue := [{ seq := 3, body := zeros 64, done := true }], chained := 65536 }).chainReady = withEvj { queue := [{ seq := 3, body := zeros 64, done := true }], chained := 65536 } :=
  ((h (withEvj { queue := [{ seq := 3, body := zeros 64, done := true }], chained := 65536 }) 0 (ready 0)).2.1 ({ seq := 3, body := zeros 64, done := true }) (by decide +kernel) (by decide +kernel)).2 (by decide +kernel)
theorem witness_checkpointCount (h : Obligations.JournalCommandsComplete) : ∃ u, exec (.checkpointCount) (withEvj { on := true, chained := 65536 }) = .next u :=
  ⟨_, (h (withEvj { on := true, chained := 65536 }) 5 (ready 0)).2.2.1 (by decide +kernel) (by decide +kernel) |>.1 (by decide +kernel)⟩
theorem witness_checkpointTimer (h : Obligations.JournalCommandsComplete) : ∃ u, exec (.checkpointTimer) (withEvj { on := true }) = .next u :=
  ⟨_, (h (withEvj { on := true }) 5 (ready 0)).2.2.1 (by decide +kernel) (by decide +kernel) |>.2⟩
theorem witness_jrnCheckpoint (h : Obligations.JournalCommandsComplete) : ∃ u, exec (.jrnCheckpoint 5) (holding (live) (ready 0x912 (cap := 8))) = .next u := by
  apply Exists.intro
  apply (h (holding (live) (ready 0x912 (cap := 8))) 5 (ready 0x912 (cap := 8))).2.2.2.1 
  all_goals decide +kernel
theorem witness_csigTimeout (h : Obligations.JournalCommandsComplete) : ∃ u, exec (.csigTimeout 3 true) (withEvj { cps := [{ num := 3, body := [], stage := .committed, west := { status := 3 } }] }) = .next u := by
  apply Exists.intro
  apply (h (withEvj { cps := [{ num := 3, body := [], stage := .committed, west := { status := 3 } }] }) 5 (ready 0)).2.2.2.2.1 3 true ({ num := 3, body := [], stage := .committed, west := { status := 3 } })
  all_goals decide +kernel
theorem witness_exportCopy (h : Obligations.JournalCommandsComplete) : ∃ u, exec (.exportCopy false .clean) (withEvj { ring := [{ seq := 3, body := zeros 64 }] } 1) = .next u := by
  apply Exists.intro
  apply (h (withEvj { ring := [{ seq := 3, body := zeros 64 }] } 1) 5 (ready 0)).2.2.2.2.2.1 ({ seq := 3, body := zeros 64 })
  all_goals decide +kernel
theorem witness_exportCopy_cp (h : Obligations.JournalCommandsComplete) : ∃ u, exec (.exportCopy true .clean) (withEvj { cps := [{ num := 3, body := [], stage := .committed }] } 2) = .next u := by
  apply Exists.intro
  apply (h (withEvj { cps := [{ num := 3, body := [], stage := .committed }] } 2) 5 (ready 0)).2.2.2.2.2.2.1 ({ num := 3, body := [], stage := .committed })
  all_goals decide +kernel
theorem witness_expCtrlWrite (h : Obligations.JournalCommandsComplete) : ∃ u, exec (.expCtrlWrite 0xA01) (live) = .next u :=
  let ⟨u, hu, _⟩ := (h live 0 (ready 0)).2.2.2.2.2.2.2.1 0xA01 (by constructor <;> decide +kernel) (by decide +kernel) (by decide +kernel) (by decide +kernel) (by decide +kernel)
  ⟨u, hu⟩
theorem witness_jrnPubkey (h : Obligations.JournalCommandsComplete) : ∃ u, exec (.jrnPubkey 5) (holding ({ live with kst := { slots := [(4, { attr := attrOf true 0x15 [] })] } }) (ready 0x910 (cap := 1968))) = .next u := by
  apply Exists.intro
  apply (h (holding ({ live with kst := { slots := [(4, { attr := attrOf true 0x15 [] })] } }) (ready 0x910 (cap := 1968))) 5 (ready 0x910 (cap := 1968))).2.2.2.2.2.2.2.2.1 
  all_goals decide +kernel
theorem witness_jrnRead (h : Obligations.JournalCommandsComplete) : ∃ u, exec (.jrnRead 5 .clean) (holding (withEvj { ring := [{ seq := 3, body := zeros 64 }] }) (ready 0x911 (par [(40, [3]), (48, [1])]) (cap := 64))) = .next u := by
  apply Exists.intro
  apply (h (holding (withEvj { ring := [{ seq := 3, body := zeros 64 }] }) (ready 0x911 (par [(40, [3]), (48, [1])]) (cap := 64))) 5 (ready 0x911 (par [(40, [3]), (48, [1])]) (cap := 64))).2.2.2.2.2.2.2.2.2.1 ({ seq := 3, body := zeros 64 }) []
  all_goals decide +kernel
theorem witness_jrnReadCp (h : Obligations.JournalCommandsComplete) : ∃ u, exec (.jrnReadCp 5 .clean) (holding (withEvj { cps := [{ num := 3, body := [], stage := .committed }] }) (ready 0x913 (par [(40, [3])]) (cap := 16384))) = .next u := by
  refine ⟨_, ((h (holding (withEvj { cps := [{ num := 3, body := [], stage := .committed }] }) (ready 0x913 (par [(40, [3])]) (cap := 16384))) 5 (ready 0x913 (par [(40, [3])]) (cap := 16384))).2.2.2.2.2.2.2.2.2.2 ({ num := 3, body := [], stage := .committed }) ?_ ?_ ?_ ?_ ?_ ?_ ?_).1⟩
  all_goals decide +kernel
theorem witness_jrnReadCp_ue (h : Obligations.JournalCommandsComplete) : ∃ u, exec (.jrnReadCp 5 (.uncorrectable ⟨0, true⟩)) (holding (withEvj { cps := [{ num := 3, body := [], stage := .committed }] }) (ready 0x913 (par [(40, [3])]) (cap := 16384))) = .next u := by
  refine ⟨_, ((h (holding (withEvj { cps := [{ num := 3, body := [], stage := .committed }] }) (ready 0x913 (par [(40, [3])]) (cap := 16384))) 5 (ready 0x913 (par [(40, [3])]) (cap := 16384))).2.2.2.2.2.2.2.2.2.2 ({ num := 3, body := [], stage := .committed }) ?_ ?_ ?_ ?_ ?_ ?_ ?_).2 ⟨0, true⟩⟩
  all_goals decide +kernel

/-! ### The trunk ring (chapter 16) -/

/-- A ring of three members with serials 1 to 3; this one stands at position 1. -/
def ringMap : RingMap := { ringId := 7, ownPos := 1, members := [(1, []), (2, []), (3, [])] }
/-- A trunk in force, both links up and keyed. -/
def ringTrk : Trk :=
  { on := true, map := some ringMap, east := { up := true, keyed := true }, west := { up := true, keyed := true } }
/-- The serving device on it, with a journal key. -/
def onRing (x : Trk := ringTrk) : State :=
  { serving with trk := x, kst := { slots := [(4, { attr := attrOf true 0x15 [] })] } }
/-- What stands behind the addresses of a frame: a message of TYPE typ to this member. -/
def trunkBody (typ src : Nat) (payload : Bytes) : Bytes :=
  [0x88, 0xB5, 1, BitVec.ofNat 8 typ] ++ toLE 2 payload.length ++ toLE 4 7 ++ [BitVec.ofNat 8 src, 1, 1, 0] ++ toLE 4 9 ++ payload
/-- The west link's next number noted. -/
def noted (s : State) : State := s.modLink true fun l => { l with rxPn := [2, 1, 1, 1] }

/-- A protected frame of this body's length with PN 1 on the west link. -/
def frameFor (body : Bytes) : Bytes :=
  zeros 12 ++ [0x88, 0xE5, 0x2C, if body.length < 48 then BitVec.ofNat 8 body.length else 0, 0, 0, 0, 1] ++ zeros 7 ++ [1] ++
    zeros (body.length + 16)
/-- The state that has noted it. -/
def after (s : State) (body : Bytes) : State := noted (s.trkNoted true (frameFor body))

/-- A frame that opens to a body arrives. What opens is uninterpreted, and so a premise. -/
theorem arrives {s t : State} {f body : Bytes} {typ : Nat} {w : Bool} (hb : (s.trkNoted w f).trkBody w f = some (body, t))
    (hs : s.trk.on = true ∧ (s.trkLink w).up = true ∧ f.length + 4 ≤ 9600 ∧ t.trk.map = some ringMap)
    (h : let m := parseTrk (body.drop 2)
      body.length = 18 + m.len ∧ trkLenOk m.typ m.payload = true ∧ (m.typ = 1 ∨ m.typ = 2 ∨ m.version ≤ max 1 t.trk.committed) ∧
      beAt body 0 2 = 0x88B5 ∧ m.ringId = ringMap.ringId ∧ trkTypes.contains m.typ = true ∧ m.typ = typ ∧
      (m.dst = ringMap.ownPos ∨ m.dst = 0xFF)) :
    Arrives s w f typ ringMap (parseTrk (body.drop 2)) t :=
  ⟨hs.1, hs.2.1, hs.2.2.1, hs.2.2.2, body, hb, rfl, h⟩

/-- A frame in the clear of TYPE 1 or 2 opens to what stands behind its addresses. -/
theorem clear_opens (s : State) (w : Bool) (f : Bytes) (h : beAt f 12 2 = 0x88B5 ∧ (natAt f 15 = 1 ∨ natAt f 15 = 2)) :
    s.trkBody w f = some (f.drop 12, s) := by
  simp [State.trkBody, h]

theorem witness_trunk_notOpen_heartbeat (h : Obligations.TrunkFramesTakeEffect) : ∃ u, exec (.heartbeat true []) (onRing) = .next u :=
  ⟨_, ((h onRing onRing true [] ringMap (parseTrk [])).1 (by decide +kernel) (by decide +kernel) (by decide +kernel) (by decide +kernel)).1⟩
theorem witness_trunk_notOpen_mirror (h : Obligations.TrunkFramesTakeEffect) : ∃ u, exec (.mirror true ⟨[], .clean⟩) (onRing) = .next u :=
  ⟨_, ((h onRing onRing true [] ringMap (parseTrk [])).1 (by decide +kernel) (by decide +kernel) (by decide +kernel) (by decide +kernel)).2 .clean⟩
theorem witness_heartbeat (h : Obligations.TrunkFramesTakeEffect) : ∀ f, f = frameFor (trunkBody 0x10 0 (zeros 36)) → ((onRing).trkNoted true f).trkBody true f = some ((trunkBody 0x10 0 (zeros 36)), after (onRing) (trunkBody 0x10 0 (zeros 36))) →
    ∃ u, exec (.heartbeat true f) (onRing) = .next u :=
  fun f e hb => by
  subst e
  exact let ⟨u, hu, _⟩ := (h (onRing) (after (onRing) (trunkBody 0x10 0 (zeros 36))) true (frameFor (trunkBody 0x10 0 (zeros 36))) ringMap (parseTrk ((trunkBody 0x10 0 (zeros 36)).drop 2))).2.2.2.2.2.1 (arrives hb (by decide +kernel) (by decide +kernel)) 
    ⟨u, hu⟩
theorem witness_mirror (h : Obligations.TrunkFramesTakeEffect) : ∀ f, f = frameFor (trunkBody 0x20 0 ([])) → ((onRing { ringTrk with partner := { serial := 1 } }).trkNoted true f).trkBody true f = some ((trunkBody 0x20 0 ([])), after (onRing { ringTrk with partner := { serial := 1 } }) (trunkBody 0x20 0 ([]))) →
    ∃ u, exec (.mirror true ⟨f, .clean⟩) (onRing { ringTrk with partner := { serial := 1 } }) = .next u :=
  fun f e hb => by
  subst e
  exact ⟨_, (h (onRing { ringTrk with partner := { serial := 1 } }) (after (onRing { ringTrk with partner := { serial := 1 } }) (trunkBody 0x20 0 ([]))) true (frameFor (trunkBody 0x20 0 ([]))) ringMap (parseTrk ((trunkBody 0x20 0 ([])).drop 2))).2.2.2.2.2.2.1 (arrives hb (by decide +kernel) (by decide +kernel)) (by decide +kernel) (by decide +kernel)⟩
theorem witness_mirrorAck (h : Obligations.TrunkFramesTakeEffect) : ∀ f, f = frameFor (trunkBody 0x21 2 (zeros 4)) → ((onRing).trkNoted true f).trkBody true f = some ((trunkBody 0x21 2 (zeros 4)), after (onRing) (trunkBody 0x21 2 (zeros 4))) →
    ∃ u, exec (.mirrorAck true f) (onRing) = .next u :=
  fun f e hb => by
  subst e
  exact ⟨_, (h (onRing) (after (onRing) (trunkBody 0x21 2 (zeros 4))) true (frameFor (trunkBody 0x21 2 (zeros 4))) ringMap (parseTrk ((trunkBody 0x21 2 (zeros 4)).drop 2))).2.2.2.2.2.2.2.1 (arrives hb (by decide +kernel) (by decide +kernel)) ⟩
theorem witness_probe (h : Obligations.TrunkFramesTakeEffect) : ∀ f, f = frameFor (trunkBody 0x22 2 (zeros 24)) → ((onRing).trkNoted true f).trkBody true f = some ((trunkBody 0x22 2 (zeros 24)), after (onRing) (trunkBody 0x22 2 (zeros 24))) →
    ∃ u, exec (.probe true f) (onRing) = .next u :=
  fun f e hb => by
  subst e
  exact ⟨_, (h (onRing) (after (onRing) (trunkBody 0x22 2 (zeros 24))) true (frameFor (trunkBody 0x22 2 (zeros 24))) ringMap (parseTrk ((trunkBody 0x22 2 (zeros 24)).drop 2))).2.2.2.2.2.2.2.2.1 (arrives hb (by decide +kernel) (by decide +kernel)) ⟩
theorem witness_probeReply (h : Obligations.TrunkFramesTakeEffect) : ∀ f, f = frameFor (trunkBody 0x23 0 (zeros 8 ++ toBE 8 1 ++ toLE 8 5)) → ((onRing { ringTrk with west := { ringTrk.west with probe := some 5 } }).trkNoted true f).trkBody true f = some ((trunkBody 0x23 0 (zeros 8 ++ toBE 8 1 ++ toLE 8 5)), after (onRing { ringTrk with west := { ringTrk.west with probe := some 5 } }) (trunkBody 0x23 0 (zeros 8 ++ toBE 8 1 ++ toLE 8 5))) →
    ∃ u, exec (.probeReply true f) (onRing { ringTrk with west := { ringTrk.west with probe := some 5 } }) = .next u :=
  fun f e hb => by
  subst e
  exact ⟨_, (h (onRing { ringTrk with west := { ringTrk.west with probe := some 5 } }) (after (onRing { ringTrk with west := { ringTrk.west with probe := some 5 } }) (trunkBody 0x23 0 (zeros 8 ++ toBE 8 1 ++ toLE 8 5))) true (frameFor (trunkBody 0x23 0 (zeros 8 ++ toBE 8 1 ++ toLE 8 5))) ringMap (parseTrk ((trunkBody 0x23 0 (zeros 8 ++ toBE 8 1 ++ toLE 8 5)).drop 2))).2.2.2.2.2.2.2.2.2.1 (arrives hb (by decide +kernel) (by decide +kernel)) (by decide +kernel) (by decide +kernel) (by decide +kernel)⟩
theorem witness_leave (h : Obligations.TrunkFramesTakeEffect) : ∀ f, f = frameFor (trunkBody 0x51 0 (zeros 9)) → ((onRing).trkNoted true f).trkBody true f = some ((trunkBody 0x51 0 (zeros 9)), after (onRing) (trunkBody 0x51 0 (zeros 9))) →
    ∃ u, exec (.leave true f) (onRing) = .next u :=
  fun f e hb => by
  subst e
  exact ⟨_, (h (onRing) (after (onRing) (trunkBody 0x51 0 (zeros 9))) true (frameFor (trunkBody 0x51 0 (zeros 9))) ringMap (parseTrk ((trunkBody 0x51 0 (zeros 9)).drop 2))).2.2.2.2.2.2.2.2.2.2.1 (arrives hb (by decide +kernel) (by decide +kernel)) ⟩
theorem witness_takeoverNotice (h : Obligations.TrunkFramesTakeEffect) : ∀ f, f = frameFor (trunkBody 0x50 1 (zeros 16)) → ((onRing).trkNoted true f).trkBody true f = some ((trunkBody 0x50 1 (zeros 16)), after (onRing) (trunkBody 0x50 1 (zeros 16))) →
    ∃ u, exec (.takeoverNotice true f) (onRing) = .next u :=
  fun f e hb => by
  subst e
  exact ⟨_, (h (onRing) (after (onRing) (trunkBody 0x50 1 (zeros 16))) true (frameFor (trunkBody 0x50 1 (zeros 16))) ringMap (parseTrk ((trunkBody 0x50 1 (zeros 16)).drop 2))).2.2.2.2.2.2.2.2.2.2.2.1 (arrives hb (by decide +kernel) (by decide +kernel)) ⟩
theorem witness_csigReq (h : Obligations.TrunkFramesTakeEffect) : ∀ f, f = frameFor (trunkBody 0x40 0 (zeros 40)) → ((onRing).trkNoted true f).trkBody true f = some ((trunkBody 0x40 0 (zeros 40)), after (onRing) (trunkBody 0x40 0 (zeros 40))) →
    ∃ u, exec (.csigReq true f) (onRing) = .next u :=
  fun f e hb => by
  subst e
  exact ⟨_, (h (onRing) (after (onRing) (trunkBody 0x40 0 (zeros 40))) true (frameFor (trunkBody 0x40 0 (zeros 40))) ringMap (parseTrk ((trunkBody 0x40 0 (zeros 40)).drop 2))).2.2.2.2.2.2.2.2.2.2.2.2.1 (arrives hb (by decide +kernel) (by decide +kernel)) (by decide +kernel) (by decide +kernel)⟩
theorem witness_csigResp (h : Obligations.TrunkFramesTakeEffect) : ∀ f, f = frameFor (trunkBody 0x41 0 (zeros 3349)) → (({ onRing with evj := { cps := [{ num := 3, body := [], stage := .committed, digest := zeros 32, west := { status := 3 } }] } }).trkNoted true f).trkBody true f = some ((trunkBody 0x41 0 (zeros 3349)), after ({ onRing with evj := { cps := [{ num := 3, body := [], stage := .committed, digest := zeros 32, west := { status := 3 } }] } }) (trunkBody 0x41 0 (zeros 3349))) →
    ∃ u, exec (.csigResp true f) ({ onRing with evj := { cps := [{ num := 3, body := [], stage := .committed, digest := zeros 32, west := { status := 3 } }] } }) = .next u :=
  fun f e hb => by
  subst e
  exact ⟨_, (h ({ onRing with evj := { cps := [{ num := 3, body := [], stage := .committed, digest := zeros 32, west := { status := 3 } }] } }) (after ({ onRing with evj := { cps := [{ num := 3, body := [], stage := .committed, digest := zeros 32, west := { status := 3 } }] } }) (trunkBody 0x41 0 (zeros 3349))) true (frameFor (trunkBody 0x41 0 (zeros 3349))) ringMap (parseTrk ((trunkBody 0x41 0 (zeros 3349)).drop 2))).2.2.2.2.2.2.2.2.2.2.2.2.2.1 ({ num := 3, body := [], stage := .committed, digest := zeros 32, west := { status := 3 } }) (arrives hb (by decide +kernel) (by decide +kernel)) (by decide +kernel)⟩
theorem witness_epochPrepare_own (h : Obligations.TrunkFramesTakeEffect) : ∀ f, f = frameFor (trunkBody 0x30 1 (zeros 64)) → ((onRing).trkNoted true f).trkBody true f = some ((trunkBody 0x30 1 (zeros 64)), after (onRing) (trunkBody 0x30 1 (zeros 64))) →
    ∃ u, exec (.epochPrepare true f) (onRing) = .next u :=
  fun f e hb => by
  subst e
  exact ⟨_, (h (onRing) (after (onRing) (trunkBody 0x30 1 (zeros 64))) true (frameFor (trunkBody 0x30 1 (zeros 64))) ringMap (parseTrk ((trunkBody 0x30 1 (zeros 64)).drop 2))).2.2.2.2.2.2.2.2.2.2.2.2.2.2.1 (arrives hb (by decide +kernel) (by decide +kernel)) (by decide +kernel)⟩
theorem witness_epochPrepare (h : Obligations.TrunkFramesTakeEffect) : ∀ f, f = frameFor (trunkBody 0x30 0 (2 :: zeros 23 ++ [9])) → ((onRing).trkNoted true f).trkBody true f = some ((trunkBody 0x30 0 (2 :: zeros 23 ++ [9])), after (onRing) (trunkBody 0x30 0 (2 :: zeros 23 ++ [9]))) →
    ∃ u, exec (.epochPrepare true f) (onRing) = .next u :=
  fun f e hb => by
  subst e
  exact ⟨_, (h (onRing) (after (onRing) (trunkBody 0x30 0 (2 :: zeros 23 ++ [9]))) true (frameFor (trunkBody 0x30 0 (2 :: zeros 23 ++ [9]))) ringMap (parseTrk ((trunkBody 0x30 0 (2 :: zeros 23 ++ [9])).drop 2))).2.2.2.2.2.2.2.2.2.2.2.2.2.2.2.1 (arrives hb (by decide +kernel) (by decide +kernel)) (by decide +kernel) (by decide +kernel) (by decide +kernel)⟩
theorem witness_epochCommit_own (h : Obligations.TrunkFramesTakeEffect) : ∀ f, f = frameFor (trunkBody 0x31 1 (zeros 16)) → ((onRing).trkNoted true f).trkBody true f = some ((trunkBody 0x31 1 (zeros 16)), after (onRing) (trunkBody 0x31 1 (zeros 16))) →
    ∃ u, exec (.epochCommit true f) (onRing) = .next u :=
  fun f e hb => by
  subst e
  exact ⟨_, (h (onRing) (after (onRing) (trunkBody 0x31 1 (zeros 16))) true (frameFor (trunkBody 0x31 1 (zeros 16))) ringMap (parseTrk ((trunkBody 0x31 1 (zeros 16)).drop 2))).2.2.2.2.2.2.2.2.2.2.2.2.2.2.2.2.1 (arrives hb (by decide +kernel) (by decide +kernel)) (by decide +kernel)⟩
theorem witness_epochCommit (h : Obligations.TrunkFramesTakeEffect) : ∀ f, f = frameFor (trunkBody 0x31 0 (zeros 16)) → ((onRing).trkNoted true f).trkBody true f = some ((trunkBody 0x31 0 (zeros 16)), after (onRing) (trunkBody 0x31 0 (zeros 16))) →
    ∃ u, exec (.epochCommit true f) (onRing) = .next u :=
  fun f e hb => by
  subst e
  exact ⟨_, (h (onRing) (after (onRing) (trunkBody 0x31 0 (zeros 16))) true (frameFor (trunkBody 0x31 0 (zeros 16))) ringMap (parseTrk ((trunkBody 0x31 0 (zeros 16)).drop 2))).2.2.2.2.2.2.2.2.2.2.2.2.2.2.2.2.2 (arrives hb (by decide +kernel) (by decide +kernel)) (by decide +kernel) (by decide +kernel)⟩
/-- The ring with neither link keyed. -/
def unkeyed (seed : Bytes := []) : State :=
  onRing { ringTrk with east := { up := true }, west := { up := true, helloSeed := seed } }
/-- The payload of a HELLO or HELLO_ACK of a member, with the byte of its least format. -/
def helloBytes (n serial pos : Nat) (capMin : Byte) : Bytes :=
  toBE 8 serial ++ toLE 4 7 ++ [BitVec.ofNat 8 pos, capMin, 2] ++ zeros (n - 15)

theorem failed_of_cap (map : RingMap) (w : Bool) (m : TrkMsg)
    (h : ¬(leAt m.payload 8 4 ≠ map.ringId ∨ natAt m.payload 12 ≠ map.neighbour w ∨
      beAt m.payload 0 8 ≠ (map.members.getD (map.neighbour w) (0, [])).1))
    (hc : ¬natAt m.payload 13 ≤ 1) : helloCheck map w m = .failed := by
  rw [helloCheck]
  rw [if_neg h, if_neg fun a => hc a.2.1]

theorem witness_hello (h : Obligations.TrunkFramesTakeEffect) : helloCheck ringMap false (parseTrk (((zeros 12 ++ trunkBody 1 2 (helloBytes 6461 3 2 1)).drop 12).drop 2)) = .good →
    ∃ u, exec (.hello false (zeros 12 ++ trunkBody 1 2 (helloBytes 6461 3 2 1))) (unkeyed) = .next u :=
  fun hg => ⟨_, (h (unkeyed) ((unkeyed).trkNoted false (zeros 12 ++ trunkBody 1 2 (helloBytes 6461 3 2 1))) false (zeros 12 ++ trunkBody 1 2 (helloBytes 6461 3 2 1)) ringMap (parseTrk (((zeros 12 ++ trunkBody 1 2 (helloBytes 6461 3 2 1)).drop 12).drop 2))).2.1 (arrives (clear_opens _ false _ (by decide +kernel)) (by decide +kernel) (by decide +kernel)) (by decide +kernel) hg (by decide +kernel) (by decide +kernel) (by decide +kernel) (by decide +kernel) (by decide +kernel)⟩
theorem witness_hello_fails (h : Obligations.TrunkFramesTakeEffect) : ∃ u, exec (.hello false (zeros 12 ++ trunkBody 1 2 (helloBytes 6461 3 2 2))) (unkeyed) = .next u :=
  ⟨_, (h (unkeyed) ((unkeyed).trkNoted false (zeros 12 ++ trunkBody 1 2 (helloBytes 6461 3 2 2))) false (zeros 12 ++ trunkBody 1 2 (helloBytes 6461 3 2 2)) ringMap (parseTrk (((zeros 12 ++ trunkBody 1 2 (helloBytes 6461 3 2 2)).drop 12).drop 2))).2.2.1 (arrives (clear_opens _ false _ (by decide +kernel)) (by decide +kernel) (by decide +kernel)) (by decide +kernel) (failed_of_cap _ _ _ (by decide +kernel) (by decide +kernel))⟩
theorem witness_helloAck (h : Obligations.TrunkFramesTakeEffect) : helloCheck ringMap true (parseTrk (((zeros 12 ++ trunkBody 2 0 (helloBytes 6365 1 0 1)).drop 12).drop 2)) = .good →
    ∃ u, exec (.helloAck true (zeros 12 ++ trunkBody 2 0 (helloBytes 6365 1 0 1))) (unkeyed [1]) = .next u :=
  fun hg => ⟨_, (h (unkeyed [1]) ((unkeyed [1]).trkNoted true (zeros 12 ++ trunkBody 2 0 (helloBytes 6365 1 0 1))) true (zeros 12 ++ trunkBody 2 0 (helloBytes 6365 1 0 1)) ringMap (parseTrk (((zeros 12 ++ trunkBody 2 0 (helloBytes 6365 1 0 1)).drop 12).drop 2))).2.2.2.1 (arrives (clear_opens _ true _ (by decide +kernel)) (by decide +kernel) (by decide +kernel)) (by decide +kernel) (by decide +kernel) (by decide +kernel) (by decide +kernel) hg (by decide +kernel)⟩
theorem witness_ackOpened (h : Obligations.TrunkFramesTakeEffect) : (onRing { ringTrk with west := { up := true, handshake := true } }).ackOpened true [] = ((onRing { ringTrk with west := { up := true, handshake := true } }).modLink true fun l => { l with linkKey := linkKeyOf ringMap true [] }).keyLink true :=
  (h (onRing { ringTrk with west := { up := true, handshake := true } }) (onRing { ringTrk with west := { up := true, handshake := true } }) true [] ringMap (parseTrk [])).2.2.2.2.1 [] (by decide +kernel) (by decide +kernel) (by decide +kernel) (by decide +kernel)
theorem witness_trkEnable (h : Obligations.RingCommandsComplete) : ∃ u, exec (.trkEnable 3) (live) = .next u :=
  ⟨_, (h (live) 5 (ready 0) true).1 3 (by decide +kernel) (by decide +kernel) |>.1⟩
theorem witness_soloWrite (h : Obligations.RingCommandsComplete) : ∃ u, exec (.soloWrite 3) (live) = .next u :=
  ⟨_, (h (live) 5 (ready 0) true).1 3 (by decide +kernel) (by decide +kernel) |>.2⟩
theorem witness_trkEnable_on (h : Obligations.RingCommandsComplete) : ∃ u, exec (.trkEnable 2) (live) = .next u :=
  let ⟨u, hu, _⟩ := (h (live) 5 (ready 0) true).2.1 2 (by constructor <;> decide +kernel) (by decide +kernel) (by decide +kernel) (by decide +kernel) (by decide +kernel)
  ⟨u, hu⟩
theorem witness_helloSend_key (h : Obligations.RingCommandsComplete) : ∃ u, exec (.helloSend true) (unkeyed) = .next u :=
  by
  refine ⟨_, ((h (unkeyed) 5 (ready 0) true).2.2.1 ringMap ?_ ?_ ?_ ?_ ?_ ?_ ?_).1 ?_ ?_⟩
  all_goals decide +kernel
theorem witness_helloSend_sign (h : Obligations.RingCommandsComplete) : ∃ u, exec (.helloSend true) (unkeyed [1]) = .next u :=
  by
  refine ⟨_, ((h (unkeyed [1]) 5 (ready 0) true).2.2.1 ringMap ?_ ?_ ?_ ?_ ?_ ?_ ?_).2 ?_⟩
  all_goals decide +kernel
theorem witness_helloKeyed (h : Obligations.RingCommandsComplete) : ∃ u, unkeyed.helloKeyed true [1] = u :=
  ⟨_, (h unkeyed 5 (ready 0) true).2.2.2.1 ringMap [1] (by decide +kernel) (by decide +kernel) (by decide +kernel) (by decide +kernel)⟩
theorem witness_helloReady (h : Obligations.RingCommandsComplete) : ∃ l, (unkeyed.helloReady true [] []).out = l :=
  ⟨_, (h unkeyed 5 (ready 0) true).2.2.2.2.1 [] [] (by decide +kernel) (by decide +kernel)⟩
theorem witness_heartbeatSend (h : Obligations.RingCommandsComplete) : ∃ u, exec (.heartbeatSend true) (onRing) = .next u :=
  ⟨_, (h (onRing) 5 (ready 0) true).2.2.2.2.2.1 (by decide +kernel)⟩
theorem witness_heartbeatSilence (h : Obligations.RingCommandsComplete) : ∃ u, exec (.heartbeatSilence true) (onRing { ringTrk with west := { ringTrk.west with hbTx := [1] } }) = .next u :=
  ⟨_, (h (onRing { ringTrk with west := { ringTrk.west with hbTx := [1] } }) 5 (ready 0) true).2.2.2.2.2.2.1 ringMap (by decide +kernel) (by decide +kernel) (by decide +kernel) (by decide +kernel)⟩
theorem witness_probeTimeout (h : Obligations.RingCommandsComplete) : ∃ u, exec (.probeTimeout true) (onRing { ringTrk with west := { ringTrk.west with probe := some 5 } }) = .next u :=
  ⟨_, (h (onRing { ringTrk with west := { ringTrk.west with probe := some 5 } }) 5 (ready 0) true).2.2.2.2.2.2.2.1 (by decide +kernel)⟩
theorem witness_mirrorAckTimeout_again (h : Obligations.RingCommandsComplete) : ∃ u, exec (.mirrorAckTimeout) (onRing { ringTrk with pending := [{ lseq := 9, records := [], tries := 2 }] }) = .next u :=
  ⟨_, (h (onRing { ringTrk with pending := [{ lseq := 9, records := [], tries := 2 }] }) 5 (ready 0) true).2.2.2.2.2.2.2.2.1 ({ lseq := 9, records := [], tries := 2 }) 2 (by decide +kernel) (by decide +kernel) |>.1 (by decide +kernel)⟩
theorem witness_mirrorAckTimeout_lost (h : Obligations.RingCommandsComplete) : ∃ u, exec (.mirrorAckTimeout) (onRing { ringTrk with pending := [{ lseq := 9, records := [], tries := 3 }] }) = .next u :=
  ⟨_, (h (onRing { ringTrk with pending := [{ lseq := 9, records := [], tries := 3 }] }) 5 (ready 0) true).2.2.2.2.2.2.2.2.1 ({ lseq := 9, records := [], tries := 3 }) 2 (by decide +kernel) (by decide +kernel) |>.2 (by decide +kernel)⟩
theorem witness_rxStateSend (h : Obligations.RingCommandsComplete) : ∃ u, exec (.rxStateSend) (onRing { ringTrk with committed := 2 }) = .next u :=
  ⟨_, (h (onRing { ringTrk with committed := 2 }) 5 (ready 0) true).2.2.2.2.2.2.2.2.2.1 (by decide +kernel)⟩
theorem witness_takeoverDone (h : Obligations.RingCommandsComplete) : ∃ u, exec (.takeoverDone [] .clean) (onRing { ringTrk with takeover := some (1, []) }) = .next u :=
  let ⟨u, hu, _⟩ := (h (onRing { ringTrk with takeover := some (1, []) }) 5 (ready 0) true).2.2.2.2.2.2.2.2.2.2.1 1 [] ringMap (by decide +kernel) (by decide +kernel) (by decide +kernel)
  ⟨u, hu⟩
theorem witness_epochPassTimeout_fails (h : Obligations.RingCommandsComplete) : ∃ u, exec (.epochPassTimeout) (onRing { ringTrk with epoch := some { kind := 0, num := 1, resent := true } }) = .next u :=
  ⟨_, (h (onRing { ringTrk with epoch := some { kind := 0, num := 1, resent := true } }) 5 (ready 0) true).2.2.2.2.2.2.2.2.2.2.2.1 ({ kind := 0, num := 1, resent := true }) (by decide +kernel) (by decide +kernel) |>.1 (by decide +kernel)⟩
theorem witness_epochPassTimeout_resends (h : Obligations.RingCommandsComplete) : ∃ u, exec (.epochPassTimeout) (onRing { ringTrk with epoch := some { kind := 0, num := 1 } }) = .next u :=
  ⟨_, (h (onRing { ringTrk with epoch := some { kind := 0, num := 1 } }) 5 (ready 0) true).2.2.2.2.2.2.2.2.2.2.2.1 ({ kind := 0, num := 1 }) (by decide +kernel) (by decide +kernel) |>.2 (by decide +kernel)⟩
theorem witness_epochRetry (h : Obligations.RingCommandsComplete) : ∃ u, exec (.epochRetry) (onRing { ringTrk with epoch := some { kind := 0, num := 1, failed := true } }) = .next u :=
  ⟨_, (h (onRing { ringTrk with epoch := some { kind := 0, num := 1, failed := true } }) 5 (ready 0) true).2.2.2.2.2.2.2.2.2.2.2.2.2.1 ({ kind := 0, num := 1, failed := true }) (by decide +kernel) (by decide +kernel)⟩
theorem witness_epochPassTimeout_member (h : Obligations.RingCommandsComplete) : ∃ u, exec (.epochPassTimeout) ({ onRing with kst := { slots := [(7, { attr := attrOf true 2 [21] })] } }) = .next u :=
  ⟨_, (h ({ onRing with kst := { slots := [(7, { attr := attrOf true 2 [21] })] } }) 5 (ready 0) true).2.2.2.2.2.2.2.2.2.2.2.2.1 (by decide +kernel) (by decide +kernel)⟩
theorem witness_epochRetry_keeper (h : Obligations.RingCommandsComplete) : ∃ u, exec (.epochRetry) (onRing) = .next u :=
  ⟨_, (h (onRing) 5 (ready 0) true).2.2.2.2.2.2.2.2.2.2.2.2.2.2.1 (by decide +kernel)⟩
theorem witness_oldRingKeyExpire (h : Obligations.RingCommandsComplete) : ∃ u, exec (.oldRingKeyExpire) (onRing) = .next u :=
  ⟨_, (h (onRing) 5 (ready 0) true).2.2.2.2.2.2.2.2.2.2.2.2.2.2.2.1 ⟩
/-- A map of two members, this one with serial 0 at position 0. -/
def mapInput : Bytes := toLE 4 7 ++ [2, 0] ++ zeros 10 ++ zeros 48 ++ toBE 8 5 ++ zeros 40

theorem witness_ringMapSet (h : Obligations.RingCommandsComplete) : ∃ u, exec (.ringMapSet 5) (holding (live) (ready 0xA00 (len := 112) (input := mapInput))) = .next u :=
  ⟨_, (h (holding (live) (ready 0xA00 (len := 112) (input := mapInput))) 5 (ready 0xA00 (len := 112) (input := mapInput)) true).2.2.2.2.2.2.2.2.2.2.2.2.2.2.2.2.1 { ringId := 7, ownPos := 0, members := [(0, zeros 32), (5, zeros 32)] } (by decide +kernel) (by decide +kernel) (by decide +kernel) (by decide +kernel) (by decide +kernel) (by decide +kernel)⟩
theorem witness_ringMapClear (h : Obligations.RingCommandsComplete) : ∃ u, exec (.ringMapClear 5) (holding (onRing) (ready 0xA01)) = .next u :=
  let ⟨u, hu, _⟩ := (h (holding (onRing) (ready 0xA01)) 5 (ready 0xA01) true).2.2.2.2.2.2.2.2.2.2.2.2.2.2.2.2.2.1 (by constructor <;> decide +kernel) (by decide +kernel) (by decide +kernel) (by decide +kernel) (by decide +kernel) (by decide +kernel) (by decide +kernel)
  ⟨u, hu⟩
theorem witness_ringStatus (h : Obligations.RingCommandsComplete) : ∃ u, exec (.ringStatus 5) (holding (onRing) (ready 0xA02 (cap := 64))) = .next u :=
  ⟨_, (h (holding (onRing) (ready 0xA02 (cap := 64))) 5 (ready 0xA02 (cap := 64)) true).2.2.2.2.2.2.2.2.2.2.2.2.2.2.2.2.2.2.1 (by decide +kernel) (by decide +kernel) (by decide +kernel) (by decide +kernel) (by decide +kernel) (by decide +kernel)⟩
theorem witness_ringEpoch (h : Obligations.RingCommandsComplete) : ∃ u, exec (.ringEpoch 5) (holding (onRing { ringTrk with lostPos := [0] }) (ready 0xA03 (cap := 16))) = .next u := by
  apply Exists.intro
  apply (h (holding (onRing { ringTrk with lostPos := [0] }) (ready 0xA03 (cap := 16))) 5 (ready 0xA03 (cap := 16)) true).2.2.2.2.2.2.2.2.2.2.2.2.2.2.2.2.2.2.2 
  all_goals decide +kernel
theorem witness_ringEpoch_version (h : Obligations.RingCommandsComplete) : ∃ u, exec (.ringEpoch 5) (holding (onRing { ringTrk with lostPos := [0], committed := 2 }) (ready 0xA03 (par [(40, [1])]) (cap := 16))) = .next u := by
  apply Exists.intro
  apply (h (holding (onRing { ringTrk with lostPos := [0], committed := 2 }) (ready 0xA03 (par [(40, [1])]) (cap := 16))) 5 (ready 0xA03 (par [(40, [1])]) (cap := 16)) true).2.2.2.2.2.2.2.2.2.2.2.2.2.2.2.2.2.2.2 
  all_goals decide +kernel

/-! ### Tamper response (chapter 17) -/

theorem witness_count_ceiling (h : Obligations.TamperCommandsComplete) : ({ cls := 0, count := 255, window := 0 } : Source).needed 10 ≤ 64 :=
  (h.1 { cls := 0, count := 255, window := 0 } 10 64 (by decide +kernel)).2.1
theorem witness_tamperTick_understorey (h : Obligations.TamperCommandsComplete) : ∃ u, exec (.tamperTick (.understorey 15 false false false false 33)) (live) = .next u :=
  ⟨_, (h.2.2.2.2 (live)).1 15 false false false false 33⟩
theorem witness_tamperTick_main (h : Obligations.TamperCommandsComplete) : ∃ u, exec (.tamperTick (.main false [0] 1500 false 0 false)) (live) = .next u :=
  ⟨_, (h.2.2.2.2 (live)).2.1 (by decide +kernel) (by decide +kernel) |>.1 false [0] 1500 false 0 false⟩
theorem witness_tamperTick_burst (h : Obligations.TamperCommandsComplete) : ∃ u, exec (.tamperTick .burst) (live) = .next u :=
  ⟨_, (h.2.2.2.2 (live)).2.1 (by decide +kernel) (by decide +kernel) |>.2⟩
theorem witness_tallyBurnDone (h : Obligations.TamperCommandsComplete) : ∃ u, exec (.tallyBurnDone 1) ({ live with ust := { live.ust with latch := [0, 1, 0, 0, 0, 0, 0, 0] }, tem := { live.tem with tallies := [0, 1023, 0, 0, 0, 0, 0, 0] } }) = .next u :=
  let ⟨u, hu, _⟩ := (h.2.2.2.2 ({ live with ust := { live.ust with latch := [0, 1, 0, 0, 0, 0, 0, 0] }, tem := { live.tem with tallies := [0, 1023, 0, 0, 0, 0, 0, 0] } })).2.2.1 1 0 1023 (by decide +kernel) (by decide +kernel) (by decide +kernel) (by decide +kernel)
  ⟨u, hu⟩
theorem witness_respClear_degrade (h : Obligations.TamperCommandsComplete) : ∃ u, exec (.respClearDegrade 1) ({ live with tem := { live.tem with resp := 1 } }) = .next u :=
  let ⟨u, hu, _⟩ := (h.2.2.2.2 ({ live with tem := { live.tem with resp := 1 } })).2.2.2.1 1 (by decide +kernel) (by decide +kernel) (by decide +kernel) |>.1 (by decide +kernel)
  ⟨u, hu⟩
theorem witness_respClear_halt (h : Obligations.TamperCommandsComplete) : ∃ u, exec (.respClearDegrade 1) ({ live with tem := { live.tem with resp := 2 } }) = .next u :=
  ⟨_, (h.2.2.2.2 ({ live with tem := { live.tem with resp := 2 } })).2.2.2.1 1 (by decide +kernel) (by decide +kernel) (by decide +kernel) |>.2 (by decide +kernel)⟩
theorem witness_temLock (h : Obligations.TamperCommandsComplete) : ∃ u, exec (.temLock 1) (live) = .next u :=
  ⟨_, (h.2.2.2.2 (live)).2.2.2.2.1 1 (by decide +kernel) (by decide +kernel) (by decide +kernel)⟩
theorem witness_srcCfg_locked (h : Obligations.TamperCommandsComplete) : ({ live with tem := { live.tem with locked := true } } : State).srcCfgWrite 1 = ({ live with tem := { live.tem with locked := true } } : State) :=
  ((h.2.2.2.2 ({ live with tem := { live.tem with locked := true } } : State)).2.2.2.2.2.1 1 (by decide +kernel)).1
theorem witness_rtcSet (h : Obligations.TamperCommandsComplete) : ∃ u, exec (.rtcSet 1) (live) = .next u :=
  let ⟨u, hu, _⟩ := (h.2.2.2.2 (live)).2.2.2.2.2.2.1 1 (by decide +kernel) (by decide +kernel) (by decide +kernel) (by constructor <;> decide +kernel)
  ⟨u, hu⟩
theorem witness_rtcSync (h : Obligations.TamperCommandsComplete) : ∃ u, exec (.rtcSync) ({ live with regs := [(Reg.ustRtcCtrl, 2)], tod := { live.tod with servoSeen := true } }) = .next u :=
  ⟨_, (h.2.2.2.2 ({ live with regs := [(Reg.ustRtcCtrl, 2)], tod := { live.tod with servoSeen := true } })).2.2.2.2.2.2.2.1 (by decide +kernel) (by decide +kernel) (by decide +kernel)⟩
theorem witness_rtcSubRead (h : Obligations.TamperCommandsComplete) : ∃ u, exec (.rtcSubRead) (live) = .next u :=
  ⟨_, (h.2.2.2.2 (live)).2.2.2.2.2.2.2.2 (by decide +kernel) (by decide +kernel) (by decide +kernel) (by decide +kernel) |>.1⟩
theorem witness_logData0Read (h : Obligations.TamperCommandsComplete) : ∃ u, exec (.logData0Read) (live) = .next u :=
  ⟨_, (h.2.2.2.2 (live)).2.2.2.2.2.2.2.2 (by decide +kernel) (by decide +kernel) (by decide +kernel) (by decide +kernel) |>.2⟩

/-! ### The card port (chapter 18) -/

/-- The serving device with its card port as given. -/
def withCard (c : Crd) : State := { serving with crd := c }
/-- A card that is active, and one with a session. -/
def cardOn : Crd := { present := true, active := true }

theorem witness_cardInsert (h : Obligations.CardCommandsComplete) : ∃ u, exec (.cardInsert true) (live) = .next u :=
  ⟨_, (h (live) 5 (ready 0)).1 true (by decide +kernel)⟩
theorem witness_cardRemove (h : Obligations.CardCommandsComplete) : ∃ u, exec (.cardRemove) (withCard cardOn) = .next u :=
  ⟨_, (h (withCard cardOn) 5 (ready 0)).2.1 (by decide +kernel)⟩
theorem witness_t1BlockReceive_atr (h : Obligations.CardCommandsComplete) : ∃ u, exec (.t1BlockReceive [0x3B] true) (withCard { cardOn with wait := .atr }) = .next u :=
  ⟨_, (h (withCard { cardOn with wait := .atr }) 5 (ready 0)).2.2.1 [0x3B] true |>.1 (by decide +kernel)⟩
theorem witness_t1BlockReceive_pps (h : Obligations.CardCommandsComplete) : ∃ u, exec (.t1BlockReceive [0x3B] true) (withCard { cardOn with wait := .pps }) = .next u :=
  ⟨_, (h (withCard { cardOn with wait := .pps }) 5 (ready 0)).2.2.1 [0x3B] true |>.2.1 (by decide +kernel) (by decide +kernel)⟩
theorem witness_t1BlockReceive_ifs (h : Obligations.CardCommandsComplete) : ∃ u, exec (.t1BlockReceive [0x3B] true) (withCard { cardOn with wait := .ifs }) = .next u :=
  ⟨_, (h (withCard { cardOn with wait := .ifs }) 5 (ready 0)).2.2.1 [0x3B] true |>.2.2 (.inl (by decide +kernel)) (by decide +kernel)⟩
theorem witness_t1BlockReceive_apdu (h : Obligations.CardCommandsComplete) : ∃ u, exec (.t1BlockReceive [0x3B] true) (withCard { cardOn with wait := .apdu }) = .next u :=
  ⟨_, (h (withCard { cardOn with wait := .apdu }) 5 (ready 0)).2.2.1 [0x3B] true |>.2.2 (.inr (by decide +kernel)) (by decide +kernel)⟩
theorem witness_t1WaitTimeout (h : Obligations.CardCommandsComplete) : ∃ u, exec (.t1WaitTimeout 60000) (withCard { cardOn with wait := .apdu }) = .next u :=
  ⟨_, (h (withCard { cardOn with wait := .apdu }) 5 (ready 0)).2.2.2.1 60000 (by decide +kernel) (by decide +kernel)⟩
theorem witness_atrWaitTimeout (h : Obligations.CardCommandsComplete) : ∃ u, exec (.atrWaitTimeout) (withCard { cardOn with wait := .atr }) = .next u :=
  ⟨_, (h (withCard { cardOn with wait := .atr }) 5 (ready 0)).2.2.2.2.1 (by decide +kernel)⟩
theorem witness_ceremonyLapse (h : Obligations.CardCommandsComplete) : ∃ u, exec (.ceremonyLapse) (live) = .next u :=
  ⟨_, (h (live) 5 (ready 0)).2.2.2.2.2.1 ⟩
theorem witness_crdRxDataRead (h : Obligations.CardCommandsComplete) : ∃ u, exec (.crdRxDataRead) (withCard { rx := [7] }) = .next u :=
  ⟨_, (h (withCard { rx := [7] }) 5 (ready 0)).2.2.2.2.2.2.1 (by decide +kernel) (by decide +kernel) (by decide +kernel) |>.1 7 [] (by decide +kernel)⟩
theorem witness_crdRxDataRead_underrun (h : Obligations.CardCommandsComplete) : ∃ u, exec (.crdRxDataRead) (live) = .next u :=
  ⟨_, (h (live) 5 (ready 0)).2.2.2.2.2.2.1 (by decide +kernel) (by decide +kernel) (by decide +kernel) |>.2 (by decide +kernel)⟩
theorem witness_cardActivate (h : Obligations.CardCommandsComplete) : ∃ u, exec (.cardActivate 5) (holding (withCard cardOn) (ready 0xB00 (cap := 40))) = .next u := by
  refine ⟨_, (h (holding (withCard cardOn) (ready 0xB00 (cap := 40))) 5 (ready 0xB00 (cap := 40))).2.2.2.2.2.2.2.1 ?_ ?_ ?_ |>.1 ?_ ?_ ?_ ?_⟩
  all_goals decide +kernel
theorem witness_cardDeactivate (h : Obligations.CardCommandsComplete) : ∃ u, exec (.cardDeactivate 5) (holding (withCard cardOn) (ready 0xB01)) = .next u :=
  ⟨_, (h (holding (withCard cardOn) (ready 0xB01)) 5 (ready 0xB01)).2.2.2.2.2.2.2.1 (by decide +kernel) (by decide +kernel) (by decide +kernel) |>.2.1 (by decide +kernel) (by decide +kernel) (by decide +kernel)⟩
theorem witness_cardApdu_first (h : Obligations.CardCommandsComplete) : ∃ u, exec (.cardApdu 5) (holding (withCard cardOn) (ready 0xB02 (len := 4) (cap := 2) (input := [0, 0xA4, 0, 1]))) = .next u := by
  refine ⟨_, (h (holding (withCard cardOn) (ready 0xB02 (len := 4) (cap := 2) (input := [0, 0xA4, 0, 1]))) 5 (ready 0xB02 (len := 4) (cap := 2) (input := [0, 0xA4, 0, 1]))).2.2.2.2.2.2.2.1 ?_ ?_ ?_ |>.2.2 ?_ |>.1 ?_ ?_ ?_ ?_ ?_ ?_ ?_⟩
  all_goals decide +kernel
theorem witness_cardApdu_last (h : Obligations.CardCommandsComplete) : ∃ u, exec (.cardApdu 5) (holding (withCard cardOn) (ready 0xB02 (len := 4105) (cap := 2) (input := [0, 0xA4, 0, 1]))) = .next u := by
  refine ⟨_, (h (holding (withCard cardOn) (ready 0xB02 (len := 4105) (cap := 2) (input := [0, 0xA4, 0, 1]))) 5 (ready 0xB02 (len := 4105) (cap := 2) (input := [0, 0xA4, 0, 1]))).2.2.2.2.2.2.2.1 ?_ ?_ ?_ |>.2.2 ?_ |>.1 ?_ ?_ ?_ ?_ ?_ ?_ ?_⟩
  all_goals decide +kernel
theorem witness_sealedRead (h : Obligations.CardCommandsComplete) : ∃ u, exec (.sealedRead 5) (holding (withCard cardOn) (ready 0xB20 (par [(40, [15])]) (cap := 260))) = .next u := by
  refine ⟨_, (h (holding (withCard cardOn) (ready 0xB20 (par [(40, [15])]) (cap := 260))) 5 (ready 0xB20 (par [(40, [15])]) (cap := 260))).2.2.2.2.2.2.2.1 ?_ ?_ ?_ |>.2.2 ?_ |>.2.1 ?_ ?_ ?_ ?_ ?_⟩
  all_goals decide +kernel
theorem witness_sealedWrite (h : Obligations.CardCommandsComplete) : ∃ u, exec (.sealedWrite 5) (holding (withCard cardOn) (ready 0xB21 (par [(40, [1])]) (len := 256) (cap := 4))) = .next u := by
  refine ⟨_, (h (holding (withCard cardOn) (ready 0xB21 (par [(40, [1])]) (len := 256) (cap := 4))) 5 (ready 0xB21 (par [(40, [1])]) (len := 256) (cap := 4))).2.2.2.2.2.2.2.1 ?_ ?_ ?_ |>.2.2 ?_ |>.2.2.1 ?_ ?_ ?_ ?_ ?_ ?_⟩
  all_goals decide +kernel
theorem witness_sealedCounter (h : Obligations.CardCommandsComplete) : ∃ u, exec (.sealedCounter 5) (holding (withCard cardOn) (ready 0xB22 (cap := 4))) = .next u := by
  refine ⟨_, (h (holding (withCard cardOn) (ready 0xB22 (cap := 4))) 5 (ready 0xB22 (cap := 4))).2.2.2.2.2.2.2.1 ?_ ?_ ?_ |>.2.2 ?_ |>.2.2.2.1 ?_ ?_ ?_ ?_⟩
  all_goals decide +kernel
theorem witness_ceremonyCard (h : Obligations.CardCommandsComplete) : ∃ u, exec (.ceremonyCard 5) (holding (withCard { cardOn with cer := some { kind := 2, m := 2, n := 0, cards := List.replicate 7 0 } }) (ready 0xB11 (cap := 16))) = .next u := by
  refine ⟨_, (h (holding (withCard { cardOn with cer := some { kind := 2, m := 2, n := 0, cards := List.replicate 7 0 } }) (ready 0xB11 (cap := 16))) 5 (ready 0xB11 (cap := 16))).2.2.2.2.2.2.2.1 ?_ ?_ ?_ |>.2.2 ?_ |>.2.2.2.2.1 ({ kind := 2, m := 2, n := 0, cards := List.replicate 7 0 }) ?_ ?_ ?_ ?_ ?_ ?_ ?_⟩
  all_goals decide +kernel
theorem witness_ceremonyBegin (h : Obligations.CardCommandsComplete) : ∃ u, exec (.ceremonyBegin 5) (holding (withCard cardOn) (ready 0xB10 (par [(40, [2, 8])]))) = .next u := by
  refine ⟨_, (h (holding (withCard cardOn) (ready 0xB10 (par [(40, [2, 8])]))) 5 (ready 0xB10 (par [(40, [2, 8])]))).2.2.2.2.2.2.2.1 ?_ ?_ ?_ |>.2.2 ?_ |>.2.2.2.2.2.1 ?_ ?_ ?_ ?_ ?_ ?_ ?_ ?_ ?_ ?_ ?_⟩
  all_goals decide +kernel
theorem witness_ceremonyEnd (h : Obligations.CardCommandsComplete) : ∃ u, exec (.ceremonyEnd 5) (holding (withCard { cardOn with cer := some { kind := 2, m := 2, n := 0, cards := List.replicate 7 0 } }) (ready 0xB12 (par [(40, [1])]))) = .next u := by
  refine ⟨_, (h (holding (withCard { cardOn with cer := some { kind := 2, m := 2, n := 0, cards := List.replicate 7 0 } }) (ready 0xB12 (par [(40, [1])]))) 5 (ready 0xB12 (par [(40, [1])]))).2.2.2.2.2.2.2.1 ?_ ?_ ?_ |>.2.2 ?_ |>.2.2.2.2.2.2 ({ kind := 2, m := 2, n := 0, cards := List.replicate 7 0 }) ?_ ?_ ?_ ?_ ?_⟩
  all_goals decide +kernel
theorem witness_cardDeactivate_waits (h : Obligations.CardCommandsComplete) : ∃ u, exec (.cardDeactivate 5) (holding (withCard { cardOn with slot := some 9 }) (ready 0xB01)) = .next u :=
  ⟨_, (h (holding (withCard { cardOn with slot := some 9 }) (ready 0xB01)) 5 (ready 0xB01)).2.2.2.2.2.2.2.2.1 (by decide +kernel) (by decide +kernel)⟩
theorem witness_sealedStart (h : Obligations.CardCommandsComplete) : ∃ u, (withCard cardOn).sealedStart 5 = u :=
  ⟨_, (h (withCard cardOn) 5 (ready 0)).2.2.2.2.2.2.2.2.2.1 (by decide +kernel) (by decide +kernel) (by decide +kernel)⟩
theorem witness_sealedStart_session (h : Obligations.CardCommandsComplete) : ∃ u, (withCard { cardOn with session := some [] }).sealedStart 5 = u :=
  ⟨_, (h (withCard { cardOn with session := some [] }) 5 (ready 0)).2.2.2.2.2.2.2.2.2.2 (by decide +kernel)⟩

/-! ### Memory and loops (chapters 19 and 21) -/

/-- The serving device with an SA and a JRN partition of 1 MiB, and a memory key where given. -/
def partsOf (key : Option Bytes := none) : State :=
  { live with regs := [(Reg.memPartSa, 1), (Reg.memPartJrn, 1)], mem := { key := key } }

theorem witness_hbm_jrn (h : Obligations.HbmLines) : ((partsOf).putLine 1048576 (zeros 64)).storedLine 1048576 = zeros 64 :=
  ((h.2.2.1 (partsOf) 1048576 (zeros 64) (by constructor <;> decide +kernel) (by decide +kernel)).2.2.1 (by decide +kernel)).1
theorem witness_hbm_sealed (h : Obligations.HbmLines) : ∃ b, ((partsOf (some (zeros 64))).putLine 64 (zeros 64)).storedLine 64 = b :=
  ⟨_, ((h.2.2.1 (partsOf (some (zeros 64))) 64 (zeros 64) (by constructor <;> decide +kernel) (by decide +kernel)).2.2.2.1 (zeros 64) (by decide +kernel) (by decide +kernel)).1⟩
theorem witness_hbm_noKey (h : Obligations.HbmLines) : (partsOf).getLine 64 = zeros 64 :=
  ((h.2.2.1 (partsOf) 64 (zeros 64) (by constructor <;> decide +kernel) (by decide +kernel)).2.2.2.2.1 (by decide +kernel) (by decide +kernel)).2
theorem witness_hbm_other (h : Obligations.HbmLines) : ((partsOf).putLine 1048576 (zeros 64)).storedLine 1048640 = (partsOf).storedLine 1048640 :=
  (h.2.2.1 (partsOf) 1048576 (zeros 64) (by constructor <;> decide +kernel) (by decide +kernel)).2.2.2.2.2 1048640 (by decide +kernel)
/-- The scrubber at a line, every stack trained. -/
def scrubAt (n : Nat) : State := { live with mem := { hbm := List.replicate 4 { trained := true }, scrubPos := n } }
/-- Flips of one byte of a 72-byte word. -/
def oneFlip : Bytes := zeros 5 ++ [0x10] ++ zeros 66

theorem witness_scrub_next (h : Obligations.HbmLines) : ∃ u, exec (.patrolScrub (zeros 72) 0) (scrubAt 1610612734) = .next u :=
  ⟨_, ((h.2.2.2 (scrubAt 1610612734)).1 (by decide +kernel) (zeros 72) 0).1 (by decide +kernel) (by decide +kernel)⟩
theorem witness_scrub_outer (h : Obligations.HbmLines) : ∃ u, exec (.patrolScrub oneFlip 0) (scrubAt 0) = .next u :=
  ⟨_, ((h.2.2.2 (scrubAt 0)).1 (by decide +kernel) oneFlip 0).2.1 (zeros 64, 1) (by decide +kernel) (by decide +kernel) (by decide +kernel)⟩
theorem witness_scrub_inner (h : Obligations.HbmLines) : ∃ u, exec (.patrolScrub (zeros 72) 1) (scrubAt 0) = .next u :=
  ⟨_, ((h.2.2.2 (scrubAt 0)).1 (by decide +kernel) (zeros 72) 1).2.2.1 (by decide +kernel) (by decide +kernel)⟩
theorem witness_scrub_pass (h : Obligations.HbmLines) : ∃ u, exec (.patrolScrub (zeros 72) 0) (scrubAt 1610612735) = .next u :=
  ⟨_, ((h.2.2.2 (scrubAt 1610612735)).1 (by decide +kernel) (zeros 72) 0).2.2.2 (by decide +kernel) (by decide +kernel)⟩
theorem witness_hotRefreshChange (h : Obligations.HbmLines) : ∃ u, exec (.hotRefreshChange 3 86) (live) = .next u :=
  let ⟨u, hu, _⟩ := (h.2.2.2 live).2 3 86 {} (by decide +kernel)
  ⟨u, hu⟩
theorem witness_avsBounds (h : Obligations.LoopCommandsComplete) : ({ live with regs := [(Reg.adlAvsVout, 860)] } : State).avsTarget (-5) ≤ ({ live with regs := [(Reg.adlAvsVout, 860)] } : State).vddBounds.2 :=
  ((h.1 ({ live with regs := [(Reg.adlAvsVout, 860)] } : State) (by decide +kernel) (-5)).1 (by decide +kernel) (by decide +kernel)).2.1
theorem witness_avsAbove (h : Obligations.LoopCommandsComplete) : ({ live with regs := [(Reg.adlAvsVout, 900)] } : State).avsTarget (-5) < ({ live with regs := [(Reg.adlAvsVout, 900)] } : State).avsMv :=
  ((h.1 ({ live with regs := [(Reg.adlAvsVout, 900)] } : State) (by decide +kernel) (-5)).2.1 (by decide +kernel)).1
theorem witness_avsBelow (h : Obligations.LoopCommandsComplete) : ({ live with regs := [(Reg.adlAvsVout, 600)] } : State).avsMv < ({ live with regs := [(Reg.adlAvsVout, 600)] } : State).avsTarget (-5) :=
  ((h.1 ({ live with regs := [(Reg.adlAvsVout, 600)] } : State) (by decide +kernel) (-5)).2.2 (by decide +kernel)).1
theorem witness_ctleBounds (h : Obligations.LoopCommandsComplete) : (({ ctle := 15 } : Lane).step 0 true).ctle ≤ 15 :=
  (h.2.1 { ctle := 15 } true (by decide +kernel) (by decide +kernel)).2.1
theorem witness_lane_frozen (h : Obligations.LoopCommandsComplete) : ({ freeze := true } : Lane).adapt none = { freeze := true } :=
  (h.2.2.1 { freeze := true } none).1 (by decide +kernel)
theorem witness_lane_stray (h : Obligations.LoopCommandsComplete) : ({ ctleMin := 3 } : Lane).adapt none = ({ ctleMin := 3 } : Lane).step 0 true :=
  (h.2.2.1 { ctleMin := 3 } none).2.1 0 (by decide +kernel) (by decide +kernel)
theorem witness_lane_move (h : Obligations.LoopCommandsComplete) : ({} : Lane).adapt (some (1, false)) = ({} : Lane).step 1 false :=
  (h.2.2.1 {} (some (1, false))).2.2 1 false (by decide +kernel) (by decide +kernel) rfl
theorem witness_avsStep (h : Obligations.LoopCommandsComplete) : ∃ u, exec (.avsStep ⟨[], 0⟩ true) ({ live with regs := [(Reg.adlAvsVout, 801)] }) = .next u :=
  let ⟨u, hu, _⟩ := (h.2.2.2 ({ live with regs := [(Reg.adlAvsVout, 801)] }) 5 (ready 0)).1 ⟨[], 0⟩ (by decide +kernel) (by decide +kernel) (by constructor <;> decide +kernel) (by decide +kernel) (by decide +kernel)
  ⟨u, hu⟩
theorem witness_avsStep_hold (h : Obligations.LoopCommandsComplete) : ∃ u, exec (.avsStep ⟨[], 0⟩ true) ({ live with adl := { live.adl with hold := true } }) = .next u :=
  ⟨_, (h.2.2.2 ({ live with adl := { live.adl with hold := true } }) 5 (ready 0)).2.1 ⟨[], 0⟩ true (by decide +kernel) (by decide +kernel)⟩
theorem witness_droopBegin (h : Obligations.LoopCommandsComplete) : ∃ u, exec (.droopEpisodeBegin) (live) = .next u :=
  ⟨_, (h.2.2.2 (live) 5 (ready 0)).2.2.1 (by decide +kernel) (by decide +kernel)⟩
theorem witness_droopEnd (h : Obligations.LoopCommandsComplete) : ∃ u, exec (.droopEpisodeEnd) (live) = .next u :=
  ⟨_, (h.2.2.2 (live) 5 (ready 0)).2.2.2.1 ⟩
theorem witness_serdesAdapt (h : Obligations.LoopCommandsComplete) : ∃ u, exec (.serdesAdaptStep 0 (some (0, true)) 9) ({ live with pwr := { live.pwr with portOn := 0xFF } }) = .next u :=
  ⟨_, (h.2.2.2 ({ live with pwr := { live.pwr with portOn := 0xFF } }) 5 (ready 0)).2.2.2.2.1 0 (some (0, true)) 9 {} (by decide +kernel) (by decide +kernel) (by decide +kernel)⟩
theorem witness_avsCalibrate (h : Obligations.LoopCommandsComplete) : ∃ u, exec (.avsCalibrate 5) (holding (live) (ready 0xD20 (cap := 8))) = .next u :=
  by
  apply Exists.intro
  apply (h.2.2.2 (holding (live) (ready 0xD20 (cap := 8))) 5 (ready 0xD20 (cap := 8))).2.2.2.2.2.1
  all_goals decide +kernel
theorem witness_avsCalibrationEnd (h : Obligations.LoopCommandsComplete) : ∃ u, exec (.avsCalibrationEnd [0] [-1]) ({ live with adl := { live.adl with calib := some { slot := 5, serdes := false } } }) = .next u :=
  ⟨_, (h.2.2.2 ({ live with adl := { live.adl with calib := some { slot := 5, serdes := false } } }) 5 (ready 0)).2.2.2.2.2.2.1 ({ slot := 5, serdes := false }) [0] [-1] (by decide +kernel) (by decide +kernel)⟩
theorem witness_serdesRecal (h : Obligations.LoopCommandsComplete) : ∃ u, exec (.serdesRecal 5) (holding ({ live with pwr := { live.pwr with portOn := 0xFF }, line := { groups := [{ mode := 1 }] } }) (ready 0xD21 (par [(40, [0, 15])]) (cap := 16))) = .next u :=
  by
  apply Exists.intro
  apply (h.2.2.2 (holding ({ live with pwr := { live.pwr with portOn := 0xFF }, line := { groups := [{ mode := 1 }] } }) (ready 0xD21 (par [(40, [0, 15])]) (cap := 16))) 5 (ready 0xD21 (par [(40, [0, 15])]) (cap := 16))).2.2.2.2.2.2.2.2.1
  all_goals decide +kernel
theorem witness_serdesRecalEnd (h : Obligations.LoopCommandsComplete) : ∃ u, exec (.serdesRecalEnd []) ({ live with adl := { live.adl with calib := some { slot := 5, serdes := true } } }) = .next u :=
  let ⟨u, hu, _⟩ := (h.2.2.2 ({ live with adl := { live.adl with calib := some { slot := 5, serdes := true } } }) 5 (ready 0)).2.2.2.2.2.2.2.2.2 ({ slot := 5, serdes := true }) (by decide +kernel) (by decide +kernel) (by decide +kernel)
  ⟨u, hu⟩

/-! ### Every command -/

theorem witness_answers_bar (h : Obligations.EveryCommandAnswers) : ∃ u, exec (.registerWrite 0x7FFFFFC 1) live = .next u :=
  h.1 (.registerWrite 0x7FFFFFC 1) live (fun _ _ a => by cases a; decide)
theorem witness_answers_config (h : Obligations.EveryCommandAnswers) : ∃ u, exec (.registerWrite 0x100FFFFC 1) live = .next u :=
  h.1 (.registerWrite 0x100FFFFC 1) live (fun _ _ a => by cases a; decide)
theorem witness_answers_step (h : Obligations.EveryCommandAnswers) : ∃ u, step { live with pending := [.pf0Flr] } = .next u :=
  h.2.1 .pf0Flr [] { live with pending := [.pf0Flr] } rfl (fun _ _ a => by cases a)
theorem witness_keepsCanonical (h : Obligations.StepKeepsCanonical) : ∀ u, step State.reset = .next u → Canonical u :=
  fun u a => h State.reset u (by constructor <;> decide +kernel) a
theorem witness_burns (h : Obligations.OtpOnlyBurns) : ∃ u, exec .lockTimeout live = .next u ∧ live.lcs.otp.svnFw ≤ u.lcs.otp.svnFw :=
  ⟨_, rfl, (h live _ .lockTimeout rfl).2.2.2.2.2.1⟩

/-! ### The spec's worked examples -/

/-- Unit 2 set for CRC-32 and started (the example of chapter 9). -/
def crcUnit : State :=
  { live with regs := [(cvuReg 2 Reg.cvuCtrl, 0x1A0), (cvuReg 2 Reg.cvuPolyLo, 0x04C11DB7), (cvuReg 2 Reg.cvuInitLo, 0xFFFFFFFF),
      (cvuReg 2 Reg.cvuXoroutLo, 0xFFFFFFFF)] }
/-- The digits 1 to 9 as two words and a byte. -/
def crcDigits : State :=
  (((crcUnit.cvuInit 2).cvuAbsorb 2 (toLE 4 0x34333231)).cvuAbsorb 2 (toLE 4 0x38373635)).cvuAbsorb 2 (toLE 1 0x39)
theorem test_crc_init : (crcUnit.cvuInit 2).cvuGet 2 Reg.cvuValueLo = 0xFFFFFFFF := by decide +kernel
theorem test_crc_result : crcDigits.cvuResult 2 = 0xCBF43926 := by decide +kernel
theorem test_crc_value : crcDigits.cvuGet 2 Reg.cvuValueLo = 0x340BC6D9 := by decide +kernel
/-- Life-cycle copies of chapter 2: a move cut short, and one that decodes to no state. -/
theorem test_majority_cutShort : stateOfCode (majority 0x0FFFFFFF 0x00FFFFFF 0x00FFFFFF) = some .provisioned := by decide +kernel
theorem test_majority_invalid : stateOfCode (majority 0x0000FFFF 0x0F0FFFFF 0x0FF0FFFF) = none := by decide +kernel
/-- Three idle lattice engines in groups 0, 2 and 4 at 80, 96 and 88 °C with 3, 0 and 10 corrected errors (chapter 3). -/
def threeEngines : State :=
  { live with comb := { combOn with
      engines := [{ kind := 0, firstCell := 0, maskCh := 0, ceTimes := [0, 0, 0] }, { kind := 0, firstCell := 32, maskCh := 0 },
        { kind := 0, firstCell := 64, maskCh := 0, ceTimes := List.replicate 10 0 }]
      temps := [80, 0, 96, 0, 88, 0, 0, 0, 0, 0, 0, 0] } }
theorem test_scores : threeEngines.comb.engines.map threeEngines.engineScore = [12, 22, 46] := by decide +kernel
theorem test_choice : threeEngines.chooseEngine aVerify = some 0 := by decide +kernel
/-- D(op) of 36,000 cycles and a longest instruction of 1,000 at G = 1 µs is 38 µs. -/
theorem test_dop : State.reset.dop 36000 1000 = 38000 := by decide +kernel
/-- Entry 59 ends before 58: HEAD_IDX stays 58, then becomes 60 (chapter 10). -/
def lateHead : Queue := ({ openQueue with fetch := 60, head := 58 } : Queue).retire 59
theorem test_head_stays : lateHead.head = 58 := by decide +kernel
theorem test_head_moves : (lateHead.retire 58).head = 60 := by decide +kernel
/-- The GOOSE entry of chapter 12. -/
def gooseEntry : Bytes :=
  [0x05, 0x01, 0xB8, 0x88, 0x64, 0x00, 0x03, 0x00] ++ zeros 24 ++ [0xFF, 0x07, 0xFF, 0xFF, 0xFF, 0x0F, 0xFF, 0xFF] ++ zeros 24 ++
    [0x00, 0x12, 0x00, 0x00, 0x04, 0x12, 0x00, 0x00, 0x00, 0x01, 0x01, 0x01, 0x00, 0x00, 0x00, 0x00]
/-- The key of a GOOSE frame with PCP 4, by PORT and HDRS. -/
def gooseKey (port hdrs : Byte) : Bytes := [port, hdrs, 0xB8, 0x88, 0x64, 0x80, 0x03, 0x00] ++ zeros 24
theorem test_goose_legal : clsEntryOk gooseEntry = true ∧ clsResult 0x40 gooseEntry = ⟨0x40, 0x1200, 0x1204, 0, 1, 1⟩ := by
  decide +kernel
theorem test_goose_match : [(0x05, 0x01), (0x05, 0x09), (0x05, 0x05), (0x0D, 0x01)].map (fun k => clsMatches (gooseKey k.1 k.2) gooseEntry) =
    [true, true, false, false] := by decide +kernel
/-- NOMINAL_MV 600 and σ of 2,000 ns: B is 20,000 ns; in WIDE it is 320,000 ns (chapter 14). -/
def witnessAt (state : Nat) : State :=
  { live with regs := [(Reg.phwNominalMv, 600)], phw := { live.phw with state := state, sigma := 2000 } }
theorem test_bound : ((witnessAt 2).phwBound, (witnessAt 3).phwBound) = (20000, 320000) := by decide +kernel
theorem test_wide_at_435 : ((witnessAt 2).phwNext 435 50000).1 = 3 ∧ ((witnessAt 3).phwNext 597 50000).1 = 4 := by decide +kernel
/-- TAKEN_END_SEQ 0x01234560 gives a first SEQ of 0x01260000 (chapter 15). -/
theorem test_first_seq : roundUp (0x01234560 + 2 ^ 17) (2 ^ 16) = 0x01260000 := by decide

/-! ### Microcode (chapter 4) -/
/-- Little-endian words and double words as bytes. -/
def words32 (l : List Nat) : Bytes := (l.map (toLE 4)).flatten
/-- A class C program of opcode 0x0101 with one instruction of EOP 0, LEN 2, its routine at address 0 in a mode. -/
def oneHeader (compat : Nat) : Bytes := toLE 16 (0x0101 + 2 ^ 30 + 2 ^ 44 + compat * 2 ^ 45)
def oneStores (control : List Nat) (compat : Nat) : StoreSet :=
  { entry := toLE 4 (2 ^ 31 + (if compat = 1 then 2 ^ 30 else 2 ^ 14)) ++ zeros 4092, control := words32 control
    directory := [oneHeader compat], program := toLE 8 (2 * 2 ^ 14) }
/-- The butterfly with a two-way test on LC0_Z and LC3_Z: the four outcomes of the worked example. -/
def branchWalk : WalkOf := ⟨oneStores [] 0, 0, oneHeader 0, 0, 0⟩
theorem test_branch_outcomes :
    [[1, 0, 0, 1], [0, 0, 0, 1], [1, 0, 0, 0], [0, 0, 0, 0]].map (fun l => branchWalk.next { addr := 0x1230, lc := l } 0x20024C40) =
      [[0x0C40], [0x0C41], [0x0C48], [0x0C49]] := by decide +kernel
/-! Two words in native mode; a counted loop of three passes in compatibility mode with LC0 set from LEN. -/
theorem test_walk_native : ((oneStores [1, 0x00400000] 0).programOf 0 (oneHeader 0)).p0 = 3 := by decide +kernel
theorem test_walk_compat :
    (oneStores [0xA0000000, 0xA2000000, 0xC8000001, 0x00400000] 1).checkProgram 0 (oneHeader 1) = .inr [6] := by decide +kernel
/-! Arms of a branch on IDX_OOR that meet are accepted; arms of unequal length, a branch on data, and a path past the last word are refused. -/
theorem test_arms_meet :
    (oneStores [0x00104002, 0, 0x00000004, 0x00000004, 0x00400000] 0).checkProgram 0 (oneHeader 0) = .inr [3] := by decide +kernel
theorem test_arms_unequal :
    (oneStores [0x00104002, 0, 0x00000004, 0x00000002, 0x00400000] 0).checkProgram 0 (oneHeader 0) = .inl ⟨0xA, 0, 4⟩ := by decide +kernel
theorem test_branch_on_data : (oneStores [0x00204002, 0, 0x00400000, 0x00400000] 0).checkProgram 0 (oneHeader 0) = .inl ⟨0xA, 0, 0⟩ := by
  decide +kernel
theorem test_path_past_end : (oneStores [1, 5] 0).checkProgram 0 (oneHeader 0) = .inl ⟨5, 0, 1⟩ := by decide +kernel

/-! ### The shipped layouts, the curves, the mask feed and the outer code -/
theorem test_shipped_legal : (List.range 3).map (fun n => layoutOk (shippedBody n ([256, 32, 1024, 4096].flatMap (toLE 4)))) = [true, true, true] := by decide +kernel
/-! Engines of each kind in Table 3.5, and the first cells of engines 40 and 44 of the balanced layout. -/
theorem test_shipped_kinds : (List.range 3).map (fun n => (List.range 4).map fun k => ((shippedCells n).filter fun e => e.1 == k).length) =
    [[24, 12, 4, 5], [36, 12, 0, 3], [12, 8, 2, 2]] := by decide +kernel
theorem test_shipped_cells : ((shippedCells 0).getD 40 (0, 0), (shippedCells 0).getD 44 (0, 0)) = ((3, 120), (3, 184)) := by decide +kernel
/-! The base points have the orders of their curves. -/
theorem test_order_nist : (List.range 3).all (fun i =>
    (ecMul (ecPrime i) 521 (ecOrder i) ⟨(ecBase i).1, (ecBase i).2, 1⟩).z % ecPrime i == 0) = true := by decide +kernel
theorem test_order_edwards : (List.range 2).all (fun i =>
    let p := edMul i 448 (edOrder i) ⟨(edBase i).1, (edBase i).2, 1⟩
    p.x % edPrime i == 0 && (p.y + edPrime i - p.z) % edPrime i == 0) = true := by decide +kernel
/-! A jump of 2^4 steps is 16 steps. -/
theorem test_lfsr_jump : lfsrJump 4 0x123456789ABCDEF0 = lfsrSteps 16 0x123456789ABCDEF0 := by decide +kernel
/-! An encoded line decodes clean; four wrong bytes are corrected, five are not. -/
def aLine : Bytes := (List.range 64).map fun n => BitVec.ofNat 8 (7 * n + 3)
def flipped (n : Nat) : Bytes := ((aLine ++ checkBytes aLine).mapIdx fun i b => if i % 13 = 5 ∧ i / 13 < n then b ^^^ 0x5A else b)
theorem test_outer_clean : rsDecode (flipped 0) = some (aLine, 0) := by decide +kernel
theorem test_outer_four : rsDecode (flipped 4) = some (aLine, 4) := by decide +kernel
theorem test_outer_five : rsDecode (flipped 5) = none := by decide +kernel

end Sys2Proof.Tests
end

section
/-!
PROOF. What each command answers: a next state that comes after the one it began from, and so one whose sparse tables are canonical where
those of the first are. A register write outside the BARs is the one command that answers none.
-/
namespace Sys2Proof.Machine
open Sys2Proof

/-- The answer of a command that began from `r`: a next state, and one that comes after `r`. -/
def Answers (r : State) (a : Answer) : Prop := ∃ u, a = .next u ∧ Extends r u

@[simp ↓] theorem Answers.next {r s : State} (h : Extends r s) : Answers r (.next s) := ⟨s, rfl, h⟩

/-- Ending a command keeps what it did. -/
@[simp ↓] theorem Answers.answer {r s t : State} (h : Extends r t) : Answers r (answer s t) := .next (settle_extends h)

/-- A command that leaves one of two answers. -/
@[simp ↓] theorem Answers.ite {r : State} {c : Prop} [Decidable c] {a b : Answer} (ha : Answers r a) (hb : Answers r b) :
    Answers r (if c then a else b) := by
  split <;> assumption

theorem Extends.trans {r s t : State} (h1 : Extends r s) (h2 : Extends s t) : Extends r t where
  pending := h2.pending.trans h1.pending
  out := h1.out.trans h2.out
  freeUsed := Nat.le_trans h1.freeUsed h2.freeUsed
  otp := OtpLe.trans h1.otp h2.otp
  regs := fun c => h2.regs (h1.canonical c)
  funcs := fun c => h2.funcs (h1.canonical c)
  chans := fun c => h2.chans (h1.canonical c)
  queues := fun c => h2.queues (h1.canonical c)
  vectors := fun c => h2.vectors (h1.canonical c)
  tracker := fun c => h2.tracker (h1.canonical c)
  slots := fun c => h2.slots (h1.canonical c)
  lines := fun c => h2.lines (h1.canonical c)

/-- A command that goes on from a state that comes after `r`. -/
theorem Answers.of_extends {r s : State} {a : Answer} (h : Extends r s) (ha : Answers s a) : Answers r a :=
  let ⟨u, hu, hs⟩ := ha
  ⟨u, hu, h.trans hs⟩

/-! Each command below is the answer of a state put together from the parts that Laws/Extends* speak of: its definition is unfolded once, and each
part extends the state it begins from. A proof splits where the command branches on what the state holds, and cites `Extends.foldl` where
the command goes through a list. -/

/-! ### Queues and entries -/

@[simp ↓] theorem execDoorbell_answers (s : State) (func qid view) : Answers s (execDoorbell func qid view s) := by
  unfold execDoorbell; simp (maxDischargeDepth := 99)

@[simp ↓] theorem execPhaseRetry_answers (s : State) (func qid view) : Answers s (execPhaseRetry func qid view s) := by
  unfold execPhaseRetry; dsimp only; (repeat' split) <;> simp (maxDischargeDepth := 99)

@[simp ↓] theorem execScanResume_answers (s : State) (func qid view) : Answers s (execScanResume func qid view s) := by
  unfold execScanResume; simp (maxDischargeDepth := 99)

@[simp ↓] theorem execDmaReadComplete_answers (s : State) (slot view) : Answers s (execDmaReadComplete slot view s) := by
  unfold execDmaReadComplete; (repeat' split) <;> simp (maxDischargeDepth := 99)

@[simp ↓] theorem execFlushingReadReturn_answers (s : State) (func qid index) : Answers s (execFlushingReadReturn func qid index s) := by
  unfold execFlushingReadReturn; simp (maxDischargeDepth := 99)

@[simp ↓] theorem execHeadIdxWrite_answers (s : State) (func qid) : Answers s (execHeadIdxWrite func qid s) := by
  unfold execHeadIdxWrite; simp (maxDischargeDepth := 99)

@[simp ↓] theorem execAdmqEnable_answers (s : State) (func value) : Answers s (execAdmqEnable func value s) := by
  unfold execAdmqEnable; simp (maxDischargeDepth := 99)

@[simp ↓] theorem execAdmqDisable_answers (s : State) (func value view) : Answers s (execAdmqDisable func value view s) := by
  unfold execAdmqDisable; simp (maxDischargeDepth := 99)

@[simp ↓] theorem execNop_answers (s : State) (slot) : Answers s (execNop slot s) := by
  unfold execNop; simp (maxDischargeDepth := 99)

@[simp ↓] theorem execQueueCreate_answers (s : State) (slot) : Answers s (execQueueCreate slot s) := by
  unfold execQueueCreate; simp (maxDischargeDepth := 99)

@[simp ↓] theorem execQueueDisable_answers (s : State) (slot view) : Answers s (execQueueDisable slot view s) := by
  unfold execQueueDisable; simp (maxDischargeDepth := 99)

@[simp ↓] theorem execQueueEnable_answers (s : State) (slot) : Answers s (execQueueEnable slot s) := by
  unfold execQueueEnable; simp (maxDischargeDepth := 99)

@[simp ↓] theorem execQueueDestroy_answers (s : State) (slot) : Answers s (execQueueDestroy slot s) := by
  unfold execQueueDestroy; simp (maxDischargeDepth := 99)

@[simp ↓] theorem execEntryAbort_answers (s : State) (slot) : Answers s (execEntryAbort slot s) := by
  unfold execEntryAbort; simp +contextual (maxDischargeDepth := 99) [Extends.foldl]

@[simp ↓] theorem execQueueQuery_answers (s : State) (slot) : Answers s (execQueueQuery slot s) := by
  unfold execQueueQuery; simp (maxDischargeDepth := 99)

/-! ### Functions and channels -/

@[simp ↓] theorem execWrongSizeAccess_answers (s : State) (func offset size isWrite) :
    Answers s (execWrongSizeAccess func offset size isWrite s) := by
  unfold execWrongSizeAccess; simp (maxDischargeDepth := 99)

@[simp ↓] theorem execPoweredDownAccess_answers (s : State) (offset isWrite) : Answers s (execPoweredDownAccess offset isWrite s) := by
  unfold execPoweredDownAccess; simp (maxDischargeDepth := 99)

@[simp ↓] theorem execBusMasterEnableChange_answers (s : State) (func enable) : Answers s (execBusMasterEnableChange func enable s) := by
  unfold execBusMasterEnableChange; simp (maxDischargeDepth := 99)

@[simp ↓] theorem execD3hotEntry_answers (s : State) (func) : Answers s (execD3hotEntry func s) := by
  unfold execD3hotEntry; simp (maxDischargeDepth := 99)

@[simp ↓] theorem execVfFlr_answers (s : State) (func) : Answers s (execVfFlr func s) := by
  unfold execVfFlr; simp (maxDischargeDepth := 99)

@[simp ↓] theorem execPf0Flr_answers (s : State) : Answers s (execPf0Flr s) := by
  unfold execPf0Flr; simp (maxDischargeDepth := 99)

@[simp ↓] theorem execVfEnableClear_answers (s : State) : Answers s (execVfEnableClear s) := by
  unfold execVfEnableClear; simp +contextual (maxDischargeDepth := 99) [Extends.foldl]

@[simp ↓] theorem execFlrComplete_answers (s : State) (func) : Answers s (execFlrComplete func s) := by
  unfold execFlrComplete; simp (maxDischargeDepth := 99)

@[simp ↓] theorem execDmaTransferFail_answers (s : State) (func kind cause addr qid tag) :
    Answers s (execDmaTransferFail func kind cause addr qid tag s) := by
  unfold execDmaTransferFail; simp (maxDischargeDepth := 99)

@[simp ↓] theorem execDmaRetry_answers (s : State) (func landed) : Answers s (execDmaRetry func landed s) := by
  unfold execDmaRetry; dsimp only; (repeat' split) <;> simp (maxDischargeDepth := 99)

@[simp ↓] theorem execChanClear_answers (s : State) (value) : Answers s (execChanClear value s) := by
  unfold execChanClear; simp (maxDischargeDepth := 99)

@[simp ↓] theorem execSync_answers (s : State) (value) : Answers s (execSync value s) := by
  unfold execSync; simp (maxDischargeDepth := 99)

@[simp ↓] theorem execSyncReadReturn_answers (s : State) (func ok) : Answers s (execSyncReadReturn func ok s) := by
  unfold execSyncReadReturn; simp (maxDischargeDepth := 99)

@[simp ↓] theorem execSaBaseWrite_answers (s : State) (value) : Answers s (execSaBaseWrite value s) := by
  unfold execSaBaseWrite; simp (maxDischargeDepth := 99)

@[simp ↓] theorem execMsixPendingSend_answers (s : State) (func vec) : Answers s (execMsixPendingSend func vec s) := by
  unfold execMsixPendingSend; simp (maxDischargeDepth := 99)

/-! ### Entropy -/

@[simp ↓] theorem execPairSample_answers (s : State) (pair bit) : Answers s (execPairSample pair bit s) := by
  unfold execPairSample; (repeat' split) <;> simp (maxDischargeDepth := 99)

@[simp ↓] theorem execChannelReseed_answers (s : State) (channel) : Answers s (execChannelReseed channel s) := by
  unfold execChannelReseed; dsimp only; (repeat' split) <;> simp (maxDischargeDepth := 99)

@[simp ↓] theorem execDrbgReseedDue_answers (s : State) (inst) : Answers s (execDrbgReseedDue inst s) := by
  unfold execDrbgReseedDue; simp (maxDischargeDepth := 99)

@[simp ↓] theorem execDrbgStop_answers (s : State) (inst) : Answers s (execDrbgStop inst s) := by
  unfold execDrbgStop; simp (maxDischargeDepth := 99)

@[simp ↓] theorem execMinPairsWrite_answers (s : State) (value) : Answers s (execMinPairsWrite value s) := by
  unfold execMinPairsWrite; simp (maxDischargeDepth := 99)

@[simp ↓] theorem execRngFifoRefill_answers (s : State) : Answers s (execRngFifoRefill s) := by
  unfold execRngFifoRefill; dsimp only; (repeat' split) <;> simp (maxDischargeDepth := 99)

@[simp ↓] theorem execRngDataRead_answers (s : State) : Answers s (execRngDataRead s) := by
  unfold execRngDataRead; simp (maxDischargeDepth := 99)

@[simp ↓] theorem execVfRngDataRead_answers (s : State) (func) : Answers s (execVfRngDataRead func s) := by
  unfold execVfRngDataRead; simp (maxDischargeDepth := 99)

@[simp ↓] theorem execRngGenerate_answers (s : State) (slot) : Answers s (execRngGenerate slot s) := by
  unfold execRngGenerate; simp (maxDischargeDepth := 99)

@[simp ↓] theorem execRngRawRead_answers (s : State) (slot) : Answers s (execRngRawRead slot s) := by
  unfold execRngRawRead; simp (maxDischargeDepth := 99)

@[simp ↓] theorem execRngPairRestore_answers (s : State) (slot) : Answers s (execRngPairRestore slot s) := by
  unfold execRngPairRestore; simp (maxDischargeDepth := 99)

/-! ### Post-quantum operations -/

@[simp ↓] theorem execMlkemKeygen_answers (s : State) (slot) : Answers s (execMlkemKeygen slot s) := by
  unfold execMlkemKeygen; simp (maxDischargeDepth := 99)

@[simp ↓] theorem execMlkemEncaps_answers (s : State) (slot) : Answers s (execMlkemEncaps slot s) := by
  unfold execMlkemEncaps; simp (maxDischargeDepth := 99)

@[simp ↓] theorem execMlkemDecaps_answers (s : State) (slot) : Answers s (execMlkemDecaps slot s) := by
  unfold execMlkemDecaps; simp (maxDischargeDepth := 99)

@[simp ↓] theorem execMldsaKeygen_answers (s : State) (slot) : Answers s (execMldsaKeygen slot s) := by
  unfold execMldsaKeygen; simp (maxDischargeDepth := 99)

@[simp ↓] theorem execMldsaSign_answers (s : State) (slot) : Answers s (execMldsaSign slot s) := by
  unfold execMldsaSign; simp (maxDischargeDepth := 99)

@[simp ↓] theorem execMldsaVerify_answers (s : State) (slot) : Answers s (execMldsaVerify slot s) := by
  unfold execMldsaVerify; simp (maxDischargeDepth := 99)

@[simp ↓] theorem execSlhdsaKeygen_answers (s : State) (slot) : Answers s (execSlhdsaKeygen slot s) := by
  unfold execSlhdsaKeygen; simp (maxDischargeDepth := 99)

@[simp ↓] theorem execSlhdsaSign_answers (s : State) (slot) : Answers s (execSlhdsaSign slot s) := by
  unfold execSlhdsaSign; simp (maxDischargeDepth := 99)

@[simp ↓] theorem execSlhdsaVerify_answers (s : State) (slot) : Answers s (execSlhdsaVerify slot s) := by
  unfold execSlhdsaVerify; simp (maxDischargeDepth := 99)

@[simp ↓] theorem execLmsKeygen_answers (s : State) (slot) : Answers s (execLmsKeygen slot s) := by
  unfold execLmsKeygen; simp (maxDischargeDepth := 99)

@[simp ↓] theorem execLmsVerify_answers (s : State) (slot) : Answers s (execLmsVerify slot s) := by
  unfold execLmsVerify; simp (maxDischargeDepth := 99)

@[simp ↓] theorem execHssVerify_answers (s : State) (slot) : Answers s (execHssVerify slot s) := by
  unfold execHssVerify; simp (maxDischargeDepth := 99)

@[simp ↓] theorem execHqcKeygen_answers (s : State) (slot) : Answers s (execHqcKeygen slot s) := by
  unfold execHqcKeygen; simp (maxDischargeDepth := 99)

@[simp ↓] theorem execHqcEncaps_answers (s : State) (slot) : Answers s (execHqcEncaps slot s) := by
  unfold execHqcEncaps; simp (maxDischargeDepth := 99)

@[simp ↓] theorem execHqcDecaps_answers (s : State) (slot) : Answers s (execHqcDecaps slot s) := by
  unfold execHqcDecaps; simp (maxDischargeDepth := 99)

/-! ### Classical operations -/

@[simp ↓] theorem execEcKeygen_answers (s : State) (slot) : Answers s (execEcKeygen slot s) := by
  unfold execEcKeygen; simp (maxDischargeDepth := 99)

@[simp ↓] theorem execEcdsaSign_answers (s : State) (slot) : Answers s (execEcdsaSign slot s) := by
  unfold execEcdsaSign; simp (maxDischargeDepth := 99)

@[simp ↓] theorem execEcdsaVerify_answers (s : State) (slot) : Answers s (execEcdsaVerify slot s) := by
  unfold execEcdsaVerify; simp (maxDischargeDepth := 99)

@[simp ↓] theorem execEcdh_answers (s : State) (slot) : Answers s (execEcdh slot s) := by
  unfold execEcdh; simp (maxDischargeDepth := 99)

@[simp ↓] theorem execEdKeygen_answers (s : State) (slot) : Answers s (execEdKeygen slot s) := by
  unfold execEdKeygen; simp (maxDischargeDepth := 99)

@[simp ↓] theorem execEdSign_answers (s : State) (slot) : Answers s (execEdSign slot s) := by
  unfold execEdSign; simp (maxDischargeDepth := 99)

@[simp ↓] theorem execEdVerify_answers (s : State) (slot) : Answers s (execEdVerify slot s) := by
  unfold execEdVerify; simp (maxDischargeDepth := 99)

@[simp ↓] theorem execXdhKeygen_answers (s : State) (slot) : Answers s (execXdhKeygen slot s) := by
  unfold execXdhKeygen; simp (maxDischargeDepth := 99)

@[simp ↓] theorem execXdh_answers (s : State) (slot) : Answers s (execXdh slot s) := by
  unfold execXdh; simp (maxDischargeDepth := 99)

@[simp ↓] theorem execRsaSign_answers (s : State) (slot) : Answers s (execRsaSign slot s) := by
  unfold execRsaSign; simp (maxDischargeDepth := 99)

@[simp ↓] theorem execRsaVerify_answers (s : State) (slot) : Answers s (execRsaVerify slot s) := by
  unfold execRsaVerify; simp (maxDischargeDepth := 99)

@[simp ↓] theorem execRsaOaepDecrypt_answers (s : State) (slot) : Answers s (execRsaOaepDecrypt slot s) := by
  unfold execRsaOaepDecrypt; simp (maxDischargeDepth := 99)

@[simp ↓] theorem execRsaOaepEncrypt_answers (s : State) (slot) : Answers s (execRsaOaepEncrypt slot s) := by
  unfold execRsaOaepEncrypt; simp (maxDischargeDepth := 99)

/-! ### The key store -/

@[simp ↓] theorem execKeyPrepare_answers (s : State) (slot) : Answers s (execKeyPrepare slot s) := by
  unfold execKeyPrepare; simp +contextual (maxDischargeDepth := 99) [Extends.foldl]

@[simp ↓] theorem execKeyDelete_answers (s : State) (slot) : Answers s (execKeyDelete slot s) := by
  unfold execKeyDelete; simp (maxDischargeDepth := 99)

@[simp ↓] theorem execKeyRestrict_answers (s : State) (slot) : Answers s (execKeyRestrict slot s) := by
  unfold execKeyRestrict; simp (maxDischargeDepth := 99)

@[simp ↓] theorem execKeyQuery_answers (s : State) (slot) : Answers s (execKeyQuery slot s) := by
  unfold execKeyQuery; simp (maxDischargeDepth := 99)

@[simp ↓] theorem execKeyGenerate_answers (s : State) (slot) : Answers s (execKeyGenerate slot s) := by
  unfold execKeyGenerate; simp (maxDischargeDepth := 99)

@[simp ↓] theorem execKeyImport_answers (s : State) (slot) : Answers s (execKeyImport slot s) := by
  unfold execKeyImport; simp (maxDischargeDepth := 99)

@[simp ↓] theorem execKeyDerive_answers (s : State) (slot) : Answers s (execKeyDerive slot s) := by
  unfold execKeyDerive; simp (maxDischargeDepth := 99)

@[simp ↓] theorem execKeyWrap_answers (s : State) (slot) : Answers s (execKeyWrap slot s) := by
  unfold execKeyWrap; simp (maxDischargeDepth := 99)

@[simp ↓] theorem execKeyUnwrap_answers (s : State) (slot) : Answers s (execKeyUnwrap slot s) := by
  unfold execKeyUnwrap; simp (maxDischargeDepth := 99)

@[simp ↓] theorem execKeyRangeSet_answers (s : State) (slot) : Answers s (execKeyRangeSet slot s) := by
  unfold execKeyRangeSet; simp (maxDischargeDepth := 99)

@[simp ↓] theorem execKeyBvrInit_answers (s : State) (slot) : Answers s (execKeyBvrInit slot s) := by
  unfold execKeyBvrInit; simp (maxDischargeDepth := 99)

@[simp ↓] theorem execDeviceSlotRederive_answers (s : State) (keySlot) : Answers s (execDeviceSlotRederive keySlot s) := by
  unfold execDeviceSlotRederive; simp (maxDischargeDepth := 99)

/-! ### LMS -/

@[simp ↓] theorem execLmsBlockConfirm_answers (s : State) (keySlot) : Answers s (execLmsBlockConfirm keySlot s) := by
  unfold execLmsBlockConfirm; dsimp only; (repeat' split) <;> simp (maxDischargeDepth := 99)

@[simp ↓] theorem execLmsTreeBuild_answers (s : State) (slot) : Answers s (execLmsTreeBuild slot s) := by
  unfold execLmsTreeBuild; simp (maxDischargeDepth := 99)

@[simp ↓] theorem execLmsSign_answers (s : State) (slot) : Answers s (execLmsSign slot s) := by
  unfold execLmsSign; simp (maxDischargeDepth := 99)

/-! ### The forager -/

@[simp ↓] theorem execOperationPlace_answers (s : State) : Answers s (execOperationPlace s) := by
  unfold execOperationPlace
  split
  · next t ht =>
    obtain ⟨o, -, ho⟩ := List.exists_of_findSome?_eq_some ht
    exact .answer (State.fitFills_extends (State.place_extends (.refl s) o t ho))
  · simp (maxDischargeDepth := 99)

@[simp ↓] theorem execPriorityAging_answers (s : State) (op) : Answers s (execPriorityAging op s) := by
  unfold execPriorityAging; simp (maxDischargeDepth := 99)

@[simp ↓] theorem execPreemption_answers (s : State) : Answers s (execPreemption s) := by
  unfold execPreemption; (repeat' split) <;> simp (maxDischargeDepth := 99)

@[simp ↓] theorem execGridTick_answers (s : State) : Answers s (execGridTick s) := by
  unfold execGridTick; simp +contextual (maxDischargeDepth := 99) [Extends.foldl]

@[simp ↓] theorem execReleaseGridWrite_answers (s : State) (value) : Answers s (execReleaseGridWrite value s) := by
  unfold execReleaseGridWrite; simp (maxDischargeDepth := 99)

@[simp ↓] theorem execEngineWipeEnd_answers (s : State) (engine) : Answers s (execEngineWipeEnd engine s) := by
  unfold execEngineWipeEnd; (repeat' split) <;> simp (maxDischargeDepth := 99)

@[simp ↓] theorem execStPeriodWrite_answers (s : State) (value) : Answers s (execStPeriodWrite value s) := by
  unfold execStPeriodWrite; simp (maxDischargeDepth := 99)

@[simp ↓] theorem execPeriodicSelftest_answers (s : State) : Answers s (execPeriodicSelftest s) := by
  unfold execPeriodicSelftest; dsimp only; (repeat' split) <;> simp (maxDischargeDepth := 99)

@[simp ↓] theorem execSelftestRun_answers (s : State) (slot) : Answers s (execSelftestRun slot s) := by
  unfold execSelftestRun; simp +contextual (maxDischargeDepth := 99) [Extends.foldl]

@[simp ↓] theorem execEngineFence_answers (s : State) (slot) : Answers s (execEngineFence slot s) := by
  unfold execEngineFence
  refine .answer (State.onEntry_extends (.refl s) _ _ _ _ fun t => State.checked_extends (.refl s) ?_ _ _)
  (repeat' split) <;> simp (maxDischargeDepth := 99)

@[simp ↓] theorem execEngineUnfence_answers (s : State) (slot) : Answers s (execEngineUnfence slot s) := by
  unfold execEngineUnfence; simp (maxDischargeDepth := 99)

/-! ### Line frames -/

@[simp ↓] theorem execFrameReceive_answers (s : State) (group port frame check began) :
    Answers s (execFrameReceive group port frame check began s) := by
  unfold execFrameReceive; simp (maxDischargeDepth := 99)

@[simp ↓] theorem execSaContextFetchDone_answers (s : State) (sa read) : Answers s (execSaContextFetchDone sa read s) := by
  unfold execSaContextFetchDone; dsimp only; (repeat' split) <;> simp +contextual (maxDischargeDepth := 99) [Extends.foldl]

@[simp ↓] theorem execFrameEgressEnd_answers (s : State) (frame) : Answers s (execFrameEgressEnd frame s) := by
  unfold execFrameEgressEnd; (repeat' split) <;> simp (maxDischargeDepth := 99)

@[simp ↓] theorem execTcLaunch_answers (s : State) (frame onTime) : Answers s (execTcLaunch frame onTime s) := by
  unfold execTcLaunch; (repeat' split) <;> simp (maxDischargeDepth := 99)

@[simp ↓] theorem execTcEntryLapse_answers (s : State) (pair fromLine) : Answers s (execTcEntryLapse pair fromLine s) := by
  unfold execTcEntryLapse; simp (maxDischargeDepth := 99)

/-! ### Ports and pipelines -/

@[simp ↓] theorem execLineEnWrite_answers (s : State) (value) : Answers s (execLineEnWrite value s) := by
  unfold execLineEnWrite; simp (maxDischargeDepth := 99)

@[simp ↓] theorem execApplyGroup_answers (s : State) (group value) : Answers s (execApplyGroup group value s) := by
  unfold execApplyGroup; simp (maxDischargeDepth := 99)

@[simp ↓] theorem execApplyDone_answers (s : State) (group) : Answers s (execApplyDone group s) := by
  unfold execApplyDone; simp (maxDischargeDepth := 99)

@[simp ↓] theorem execPortCounterClear_answers (s : State) (group value) : Answers s (execPortCounterClear group value s) := by
  unfold execPortCounterClear; simp (maxDischargeDepth := 99)

@[simp ↓] theorem execCounterLoRead_answers (s : State) (key) : Answers s (execCounterLoRead key s) := by
  unfold execCounterLoRead; (repeat' split) <;> simp (maxDischargeDepth := 99)

@[simp ↓] theorem execRatchetDeriveDone_answers (s : State) (sa) : Answers s (execRatchetDeriveDone sa s) := by
  unfold execRatchetDeriveDone; (repeat' split) <;> simp (maxDischargeDepth := 99)

@[simp ↓] theorem execRatchetOverlapEnd_answers (s : State) (sa) : Answers s (execRatchetOverlapEnd sa s) := by
  unfold execRatchetOverlapEnd; (repeat' split) <;> simp (maxDischargeDepth := 99)

@[simp ↓] theorem execPipeUnfence_answers (s : State) (value passes) : Answers s (execPipeUnfence value passes s) := by
  unfold execPipeUnfence; simp +contextual (maxDischargeDepth := 99) [Extends.foldl]

@[simp ↓] theorem execSaCountWrite_answers (s : State) (value) : Answers s (execSaCountWrite value s) := by
  unfold execSaCountWrite; simp (maxDischargeDepth := 99)

/-! ### Security associations and the classifier -/

@[simp ↓] theorem execSaInstall_answers (s : State) (slot) : Answers s (execSaInstall slot s) := by
  unfold execSaInstall; simp (maxDischargeDepth := 99)

@[simp ↓] theorem execSaRemove_answers (s : State) (slot) : Answers s (execSaRemove slot s) := by
  unfold execSaRemove; simp (maxDischargeDepth := 99)

@[simp ↓] theorem execSaPin_answers (s : State) (slot) : Answers s (execSaPin slot s) := by
  unfold execSaPin; simp (maxDischargeDepth := 99)

@[simp ↓] theorem execSaQuery_answers (s : State) (slot) : Answers s (execSaQuery slot s) := by
  unfold execSaQuery; simp (maxDischargeDepth := 99)

@[simp ↓] theorem execClsWrite_answers (s : State) (slot) : Answers s (execClsWrite slot s) := by
  unfold execClsWrite; simp +contextual (maxDischargeDepth := 99) [Extends.foldl]

@[simp ↓] theorem execClsRead_answers (s : State) (slot) : Answers s (execClsRead slot s) := by
  unfold execClsRead; simp (maxDischargeDepth := 99)

@[simp ↓] theorem execClsClear_answers (s : State) (slot) : Answers s (execClsClear slot s) := by
  unfold execClsClear; simp +contextual (maxDischargeDepth := 99) [Extends.foldl]

@[simp ↓] theorem execClsInfo_answers (s : State) (slot) : Answers s (execClsInfo slot s) := by
  unfold execClsInfo; simp (maxDischargeDepth := 99)

/-! ### Lookaside ciphers -/

@[simp ↓] theorem execAesGcmEncrypt_answers (s : State) (slot) : Answers s (execAesGcmEncrypt slot s) := by
  unfold execAesGcmEncrypt; simp (maxDischargeDepth := 99)

@[simp ↓] theorem execAesGcmDecrypt_answers (s : State) (slot) : Answers s (execAesGcmDecrypt slot s) := by
  unfold execAesGcmDecrypt; simp (maxDischargeDepth := 99)

@[simp ↓] theorem execAesGmacGen_answers (s : State) (slot) : Answers s (execAesGmacGen slot s) := by
  unfold execAesGmacGen; simp (maxDischargeDepth := 99)

@[simp ↓] theorem execAesGmacVerify_answers (s : State) (slot) : Answers s (execAesGmacVerify slot s) := by
  unfold execAesGmacVerify; simp (maxDischargeDepth := 99)

@[simp ↓] theorem execAesCtr_answers (s : State) (slot) : Answers s (execAesCtr slot s) := by
  unfold execAesCtr; simp (maxDischargeDepth := 99)

@[simp ↓] theorem execAesCbcEncrypt_answers (s : State) (slot) : Answers s (execAesCbcEncrypt slot s) := by
  unfold execAesCbcEncrypt; simp (maxDischargeDepth := 99)

@[simp ↓] theorem execAesCbcDecrypt_answers (s : State) (slot) : Answers s (execAesCbcDecrypt slot s) := by
  unfold execAesCbcDecrypt; simp (maxDischargeDepth := 99)

@[simp ↓] theorem execAesXtsEncrypt_answers (s : State) (slot) : Answers s (execAesXtsEncrypt slot s) := by
  unfold execAesXtsEncrypt; simp (maxDischargeDepth := 99)

@[simp ↓] theorem execAesXtsDecrypt_answers (s : State) (slot) : Answers s (execAesXtsDecrypt slot s) := by
  unfold execAesXtsDecrypt; simp (maxDischargeDepth := 99)

@[simp ↓] theorem execAesKwWrap_answers (s : State) (slot) : Answers s (execAesKwWrap slot s) := by
  unfold execAesKwWrap; simp (maxDischargeDepth := 99)

@[simp ↓] theorem execAesKwUnwrap_answers (s : State) (slot) : Answers s (execAesKwUnwrap slot s) := by
  unfold execAesKwUnwrap; simp (maxDischargeDepth := 99)

@[simp ↓] theorem execAesKwpWrap_answers (s : State) (slot) : Answers s (execAesKwpWrap slot s) := by
  unfold execAesKwpWrap; simp (maxDischargeDepth := 99)

@[simp ↓] theorem execAesKwpUnwrap_answers (s : State) (slot) : Answers s (execAesKwpUnwrap slot s) := by
  unfold execAesKwpUnwrap; simp (maxDischargeDepth := 99)

@[simp ↓] theorem execLookasideCipherEnd_answers (s : State) (slot read) : Answers s (execLookasideCipherEnd slot read s) := by
  unfold execLookasideCipherEnd; (repeat' split) <;> simp (maxDischargeDepth := 99)

/-! ### The journal -/

@[simp ↓] theorem execCheckpointCount_answers (s : State) : Answers s (execCheckpointCount s) := by
  unfold execCheckpointCount; simp (maxDischargeDepth := 99)

@[simp ↓] theorem execCheckpointTimer_answers (s : State) : Answers s (execCheckpointTimer s) := by
  unfold execCheckpointTimer; simp (maxDischargeDepth := 99)

@[simp ↓] theorem execCsigTimeout_answers (s : State) (cp west) : Answers s (execCsigTimeout cp west s) := by
  unfold execCsigTimeout; (repeat' split) <;> simp (maxDischargeDepth := 99)

@[simp ↓] theorem execExportCopy_answers (s : State) (cp read) : Answers s (execExportCopy cp read s) := by
  unfold execExportCopy; simp (maxDischargeDepth := 99)

@[simp ↓] theorem execExpCtrlWrite_answers (s : State) (value) : Answers s (execExpCtrlWrite value s) := by
  unfold execExpCtrlWrite; simp (maxDischargeDepth := 99)

@[simp ↓] theorem execJrnPubkey_answers (s : State) (slot) : Answers s (execJrnPubkey slot s) := by
  unfold execJrnPubkey; simp (maxDischargeDepth := 99)

@[simp ↓] theorem execJrnRead_answers (s : State) (slot read) : Answers s (execJrnRead slot read s) := by
  unfold execJrnRead; (repeat' split) <;> simp (maxDischargeDepth := 99)

@[simp ↓] theorem execJrnCheckpoint_answers (s : State) (slot) : Answers s (execJrnCheckpoint slot s) := by
  unfold execJrnCheckpoint; simp (maxDischargeDepth := 99)

@[simp ↓] theorem execJrnReadCp_answers (s : State) (slot read) : Answers s (execJrnReadCp slot read s) := by
  unfold execJrnReadCp; (repeat' split) <;> simp (maxDischargeDepth := 99)

/-! ### The trunk -/

@[simp ↓] theorem execRxStateSend_answers (s : State) : Answers s (execRxStateSend s) := by
  unfold execRxStateSend; simp (maxDischargeDepth := 99)

@[simp ↓] theorem execMirrorAck_answers (s : State) (west frame) : Answers s (execMirrorAck west frame s) := by
  unfold execMirrorAck; simp +contextual (maxDischargeDepth := 99)

@[simp ↓] theorem execMirror_answers (s : State) (west arrival) : Answers s (execMirror west arrival s) := by
  unfold execMirror; dsimp only; (repeat' split) <;> simp +contextual (maxDischargeDepth := 99)

@[simp ↓] theorem execEpochPrepare_answers (s : State) (west frame) : Answers s (execEpochPrepare west frame s) := by
  unfold execEpochPrepare; simp +contextual (maxDischargeDepth := 99)

@[simp ↓] theorem execEpochCommit_answers (s : State) (west frame) : Answers s (execEpochCommit west frame s) := by
  unfold execEpochCommit; simp +contextual (maxDischargeDepth := 99)

@[simp ↓] theorem execEpochPassTimeout_answers (s : State) : Answers s (execEpochPassTimeout s) := by
  unfold execEpochPassTimeout; (repeat' split) <;> simp (maxDischargeDepth := 99)

@[simp ↓] theorem execEpochRetry_answers (s : State) : Answers s (execEpochRetry s) := by
  unfold execEpochRetry; (repeat' split) <;> simp (maxDischargeDepth := 99)

@[simp ↓] theorem execOldRingKeyExpire_answers (s : State) : Answers s (execOldRingKeyExpire s) := by
  unfold execOldRingKeyExpire; simp (maxDischargeDepth := 99)

@[simp ↓] theorem execHelloSend_answers (s : State) (west) : Answers s (execHelloSend west s) := by
  unfold execHelloSend; (repeat' split) <;> simp (maxDischargeDepth := 99)

@[simp ↓] theorem execHello_answers (s : State) (west frame) : Answers s (execHello west frame s) := by
  unfold execHello
  refine .answer (State.trkReceive_extends (.refl s) _ _ _ _ fun _ _ _ h => ?_)
  dsimp only; (repeat' split) <;> simp (maxDischargeDepth := 99) [h]

@[simp ↓] theorem execHelloAck_answers (s : State) (west frame) : Answers s (execHelloAck west frame s) := by
  unfold execHelloAck
  refine .answer (State.trkReceive_extends (.refl s) _ _ _ _ fun _ _ _ h => ?_)
  dsimp only; (repeat' split) <;> simp (maxDischargeDepth := 99) [h]

@[simp ↓] theorem execHeartbeatSend_answers (s : State) (west) : Answers s (execHeartbeatSend west s) := by
  unfold execHeartbeatSend; simp (maxDischargeDepth := 99)

@[simp ↓] theorem execHeartbeat_answers (s : State) (west frame) : Answers s (execHeartbeat west frame s) := by
  unfold execHeartbeat; simp +contextual (maxDischargeDepth := 99)

@[simp ↓] theorem execCsigReq_answers (s : State) (west frame) : Answers s (execCsigReq west frame s) := by
  unfold execCsigReq; simp +contextual (maxDischargeDepth := 99)

@[simp ↓] theorem execCsigResp_answers (s : State) (west frame) : Answers s (execCsigResp west frame s) := by
  unfold execCsigResp
  refine .answer (State.trkReceive_extends (.refl s) _ _ _ _ fun _ _ _ h => ?_)
  dsimp only; (repeat' split) <;> simp (maxDischargeDepth := 99) [h]

/-! ### The ring -/

@[simp ↓] theorem execHeartbeatSilence_answers (s : State) (west) : Answers s (execHeartbeatSilence west s) := by
  unfold execHeartbeatSilence; (repeat' split) <;> simp (maxDischargeDepth := 99)

@[simp ↓] theorem execProbe_answers (s : State) (west frame) : Answers s (execProbe west frame s) := by
  unfold execProbe; simp +contextual (maxDischargeDepth := 99)

@[simp ↓] theorem execProbeReply_answers (s : State) (west frame) : Answers s (execProbeReply west frame s) := by
  unfold execProbeReply
  refine .answer (State.trkReceive_extends (.refl s) _ _ _ _ fun _ _ _ h => ?_)
  dsimp only; (repeat' split) <;> simp (maxDischargeDepth := 99) [h]

@[simp ↓] theorem execProbeTimeout_answers (s : State) (west) : Answers s (execProbeTimeout west s) := by
  unfold execProbeTimeout; simp (maxDischargeDepth := 99)

@[simp ↓] theorem execLeave_answers (s : State) (west frame) : Answers s (execLeave west frame s) := by
  unfold execLeave; simp +contextual (maxDischargeDepth := 99)

@[simp ↓] theorem execMirrorAckTimeout_answers (s : State) : Answers s (execMirrorAckTimeout s) := by
  unfold execMirrorAckTimeout; (repeat' split) <;> simp (maxDischargeDepth := 99)

@[simp ↓] theorem execTakeoverDone_answers (s : State) (bad read) : Answers s (execTakeoverDone bad read s) := by
  unfold execTakeoverDone; dsimp only; (repeat' split) <;> simp +contextual (maxDischargeDepth := 99) [Extends.foldl]

@[simp ↓] theorem execTakeoverNotice_answers (s : State) (west frame) : Answers s (execTakeoverNotice west frame s) := by
  unfold execTakeoverNotice; simp (maxDischargeDepth := 99)

@[simp ↓] theorem execTrkEnable_answers (s : State) (value) : Answers s (execTrkEnable value s) := by
  unfold execTrkEnable; simp (maxDischargeDepth := 99)

@[simp ↓] theorem execSoloWrite_answers (s : State) (value) : Answers s (execSoloWrite value s) := by
  unfold execSoloWrite; simp (maxDischargeDepth := 99)

@[simp ↓] theorem execLinkDown_answers (s : State) (group port pcsLock fecLock localFault remoteFault) :
    Answers s (execLinkDown group port pcsLock fecLock localFault remoteFault s) := by
  unfold execLinkDown; simp (maxDischargeDepth := 99)

@[simp ↓] theorem execRingMapSet_answers (s : State) (slot) : Answers s (execRingMapSet slot s) := by
  unfold execRingMapSet
  refine .answer (State.onEntry_extends (.refl s) _ _ _ _ fun t => State.checked_extends (.refl s) ?_ _ _)
  (repeat' split) <;> simp (maxDischargeDepth := 99)

@[simp ↓] theorem execRingMapClear_answers (s : State) (slot) : Answers s (execRingMapClear slot s) := by
  unfold execRingMapClear; dsimp only; (repeat' split) <;> simp (maxDischargeDepth := 99)

@[simp ↓] theorem execRingStatus_answers (s : State) (slot) : Answers s (execRingStatus slot s) := by
  unfold execRingStatus; simp (maxDischargeDepth := 99)

@[simp ↓] theorem execRingEpoch_answers (s : State) (slot) : Answers s (execRingEpoch slot s) := by
  unfold execRingEpoch; simp (maxDischargeDepth := 99)

/-! ### Operations that end -/

@[simp ↓] theorem execClassPEnd_answers (s : State) (op read) : Answers s (execClassPEnd op read s) := by
  unfold execClassPEnd; (repeat' split) <;> simp (maxDischargeDepth := 99)

@[simp ↓] theorem execClassCBodyEnd_answers (s : State) (op check read) : Answers s (execClassCBodyEnd op check read s) := by
  unfold execClassCBodyEnd; (repeat' split) <;> simp (maxDischargeDepth := 99)

@[simp ↓] theorem execClassCRelease_answers (s : State) (op) : Answers s (execClassCRelease op s) := by
  unfold execClassCRelease; (repeat' split) <;> simp (maxDischargeDepth := 99)

@[simp ↓] theorem execInstructionInterrupt_answers (s : State) (engine cause committed) :
    Answers s (execInstructionInterrupt engine cause committed s) := by
  unfold execInstructionInterrupt; dsimp only; (repeat' split) <;> simp +contextual (maxDischargeDepth := 99)

@[simp ↓] theorem execOperandMemoryUe_answers (s : State) (engine) : Answers s (execOperandMemoryUe engine s) := by
  unfold execOperandMemoryUe; dsimp only; (repeat' split) <;> simp +contextual (maxDischargeDepth := 99)

@[simp ↓] theorem execControlStoreUe_answers (s : State) (engine master) : Answers s (execControlStoreUe engine master s) := by
  unfold execControlStoreUe; dsimp only; (repeat' split) <;> simp +contextual (maxDischargeDepth := 99)

@[simp ↓] theorem execWatchdog_answers (s : State) (engine) : Answers s (execWatchdog engine s) := by
  unfold execWatchdog
  (repeat' split) <;> simp +contextual (maxDischargeDepth := 99)

@[simp ↓] theorem execIterLimit_answers (s : State) (engine) : Answers s (execIterLimit engine s) := by
  unfold execIterLimit; (repeat' split) <;> simp (maxDischargeDepth := 99)

@[simp ↓] theorem execLmsLeafWaitTimeout_answers (s : State) (slot) : Answers s (execLmsLeafWaitTimeout slot s) := by
  unfold execLmsLeafWaitTimeout; (repeat' split) <;> simp (maxDischargeDepth := 99)

@[simp ↓] theorem execStallTimeout_answers (s : State) (slot) : Answers s (execStallTimeout slot s) := by
  unfold execStallTimeout; (repeat' split) <;> simp (maxDischargeDepth := 99)

/-! ### Tamper and the understorey -/

@[simp ↓] theorem execTamperTick_answers (s : State) (tick) : Answers s (execTamperTick tick s) := by
  unfold execTamperTick; (repeat' split) <;> simp (maxDischargeDepth := 99)

@[simp ↓] theorem execTallyBurnDone_answers (s : State) (group) : Answers s (execTallyBurnDone group s) := by
  unfold execTallyBurnDone; simp (maxDischargeDepth := 99)

@[simp ↓] theorem execRespClearDegrade_answers (s : State) (value) : Answers s (execRespClearDegrade value s) := by
  unfold execRespClearDegrade; simp (maxDischargeDepth := 99)

@[simp ↓] theorem execTemLock_answers (s : State) (value) : Answers s (execTemLock value s) := by
  unfold execTemLock; simp (maxDischargeDepth := 99)

@[simp ↓] theorem execRtcSet_answers (s : State) (value) : Answers s (execRtcSet value s) := by
  unfold execRtcSet; simp (maxDischargeDepth := 99)

@[simp ↓] theorem execRtcSync_answers (s : State) : Answers s (execRtcSync s) := by
  unfold execRtcSync; simp (maxDischargeDepth := 99)

@[simp ↓] theorem execRtcSubRead_answers (s : State) : Answers s (execRtcSubRead s) := by
  unfold execRtcSubRead; simp (maxDischargeDepth := 99)

@[simp ↓] theorem execLogData0Read_answers (s : State) : Answers s (execLogData0Read s) := by
  unfold execLogData0Read; simp (maxDischargeDepth := 99)

/-! ### The card port -/

@[simp ↓] theorem execT1BlockReceive_answers (s : State) (block parityOk) : Answers s (execT1BlockReceive block parityOk s) := by
  unfold execT1BlockReceive; (repeat' split) <;> simp (maxDischargeDepth := 99)

@[simp ↓] theorem execT1WaitTimeout_answers (s : State) (ms) : Answers s (execT1WaitTimeout ms s) := by
  unfold execT1WaitTimeout; (repeat' split) <;> simp (maxDischargeDepth := 99)

@[simp ↓] theorem execAtrWaitTimeout_answers (s : State) : Answers s (execAtrWaitTimeout s) := by
  unfold execAtrWaitTimeout; simp (maxDischargeDepth := 99)

@[simp ↓] theorem execCardInsert_answers (s : State) (classB) : Answers s (execCardInsert classB s) := by
  unfold execCardInsert; simp (maxDischargeDepth := 99)

@[simp ↓] theorem execCardRemove_answers (s : State) : Answers s (execCardRemove s) := by
  unfold execCardRemove; simp (maxDischargeDepth := 99)

@[simp ↓] theorem execCeremonyLapse_answers (s : State) : Answers s (execCeremonyLapse s) := by
  unfold execCeremonyLapse; simp (maxDischargeDepth := 99)

@[simp ↓] theorem execCrdRxDataRead_answers (s : State) : Answers s (execCrdRxDataRead s) := by
  unfold execCrdRxDataRead; (repeat' split) <;> simp (maxDischargeDepth := 99)

@[simp ↓] theorem execCardActivate_answers (s : State) (slot) : Answers s (execCardActivate slot s) := by
  unfold execCardActivate; simp (maxDischargeDepth := 99)

@[simp ↓] theorem execCardDeactivate_answers (s : State) (slot) : Answers s (execCardDeactivate slot s) := by
  unfold execCardDeactivate; simp (maxDischargeDepth := 99)

@[simp ↓] theorem execCardApdu_answers (s : State) (slot) : Answers s (execCardApdu slot s) := by
  unfold execCardApdu; simp (maxDischargeDepth := 99)

@[simp ↓] theorem execCeremonyCard_answers (s : State) (slot) : Answers s (execCeremonyCard slot s) := by
  unfold execCeremonyCard; simp (maxDischargeDepth := 99)

@[simp ↓] theorem execSealedRead_answers (s : State) (slot) : Answers s (execSealedRead slot s) := by
  unfold execSealedRead; simp (maxDischargeDepth := 99)

@[simp ↓] theorem execSealedWrite_answers (s : State) (slot) : Answers s (execSealedWrite slot s) := by
  unfold execSealedWrite; simp (maxDischargeDepth := 99)

@[simp ↓] theorem execSealedCounter_answers (s : State) (slot) : Answers s (execSealedCounter slot s) := by
  unfold execSealedCounter; simp (maxDischargeDepth := 99)

@[simp ↓] theorem execCeremonyBegin_answers (s : State) (slot) : Answers s (execCeremonyBegin slot s) := by
  unfold execCeremonyBegin; simp (maxDischargeDepth := 99)

@[simp ↓] theorem execCeremonyEnd_answers (s : State) (slot) : Answers s (execCeremonyEnd slot s) := by
  unfold execCeremonyEnd; (repeat' split) <;> simp (maxDischargeDepth := 99)

/-! ### HBM -/

@[simp ↓] theorem execPatrolScrub_answers (s : State) (flips severity) : Answers s (execPatrolScrub flips severity s) := by
  unfold execPatrolScrub; simp (maxDischargeDepth := 99)

@[simp ↓] theorem execHotRefreshChange_answers (s : State) (stack temp) : Answers s (execHotRefreshChange stack temp s) := by
  unfold execHotRefreshChange; simp (maxDischargeDepth := 99)

/-! ### The adaptive loops -/

@[simp ↓] theorem execAvsStep_answers (s : State) (slacks answered) : Answers s (execAvsStep slacks answered s) := by
  unfold execAvsStep; simp (maxDischargeDepth := 99)

@[simp ↓] theorem execDroopEpisodeBegin_answers (s : State) : Answers s (execDroopEpisodeBegin s) := by
  unfold execDroopEpisodeBegin; simp (maxDischargeDepth := 99)

@[simp ↓] theorem execDroopEpisodeEnd_answers (s : State) : Answers s (execDroopEpisodeEnd s) := by
  unfold execDroopEpisodeEnd; simp (maxDischargeDepth := 99)

@[simp ↓] theorem execSerdesAdaptStep_answers (s : State) (lane move eye) : Answers s (execSerdesAdaptStep lane move eye s) := by
  unfold execSerdesAdaptStep; simp (maxDischargeDepth := 99)

@[simp ↓] theorem execLinkUp_answers (s : State) (group port remoteFault) : Answers s (execLinkUp group port remoteFault s) := by
  unfold execLinkUp; simp (maxDischargeDepth := 99)

@[simp ↓] theorem execAvsCalibrate_answers (s : State) (slot) : Answers s (execAvsCalibrate slot s) := by
  unfold execAvsCalibrate; simp (maxDischargeDepth := 99)

@[simp ↓] theorem execAvsCalibrationEnd_answers (s : State) (monitors offsets) : Answers s (execAvsCalibrationEnd monitors offsets s) := by
  unfold execAvsCalibrationEnd; (repeat' split) <;> simp (maxDischargeDepth := 99)

@[simp ↓] theorem execSerdesRecal_answers (s : State) (slot) : Answers s (execSerdesRecal slot s) := by
  unfold execSerdesRecal; simp (maxDischargeDepth := 99)

@[simp ↓] theorem execSerdesRecalEnd_answers (s : State) (results) : Answers s (execSerdesRecalEnd results s) := by
  unfold execSerdesRecalEnd
  split
  · split
    · simp (maxDischargeDepth := 99)
    · refine .answer (State.complete_extends (State.modAdl_extends (.foldl (fun t l h => ?_) _ (.refl s)) _) _ _ _ _)
      split
      · split <;> simp (maxDischargeDepth := 99) [h]
      · exact h
  · simp (maxDischargeDepth := 99)

/-! ### Boot and resets -/

@[simp ↓] theorem execWarm_answers (s : State) (value) : Answers s (execWarm value s) := by
  unfold execWarm; simp (maxDischargeDepth := 99)

@[simp ↓] theorem execRecoveryStart_answers (s : State) (value) : Answers s (execRecoveryStart value s) := by
  unfold execRecoveryStart; simp (maxDischargeDepth := 99)

@[simp ↓] theorem execRecoveryDataWrite_answers (s : State) (value) : Answers s (execRecoveryDataWrite value s) := by
  unfold execRecoveryDataWrite; simp (maxDischargeDepth := 99)

@[simp ↓] theorem execRecoveryDone_answers (s : State) (value) : Answers s (execRecoveryDone value s) := by
  unfold execRecoveryDone; simp (maxDischargeDepth := 99)

/-! ### Digests and check-value units -/

@[simp ↓] theorem execHash_answers (s : State) (slot) : Answers s (execHash slot s) := by
  unfold execHash; simp (maxDischargeDepth := 99)

@[simp ↓] theorem execHmac_answers (s : State) (slot) : Answers s (execHmac slot s) := by
  unfold execHmac; simp (maxDischargeDepth := 99)

@[simp ↓] theorem execHmacVerify_answers (s : State) (slot) : Answers s (execHmacVerify slot s) := by
  unfold execHmacVerify; simp (maxDischargeDepth := 99)

@[simp ↓] theorem execKmac_answers (s : State) (slot) : Answers s (execKmac slot s) := by
  unfold execKmac; simp (maxDischargeDepth := 99)

@[simp ↓] theorem execMrgExtend_answers (s : State) (slot) : Answers s (execMrgExtend slot s) := by
  unfold execMrgExtend; simp (maxDischargeDepth := 99)

@[simp ↓] theorem execCvuRun_answers (s : State) (slot) : Answers s (execCvuRun slot s) := by
  unfold execCvuRun; simp (maxDischargeDepth := 99)

@[simp ↓] theorem execDigestCommit_answers (s : State) (slot sound) : Answers s (execDigestCommit slot sound s) := by
  unfold execDigestCommit; (repeat' split) <;> simp (maxDischargeDepth := 99)

@[simp ↓] theorem execMrgLock_answers (s : State) (value) : Answers s (execMrgLock value s) := by
  unfold execMrgLock; simp (maxDischargeDepth := 99)

@[simp ↓] theorem execCvuStart_answers (s : State) (unit value) : Answers s (execCvuStart unit value s) := by
  unfold execCvuStart; simp (maxDischargeDepth := 99)

@[simp ↓] theorem execCvuCheck_answers (s : State) (unit value) : Answers s (execCvuCheck unit value s) := by
  unfold execCvuCheck; simp (maxDischargeDepth := 99)

@[simp ↓] theorem execCvuData8Write_answers (s : State) (unit value) : Answers s (execCvuData8Write unit value s) := by
  unfold execCvuData8Write; simp (maxDischargeDepth := 99)

@[simp ↓] theorem execCvuData32Write_answers (s : State) (unit value) : Answers s (execCvuData32Write unit value s) := by
  unfold execCvuData32Write; simp (maxDischargeDepth := 99)

/-! ### The life cycle -/

@[simp ↓] theorem execLcsTransition_answers (s : State) (slot good) : Answers s (execLcsTransition slot good s) := by
  unfold execLcsTransition; simp (maxDischargeDepth := 99)

@[simp ↓] theorem execLcsQuery_answers (s : State) (slot) : Answers s (execLcsQuery slot s) := by
  unfold execLcsQuery; simp (maxDischargeDepth := 99)

@[simp ↓] theorem execLcsChallenge_answers (s : State) (slot) : Answers s (execLcsChallenge slot s) := by
  unfold execLcsChallenge; simp (maxDischargeDepth := 99)

@[simp ↓] theorem execChallengeLapse_answers (s : State) : Answers s (execChallengeLapse s) := by
  unfold execChallengeLapse; simp (maxDischargeDepth := 99)

@[simp ↓] theorem execReturnAuthLapse_answers (s : State) : Answers s (execReturnAuthLapse s) := by
  unfold execReturnAuthLapse; simp (maxDischargeDepth := 99)

@[simp ↓] theorem execDebugUnlock_answers (s : State) (slot) : Answers s (execDebugUnlock slot s) := by
  unfold execDebugUnlock; (repeat' split) <;> simp (maxDischargeDepth := 99)

@[simp ↓] theorem execDebugLock_answers (s : State) (slot) : Answers s (execDebugLock slot s) := by
  unfold execDebugLock; simp (maxDischargeDepth := 99)

@[simp ↓] theorem execImageStage_answers (s : State) (slot) : Answers s (execImageStage slot s) := by
  unfold execImageStage
  refine .answer (State.onEntry_extends (.refl s) _ _ _ _ fun t => State.checked_extends (.refl s) ?_ _ _)
  (repeat' split) <;> simp (maxDischargeDepth := 99)

@[simp ↓] theorem execImageActivate_answers (s : State) (slot) : Answers s (execImageActivate slot s) := by
  unfold execImageActivate; simp (maxDischargeDepth := 99)

/-- Raising minimum SVNs burns OTP bits and frees none (R59). -/
theorem Otp.raiseSvn_le (o : Otp) (fw layout mcode : Nat) :
    OtpLe o { o with svnFw := max o.svnFw fw, svnLayout := max o.svnLayout layout, svnMcode := max o.svnMcode mcode } :=
  { OtpLe.refl o with svnFw := Nat.le_max_left .., svnLayout := Nat.le_max_left .., svnMcode := Nat.le_max_left .. }

@[simp ↓] theorem execSvnAdvance_answers (s : State) (slot) : Answers s (execSvnAdvance slot s) := by
  unfold execSvnAdvance
  refine .answer (State.onEntry_extends (.refl s) _ _ _ _ fun t => State.checked_extends (.refl s)
    (State.complete_extends (State.modOtp_extends (.refl s) _ fun o => ?_) _ _ _ _) _ _)
  split
  · simpa using Otp.raiseSvn_le o s.lcs.loadedSvn.1 0 0
  · split
    · simpa using Otp.raiseSvn_le o 0 s.lcs.loadedSvn.2.1 0
    · simpa using Otp.raiseSvn_le o 0 0 s.lcs.loadedSvn.2.2

/-! ### Start-up -/

@[simp ↓] theorem execBlockConditioned_answers (s : State) : Answers s (execBlockConditioned s) := by
  unfold execBlockConditioned; simp (maxDischargeDepth := 99)

@[simp ↓] theorem execStartupTestEnd_answers (s : State) (pair) : Answers s (execStartupTestEnd pair s) := by
  unfold execStartupTestEnd; dsimp only; (repeat' split) <;> simp (maxDischargeDepth := 99)

@[simp ↓] theorem execHbmTrainingDone_answers (s : State) (first second) : Answers s (execHbmTrainingDone first second s) := by
  unfold execHbmTrainingDone; simp +contextual (maxDischargeDepth := 99) [Extends.foldl]

@[simp ↓] theorem execSelftestDone_answers (s : State) (engine pass) : Answers s (execSelftestDone engine pass s) := by
  unfold execSelftestDone; simp (maxDischargeDepth := 99)

@[simp ↓] theorem execPipelineSelftest_answers (s : State) (pipe result) : Answers s (execPipelineSelftest pipe result s) := by
  unfold execPipelineSelftest; (repeat' split) <;> simp (maxDischargeDepth := 99)

/-! ### Power and links -/

@[simp ↓] theorem execPorstRise_answers (s : State) (board) : Answers s (execPorstRise board s) := by
  unfold execPorstRise; simp (maxDischargeDepth := 99)

@[simp ↓] theorem execPorstFall_answers (s : State) : Answers s (execPorstFall s) := by
  unfold execPorstFall; simp (maxDischargeDepth := 99)

@[simp ↓] theorem execTestmodeAssert_answers (s : State) : Answers s (execTestmodeAssert s) := by
  unfold execTestmodeAssert; simp (maxDischargeDepth := 99)

@[simp ↓] theorem execTestmodeDeassert_answers (s : State) (board) : Answers s (execTestmodeDeassert board s) := by
  unfold execTestmodeDeassert; simp (maxDischargeDepth := 99)

@[simp ↓] theorem execSupplyMonitorReset_answers (s : State) (valid) : Answers s (execSupplyMonitorReset valid s) := by
  unfold execSupplyMonitorReset; simp (maxDischargeDepth := 99)

@[simp ↓] theorem execSupplyMonitorRelease_answers (s : State) (board) : Answers s (execSupplyMonitorRelease board s) := by
  unfold execSupplyMonitorRelease; simp (maxDischargeDepth := 99)

@[simp ↓] theorem execMainPowerLoss_answers (s : State) : Answers s (execMainPowerLoss s) := by
  unfold execMainPowerLoss; simp (maxDischargeDepth := 99)

@[simp ↓] theorem execVddUstReturn_answers (s : State) : Answers s (execVddUstReturn s) := by
  unfold execVddUstReturn; simp (maxDischargeDepth := 99)

@[simp ↓] theorem execPerstAssert_answers (s : State) : Answers s (execPerstAssert s) := by
  unfold execPerstAssert; simp (maxDischargeDepth := 99)

@[simp ↓] theorem execPerstDeassert_answers (s : State) : Answers s (execPerstDeassert s) := by
  unfold execPerstDeassert; simp (maxDischargeDepth := 99)

@[simp ↓] theorem execPcieRefLoss_answers (s : State) : Answers s (execPcieRefLoss s) := by
  unfold execPcieRefLoss; simp (maxDischargeDepth := 99)

@[simp ↓] theorem execPcieRefReturn_answers (s : State) : Answers s (execPcieRefReturn s) := by
  unfold execPcieRefReturn; simp (maxDischargeDepth := 99)

@[simp ↓] theorem execPcieLinkDown_answers (s : State) : Answers s (execPcieLinkDown s) := by
  unfold execPcieLinkDown; simp (maxDischargeDepth := 99)

@[simp ↓] theorem execPcieLinkUp_answers (s : State) : Answers s (execPcieLinkUp s) := by
  unfold execPcieLinkUp; simp +contextual (maxDischargeDepth := 99) [Extends.foldl]

@[simp ↓] theorem execSetPowerState_answers (s : State) (slot) : Answers s (execSetPowerState slot s) := by
  unfold execSetPowerState; simp (maxDischargeDepth := 99)

@[simp ↓] theorem execDrainTimeout_answers (s : State) : Answers s (execDrainTimeout s) := by
  unfold execDrainTimeout; (repeat' split) <;> simp (maxDischargeDepth := 99)

@[simp ↓] theorem execPowerStateChangeDone_answers (s : State) : Answers s (execPowerStateChangeDone s) := by
  unfold execPowerStateChangeDone; (repeat' split) <;> simp (maxDischargeDepth := 99)

@[simp ↓] theorem execPowerQuery_answers (s : State) (slot) : Answers s (execPowerQuery slot s) := by
  unfold execPowerQuery; simp (maxDischargeDepth := 99)

@[simp ↓] theorem execThermalSample_answers (s : State) (groups others) : Answers s (execThermalSample groups others s) := by
  unfold execThermalSample; simp (maxDischargeDepth := 99)

/-! ### Time -/

@[simp ↓] theorem execRateWrite_answers (s : State) (value) : Answers s (execRateWrite value s) := by
  unfold execRateWrite; simp (maxDischargeDepth := 99)

@[simp ↓] theorem execServoOffsetWrite_answers (s : State) (value) : Answers s (execServoOffsetWrite value s) := by
  unfold execServoOffsetWrite; simp (maxDischargeDepth := 99)

@[simp ↓] theorem execLockTimeout_answers (s : State) : Answers s (execLockTimeout s) := by
  unfold execLockTimeout; simp (maxDischargeDepth := 99)

@[simp ↓] theorem execHoldoverLimit_answers (s : State) : Answers s (execHoldoverLimit s) := by
  unfold execHoldoverLimit; simp (maxDischargeDepth := 99)

@[simp ↓] theorem execTodNsRead_answers (s : State) : Answers s (execTodNsRead s) := by
  unfold execTodNsRead; simp (maxDischargeDepth := 99)

@[simp ↓] theorem execCapCtrlEnable_answers (s : State) (value) : Answers s (execCapCtrlEnable value s) := by
  unfold execCapCtrlEnable; simp (maxDischargeDepth := 99)

@[simp ↓] theorem execTimeRead_answers (s : State) (slot) : Answers s (execTimeRead slot s) := by
  unfold execTimeRead; simp (maxDischargeDepth := 99)

@[simp ↓] theorem execTimeStep_answers (s : State) (slot) : Answers s (execTimeStep slot s) := by
  unfold execTimeStep; simp (maxDischargeDepth := 99)

@[simp ↓] theorem execPhwCalibrate_answers (s : State) (slot) : Answers s (execPhwCalibrate slot s) := by
  unfold execPhwCalibrate; simp (maxDischargeDepth := 99)

@[simp ↓] theorem execPhwCalibrationEnd_answers (s : State) (reading offset gain) : Answers s (execPhwCalibrationEnd reading offset gain s) := by
  unfold execPhwCalibrationEnd; (repeat' split) <;> simp (maxDischargeDepth := 99)

@[simp ↓] theorem execPhwWindow_answers (s : State) (magA magB freq residual) : Answers s (execPhwWindow magA magB freq residual s) := by
  unfold execPhwWindow; simp (maxDischargeDepth := 99)

/-! ### Register writes -/

@[simp ↓] theorem State.admqCtrlWrite_answers (s : State) (func v) : Answers s (s.admqCtrlWrite func v) := by
  unfold State.admqCtrlWrite; simp (maxDischargeDepth := 99)

@[simp ↓] theorem State.pf0Write_answers (s : State) (key v) : Answers s (s.pf0Write key v) := by
  unfold State.pf0Write; simp (maxDischargeDepth := 99)

@[simp ↓] theorem State.vfWrite_answers (s : State) (n key v) : Answers s (s.vfWrite n key v) := by
  unfold State.vfWrite; simp (maxDischargeDepth := 99)

@[simp ↓] theorem State.sriovWrite_answers (s : State) (v) : Answers s (s.sriovWrite v) := by
  unfold State.sriovWrite
  refine .ite (.next (.refl s)) (.ite (by simp (maxDischargeDepth := 99)) ?_)
  exact .of_extends (by simp (maxDischargeDepth := 99)) (execVfEnableClear_answers _)

@[simp ↓] theorem State.configWrite_answers (s : State) (f i v) : Answers s (s.configWrite f i v) := by
  unfold State.configWrite; (repeat' split) <;> simp (maxDischargeDepth := 99)

/-- A write of a key that a function's BAR0 or configuration space holds answers a next state (R11, R13). -/
theorem execRegisterWrite_answers (s : State) (key value) (h : targetOf key ≠ .outside) : Answers s (execRegisterWrite key value s) := by
  unfold execRegisterWrite
  split
  · simp (maxDischargeDepth := 99)
  · simp (maxDischargeDepth := 99)
  · simp (maxDischargeDepth := 99)
  · simp (maxDischargeDepth := 99)
  · contradiction

/-! ### Every command -/

/-- Every command but a register write outside the BARs answers a state that comes after the one it began from. -/
theorem exec_answers (c : Instr) (s : State) (h : ∀ k v, c = .registerWrite k v → targetOf k ≠ .outside) : Answers s (exec c s) := by
  cases c
  case registerWrite k v => exact execRegisterWrite_answers s k v (h k v rfl)
  all_goals clear h; simp only [exec]; simp (maxDischargeDepth := 99)

/-- A register write outside every BAR and configuration space ends in a fault. -/
theorem exec_registerWrite_outside (s : State) (k : Nat) (v : W32) (h : targetOf k = .outside) :
    exec (.registerWrite k v) s = .fault .outsideBar := by
  simp only [exec, execRegisterWrite, h]

/-- Whatever a command answers as its next state comes after the state it began from. -/
theorem exec_extends {c : Instr} {s u : State} (h : exec c s = .next u) : Extends s u := by
  by_cases hc : ∃ k v, c = .registerWrite k v ∧ targetOf k = .outside
  · obtain ⟨k, v, rfl, hk⟩ := hc
    simp [exec_registerWrite_outside s k v hk] at h
  · obtain ⟨t, ht, hst⟩ := exec_answers c s fun k v e hk => hc ⟨k, v, e, hk⟩
    obtain rfl : t = u := by simpa [ht] using h
    exact hst

/-! ### Every step -/

/-- On an empty queue one CLK_CTL edge passes (R93, R366). -/
theorem step_nil {s : State} (h : s.pending = []) : step s = .next s.edge := by
  unfold step; rw [h]

/-- The front command acts on the state with the rest of the queue. -/
theorem step_cons {s : State} {c : Instr} {rest : List Instr} (h : s.pending = c :: rest) : step s = exec c { s with pending := rest } := by
  unfold step; rw [h]

/-- The sparse tables do not depend on the queue of commands. -/
theorem Canonical.setPending {s : State} (h : Canonical s) (l : List Instr) : Canonical { s with pending := l } :=
  ⟨h.regs, h.funcs, h.chans, h.queues, h.vectors, h.tracker, h.slots, h.lines⟩

theorem step_canonical {s u : State} (hs : Canonical s) (h : step s = .next u) : Canonical u := by
  cases hp : s.pending with
  | nil =>
    obtain rfl : s.edge = u := by simpa [step_nil hp] using h
    exact (State.edge_extends (.refl s)).canonical hs
  | cons c rest =>
    rw [step_cons hp] at h
    exact (exec_extends h).canonical (hs.setPending rest)

/-- Settles O60: every command's next state extends the state it began from, and an extension keeps the tables canonical. -/
theorem stepKeepsCanonical : Obligations.StepKeepsCanonical := fun _ _ => step_canonical

/-- Settles O59: one lemma for each command says that it answers; a step runs the front command or lets one edge pass. -/
theorem everyCommandAnswers : Obligations.EveryCommandAnswers := by
  unfold Obligations.EveryCommandAnswers
  have answers (c : Instr) (s : State) (h : ∀ k v, c = .registerWrite k v → targetOf k ≠ .outside) : ∃ u, exec c s = .next u :=
    let ⟨u, hu, _⟩ := exec_answers c s h
    ⟨u, hu⟩
  refine ⟨answers, fun c rest s hp h => ?_, fun s hp => ?_⟩
  · rw [step_cons hp]
    exact answers c _ h
  · exact ⟨s.edge, step_nil hp, (State.edge_extends (.refl s)).pending.trans hp⟩

end Sys2Proof.Machine
end

section
/-!
PROOF. The reset state, and what a register write leaves.
-/
namespace Sys2Proof.Machine
open Sys2Proof

/-! ### The reset state (R15) -/

/-- After reset no sparse table lists anything. -/
theorem State.reset_canonical : Canonical State.reset := ⟨rfl, rfl, rfl, rfl, rfl, rfl, rfl, rfl⟩

/-- An offset without a register holds 0 (R13). -/
theorem regReset_of_none {k : Nat} (h : regRow k = none) : regReset k = 0 := by
  unfold regReset; rw [h]

theorem slotReset_eq (n : Nat) : slotReset n = { attr := if n < 16 then 0x10000000C else 0 } := by
  unfold slotReset
  split <;> rfl

/-- Settles O44: each table of the reset state is empty, so that every key reads its default. -/
theorem resetState : Obligations.ResetState := by
  unfold Obligations.ResetState
  exact ⟨fun _ => rfl, fun _ h => regReset_of_none h, rfl, rfl, fun _ _ => rfl, fun _ => rfl, slotReset_eq, rfl, rfl,
    State.reset_canonical⟩

/-! ### The bits that a write leaves (R14) -/

theorem flag_eq_getLsbD (w : W32) (i : Nat) : flag w i = w.getLsbD i := by
  simp [flag, bitOf, BitVec.getLsbD, Nat.testBit, Nat.shiftRight_eq_div_pow, Nat.one_and_eq_mod_two]

/-- Each bit of a register after a write, by the access bits at its place. -/
theorem RegRow.flag_write (r : RegRow) (old v : W32) (i : Nat) :
    flag (r.write old v) i =
      (flag old i && !flag r.rw i && !(flag r.w1c i && flag v i) || (flag v i && (flag r.rw i || flag r.w1s i))) := by
  simp only [flag_eq_getLsbD, RegRow.write, clearBits, BitVec.getLsbD_or, BitVec.getLsbD_and, BitVec.getLsbD_not]
  by_cases hi : i < 32
  · simp [hi]
  · simp [BitVec.getLsbD_of_ge _ i (Nat.le_of_not_lt hi)]

/-- Two masks that share no bit do not both have bit i. -/
theorem flag_disjoint {a b : W32} (h : a &&& b = 0) (i : Nat) : (flag a i && flag b i) = false := by
  rw [flag_eq_getLsbD, flag_eq_getLsbD, ← BitVec.getLsbD_and, h]
  exact BitVec.getLsbD_zero

/-- A write sets an RW bit as written, clears an RW1C bit by a 1, sets a W1S bit by a 1 and leaves every other bit (R14). -/
theorem RegRow.write_bits (r : RegRow) (old v : W32) (i : Nat) (h1 : r.rw &&& r.w1c = 0) (h2 : r.rw &&& r.w1s = 0) (h3 : r.w1c &&& r.w1s = 0) :
    (flag r.rw i = true → flag (r.write old v) i = flag v i) ∧
    (flag r.w1c i = true → flag (r.write old v) i = (flag old i && !flag v i)) ∧
    (flag r.w1s i = true → flag (r.write old v) i = (flag old i || flag v i)) ∧
    (flag r.rw i = false → flag r.w1c i = false → flag r.w1s i = false → flag (r.write old v) i = flag old i) := by
  have d1 := flag_disjoint h1 i
  have d2 := flag_disjoint h2 i
  have d3 := flag_disjoint h3 i
  rw [RegRow.flag_write]
  refine ⟨fun h => ?_, fun h => ?_, fun h => ?_, fun hrw hw1c hw1s => ?_⟩
  · simp [h]
  · rw [h] at d1 d3
    simp_all
  · rw [h] at d2 d3
    simp_all
  · simp [hrw, hw1c, hw1s]

/-- A register whose bits are all RW takes the value written. -/
theorem RegRow.write_of_rw {r : RegRow} {old v : W32} (h : r.rw = BitVec.allOnes 32) (hc : r.w1c = 0) : r.write old v = v := by
  simp [RegRow.write, clearBits, h, hc, -BitVec.reduceAllOnes]

/-! ### A write by its access type -/

theorem State.plainWrite_none {s : State} {k : Nat} {v : W32} (h : regRow k = none) : s.plainWrite k v = s := by
  unfold State.plainWrite; rw [h]

theorem State.plainWrite_some {s : State} {k : Nat} {v : W32} {r : RegRow} (h : regRow k = some r) :
    s.plainWrite k v = s.setReg k (r.write (s.reg k) v) := by
  unfold State.plainWrite; rw [h]

/-- A write by access type changes no other register. -/
theorem State.reg_plainWrite_other {s : State} (hs : Canonical s) {j k : Nat} (v : W32) (h : j ≠ k) : (s.plainWrite k v).reg j = s.reg j := by
  cases hr : regRow k with
  | none => rw [State.plainWrite_none hr]
  | some r => rw [State.plainWrite_some hr, State.reg_setReg hs.regs, if_neg h]

/-! ### REGISTER_WRITE -/

/-- A write at an aligned offset of PF0's BAR0. -/
theorem exec_registerWrite_pf0 {k : Nat} (s : State) (v : W32) (h : targetOf k = .bar 0) :
    exec (.registerWrite k v) s = s.pf0Write k v := by
  simp only [exec, execRegisterWrite, h]

/-- A write at an unaligned offset of PF0's BAR0 is a wrong-size write (R12). -/
theorem exec_registerWrite_unaligned {k : Nat} (s : State) (v : W32) (h : k < 0x8000000) (h4 : k % 4 ≠ 0) :
    exec (.registerWrite k v) s = exec (.wrongSizeAccess 0 k 4 true) s := by
  have ht : targetOf k = .unaligned 0 := by simp [targetOf, h, h4]
  simp only [exec, execRegisterWrite, ht, if_true]

/-- GCTL.SCRATCH has no row of its own: all of its bits are RW. -/
theorem State.pf0Write_scratch (s : State) (v : W32) :
    s.pf0Write Reg.gctlScratch v = answer s (s.regWrite Reg.gctlScratch (s.setReg Reg.gctlScratch v)) := by
  have hr : regRow Reg.gctlScratch = some { off := Reg.gctlScratch, rw := 0xFFFFFFFF } := by decide
  have hp : s.pfWrite Reg.gctlScratch v = s.setReg Reg.gctlScratch v := by
    rw [show s.pfWrite Reg.gctlScratch v = s.plainWrite Reg.gctlScratch v from rfl, State.plainWrite_some hr,
      RegRow.write_of_rw rfl rfl]
  rw [← hp]
  rfl

/-- A write of DGE.MRG_ALG. -/
theorem State.pf0Write_mrgAlg (s : State) (v : W32) :
    s.pf0Write Reg.dgeMrgAlg v = answer s (s.regWrite Reg.dgeMrgAlg (s.mrgAlgWrite v)) := rfl

theorem State.mrgAlgWrite_locked {s : State} (v : W32) (h : flag (s.reg Reg.dgeMrgCtrl) 0 = true) : s.mrgAlgWrite v = s := by
  simp [State.mrgAlgWrite, h]

/-- A command that changes nothing answers its own state. -/
theorem answer_self (s : State) : answer s s = .next s := by simp [answer]

theorem State.regsOpen_of_terminated {s : State} (h : s.lcs.state = .terminated) : s.regsOpen = false := by
  simp [State.regsOpen, h]

/-! ### Configuration space (R257, R258) -/

/-- The word of configuration space that a key stands for. -/
theorem targetOf_config {f i : Nat} (hf : f < 256) (hi : i < 0x400) : targetOf (0x10000000 + 0x1000 * f + 4 * i) = .config f i := by
  unfold targetOf
  rw [if_neg (by omega), if_neg (by omega), if_neg (by omega), if_pos (by omega)]
  congr 1 <;> omega

theorem exec_registerWrite_config {f i : Nat} (s : State) (v : W32) (hf : f < 256) (hi : i < 0x400) :
    exec (.registerWrite (0x10000000 + 0x1000 * f + 4 * i) v) s = s.configWrite f i v := by
  simp only [exec, execRegisterWrite, targetOf_config hf hi]

/-- A size within its limit, as a code or as bytes. -/
theorem size_min (a n : Nat) : 128 * 2 ^ min a n = min (128 * 2 ^ a) (128 * 2 ^ n) := by
  rcases Nat.le_total a n with h | h
  · have := Nat.pow_le_pow_right (n := 2) (by decide) h
    rw [Nat.min_eq_left h, Nat.min_eq_left (by omega)]
  · have := Nat.pow_le_pow_right (n := 2) (by decide) h
    rw [Nat.min_eq_right h, Nat.min_eq_right (by omega)]

/-- Device Control takes its settings, its sizes held to 512 and 4,096 bytes (Table 10.2). -/
theorem Func.deviceControl_eq (f : Func) (v : W32) : f.deviceControl v =
    { f with relaxed := flag v 4, noSnoop := flag v 11, maxPayload := min 512 (128 * 2 ^ field v 7 5),
             maxRead := min 4096 (128 * 2 ^ field v 14 12) } := by
  simp only [Func.deviceControl, maxPayloadCode, maxReadCode, size_min]
  rfl

theorem State.configWrite_deviceControl {s : State} {f : Nat} (v : W32) (h : s.lcs.phase ≠ .reset) (hf : s.funcPresent f = true) :
    s.configWrite f 0x101 v = .next (s.setFunc f ((s.func f).deviceControl v)) := by
  simp [State.configWrite, h, hf]

/-- The low word of a 64-bit number. -/
theorem ofNat_toNat_low (x : W64) : BitVec.ofNat 32 x.toNat = x.setWidth 32 := by
  apply BitVec.eq_of_toNat_eq; simp

/-- The high word of a 64-bit number. -/
theorem ofNat_toNat_high (x : W64) : BitVec.ofNat 32 (x.toNat / 2 ^ 32) = (x >>> 32).setWidth 32 := by
  apply BitVec.eq_of_toNat_eq; simp [Nat.shiftRight_eq_div_pow]

/-- What PF0's words of the Device Serial Number read. -/
theorem State.configRead_serial (s : State) : s.configRead 0 0x108 = s.lcs.otp.serial.setWidth 32 ∧
    s.configRead 0 0x109 = (s.lcs.otp.serial >>> 32).setWidth 32 :=
  ⟨ofNat_toNat_low _, ofNat_toNat_high _⟩

theorem State.configRead_id_vf {s : State} {f : Nat} (h : f ≠ 0) : s.configRead f 0 = 0xFFFFFFFF := by
  simp [State.configRead, idWord, h]

/-- Settles O43: the bits that a write leaves by access type, the registers whose write has an effect of its own, and the words of
configuration space. -/
theorem registerWriteEffect : Obligations.RegisterWriteEffect := by
  unfold Obligations.RegisterWriteEffect
  refine ⟨RegRow.write_bits, fun s v => ⟨fun k hs => ⟨?_, ?_, ?_⟩, ?_, rfl, rfl, rfl, rfl, rfl, ?_, ?_, ?_, ?_, ?_, ?_, ?_, ?_⟩⟩
  · exact State.plainWrite_none
  · intro r hr
    rw [State.plainWrite_some hr, State.reg_setReg hs.regs, if_pos rfl]
  · exact fun j hj => State.reg_plainWrite_other hs v hj
  · intro ho hb
    rw [exec_registerWrite_pf0 s v rfl, State.pf0Write_scratch, State.regWrite_on ho hb]
    rfl
  · intro ho hb hl
    rw [exec_registerWrite_pf0 s v rfl, State.pf0Write_mrgAlg, State.regWrite_on ho hb, State.mrgAlgWrite_locked v hl]
    rfl
  · intro ho hb
    rw [exec_registerWrite_pf0 s v rfl, State.pf0Write_mrgAlg, State.regWrite_down ho hb]
    rfl
  · intro _ ht
    rw [exec_registerWrite_pf0 s v rfl, State.pf0Write_scratch, State.regWrite_closed (State.regsOpen_of_terminated ht), answer_self]
  · exact fun k => exec_registerWrite_unaligned s v
  · intro f hf hp hq
    rw [exec_registerWrite_config (i := 0x101) s v hf (by decide), State.configWrite_deviceControl v hp hq, Func.deviceControl_eq]
  · exact ⟨rfl, s.configRead_serial⟩
  · exact fun f => ⟨State.configRead_id_vf, rfl, rfl⟩
  · exact fun k => exec_registerWrite_outside s k v

end Sys2Proof.Machine
end

section
/-!
PROOF. Dropping the work of a function keeps the settings of every function.
-/
namespace Sys2Proof.Machine
open Sys2Proof

/-! ### The settings of functions while work is dropped

Dropping an entry can end others, whose writes mark dirty pages: of a function's record that changes the status and the count of the dirty map,
and nothing else. -/

/-- A function's record but for what a write of its own changes: the status and the count of its dirty map (R309). -/
def Func.settings (f : Func) : Func := { f with dirtyStatus := 0, markCount := 0 }

/-- A canonical table of functions stays canonical and keeps every function's settings. -/
def SettingsKept (m x : Sparse Func) : Prop :=
  Sparse.wf funcReset m = true →
    Sparse.wf funcReset x = true ∧ ∀ n, (Sparse.get funcReset x n).settings = (Sparse.get funcReset m n).settings

/-- `s` comes after `r` and keeps the settings of its functions. -/
def KeepsSettings (r s : State) : Prop := SettingsKept r.funcs s.funcs

section
variable {r s : State}

@[simp ↓] theorem KeepsSettings.refl (s : State) : KeepsSettings s s := fun h => ⟨h, fun _ => rfl⟩

@[simp ↓] theorem KeepsSettings.funcs (h : KeepsSettings r s) : SettingsKept r.funcs s.funcs := h

/-- A state written out. -/
@[simp ↓] theorem KeepsSettings.mk_iff {pending regs out freeUsed free lcs comb kst queues tracker fetched funcs chans vectors vfEnable
    numVfs saStage linkUp linkSpeed linkWidth lastFunc errLog tod tem ust pwr rng trk dge line tsu phw evj mem crd adl} :
    KeepsSettings r ⟨pending, regs, out, freeUsed, free, lcs, comb, kst, queues, tracker, fetched, funcs, chans, vectors, vfEnable, numVfs, saStage,
      linkUp, linkSpeed, linkWidth, lastFunc, errLog, tod, tem, ust, pwr, rng, trk, dge, line, tsu, phw, evj, mem, crd, adl⟩ ↔
      SettingsKept r.funcs funcs := Iff.rfl

@[simp ↓] theorem KeepsSettings.ite {c : Prop} [Decidable c] {a b : State} (ha : KeepsSettings r a) (hb : KeepsSettings r b) :
    KeepsSettings r (if c then a else b) := by
  split <;> assumption

theorem KeepsSettings.foldl {α : Type} {f : State → α → State} (h : ∀ s a, KeepsSettings r s → KeepsSettings r (f s a)) (l : List α)
    {s : State} (hs : KeepsSettings r s) : KeepsSettings r (l.foldl f s) := by
  induction l generalizing s with
  | nil => exact hs
  | cons a l ih => exact ih (h s a hs)

/-- A function's record that differs from the one before in no setting. -/
theorem State.setFunc_settings (h : KeepsSettings r s) {n : Nat} {f : Func} (hf : f.settings = (s.func n).settings) :
    KeepsSettings r (s.setFunc n f) := fun c => by
  obtain ⟨hw, hk⟩ := h c
  refine ⟨Sparse.wf_set hw, fun i => ?_⟩
  rw [State.setFunc_funcs, Sparse.get_set hw]
  split
  · next hi => rw [hf, ← hk i, hi]; rfl
  · exact hk i

/-! #### Parts that do not touch the functions -/

@[simp ↓] theorem State.setReg_settings (h : KeepsSettings r s) (k v) : KeepsSettings r (s.setReg k v) := h
@[simp ↓] theorem State.setChan_settings (h : KeepsSettings r s) (n c) : KeepsSettings r (s.setChan n c) := h
@[simp ↓] theorem State.setQueue_settings (h : KeepsSettings r s) (f q x) : KeepsSettings r (s.setQueue f q x) := h
@[simp ↓] theorem State.setTrack_settings (h : KeepsSettings r s) (slot t) : KeepsSettings r (s.setTrack slot t) := h
@[simp ↓] theorem State.emit_settings (h : KeepsSettings r s) (x) : KeepsSettings r (s.emit x) := h
@[simp ↓] theorem State.modReg_settings (h : KeepsSettings r s) (k f) : KeepsSettings r (s.modReg k f) := h
@[simp ↓] theorem State.raise_settings (h : KeepsSettings r s) (k mask) : KeepsSettings r (s.raise k mask) := h
@[simp ↓] theorem State.freeNat_settings (h : KeepsSettings r s) : KeepsSettings r s.freeNat.2 := h
@[simp ↓] theorem State.modEngine_settings (h : KeepsSettings r s) (e f) : KeepsSettings r (s.modEngine e f) := h
@[simp ↓] theorem State.dropOp_settings (h : KeepsSettings r s) (src) : KeepsSettings r (s.dropOp src) := h
@[simp ↓] theorem State.replaceQueued_settings (h : KeepsSettings r s) (e) : KeepsSettings r (s.replaceQueued e) := h
@[simp ↓] theorem State.dropRun_settings (h : KeepsSettings r s) (slot) : KeepsSettings r (s.dropRun slot) := h
@[simp ↓] theorem State.wipeEngine_settings (h : KeepsSettings r s) (e) : KeepsSettings r (s.wipeEngine e) := h
@[simp ↓] theorem State.occupy_settings (h : KeepsSettings r s) (o e) : KeepsSettings r (s.occupy o e) := h
@[simp ↓] theorem State.emptySlot_settings (h : KeepsSettings r s) (n) : KeepsSettings r (s.emptySlot n) := h
@[simp ↓] theorem State.modDge_settings (h : KeepsSettings r s) (f) : KeepsSettings r (s.modDge f) := h
@[simp ↓] theorem State.mrgUpdate_settings (h : KeepsSettings r s) (n v) : KeepsSettings r (s.mrgUpdate n v) := h
@[simp ↓] theorem State.cvuSet_settings (h : KeepsSettings r s) (n lo v) : KeepsSettings r (s.cvuSet n lo v) := h
@[simp ↓] theorem State.cvuAbsorb_settings (h : KeepsSettings r s) (n data) : KeepsSettings r (s.cvuAbsorb n data) := h
@[simp ↓] theorem State.cvuInit_settings (h : KeepsSettings r s) (n) : KeepsSettings r (s.cvuInit n) := h
@[simp ↓] theorem State.modPhw_settings (h : KeepsSettings r s) (f) : KeepsSettings r (s.modPhw f) := h
@[simp ↓] theorem State.phwRestart_settings (h : KeepsSettings r s) : KeepsSettings r s.phwRestart := h
@[simp ↓] theorem State.forgetTests_settings (h : KeepsSettings r s) (slot) : KeepsSettings r (s.forgetTests slot) := h
@[simp ↓] theorem State.forgetWaits_settings (h : KeepsSettings r s) (slot) : KeepsSettings r (s.forgetWaits slot) := h
@[simp ↓] theorem State.forgetRing_settings (h : KeepsSettings r s) (slot) : KeepsSettings r (s.forgetRing slot) := h
@[simp ↓] theorem State.forgetPower_settings (h : KeepsSettings r s) (slot) : KeepsSettings r (s.forgetPower slot) := h
@[simp ↓] theorem State.forgetDraws_settings (h : KeepsSettings r s) (slot) : KeepsSettings r (s.forgetDraws slot) := h
@[simp ↓] theorem State.cardOff_settings (h : KeepsSettings r s) : KeepsSettings r s.cardOff := h

/-! #### Writing to the host and completing entries -/

@[simp ↓] theorem State.dirtyMark_settings (h : KeepsSettings r s) (f addr len) : KeepsSettings r (s.dirtyMark f addr len) := by
  unfold State.dirtyMark
  dsimp only
  split
  · exact h
  · refine .foldl (fun t i ht => ?_) _ h
    split
    · exact State.setFunc_settings ht rfl
    · split
      · exact State.setFunc_settings ht rfl
      · exact State.setFunc_settings (s := t.emit _) ht rfl

@[simp ↓] theorem State.sendRun_settings (h : KeepsSettings r s) (relaxed w) : KeepsSettings r (s.sendRun relaxed w) := by
  unfold State.sendRun; exact .foldl (fun _ _ ht => by exact ht) _ h

@[simp ↓] theorem State.issueWrite_settings (h : KeepsSettings r s) (x) : KeepsSettings r (s.issueWrite x) := by
  unfold State.issueWrite; exact .foldl (fun _ _ ht => by simp (maxDischargeDepth := 99) [ht]) _ h

@[simp ↓] theorem State.hostWrite_settings (h : KeepsSettings r s) (kind qid tag w) : KeepsSettings r (s.hostWrite kind qid tag w) := by
  unfold State.hostWrite State.sendWrite; simp (maxDischargeDepth := 99) [h]

@[simp ↓] theorem State.retireEntry_settings (h : KeepsSettings r s) (slot t) : KeepsSettings r (s.retireEntry slot t) := by
  unfold State.retireEntry; simp (maxDischargeDepth := 99) [h]

@[simp ↓] theorem State.complete_settings (h : KeepsSettings r s) (slot status ext out) :
    KeepsSettings r (s.complete slot status ext out) := by
  unfold State.complete State.completeLen; split <;> simp (maxDischargeDepth := 99) [h]

/-! #### Engines and the tests that wait for them -/

@[simp ↓] theorem State.unclaim_settings (h : KeepsSettings r s) (n) : KeepsSettings r (s.unclaim n) := by
  unfold State.unclaim State.modRun; exact .foldl (fun _ _ ht => by exact ht) _ h

@[simp ↓] theorem State.releaseDest_settings (h : KeepsSettings r s) (d) : KeepsSettings r (s.releaseDest d) := by
  unfold State.releaseDest; split <;> simp (maxDischargeDepth := 99) [h]

@[simp ↓] theorem State.sweepTree_settings (h : KeepsSettings r s) (o) : KeepsSettings r (s.sweepTree o) := by
  unfold State.sweepTree; simp (maxDischargeDepth := 99) [h]

@[simp ↓] theorem State.endWaiting_settings (h : KeepsSettings r s) (o status ext) : KeepsSettings r (s.endWaiting o status ext) := by
  unfold State.endWaiting; split <;> simp (maxDischargeDepth := 99) [h]

@[simp ↓] theorem State.dropHomeless_settings (h : KeepsSettings r s) : KeepsSettings r s.dropHomeless := by
  unfold State.dropHomeless; exact .foldl (fun _ _ ht => by simp (maxDischargeDepth := 99) [ht]) _ h

@[simp ↓] theorem State.endRun_settings (h : KeepsSettings r s) (slot) : KeepsSettings r (s.endRun slot) := by
  unfold State.endRun; split <;> simp (maxDischargeDepth := 99) [h]

@[simp ↓] theorem State.stepRun_settings (h : KeepsSettings r s) (slot e f) : KeepsSettings r (s.stepRun slot e f) := by
  unfold State.stepRun; simp (maxDischargeDepth := 99) [h]

@[simp ↓] theorem State.skipTest_settings (h : KeepsSettings r s) (e why gated) : KeepsSettings r (s.skipTest e why gated) := by
  unfold State.skipTest; split <;> simp (maxDischargeDepth := 99) [h]

theorem startTests_settings (n : Nat) : ∀ {s : State}, KeepsSettings r s → KeepsSettings r (startTests n s) := by
  induction n with
  | zero => exact id
  | succ n ih =>
    intro s h
    unfold startTests
    split
    · dsimp only
      split
      · split
        · exact ih (by simp (maxDischargeDepth := 99) [h])
        · simp (maxDischargeDepth := 99) [h]
      · exact ih h
    · exact h

@[simp ↓] theorem State.runTests_settings (h : KeepsSettings r s) : KeepsSettings r s.runTests := startTests_settings _ h

@[simp ↓] theorem State.cancelTest_settings (h : KeepsSettings r s) (e) : KeepsSettings r (s.cancelTest e) := by
  unfold State.cancelTest; split <;> simp (maxDischargeDepth := 99) [h]

@[simp ↓] theorem State.fenceNow_settings (h : KeepsSettings r s) (e) : KeepsSettings r (s.fenceNow e) := by
  unfold State.fenceNow
  simp +contextual (maxDischargeDepth := 99) [h, KeepsSettings.foldl]

@[simp ↓] theorem State.engineFree_settings (h : KeepsSettings r s) (e) : KeepsSettings r (s.engineFree e) := by
  unfold State.engineFree; (repeat' split) <;> simp (maxDischargeDepth := 99) [h]

@[simp ↓] theorem State.leaveEngine_settings (h : KeepsSettings r s) (o) : KeepsSettings r (s.leaveEngine o) := by
  unfold State.leaveEngine; split <;> simp (maxDischargeDepth := 99) [h]

/-! #### What the units hold for an entry -/

@[simp ↓] theorem State.forgetClaim_settings (h : KeepsSettings r s) (slot) : KeepsSettings r (s.forgetClaim slot) := by
  unfold State.forgetClaim; split <;> simp (maxDischargeDepth := 99) [h]

@[simp ↓] theorem State.dgeLeave_settings (h : KeepsSettings r s) (slot) : KeepsSettings r (s.dgeLeave slot) := by
  unfold State.dgeLeave
  refine State.modDge_settings (.ite (State.modDge_settings (.foldl (fun _ _ ht => by exact ht) _ ?_) _) ?_) _ <;> exact h

@[simp ↓] theorem State.cvuLeave_settings (h : KeepsSettings r s) (n) : KeepsSettings r (s.cvuLeave n) := by
  unfold State.cvuLeave State.cvuTake; dsimp only; (repeat' split) <;> simp (maxDischargeDepth := 99) [h]

@[simp ↓] theorem State.forgetDigest_settings (h : KeepsSettings r s) (slot) : KeepsSettings r (s.forgetDigest slot) := by
  unfold State.forgetDigest; dsimp only; (repeat' split) <;> simp (maxDischargeDepth := 99) [h]

@[simp ↓] theorem State.forgetCalibration_settings (h : KeepsSettings r s) (slot) : KeepsSettings r (s.forgetCalibration slot) := by
  unfold State.forgetCalibration State.phwNextCalibration; simp (maxDischargeDepth := 99) [h]

@[simp ↓] theorem State.forgetCard_settings (h : KeepsSettings r s) (slot) : KeepsSettings r (s.forgetCard slot) := by
  unfold State.forgetCard; simp (maxDischargeDepth := 99) [h]

@[simp ↓] theorem State.forgetUnit_settings (h : KeepsSettings r s) (slot) : KeepsSettings r (s.forgetUnit slot) := by
  unfold State.forgetUnit; simp (maxDischargeDepth := 99) [h]

@[simp ↓] theorem State.dropEntry_settings (h : KeepsSettings r s) (slot) : KeepsSettings r (s.dropEntry slot) := by
  unfold State.dropEntry; dsimp only; (repeat' split) <;> simp (maxDischargeDepth := 99) [h]

theorem State.dropFunction_settings (h : KeepsSettings r s) (f) : KeepsSettings r (s.dropFunction f) := by
  unfold State.dropFunction; exact .foldl (fun _ _ ht => by simp (maxDischargeDepth := 99) [ht]) _ h
end

end Sys2Proof.Machine
end

section
/-!
PROOF. Accesses and resets of functions: what each command answers, and what the reset of a VF clears and keeps.
-/
namespace Sys2Proof.Machine
open Sys2Proof

/-! ### What a function-level reset of a VF leaves (R306, Table 11.4) -/

/-- What a key holds after a range was unlisted: the default inside the range, what it held outside. -/
theorem Sparse.get_eraseRange {α : Type} {d : Nat → α} (m : Sparse α) (lo n i : Nat) :
    Sparse.get d (Sparse.eraseRange m lo n) i = if lo ≤ i ∧ i < lo + n then d i else Sparse.get d m i := by
  induction m with
  | nil => simp [Sparse.eraseRange, Sparse.get]
  | cons e m ih =>
    obtain ⟨j, v⟩ := e
    unfold Sparse.eraseRange at ih ⊢
    rw [List.filter_cons]
    by_cases hj : lo ≤ j ∧ j < lo + n
    · rw [if_neg (by simp [hj]), ih]
      by_cases hi : lo ≤ i ∧ i < lo + n
      · rw [if_pos hi, if_pos hi]
      · have hji : j ≠ i := fun e => hi (e ▸ hj)
        rw [if_neg hi, if_neg hi, Sparse.get, if_neg hji]
    · rw [if_pos (by simpa [imp_iff_not_or] using hj)]
      by_cases hji : j = i
      · subst hji
        simp [Sparse.get, hj]
      · rw [Sparse.get, if_neg hji, Sparse.get, if_neg hji, ih]

section
variable {s : State} {f : Nat}

theorem State.resetFunction_queues (s : State) (f : Nat) :
    (s.resetFunction f).queues = Sparse.eraseRange (s.dropFunction f).queues (256 * f) 256 := by
  unfold State.resetFunction; split <;> rfl

theorem State.resetFunction_chans (s : State) (f : Nat) : (s.resetFunction f).chans = Sparse.erase (s.dropFunction f).chans f := by
  unfold State.resetFunction; split <;> rfl

theorem State.resetFunction_slots (s : State) (f : Nat) : (s.resetFunction f).kst.slots =
    Sparse.eraseRange (s.dropFunction f).kst.slots ((s.dropFunction f).func f).keyBase ((s.dropFunction f).func f).keyCount := by
  unfold State.resetFunction; split <;> rfl

theorem State.resetFunction_funcs (s : State) (f : Nat) : (s.resetFunction f).funcs =
    Sparse.set funcReset (s.dropFunction f).funcs f
      { (s.dropFunction f).func f with bme := false, d3hot := false, msixEnable := false, msixMask := false, fifo := [] } := by
  unfold State.resetFunction; split <;> rfl

/-- A function-level reset of a VF resets that function alone. -/
theorem State.beginFlr_vf (s : State) (hf : f ≠ 0) :
    s.beginFlr f = (s.resetFunction f).setFunc f { (s.resetFunction f).func f with flrActive := true } := by
  simp [State.beginFlr, hf]

/-- Dropping a function's work keeps the settings of every function. -/
theorem State.func_dropFunction (hs : Canonical s) (f n : Nat) : ((s.dropFunction f).func n).settings = (s.func n).settings :=
  (State.dropFunction_settings (.refl s) f hs.funcs).2 n

theorem State.queue_beginFlr_vf (hf : f ≠ 0) {q : Nat} (hq : q < 256) : (s.beginFlr f).queue f q = {} := by
  rw [State.beginFlr_vf s hf, State.setFunc_queue, State.queue, State.resetFunction_queues, Sparse.get_eraseRange, qkey, if_pos (by omega)]

theorem State.chan_beginFlr_vf (hs : Canonical s) (hf : f ≠ 0) : (s.beginFlr f).chan f = {} := by
  rw [State.beginFlr_vf s hf, State.setFunc_chan, State.chan, State.resetFunction_chans,
    Sparse.get_erase ((State.dropFunction_extends (.refl s) f).canonical hs).chans, if_pos rfl]

/-- The slots of the function's key range are empty. -/
theorem State.slot_beginFlr_vf (hs : Canonical s) (hf : f ≠ 0) {n : Nat} (h1 : (s.func f).keyBase ≤ n)
    (h2 : n < (s.func f).keyBase + (s.func f).keyCount) : (s.beginFlr f).slot n = slotReset n := by
  have hk := State.func_dropFunction hs f f
  have hb : ((s.dropFunction f).func f).keyBase = (s.func f).keyBase := (congrArg Func.keyBase hk :)
  have hc : ((s.dropFunction f).func f).keyCount = (s.func f).keyCount := (congrArg Func.keyCount hk :)
  rw [State.beginFlr_vf s hf, State.setFunc_slot, State.slot, State.resetFunction_slots, Sparse.get_eraseRange, hb, hc, if_pos ⟨h1, h2⟩]

/-- The function's settings are as they were, but for those that Table 11.4 clears. -/
theorem State.func_beginFlr_vf (hs : Canonical s) (hf : f ≠ 0) : ((s.beginFlr f).func f).settings =
    { (s.func f).settings with
      bme := false, d3hot := false, msixEnable := false, msixMask := false, fifo := [], flrActive := true } := by
  have ht := ((State.dropFunction_extends (.refl s) f).canonical hs).funcs
  have hr := ((State.resetFunction_extends (.refl s) f).canonical hs).funcs
  rw [State.beginFlr_vf s hf, State.func_setFunc hr, if_pos rfl, State.func, State.resetFunction_funcs, Sparse.get_set ht, if_pos rfl,
    ← State.func_dropFunction hs f f]
  rfl
end

/-! ### Accesses and resets of functions -/

theorem exec_wrongSizeAccess {s : State} (f off size : Nat) (w : Bool) (h : s.lcs.phase ≠ .reset) :
    exec (.wrongSizeAccess f off size w) s = answer s
      (let u := (s.log ⟨0, 0x0001, 0, 2, f, 0xFFFF, 0, off, size + 256 * b2n w⟩).emit (.aer f 20)
       if w then u else u.emit .unsupportedRequest) := by
  simp only [exec, execWrongSizeAccess, if_neg h]

theorem State.regRead_down {s k : State} {key : Nat} (h : s.regsOpen = true) (hb : s.blockDown key = true) :
    s.regRead key k = (s.logDown key 0).emit (.readData 0) := by
  simp only [State.regsOpen, Bool.and_eq_true, bne_iff_ne] at h
  simp [State.regRead, h.1, h.2, hb]

/-- The error-log entry of an access to a powered-down block: PF0's register, or a VF's under its number. -/
theorem State.logDown_eq (s : State) (key detail : Nat) : s.logDown key detail =
    s.log (if key < 0x8000000 then { time := 0, code := 0x0002, object := key, detail := detail }
      else { time := 0, code := 0x0002, scope := 2, func := (key - 0x8000000) / 0x10000, object := key % 0x10000, detail := detail }) := by
  unfold State.logDown
  split <;> rfl

theorem exec_poweredDownAccess_write {s : State} {off : Nat} (h : s.regsOpen = true) (hb : s.blockDown off = true) :
    exec (.poweredDownAccess off true) s = answer s (s.logDown off 256) := by
  simp only [exec, execPoweredDownAccess, if_true, State.regWrite_down h hb]

theorem exec_poweredDownAccess_read {s : State} {off : Nat} (h : s.regsOpen = true) (hb : s.blockDown off = true) :
    exec (.poweredDownAccess off false) s = answer s ((s.logDown off 0).emit (.readData 0)) := by
  simp only [exec, execPoweredDownAccess, Bool.false_eq_true, if_false, State.regRead_down h hb]

theorem exec_busMasterEnableChange {s : State} {f : Nat} (on : Bool) (h : s.funcPresent f = true) :
    exec (.busMasterEnableChange f on) s = answer s
      (let u := s.setFunc f { s.func f with bme := on }
       let w := if u.mayRelease f then u.releaseWrites f else u
       if on = true ∧ f = 0 then w.releaseSyncs else w) := by
  simp only [exec, execBusMasterEnableChange, h, if_true]

/-- Held writes leave where the function masters the bus, the link is up, and none of them waits for a retry (R260, R300). -/
theorem State.mayRelease_eq (s : State) (f : Nat) :
    s.mayRelease f = ((s.func f).bme && s.linkUp && (s.chan f).failed.all fun x => x.cause != .linkDown) := by
  rw [State.mayRelease, List.not_any_eq_all_not]
  rfl

theorem exec_d3hotEntry {s : State} {f : Nat} (h : s.funcPresent f = true) :
    exec (.d3hotEntry f) s = answer s
      (let u := if s.outstanding f then s.beginFlr f else s
       u.setFunc f { u.func f with d3hot := true }) := by
  simp only [exec, execD3hotEntry, h, if_true]

/-- Settles O41: the effect of each command, and what the reset of a VF clears and keeps. -/
theorem functionCommandsComplete : Obligations.FunctionCommandsComplete := by
  unfold Obligations.FunctionCommandsComplete
  intro s f
  refine ⟨fun off size w => exec_wrongSizeAccess f off size w, fun off ho hb => ⟨?_, ?_⟩, fun on => exec_busMasterEnableChange on,
    s.mayRelease_eq f, ?_, ?_, ?_, rfl, ?_, rfl, ?_⟩
  · rw [exec_poweredDownAccess_write ho hb, State.logDown_eq]
    rfl
  · rw [exec_poweredDownAccess_read ho hb, State.logDown_eq]
    rfl
  · intro hp hn
    rw [exec_d3hotEntry hp, hn]
    rfl
  · intro hp hn
    rw [exec_d3hotEntry hp, hn]
    rfl
  · intro hf hp
    simp only [exec, execVfFlr, hf, hp, ne_eq, not_false_eq_true, and_self, if_true]
    rfl
  · intro hv
    simp only [exec, execVfEnableClear, hv, if_true]
    rfl
  · intro hs hf _
    have hk := State.func_beginFlr_vf hs hf
    exact ⟨fun q hq => by rw [State.queue_beginFlr_vf hf hq], State.chan_beginFlr_vf hs hf, (congrArg Func.flrActive hk :),
      fun n => State.slot_beginFlr_vf hs hf, (congrArg Func.keyBase hk :), (congrArg Func.keyCount hk :), (congrArg Func.plainImport hk :),
      (congrArg Func.saBase hk :), (congrArg Func.saCount hk :), (congrArg Func.quota hk :), (congrArg Func.fifo hk :)⟩

end Sys2Proof.Machine
end

section
/-!
PROOF. The path of a line frame: reception and the first lookup, the return of a context from HBM, and the end of a frame on its port.
-/
namespace Sys2Proof.Machine
open Sys2Proof

/-! ### A frame that is no PTP message, or that crosses neither cipher nor MAU (R23, R371, R376) -/

theorem State.followUp_of_not_ptp {s : State} {fl : Flight} (h : ptpOf fl.frame = none) : s.followUp fl = (fl, s) := by
  unfold State.followUp; rw [h]

theorem State.tcEgress_of_not_ptp {s : State} {fl : Flight} (hf : fl.fromLine = false) (h : ptpOf fl.wire = none) :
    s.tcEgress fl = (fl, s) := by
  simp only [State.tcEgress, hf, Bool.false_eq_true, if_false, h]

theorem State.capture_of_not_ptp {s : State} {fl : Flight} {t : Option Stamp} (hf : fl.fromLine = false) (h : ptpOf fl.wire = none) :
    s.capture fl t = s := by
  simp only [State.capture, State.captureOf, hf, Bool.false_eq_true, if_false, h]

theorem State.mauAdd_of_no_mau {s : State} {fl : Flight} (h : fl.result.mau = 0) : s.mauAdd fl = .inr (fl, s) := by
  unfold State.mauAdd; rw [if_pos h]

/-- A system-facing frame that bypasses cipher and MAU reads no context. -/
theorem State.firstContexts_bypass {s : State} {fl : Flight} (hf : fl.fromLine = false) (ha : fl.result.action ≠ 1) (hm : fl.result.mau = 0) :
    s.firstContexts fl = [] := by
  simp only [State.firstContexts, hf, ha, hm, Bool.false_eq_true, if_false, ne_eq, not_true_eq_false]

theorem State.readContexts_bypass {s : State} {fl : Flight} (hf : fl.fromLine = false) (ha : fl.result.action ≠ 1) (hm : fl.result.mau = 0)
    (hp : ptpOf fl.frame = none) : s.readContexts fl = s.toEgress fl := by
  have hc : s.cipherStage fl = s.toEgress fl := by
    simp only [State.cipherStage, hf, ha, Bool.false_eq_true, if_false, State.followUp_of_not_ptp hp, State.mauAdd_of_no_mau hm]
  unfold State.readContexts
  rw [State.firstContexts_bypass hf ha hm]
  exact hc

/-! ### The first lookup (R321 to R325, R391) -/

/-- The key under which the first lookup seeks a frame (Table 12.3). -/
def Flight.firstKey (fl : Flight) : Bytes := (parseFrame fl.wire).key fl.wire fl.group fl.port false

/-- A frame outside class PROTECTION opens no journal record. -/
theorem State.journal_of_cls {s : State} {fl : Flight} {p : Parsed} {r : ClsResult} (h : r.cls ≠ 0) :
    s.journal fl p r = some ({ fl with kind := kindFlags p }, s) := by
  unfold State.journal
  rw [if_pos (.inl h)]

theorem State.classify_miss {s : State} {fl : Flight} (h : s.lookup fl.firstKey = none) :
    s.classify fl = s.ingressDrop fl Reg.prtClsMissLo 0 := by
  unfold Flight.firstKey at h
  unfold State.classify
  dsimp only
  rw [h]

/-- A match outside class PROTECTION: the entry's action and the APDU's length decide. -/
theorem State.classify_match {s : State} {fl : Flight} {r : ClsResult} (h : s.lookup fl.firstKey = some r) (hc : r.cls ≠ 0) :
    s.classify fl =
      (let x := { fl with kind := kindFlags (parseFrame fl.wire), result := r }
       if r.action = 0 then s.ingressDrop x Reg.prtRxDropLo 0x0B
       else if (fl.fromLine = false ∨ (parseFrame fl.wire).encrypted fl.wire = false) ∧ (parseFrame fl.wire).app ≠ 0 ∧
           Config.stdHolds .apduLenOk (parseFrame fl.wire).app [fl.wire] = false then s.ingressDrop x Reg.prtLenMismatchLo 1
       else s.readContexts x) := by
  unfold Flight.firstKey at h
  unfold State.classify
  simp only [h, State.journal_of_cls hc]
  rfl

theorem State.classify_drop {s : State} {fl : Flight} {r : ClsResult} (h : s.lookup fl.firstKey = some r) (hc : r.cls ≠ 0)
    (ha : r.action = 0) :
    s.classify fl = s.ingressDrop { fl with kind := kindFlags (parseFrame fl.wire), result := r } Reg.prtRxDropLo 0x0B := by
  rw [State.classify_match h hc]
  exact if_pos ha

theorem State.classify_bypass {s : State} {fl : Flight} {r : ClsResult} (h : s.lookup fl.firstKey = some r) (hc : r.cls ≠ 0)
    (ha : r.action = 2) (hm : r.mau = 0) (hf : fl.fromLine = false) (hp : ptpOf fl.frame = none) (happ : (parseFrame fl.wire).app = 0) :
    s.classify fl = s.toEgress { fl with kind := kindFlags (parseFrame fl.wire), result := r } := by
  rw [State.classify_match h hc]
  dsimp only
  rw [if_neg (by simp [ha]), if_neg fun hlen => hlen.2.1 happ]
  exact State.readContexts_bypass hf (by simp [ha]) hm hp

/-! ### Reception (R21, R316, R319, R438) -/

/-- The port's counters after the reception of a frame of n bytes with its FCS. -/
def State.countReceived (s : State) (g p n : Nat) : State :=
  (s.prtCount g p Reg.prtRxFramesLo).wideAdd (4 * (Reg.prtRxBytesLo + 0x10000 * g) + p) n

/-- The frame as it stands before the first lookup. -/
def State.arrival (s : State) (g p : Nat) (f : Bytes) (began : Bool) : Flight :=
  { id := s.line.nextFlight, group := g, port := p, frame := f, wire := f, tIn := s.ingressStamp g
    quality := s.qualityCode, inFree := s.free, began := began, sys := if g < 4 then none else some f }

/-- The port takes no frame of n bytes: by its length, or because the line, the pair or its groups are not in service. -/
abbrev State.refusesFrame (s : State) (g p n : Nat) : Prop :=
  n < 64 ∨ (s.port g p).frameLimit < n ∨ s.lineActive = false ∨ s.pairEn g = false ∨ s.pairAgrees g = false

section
variable {s : State} {g p : Nat} (f : Bytes) (began : Bool)

/-- On a link that is up a frame is counted, and then checked in the order FCS, port, integrity code. -/
theorem exec_frameReceive_up (check : FrameCheck) (h : s.linkIsUp g p = true) :
    exec (.frameReceive g p f check began) s = answer s
      (let u := s.countReceived g p (f.length + 4)
       if check = .fcsError then u.prtCount g p Reg.prtRxFcsErrLo
       else if u.refusesFrame g p (f.length + 4) then u.prtCount g p Reg.prtRxDropLo
       else if check = .integrityError then { u with tem := { u.tem with icode := u.tem.icode + 1 } }
       else (u.modLine fun l => { l with nextFlight := l.nextFlight + 1 }).classify (u.arrival g p f began)) := by
  simp only [exec, execFrameReceive, h, Bool.true_eq_false, if_false]
  rfl

theorem exec_frameReceive_fcsError (h : s.linkIsUp g p = true) :
    exec (.frameReceive g p f .fcsError began) s =
      answer s ((s.countReceived g p (f.length + 4)).prtCount g p Reg.prtRxFcsErrLo) := by
  rw [exec_frameReceive_up f began _ h]
  rfl

theorem exec_frameReceive_refused {check : FrameCheck} (h : s.linkIsUp g p = true)
    (hr : (s.countReceived g p (f.length + 4)).refusesFrame g p (f.length + 4)) (hc : check ≠ .fcsError) :
    exec (.frameReceive g p f check began) s = answer s ((s.countReceived g p (f.length + 4)).prtCount g p Reg.prtRxDropLo) := by
  rw [exec_frameReceive_up f began _ h]
  dsimp only
  rw [if_neg hc, if_pos hr]

section
variable (h : s.linkIsUp g p = true) (hr : ¬ (s.countReceived g p (f.length + 4)).refusesFrame g p (f.length + 4))
include h hr

/-- A frame whose transfer failed the integrity code is discarded and counts for source 4. -/
theorem exec_frameReceive_integrityError :
    exec (.frameReceive g p f .integrityError began) s =
      answer s (let u := s.countReceived g p (f.length + 4); { u with tem := { u.tem with icode := u.tem.icode + 1 } }) := by
  rw [exec_frameReceive_up f began _ h]
  dsimp only
  rw [if_neg (by decide), if_neg hr, if_pos rfl]

theorem exec_frameReceive_sound :
    exec (.frameReceive g p f .sound began) s =
      answer s (let u := s.countReceived g p (f.length + 4)
        (u.modLine fun l => { l with nextFlight := l.nextFlight + 1 }).classify (u.arrival g p f began)) := by
  rw [exec_frameReceive_up f began _ h]
  dsimp only
  rw [if_neg (by decide), if_neg hr, if_neg (by decide)]

end
end

/-! ### The return of a context (R225, R330, R479) -/

/-- A frame is served whatever its class. -/
theorem byClass_singleton (fl : Flight) : byClass [fl] = [fl] := by
  obtain h | h | h : fl.result.cls = 0 ∨ (1 ≤ fl.result.cls ∧ fl.result.cls ≤ 2) ∨ 3 ≤ fl.result.cls := by omega
  · simp [byClass, within, h]
  · simp [byClass, within, h, show fl.result.cls ≠ 0 by omega, show ¬ 3 ≤ fl.result.cls by omega]
  · simp [byClass, within, h, show fl.result.cls ≠ 0 by omega, show ¬ fl.result.cls ≤ 2 by omega]

/-- A frame that waited for one context alone goes on with the stage at which it waited. -/
theorem State.resumeFrame_last {s : State} {i : Nat} {fl : Flight} (ha : fl.awaits = [i]) (hs : fl.stage = .firstRead) :
    s.resumeFrame i fl = (s.dropFlight { fl with awaits := [] }).readContexts { fl with awaits := [], stage := .queued } := by
  simp [State.resumeFrame, ha, hs]

section
variable {s : State} {i : Nat} {r : HbmRead}

theorem exec_saContextFetchDone_read (h : s.needsFetch i = true) (hr : r.failed = none) :
    exec (.saContextFetchDone i r) s = answer s
      ((byClass (s.line.flights.filter (·.awaits.contains i))).foldl (State.resumeFrame i) (((s.noteRead r).loadSa i).touchSa i)) := by
  simp only [exec, execSaContextFetchDone, h, hr, Bool.true_eq_false, false_and, if_false, if_true]

theorem exec_saContextFetchDone_failed {x : HbmUe} (h : s.needsFetch i = true) (hr : r.failed = some x) :
    exec (.saContextFetchDone i r) s = answer s
      ((s.line.flights.filter (·.awaits.contains i)).foldl (fun s fl => (s.count Reg.memSaUeDrop).kill fl 6) ((s.hbmUe 1 x).removeSa i)) := by
  simp only [exec, execSaContextFetchDone, h, hr, Bool.true_eq_false, false_and, if_false, if_true]

/-- No frame waits for a context that none lists. -/
theorem State.filter_awaits_eq_nil (h : ∀ fl ∈ s.line.flights, i ∉ fl.awaits) : s.line.flights.filter (·.awaits.contains i) = [] :=
  List.filter_eq_nil_iff.2 fun fl hfl => by simpa using h fl hfl

end

/-! ### The end of a frame (R318, R327, R391), and the transparent clock's tables (R372, R374) -/

/-- The frame has left on its port, with its FCS, and is counted. -/
def State.sendFrame (s : State) (fl : Flight) : State :=
  (((s.dropFlight fl).emit (.frame (fl.egress + 8 * fl.port) (fl.frame ++ fcsOf fl.frame fl.stomped))).prtCount
    fl.egress fl.port Reg.prtTxFramesLo).wideAdd (4 * (Reg.prtTxBytesLo + 0x10000 * fl.egress) + fl.port) (fl.frame.length + 4)

section
variable {s : State} {id : Nat} {fl : Flight}

theorem exec_frameEgressEnd_down (h : (s.line.flights.find? fun x => x.id == id && x.stage == .wire) = some fl)
    (hl : s.linkIsUp fl.egress fl.port = false) :
    exec (.frameEgressEnd id) s = answer s (((s.prtCount fl.egress fl.port Reg.prtTxDropLo).kill fl 0x0A).feedPort fl.egress fl.port) := by
  simp only [exec, execFrameEgressEnd, h, hl, if_true]

/-- A system-facing frame that is no PTP message leaves as it stands. -/
theorem exec_frameEgressEnd_up (h : (s.line.flights.find? fun x => x.id == id && x.stage == .wire) = some fl)
    (hl : s.linkIsUp fl.egress fl.port = true) (hp : ptpOf fl.wire = none) (hf : fl.fromLine = false) :
    exec (.frameEgressEnd id) s = answer s
      (((s.sendFrame fl).endRecord fl (some ((s.sendFrame fl).egressStamp fl.egress))).feedPort fl.egress fl.port) := by
  simp only [exec, execFrameEgressEnd, h, hl, hf, Bool.true_eq_false, Bool.false_eq_true, if_false, State.tcEgress_of_not_ptp hf hp]
  rw [State.capture_of_not_ptp hf hp]
  rfl

theorem exec_tcLaunch (onTime : Bool) (h : (s.line.flights.find? fun x => x.id == id && x.stage == .launch) = some fl) :
    exec (.tcLaunch id onTime) s = answer s
      (if onTime = true ∧ s.wireBusy fl.egress fl.port = false then s.putFlight { fl with stage := .wire }
       else (s.count Reg.tsuTcLate).kill fl 9) := by
  simp only [exec, execTcLaunch, h]

theorem exec_tcEntryLapse {pair : Nat} {dir : Bool} {old : TcEntry}
    (h : (s.line.tc.find? fun x => x.pair == pair && x.fromLine == dir) = some old) :
    exec (.tcEntryLapse pair dir) s = answer s (s.modLine fun l => { l with tc := l.tc.filter (· != old) }) := by
  have hsome (e : TcEntry) : (some e != some old) = (e != old) := by
    rw [Bool.eq_iff_iff]; simp
  simp only [exec, execTcEntryLapse, h, hsome]

end

/-- Settles O37: reception by its checks, the first lookup by its result, a context's return by who waits for it, and the end of a frame. -/
theorem framePathEffects : Obligations.FramePathEffects := by
  unfold Obligations.FramePathEffects
  intro s
  refine ⟨fun g p f began check hup => ?_, fun i r hi hw hr => ?_, fun i r x hi hw hr => ?_, fun i r fl hi hfl ha hs hr => ?_,
    fun id fl h => ⟨exec_frameEgressEnd_down h, exec_frameEgressEnd_up h⟩, fun id fl h => ⟨fun hb => ?_, fun hb => ?_, ?_⟩,
    fun pair dir old => exec_tcEntryLapse⟩
  · intro n u fl v
    refine ⟨exec_frameReceive_fcsError f began hup, exec_frameReceive_refused f began hup, fun h1 h2 h3 h4 h5 => ?_⟩
    have htaken : ¬ u.refusesFrame g p n := by
      simp [Nat.not_lt.2 h1, Nat.not_lt.2 h2, h3, h4, h5]
    refine ⟨exec_frameReceive_integrityError f began hup htaken, exec_frameReceive_sound f began hup htaken,
      State.classify_miss (fl := fl), fun r => State.classify_drop (fl := fl), fun r hl hc ha hm hg => ?_⟩
    exact State.classify_bypass (fl := fl) hl hc ha hm (by simpa [Flight.fromLine, fl] using hg)
  · rw [exec_saContextFetchDone_read hi hr, State.filter_awaits_eq_nil hw]
    rfl
  · rw [exec_saContextFetchDone_failed hi hr, State.filter_awaits_eq_nil hw]
    rfl
  · have hmine : s.line.flights.filter (·.awaits.contains i) = [fl] := by simp [hfl, ha]
    rw [exec_saContextFetchDone_read hi hr, hmine, byClass_singleton]
    simp only [List.foldl_cons, List.foldl_nil, State.resumeFrame_last ha hs]
    rfl
  · rw [exec_tcLaunch true h, if_pos ⟨rfl, hb⟩]
    rfl
  · rw [exec_tcLaunch true h, if_neg (by simp [hb])]
    rfl
  · rw [exec_tcLaunch false h, if_neg (by simp)]
    rfl

end Sys2Proof.Machine
end

section
/-!
PROOF. Commands of ports, pipelines, the ratchet and the SA ranges: what each answers.
-/
namespace Sys2Proof.Machine
open Sys2Proof

/-! ### Registers with bits set -/

theorem flag_setBits (v m : W32) (n : Nat) : flag (setBits v m) n = (flag v n || flag m n) := by
  simp only [flag_eq_getLsbD, setBits, BitVec.getLsbD_or]

theorem field_eq_extractLsb (w : W32) (hi lo : Nat) : field w hi lo = (w.extractLsb hi lo).toNat := by
  simp [field, bitsOf, Nat.shiftRight_eq_div_pow]

/-- Setting bits outside a field leaves the field. -/
theorem field_setBits {m : W32} {hi lo : Nat} (v : W32) (h : m.extractLsb hi lo = 0) : field (setBits v m) hi lo = field v hi lo := by
  simp only [field_eq_extractLsb, setBits, BitVec.extractLsb_or, h]
  simp

/-! ### Ports (R22, R317, R318, R333) -/

theorem exec_lineEnWrite {s : State} (v : W32) (ho : s.regsOpen = true) (hb : s.blockDown Reg.gctlCtrl = false) :
    exec (.lineEnWrite v) s = answer s (s.plainWrite Reg.gctlCtrl v) := by
  simp only [exec, execLineEnWrite, State.regWrite_on ho hb]

theorem exec_applyGroup {s : State} {g : Nat} (v : W32) (ho : s.regsOpen = true) (hg : g < 8)
    (hb : s.blockDown (prtReg g Reg.prtGroupCtrl) = false) :
    exec (.applyGroup g v) s = answer s (s.groupCtrlWrite g (setBits v 0x200)) := by
  simp only [exec, execApplyGroup, if_neg (Nat.not_le.2 hg), State.regWrite_on ho hb]

/-- A write of GROUP_CTRL with APPLY set takes MODE, FEC25 and MEDIA from their fields. -/
theorem State.groupCtrlWrite_apply (s : State) (g : Nat) (v : W32) :
    s.groupCtrlWrite g (setBits v 0x200) =
      (let u := s.setReg (prtReg g Reg.prtGroupCtrl) (setBits v 0x200 &&& if g < 4 then 0x13F else 0x3F)
       let mode := if 6 < field v 3 0 then 0 else field v 3 0
       let w := (u.groupDown g).modGroup g fun x => { x with mode := mode, fec25 := flag v 4, media := field v 5 5, applying := true }
       (w.setReg (0x300100 + 8 * g) (delayDefault mode (w.group g).usesFec false)).setReg (0x300104 + 8 * g)
         (delayDefault mode (w.group g).usesFec true)) := by
  have h9 : flag (setBits v 0x200) 9 = true := by
    rw [flag_setBits, show flag 0x200 9 = true by decide, Bool.or_true]
  have h4 : flag (setBits v 0x200) 4 = flag v 4 := by
    rw [flag_setBits, show flag 0x200 4 = false by decide, Bool.or_false]
  unfold State.groupCtrlWrite
  simp only [h9, h4, if_true, field_setBits v (show (0x200 : W32).extractLsb 3 0 = 0 by decide),
    field_setBits v (show (0x200 : W32).extractLsb 5 5 = 0 by decide)]

theorem exec_portCounterClear {s : State} {g : Nat} (v : W32) (ho : s.regsOpen = true) (hg : g < 8)
    (hb : s.blockDown (prtReg g Reg.prtPortCfg) = false) :
    exec (.portCounterClear g v) s = answer s (s.portCfgWrite g (setBits v 0x10000)) := by
  simp only [exec, execPortCounterClear, if_neg (Nat.not_le.2 hg), State.regWrite_on ho hb]

/-- A key that no entry lists holds its default. -/
theorem Sparse.get_of_unlisted {α : Type} {d : Nat → α} {m : Sparse α} {k : Nat} (h : ∀ e ∈ m, e.1 ≠ k) : Sparse.get d m k = d k := by
  induction m with
  | nil => rfl
  | cons e m ih =>
    rw [Sparse.get, if_neg (h e List.mem_cons_self)]
    exact ih fun x hx => h x (List.mem_cons_of_mem e hx)

/-- The keys that a filter leaves out hold their default. -/
theorem Sparse.get_filter_not {α : Type} {d : Nat → α} (m : Sparse α) {c : Nat → Bool} {k : Nat} (h : c k = true) :
    Sparse.get d (m.filter fun e => !c e.1) k = d k :=
  Sparse.get_of_unlisted fun e he hk => by simp [hk, h] at he

/-- A write of PORT_CFG with CLEAR set leaves the counters and latches of the selected port at 0. -/
theorem State.portCfgWrite_clears (s : State) (g : Nat) (v : W32) {k : Nat} (hk : portCounter g (s.selPort g) k = true) :
    (s.portCfgWrite g (setBits v 0x10000)).wideOf k = 0 ∧
      Sparse.get (fun _ => 0) (s.portCfgWrite g (setBits v 0x10000)).line.latch k = 0 := by
  have h16 : flag (setBits v 0x10000) 16 = true := by
    rw [flag_setBits, show flag 0x10000 16 = true by decide, Bool.or_true]
  unfold State.portCfgWrite State.wideOf
  rw [if_pos h16]
  exact ⟨Sparse.get_filter_not _ hk, Sparse.get_filter_not _ hk⟩

theorem exec_counterLoRead {s : State} {key k : Nat} (hk : s.counterOf key = some k) (hr : s.lcs.phase ≠ .reset)
    (ht : s.lcs.state ≠ .terminated) (hb : s.blockDown key = false) :
    exec (.counterLoRead key) s = answer s ((s.modLine fun l => { l with
      latch := Sparse.set (fun _ => 0) l.latch k (BitVec.ofNat 32 ((s.wideOf k).toNat / 2 ^ 32)) }).emit
        (.readData (BitVec.ofNat 32 (s.wideOf k).toNat))) := by
  simp only [exec, execCounterLoRead, hk, State.regRead_on hr ht hb]

theorem exec_linkUp {s : State} {g p : Nat} (rf : Bool) (ho : s.regsOpen = true) (hg : g < 8) (hp : p < modePorts (s.group g).mode)
    (ha : (s.group g).applying = false) (hw : s.groupPowered g = true) :
    exec (.linkUp g p rf) s = answer s ((s.freshLanes g (portLanes (s.group g).mode p)).modPort g p fun x => { x with
      link := true, pcsLock := true, fecLock := (s.group g).usesFec, anDone := (s.group g).media == 1
      trained := (s.group g).media == 1, localFault := false, remoteFault := rf }) := by
  simp [exec, execLinkUp, ho, hg, hp, ha, hw]

theorem exec_linkDown {s : State} {g : Nat} (p : Nat) (a b c d : Bool) (hg : g < 8) :
    exec (.linkDown g p a b c d) s = answer s
      ((s.linkFalls g p).modPort g p fun x => { x with pcsLock := a, fecLock := b, localFault := c, remoteFault := d }) := by
  simp only [exec, execLinkDown, if_pos hg]

/-! ### The ratchet (R352 to R355) -/

theorem exec_ratchetDeriveDone {s : State} {i : Nat} {x : Sa} (h : s.sa i = some x) (hd : x.deriving_ = true) :
    exec (.ratchetDeriveDone i) s = answer s (s.ratchetInstall i) := by
  simp only [exec, execRatchetDeriveDone, h, hd, if_true]

/-- A next generation whose index is occupied is not installed (R355). -/
theorem State.ratchetInstall_occupied {s : State} {i : Nat} {x : Sa} (h : s.sa i = some x) (ho : (s.sa (nextGenIndex i)).isSome = true) :
    s.ratchetInstall i = s.ratchetBlocked i := by
  simp only [State.ratchetInstall, h, ho, if_true]

theorem exec_ratchetOverlapEnd {s : State} {i : Nat} {x : Sa} (h : s.sa i = some x) (ho : x.overlap = true) :
    exec (.ratchetOverlapEnd i) s = answer s (s.removeSa i) := by
  simp only [exec, execRatchetOverlapEnd, h, ho, if_true]

/-! ### Pipelines (R359, R360) -/

theorem exec_pipelineSelftest {s : State} (p : Nat) (result : Option Bool) (hd : s.lcs.phase = .done) :
    exec (.pipelineSelftest p result) s = answer s (s.pipeTested p result) := by
  simp only [exec, execPipelineSelftest, hd, reduceCtorEq, if_false, if_true]

/-- A test that passes changes nothing, whether the pipeline is in service or not. -/
theorem State.pipeTested_passed (s : State) (p : Nat) : s.pipeTested p (some true) = s := by
  simp [State.pipeTested]

section
variable {s : State} {p : Nat} (hp : p < 16) (hf : bitOf s.line.fenced.toNat p = false)
include hp hf

theorem State.pipeTested_deferred : s.pipeTested p none = s.lceCount Reg.lceStDeferredLo := by
  simp [State.pipeTested, hf, Nat.not_le.2 hp]

theorem State.pipeTested_failed : s.pipeTested p (some false) = s.pipeFail p := by
  simp [State.pipeTested, hf, Nat.not_le.2 hp]

end

/-- One pipeline of PIPE_UNFENCE: named in `v` it is tested, and `w` says whether it passes. -/
def State.unfencePipe (v w : W32) (s : State) (p : Nat) : State :=
  if flag v p then
    if flag w p then s.modLine fun l => { l with fenced := l.fenced &&& ~~~BitVec.ofNat 16 (2 ^ p) } else s.pipeFail p
  else s

theorem exec_pipeUnfence {s : State} (v w : W32) (ho : s.regsOpen = true) (hb : s.blockDown Reg.lcePipeUnfence = false) :
    exec (.pipeUnfence v w) s = answer s ((List.range 16).foldl (State.unfencePipe v w) s) := by
  simp only [exec, execPipeUnfence, State.regWrite_on ho hb]
  rfl

/-- A pipeline that passes where it is named leaves the fence, and no other pipeline does. -/
theorem State.unfencePipe_fenced {v w : W32} (s : State) {p : Nat} (h : flag v p = true → flag w p = true) (i : Nat) :
    (s.unfencePipe v w p).line.fenced.getLsbD i = (s.line.fenced.getLsbD i && !(v.getLsbD i && i == p)) := by
  have hbit : (BitVec.ofNat 16 (2 ^ p)).getLsbD i = (decide (i < 16) && i == p) := by
    rw [BitVec.getLsbD_ofNat, Nat.testBit_two_pow, beq_eq_decide, decide_eq_decide.2 (eq_comm (a := p))]
  unfold State.unfencePipe
  by_cases hv : flag v p = true
  · rw [if_pos hv, if_pos (h hv)]
    rw [flag_eq_getLsbD] at hv
    simp only [State.modLine, BitVec.getLsbD_and, BitVec.getLsbD_not, hbit]
    by_cases hi : i < 16
    · by_cases hip : i = p
      · simp [hip, hv]
      · simp [hi, beq_false_of_ne hip]
    · simp [BitVec.getLsbD_of_ge _ i (Nat.le_of_not_lt hi)]
  · rw [if_neg hv]
    rw [flag_eq_getLsbD] at hv
    by_cases hip : i = p
    · simp [hip, hv]
    · simp [hip]

theorem State.foldl_unfencePipe_fenced {v w : W32} {l : List Nat} (h : ∀ p ∈ l, flag v p = true → flag w p = true) (s : State) (i : Nat) :
    (l.foldl (State.unfencePipe v w) s).line.fenced.getLsbD i = (s.line.fenced.getLsbD i && !(v.getLsbD i && l.contains i)) := by
  induction l generalizing s with
  | nil => simp
  | cons p l ih =>
    rw [List.foldl_cons, ih fun q hq => h q (List.mem_cons_of_mem p hq), State.unfencePipe_fenced s (h p List.mem_cons_self),
      List.contains_cons]
    cases v.getLsbD i <;> simp [Bool.and_assoc]

/-- Bits below 16 that are set in `v` are set in `w`, where no bit of `v`'s low half is missing from `w`. -/
theorem flag_of_low_half_covered {v w : W32} (h : v &&& 0xFFFF &&& ~~~w = 0) {p : Nat} (hp : p < 16) (hv : flag v p = true) :
    flag w p = true := by
  have hmask : flag 0xFFFF p = true := (show ∀ p < 16, flag 0xFFFF p = true by decide) p hp
  have hp32 : p < 32 := Nat.lt_trans hp (by decide)
  have hd := flag_disjoint h p
  simp only [flag_eq_getLsbD, BitVec.getLsbD_and, BitVec.getLsbD_not] at hmask hv hd ⊢
  simpa only [hv, hmask, hp32, decide_true, Bool.true_and, Bool.not_eq_false'] using hd

/-- Where every pipeline named passes, each of them leaves the fence. -/
theorem State.unfence_fenced {v w : W32} (h : v &&& 0xFFFF &&& ~~~w = 0) (s : State) :
    ((List.range 16).foldl (State.unfencePipe v w) s).line.fenced = s.line.fenced &&& ~~~(v.setWidth 16) := by
  refine BitVec.eq_of_getLsbD_eq fun i hi => ?_
  rw [State.foldl_unfencePipe_fenced fun p hp => flag_of_low_half_covered h (List.mem_range.1 hp)]
  simp [hi]

/-! ### SA ranges (R304) -/

/-- Staging a base raises no summary bit. -/
theorem settle_stageSaBase (s : State) (n : Nat) : settle s { s with saStage := n } = { s with saStage := n } :=
  settle_quiet (show s.sumSignal &&& ~~~s.sumSignal = 0 by simp) (Nat.le_refl _)

theorem exec_saBaseWrite {s : State} (v : W32) (ho : s.regsOpen = true) (hb : s.blockDown Reg.vfcSaBase = false) :
    exec (.saBaseWrite v) s = .next { s with saStage := field v 23 0 } := by
  simp only [exec, execSaBaseWrite, State.regWrite_on ho hb, answer, settle_stageSaBase]

/-- Function f has an SA installed outside a range of indices. -/
def State.saLeaves (s : State) (f base count : Nat) : Bool :=
  s.saList.any fun p => p.2.func == f && !(decide (base ≤ p.1) && decide (p.1 < base + count))

theorem State.saLeaves_eq_false {s : State} {f base count : Nat}
    (h : ∀ p ∈ s.saList, p.2.func = f → base ≤ p.1 ∧ p.1 < base + count) : s.saLeaves f base count = false := by
  rw [State.saLeaves, List.any_eq_false]
  intro p hp
  by_cases hf : p.2.func = f
  · simp [h p hp hf]
  · simp [hf]

theorem exec_saCountWrite {s : State} (v : W32) (ho : s.regsOpen = true) (hb : s.blockDown Reg.vfcSaCount = false) :
    exec (.saCountWrite v) s = answer s
      (let f := field (s.reg Reg.vfcFuncSel) 7 0
       let n := field v 24 0
       if s.saRangeTaken f s.saStage n ∨ 16777216 < s.saStage + n ∨ s.saLeaves f s.saStage n = true then s.raise Reg.vfcErrStatus 1
       else s.setFunc f { s.func f with saBase := s.saStage, saCount := n }) := by
  simp only [exec, execSaCountWrite, State.regWrite_on ho hb]
  rfl

/-- Settles O38: each command's answer by its own lemma. -/
theorem portCommandsComplete : Obligations.PortCommandsComplete := by
  unfold Obligations.PortCommandsComplete
  intro s
  refine ⟨exec_lineEnWrite, fun g v ho hg hb => ?_, fun _ => rfl, fun g v ho hg hb => ?_, fun key k => exec_counterLoRead,
    fun g p rf => exec_linkUp rf, fun g p a b c d => exec_linkDown p a b c d, fun i x h hd => ⟨fun hocc => ?_, fun _ => exec_ratchetDeriveDone h hd⟩,
    fun i x => exec_ratchetOverlapEnd, fun p hd hp hf => ⟨?_, ?_, ?_⟩, fun v w ho hb hpass => ?_, exec_saBaseWrite,
    fun v ho hb => ⟨fun hfree hend hin => ?_, fun hbad => ?_⟩⟩
  · rw [exec_applyGroup v ho hg hb, State.groupCtrlWrite_apply]
    rfl
  · rw [exec_portCounterClear v ho hg hb]
    refine ⟨_, rfl, fun k hk => ?_⟩
    rw [State.wideOf, settle_line]
    exact State.portCfgWrite_clears s g v hk
  · rw [exec_ratchetDeriveDone h hd, State.ratchetInstall_occupied h hocc]
    rfl
  · rw [exec_pipelineSelftest p _ hd, State.pipeTested_deferred hp hf]
    rfl
  · rw [exec_pipelineSelftest p _ hd, State.pipeTested_passed]
    exact answer_self s
  · rw [exec_pipelineSelftest p _ hd, State.pipeTested_failed hp hf]
    rfl
  · rw [exec_pipeUnfence v w ho hb]
    refine ⟨_, rfl, ?_⟩
    rw [settle_line]
    exact State.unfence_fenced hpass s
  · rw [exec_saCountWrite v ho hb]
    dsimp only
    rw [if_neg (by simp [hfree, Nat.not_lt.2 hend, State.saLeaves_eq_false hin])]
    rfl
  · rw [exec_saCountWrite v ho hb]
    dsimp only
    rw [if_pos (hbad.imp_right .inl)]
    rfl

end Sys2Proof.Machine
end

section
/-!
PROOF. OTP: what is burnt stays burnt, whatever command comes.
-/
namespace Sys2Proof.Machine
open Sys2Proof

/-- Settles O48: every command's next state extends the state it began from, and an extension burns OTP and clears nothing of it. -/
theorem otpOnlyBurns : Obligations.OtpOnlyBurns := by
  unfold Obligations.OtpOnlyBurns
  intro s u c h
  have hle : OtpLe s.lcs.otp u.lcs.otp := (exec_extends h).otp
  exact ⟨hle.lc0, hle.lc1, hle.lc2, hle.marksLength, hle.marks, hle.svnFw, hle.svnLayout, hle.svnMcode, hle.dukA, hle.dukB, hle.seedA,
    hle.seedB, hle.ownerRecord⟩

end Sys2Proof.Machine
end

section
/-!
PROOF. Life-cycle transitions: which are admitted, and how each begins.
-/
namespace Sys2Proof.Machine
open Sys2Proof

/-! ### The tracker and the marks -/

@[simp] theorem State.busy_lcs (s : State) (slot : Nat) : (s.busy slot).lcs = s.lcs := by
  unfold State.busy; split <;> rfl

/-- A burn in a mark sets its bits in all three copies (R47). -/
theorem State.burnMark_marks (s : State) {i : Nat} {m : W32 × W32 × W32} (mask : W32) (h : s.lcs.otp.marks[i]? = some m) :
    (s.burnMark i mask).lcs.otp.marks[i]? = some (m.1 ||| mask, m.2.1 ||| mask, m.2.2 ||| mask) := by
  simp [State.burnMark, State.modOtp, h]

/-! ### LCS_TRANSITION as an entry (R42, R50) -/

/-- An entry that comes at its slot is admitted, or is refused while a transition runs. -/
theorem exec_lcsTransition_begun {s : State} {slot : Nat} {t : Track} (good : Bool) (h : Begun s slot 0xC01 0xC01 t) :
    exec (.lcsTransition slot good) s = answer s
      (if s.lcs.xferActive then s.fail slot (St.lcsForbids, 3) else s.admitXfer slot t) := by
  obtain ⟨ht, hphase, hcode, -⟩ := id h
  have hop : t.entry.opcode = 0xC01 := by
    simp only [within, Bool.and_eq_true, decide_eq_true_eq] at hcode
    omega
  have hother : ((t.phase == .ready || t.phase == .gather) && t.entry.opcode == 0xC01) = true := by
    rcases hphase with hp | hp <;> simp [hp, hop]
  simp only [exec, execLcsTransition, ht, hother, State.onEntry_begun h, Bool.true_eq_false, and_false, if_false]

/-- A move that needs neither signature nor record goes to another state than PROVISIONED and OWNED. -/
theorem target_of_unsigned {a b : LcState} (h : xferAuth a b = .alone ∨ xferAuth a b = .ceremony) : b ≠ .provisioned ∧ b ≠ .owned := by
  constructor <;> rintro rfl <;> cases a <;> simp [xferAuth] at h

section
variable {s : State} {slot : Nat} {t : Track} {target : LcState} (hp : xferParamsOk t.entry = true)
  (ht : lcOfIndex (t.entry.p8 40) = some target)
include hp ht

/-- A move that Table 2.2 does not list is refused. -/
theorem State.admitXfer_unlisted (hl : xferListed s.lcs.state target = false) :
    s.admitXfer slot t = s.fail slot (St.lcsForbids, 1) := by
  have hf : ∀ l, FailsWith (chk (xferParamsOk t.entry) St.badParam 0 :: chk (xferListed s.lcs.state target) St.lcsForbids 1 :: l)
      (St.lcsForbids, 1) := fun l => by simp [FailsWith, hp, hl, notGathered]
  simp only [State.admitXfer, ht, Option.getD_some, State.checked_fails (hf _)]
  rfl

variable {i : Nat} (hl : xferListed s.lcs.state target = true) (ho : s.openMarks = []) (he : s.emptyMark = some i) (hd : t.dmaFail = none)
include hl ho he hd

omit ht in
/-- The checks of a listed move pass, once its authorisation needs no record and its ceremony, if it needs one, is there. -/
theorem State.xferChecks_pass {a : XferAuth} (hc : a = .ceremony → s.lcs.returnAuth = true) (hr : a ≠ .record)
    (hn : t.entry.msgLen = a.inputLen) :
    Passes [chk (xferParamsOk t.entry) St.badParam 0, chk (xferListed s.lcs.state target) St.lcsForbids 1,
      chk (s.openMarks.isEmpty && s.emptyMark.isSome) St.lcsForbids 3, chk (a != .ceremony || s.lcs.returnAuth) St.lcsForbids 2,
      t.dmaFail, chk (t.entry.msgLen == a.inputLen) St.badLength 0, chk (a != .record || natAt t.input 96 == 0) St.badParam 0] := by
  have hc : (a != .ceremony || s.lcs.returnAuth) = true := by
    by_cases h : a = .ceremony
    · simp [hc h]
    · simp [bne_iff_ne.2 h]
  simp [hp, hl, ho, he, hd, hc, hn, bne_iff_ne.2 hr]

/-- A listed move that PF0 alone asks for, or that its ceremony authorises, begins. -/
theorem State.admitXfer_unsigned {a : XferAuth} (ha : xferAuth s.lcs.state target = a) (hk : a = .alone ∨ (a = .ceremony ∧ s.lcs.returnAuth = true))
    (hn : t.entry.msgLen = 0) : s.admitXfer slot t = s.beginXfer slot i target none := by
  obtain ⟨h1, h2⟩ := target_of_unsigned (ha ▸ hk.imp_right And.left)
  have hdraw : (decide (target = .provisioned) || decide (target = .owned)) = false := by simp [h1, h2]
  simp only [State.admitXfer, ht, Option.getD_some, ha, hdraw]
  rcases hk with rfl | ⟨rfl, hr⟩
  · rw [State.checked_passes (State.xferChecks_pass (a := .alone) hp hl ho he hd (by simp) (by simp) hn), he]
    rfl
  · rw [State.checked_passes (State.xferChecks_pass (a := .ceremony) hp hl ho he hd (fun _ => hr) (by simp) hn), he]
    rfl

variable (hm : target = .manufacture) (hn : t.entry.msgLen = 4627)
include hm hn

/-- Without an outstanding challenge no signature authorises a move (R53). -/
theorem State.admitXfer_unchallenged (hc : s.lcs.challenge = none) : s.admitXfer slot t = s.fail slot (St.verifyFail, 5) := by
  have ha : xferAuth s.lcs.state target = .signature := by subst hm; unfold xferAuth; rfl
  simp only [State.admitXfer, ht, Option.getD_some, ha, hc]
  exact State.checked_passes (State.xferChecks_pass hp hl ho he hd (by simp) (by simp) hn)

/-- A signature over the outstanding challenge decides a move to MANUFACTURE; one over a lapsed challenge leaves the outstanding one (R53, R54). -/
theorem State.admitXfer_challenged {x : Bytes} (hc : s.lcs.challenge = some x) :
    s.admitXfer slot t =
      if lcsSigOk s.lcs.otp.vendorKeyHash t.input x then (s.useChallenge x).beginXfer slot i .manufacture none
      else if s.lcs.lapsed.any (lcsSigOk s.lcs.otp.vendorKeyHash t.input) then s.fail slot (St.verifyFail, 5)
      else s.dropChallenge.fail slot (St.verifyFail, 0) := by
  have ha : xferAuth s.lcs.state target = .signature := by subst hm; unfold xferAuth; rfl
  simp only [State.admitXfer, ht, Option.getD_some, ha, hc]
  rw [State.checked_passes (State.xferChecks_pass (a := .signature) hp hl ho he hd (by simp) (by simp) hn), he, hm]
  rfl
end

/-! ### A transition begins (R47, R50) -/

section
variable (s : State) (slot i : Nat) {target : LcState} (record : Option OwnerRecord) (h : target ≠ .owned)
include h

/-- What a move that burns no record changes of the life-cycle block. -/
theorem State.beginXfer_lcs : (s.beginXfer slot i target record).lcs =
    { ((s.busy slot).burnMark i (BitVec.ofNat 32 (lcIndex target))).lcs with
      xferActive := true, xferSlot := some slot, xferTarget := target, xferMark := i, xferStep := 0, xferRecord := record, xferSeed := []
      returnAuth := s.lcs.returnAuth && !(xferAuth s.lcs.state target == .ceremony) } := by
  rw [State.beginXfer, if_neg h]
  simp [State.modLcs, State.burnMark, State.modOtp]

theorem State.beginXfer_active : (s.beginXfer slot i target record).lcs.xferActive = true := by
  rw [State.beginXfer_lcs s slot i record h]

/-- The RETURN authorisation is consumed. -/
theorem State.beginXfer_returnAuth (ha : xferAuth s.lcs.state target = .ceremony) :
    (s.beginXfer slot i target record).lcs.returnAuth = false := by
  simp [State.beginXfer_lcs s slot i record h, ha]

/-- The mark names the target in all three copies. -/
theorem State.beginXfer_marks {m : W32 × W32 × W32} (hm : s.lcs.otp.marks[i]? = some m) :
    (s.beginXfer slot i target record).lcs.otp.marks[i]? = (let b : W32 := BitVec.ofNat 32 (lcIndex target)
      some (m.1 ||| b, m.2.1 ||| b, m.2.2 ||| b)) := by
  rw [State.beginXfer_lcs s slot i record h]
  exact State.burnMark_marks _ _ (by rwa [State.busy_lcs])
end

/-- Settles O49: an entry is refused while a transition runs, and else admitted; the marks and the RETURN authorisation by what beginning
changes. -/
theorem lifeCycleTransitions : Obligations.LifeCycleTransitions := by
  unfold Obligations.LifeCycleTransitions
  intro s slot t good target e hb hp ht
  have hadmit (ha : s.lcs.xferActive = false) : exec (.lcsTransition slot good) s = answer s (s.admitXfer slot t) := by
    rw [exec_lcsTransition_begun good hb, if_neg (by simp [ha])]
  refine ⟨fun ha hl => ?_, fun ha => ?_, fun i ha hl ho he hd hk hn => ?_, fun i ha hs hm ho he hd hn => ?_⟩
  · rw [hadmit ha, State.admitXfer_unlisted hp ht hl]
    rfl
  · rw [exec_lcsTransition_begun good hb, if_pos ha]
    rfl
  · have hne : target ≠ .owned := (target_of_unsigned (hk.imp_right And.left)).2
    refine ⟨?_, s.beginXfer_active slot i none hne, s.beginXfer_returnAuth slot i none hne, fun m => s.beginXfer_marks slot i none hne⟩
    rw [hadmit ha, State.admitXfer_unsigned hp ht hl ho he hd rfl hk hn]
    rfl
  · have hl : xferListed s.lcs.state target = true := by rw [hs, hm]; rfl
    refine ⟨fun hc => ?_, fun x hc => ?_⟩
    · rw [hadmit ha, State.admitXfer_unchallenged hp ht hl ho he hd hm hn hc]
      rfl
    · rw [hadmit ha, State.admitXfer_challenged hp ht hl ho he hd hm hn hc]
      refine ⟨fun h => ?_, fun h hlap => ?_, fun h hlap => ?_⟩
      · rw [if_pos h]
        rfl
      · rw [if_neg (by simp [h]), if_neg (by simp [hlap])]
        rfl
      · rw [if_neg (by simp [h]), if_pos hlap]
        rfl

end Sys2Proof.Machine
end

section
/-!
PROOF. What the device holds beside the work of its entries, and what ending that work leaves of it.
-/
namespace Sys2Proof.Machine
open Sys2Proof

/-! ### What ending work leaves alone -/

/-- What the device holds beside the work of its entries: the life-cycle state in force and OTP, SAs, BVR, the memory key, the journal's anchor. -/
structure Holdings where
  state : LcState
  otp : Otp
  sas : Sparse (Option Sa)
  bvr : Bytes
  key : Option Bytes
  anchor : Option Anchor

/-- The holdings of a state. -/
def State.holdings (s : State) : Holdings := ⟨s.lcs.state, s.lcs.otp, s.line.sas, s.kst.bvr, s.mem.key, s.evj.anchor⟩

theorem foldl_holdings {α : Type} {f : State → α → State} (h : ∀ s a, (f s a).holdings = s.holdings) (l : List α) (s : State) :
    (l.foldl f s).holdings = s.holdings := by
  induction l generalizing s with
  | nil => rfl
  | cons a l ih => rw [List.foldl_cons, ih, h]

section
variable (s : State)

/-! #### Parts that touch the Comb, the tracker or another unit alone -/

@[simp] theorem State.setReg_holdings (k : Nat) (v : W32) : (s.setReg k v).holdings = s.holdings := rfl
@[simp] theorem State.modReg_holdings (k : Nat) (f : W32 → W32) : (s.modReg k f).holdings = s.holdings := rfl
@[simp] theorem State.raise_holdings (k : Nat) (m : W32) : (s.raise k m).holdings = s.holdings := rfl
@[simp] theorem State.setTrack_holdings (n : Nat) (t : Option Track) : (s.setTrack n t).holdings = s.holdings := rfl
@[simp] theorem State.setSlot_holdings (n : Nat) (k : KeySlot) : (s.setSlot n k).holdings = s.holdings := rfl
@[simp] theorem State.emptySlot_holdings (n : Nat) : (s.emptySlot n).holdings = s.holdings := rfl
@[simp] theorem State.modEngine_holdings (e : Nat) (f : Engine → Engine) : (s.modEngine e f).holdings = s.holdings := rfl
@[simp] theorem State.wipeEngine_holdings (e : Nat) : (s.wipeEngine e).holdings = s.holdings := rfl
@[simp] theorem State.replaceQueued_holdings (e : Nat) : (s.replaceQueued e).holdings = s.holdings := rfl
@[simp] theorem State.occupy_holdings (o : CombOp) (e : Nat) : (s.occupy o e).holdings = s.holdings := rfl
@[simp] theorem State.dropOp_holdings (src : OpSrc) : (s.dropOp src).holdings = s.holdings := rfl
@[simp] theorem State.dropRun_holdings (slot : Nat) : (s.dropRun slot).holdings = s.holdings := rfl
@[simp] theorem State.modDge_holdings (f : Dge → Dge) : (s.modDge f).holdings = s.holdings := rfl
@[simp] theorem State.mrgUpdate_holdings (m : Nat) (v : Bytes) : (s.mrgUpdate m v).holdings = s.holdings := rfl
@[simp] theorem State.cvuInit_holdings (n : Nat) : (s.cvuInit n).holdings = s.holdings := rfl
@[simp] theorem State.cvuAbsorb_holdings (n : Nat) (b : Bytes) : (s.cvuAbsorb n b).holdings = s.holdings := rfl
@[simp] theorem State.freeNat_holdings : s.freeNat.2.holdings = s.holdings := rfl
@[simp] theorem State.modPhw_holdings (f : Phw → Phw) : (s.modPhw f).holdings = s.holdings := rfl
@[simp] theorem State.phwRestart_holdings : s.phwRestart.holdings = s.holdings := rfl
@[simp] theorem State.cardOff_holdings : s.cardOff.holdings = s.holdings := rfl
@[simp] theorem State.forgetTests_holdings (slot : Nat) : (s.forgetTests slot).holdings = s.holdings := rfl
@[simp] theorem State.forgetWaits_holdings (slot : Nat) : (s.forgetWaits slot).holdings = s.holdings := rfl
@[simp] theorem State.forgetRing_holdings (slot : Nat) : (s.forgetRing slot).holdings = s.holdings := rfl
@[simp] theorem State.forgetPower_holdings (slot : Nat) : (s.forgetPower slot).holdings = s.holdings := rfl
@[simp] theorem State.forgetDraws_holdings (slot : Nat) : (s.forgetDraws slot).holdings = s.holdings := rfl

@[simp] theorem State.complete_holdings (slot status ext : Nat) (out : Bytes) : (s.complete slot status ext out).holdings = s.holdings := by
  simp [State.holdings]

/-! #### Engines and the tests that wait for them -/

@[simp] theorem State.unclaim_holdings (n : Nat) : (s.unclaim n).holdings = s.holdings :=
  foldl_holdings (fun s _ => s.setSlot_holdings _ _) _ s

@[simp] theorem State.releaseDest_holdings (d : Option Nat) : (s.releaseDest d).holdings = s.holdings := by
  unfold State.releaseDest; split <;> simp

@[simp] theorem State.sweepTree_holdings (o : CombOp) : (s.sweepTree o).holdings = s.holdings := by
  unfold State.sweepTree; split <;> simp

@[simp] theorem State.endWaiting_holdings (o : CombOp) (status ext : Nat) : (s.endWaiting o status ext).holdings = s.holdings := by
  unfold State.endWaiting; split <;> simp

@[simp] theorem State.dropHomeless_holdings : s.dropHomeless.holdings = s.holdings :=
  foldl_holdings (fun s o => s.endWaiting_holdings o _ _) _ s

@[simp] theorem State.endRun_holdings (slot : Nat) : (s.endRun slot).holdings = s.holdings := by
  unfold State.endRun; (repeat' split) <;> simp

@[simp] theorem State.stepRun_holdings (slot e : Nat) (f : SelftestRun → SelftestRun) : (s.stepRun slot e f).holdings = s.holdings :=
  State.endRun_holdings _ slot

@[simp] theorem State.skipTest_holdings (e : Nat) (r : TestReason) (gated : Bool) : (s.skipTest e r gated).holdings = s.holdings := by
  unfold State.skipTest; (repeat' split) <;> simp

theorem startTests_holdings (n : Nat) : (startTests n s).holdings = s.holdings := by
  induction n generalizing s with
  | zero => rfl
  | succ n ih =>
    unfold startTests
    split
    · dsimp only
      split
      · split
        · rw [ih, State.skipTest_holdings]; rfl
        · split <;> rfl
      · rw [ih]; rfl
    · rfl

@[simp] theorem State.runTests_holdings : s.runTests.holdings = s.holdings := startTests_holdings s _

@[simp] theorem State.cancelTest_holdings (e : Nat) : (s.cancelTest e).holdings = s.holdings := by
  unfold State.cancelTest
  split
  · split
    · rw [State.runTests_holdings, State.skipTest_holdings]; rfl
    · rfl
  · rfl

@[simp] theorem State.fenceNow_holdings (e : Nat) : (s.fenceNow e).holdings = s.holdings := by
  unfold State.fenceNow
  rw [State.cancelTest_holdings, foldl_holdings (by simp)]
  refine (State.dropHomeless_holdings _).trans ?_
  split <;> rfl

@[simp] theorem State.engineFree_holdings (e : Nat) : (s.engineFree e).holdings = s.holdings := by
  unfold State.engineFree; (repeat' split) <;> simp

@[simp] theorem State.leaveEngine_holdings (o : CombOp) : (s.leaveEngine o).holdings = s.holdings := by
  unfold State.leaveEngine; (repeat' split) <;> simp

/-! #### What the units hold for an entry -/

@[simp] theorem State.forgetClaim_holdings (slot : Nat) : (s.forgetClaim slot).holdings = s.holdings := by
  unfold State.forgetClaim; (repeat' split) <;> simp

@[simp] theorem State.dgeLeave_holdings (slot : Nat) : (s.dgeLeave slot).holdings = s.holdings := by
  unfold State.dgeLeave
  dsimp only
  split
  · exact foldl_holdings (fun s _ => s.mrgUpdate_holdings _ _) _ _
  · rfl

@[simp] theorem State.cvuTake_holdings (n slot : Nat) : (s.cvuTake n slot).holdings = s.holdings := by
  unfold State.cvuTake; dsimp only; (repeat' split) <;> rfl

@[simp] theorem State.cvuLeave_holdings (n : Nat) : (s.cvuLeave n).holdings = s.holdings := by
  unfold State.cvuLeave; dsimp only; split <;> simp

@[simp] theorem State.forgetDigest_holdings (slot : Nat) : (s.forgetDigest slot).holdings = s.holdings := by
  unfold State.forgetDigest; dsimp only; (repeat' split) <;> simp

@[simp] theorem State.forgetCalibration_holdings (slot : Nat) : (s.forgetCalibration slot).holdings = s.holdings := by
  unfold State.forgetCalibration State.phwNextCalibration; (repeat' split) <;> rfl

@[simp] theorem State.forgetCard_holdings (slot : Nat) : (s.forgetCard slot).holdings = s.holdings := by
  unfold State.forgetCard; dsimp only; (repeat' split) <;> rfl

@[simp] theorem State.forgetUnit_holdings (slot : Nat) : (s.forgetUnit slot).holdings = s.holdings := by
  simp [State.forgetUnit]

@[simp] theorem State.dropEntry_holdings (slot : Nat) : (s.dropEntry slot).holdings = s.holdings := by
  unfold State.dropEntry; dsimp only; (repeat' split) <;> simp
end

/-! ### A Comb without operations -/

/-- The Comb holds no operation, and the key slots are those of a table. -/
def Idle (m : Sparse KeySlot) (s : State) : Prop := s.comb.ops = [] ∧ s.kst.slots = m

section
variable {m : Sparse KeySlot} {s : State} (h : Idle m s)
include h

theorem Idle.foldl {α : Type} {f : State → α → State} (hf : ∀ s a, Idle m s → Idle m (f s a)) (l : List α) : Idle m (l.foldl f s) := by
  induction l generalizing s with
  | nil => exact h
  | cons a l ih => exact ih (hf s a h)

theorem Idle.complete (slot status ext : Nat) (out : Bytes) : Idle m (s.complete slot status ext out) := by
  unfold Idle
  rwa [State.complete_comb, State.complete_kst]

theorem Idle.replaceQueued (e : Nat) : Idle m (s.replaceQueued e) := ⟨by simp [State.replaceQueued, State.setOps, h.1], h.2⟩

/-- Where nothing waits, nothing ends for want of an engine. -/
theorem Idle.dropHomeless : Idle m s.dropHomeless := by
  unfold State.dropHomeless
  rwa [h.1]

theorem Idle.endRun (slot : Nat) : Idle m (s.endRun slot) := by
  unfold State.endRun
  (repeat' split) <;> first | exact h | exact Idle.complete (s := s.dropRun slot) h _ _ _ _

theorem Idle.skipTest (e : Nat) (r : TestReason) (gated : Bool) : Idle m (s.skipTest e r gated) := by
  unfold State.skipTest
  split
  · split <;> exact h.complete _ _ _ _
  · split
    · exact Idle.complete (s := s.dropRun _) h _ _ _ _
    · refine Idle.endRun ?_ _
      exact h
  · exact h

omit h in
theorem Idle.startTests (n : Nat) : ∀ {s : State}, Idle m s → Idle m (startTests n s) := by
  induction n with
  | zero => exact id
  | succ n ih =>
    intro s h
    unfold Machine.startTests
    split
    · dsimp only
      split
      · split
        · refine ih (Idle.skipTest ?_ _ _ _)
          exact h
        · split
          · exact h
          · refine Idle.replaceQueued ?_ _
            exact h
      · exact ih h
    · exact h

theorem Idle.cancelTest (e : Nat) : Idle m (s.cancelTest e) := by
  unfold State.cancelTest
  split
  · split
    · refine Idle.startTests _ (Idle.skipTest ?_ _ _ _)
      exact h
    · exact h
  · exact h

theorem Idle.fenceNow (e : Nat) : Idle m (s.fenceNow e) := by
  have hraise : Idle m (if s.engineIs e (·.ceDue) then s.raise Reg.cmbErrStatus 8 else s) := by split <;> exact h
  unfold State.fenceNow
  refine Idle.cancelTest (Idle.foldl ?_ (fun s w h => h.complete w.1 _ _ _) _) e
  exact (Idle.replaceQueued (s := State.modEngine _ e _) hraise e).dropHomeless

theorem Idle.engineFree (e : Nat) : Idle m (s.engineFree e) := by
  unfold State.engineFree
  split
  · exact h
  · split
    · exact h
    · split
      · exact h.fenceNow e
      · simp [State.nextQueued, h.1, h]
end

end Sys2Proof.Machine
end

section
/-!
PROOF. A running transition: what each of its steps does.
-/
namespace Sys2Proof.Machine
open Sys2Proof

/-! ### The erasure of secrets (R43) -/

section
variable (s : State)

/-- The erasure before the engines that were wiped take up work again. -/
def State.erased (s : State) : State :=
  let s := s.dropOwnJobs
  { s with
    comb := { s.comb with ops := [], engines := s.comb.engines.map Engine.wiped }
    kst := { s.kst with slots := [], bvr := [], bvrState := if s.kst.bvrState = BvrState.none then BvrState.none else BvrState.erased }
    line := { s.line with sas := [], txAn := [], cached := [] }
    mem := { s.mem with key := none }
    evj := { s.evj with anchor := none, anchorErased := true }
    trk := { s.trk with partner := {} } }

theorem State.eraseSecrets_eq : s.eraseSecrets = (List.range s.erased.comb.engines.length).foldl State.engineFree s.erased := rfl

/-- No operation is left for an engine to take up. -/
theorem State.eraseSecrets_idle : Idle [] s.eraseSecrets := by
  rw [State.eraseSecrets_eq]
  exact Idle.foldl (m := []) ⟨rfl, rfl⟩ (fun _ e h => h.engineFree e) _

theorem State.eraseSecrets_holdings : s.eraseSecrets.holdings = s.erased.holdings :=
  foldl_holdings State.engineFree_holdings _ _

theorem State.eraseSecrets_slot (n : Nat) : s.eraseSecrets.slot n = slotReset n := by
  obtain ⟨-, hslots⟩ := s.eraseSecrets_idle
  rw [State.slot, hslots]
  rfl

theorem State.eraseSecrets_sa (i : Nat) : s.eraseSecrets.sa i = none := by
  have h : s.eraseSecrets.line.sas = [] := congrArg Holdings.sas s.eraseSecrets_holdings
  rw [State.sa, h]
  rfl
end

/-! ### LCS_TRANSITION while a transition runs (R44, R46, R50) -/

/-- Where no other entry comes at the slot, the event is the next step. -/
theorem exec_lcsTransition_running {s : State} {slot : Nat} (good : Bool) (ha : s.lcs.xferActive = true)
    (hn : ∀ t, s.track slot = some t → (t.phase ≠ .ready ∧ t.phase ≠ .gather) ∨ t.entry.opcode ≠ 0xC01) :
    exec (.lcsTransition slot good) s = answer s (s.runStep good) := by
  simp only [exec, execLcsTransition]
  cases ht : s.track slot with
  | none => simp [ha]
  | some t =>
    have hother : ((t.phase == .ready || t.phase == .gather) && t.entry.opcode == 0xC01) = false := by
      rcases hn t ht with ⟨h1, h2⟩ | h
      · simp [h1, h2]
      · simp [h]
    simp only [ha, hother, and_self, if_true]

section
variable {s : State} {good : Bool} {x : XferStep} (h : (xferSteps s.lcs.xferTarget)[s.lcs.xferStep]? = some x)
include h

theorem State.runStep_erase (hx : x = .erase) : s.runStep good = s.eraseSecrets.stepDone := by
  subst hx; simp only [State.runStep, h]

theorem State.runStep_writeCode (hx : x = .writeCode) : s.runStep good =
    let u := s.modOtp fun o => o.writeCopy (lcCode s.lcs.xferTarget)
    if u.lcs.otp.codeWritten (lcCode s.lcs.xferTarget) then u.stepDone else u := by
  subst hx; simp only [State.runStep, h]

theorem State.runStep_confirmErase (hx : x = .confirmErase) : s.runStep good = if good then s.stepDone else s.confirmFails := by
  subst hx; simp only [State.runStep, h]
end

/-- A failed confirmation with its first ATTEMPT bit still to burn. -/
theorem State.confirmFails_first {s : State} (h : field (s.mark s.lcs.xferMark) 13 12 = 0) :
    s.confirmFails = ((s.burnMark s.lcs.xferMark 0x1000).modLcs fun l => { l with retryDue := true }).xferFails := by
  simp [State.confirmFails, h]

theorem State.confirmFails_second {s : State} (h : field (s.mark s.lcs.xferMark) 13 12 = 1) :
    s.confirmFails = ((s.burnMark s.lcs.xferMark 0x2000).modLcs fun l => { l with retryDue := true }).xferFails := by
  simp [State.confirmFails, h]

/-- The third failure makes it a move to TERMINATED under a mark of its own, closing the one of the move to RETURN. -/
theorem State.confirmFails_third {s : State} {n : Nat} (h : field (s.mark s.lcs.xferMark) 13 12 = 3) (hn : s.emptyMark = some n) :
    s.confirmFails = ((s.burnMark n 0x35).burnMark s.lcs.xferMark 0x4000).modLcs fun l =>
      { l with xferTarget := .terminated, xferMark := n, xferStep := 2 } := by
  simp [State.confirmFails, h, hn]

/-- Settles O50: each step by its own lemma, and the erasure by what an engine without operations leaves. -/
theorem transitionSteps : Obligations.TransitionSteps := by
  unfold Obligations.TransitionSteps
  intro s slot good ha hn
  refine ⟨exec_lcsTransition_running good ha hn, fun x h => ⟨fun hx => ?_, State.runStep_writeCode h, fun hx => ?_⟩⟩
  · exact ⟨State.runStep_erase h hx, s.eraseSecrets_slot, s.eraseSecrets_sa, congrArg Holdings.bvr s.eraseSecrets_holdings,
      congrArg Holdings.key s.eraseSecrets_holdings, congrArg Holdings.anchor s.eraseSecrets_holdings, s.eraseSecrets_idle.1⟩
  · rw [State.runStep_confirmErase h hx]
    refine ⟨?_, ?_, ?_, ?_⟩
    · rintro rfl
      rfl
    · rintro rfl hm
      exact State.confirmFails_first hm
    · rintro rfl hm
      exact State.confirmFails_second hm
    · rintro n rfl hm he
      rw [if_neg (by decide), State.confirmFails_third hm he]
      exact ⟨rfl, ha⟩

end Sys2Proof.Machine
end

section
/-!
PROOF. Queries, the challenge, debug, images in service and recovery: what each command answers.
-/
namespace Sys2Proof.Machine
open Sys2Proof

/-! ### Sparse tables, in canonical form or not -/

section
variable {α : Type} {d : Nat → α} {m : Sparse α} {k i : Nat} {v : α}

theorem Sparse.get_insert_ne (h : i ≠ k) : Sparse.get d (Sparse.insert m k v) i = Sparse.get d m i := by
  induction m with
  | nil => simp [Sparse.insert, Sparse.get, h.symm]
  | cons e m ih =>
    obtain ⟨j, w⟩ := e
    unfold Sparse.insert
    split
    · next hj => simp [Sparse.get, hj, h.symm]
    · split
      · simp [Sparse.get, h.symm]
      · simp [Sparse.get, ih]

theorem Sparse.get_erase_ne (h : i ≠ k) : Sparse.get d (Sparse.erase m k) i = Sparse.get d m i := by
  induction m with
  | nil => rfl
  | cons e m ih =>
    obtain ⟨j, w⟩ := e
    unfold Sparse.erase
    split
    · next hj => simp [Sparse.get, hj, h.symm]
    · split
      · rfl
      · simp [Sparse.get, ih]

variable [DecidableEq α]

/-- Setting a key leaves every other key alone. -/
theorem Sparse.get_set_ne (h : i ≠ k) : Sparse.get d (Sparse.set d m k v) i = Sparse.get d m i := by
  unfold Sparse.set
  split
  · exact Sparse.get_erase_ne h
  · exact Sparse.get_insert_ne h

/-- Setting a key of a canonical table to what it holds changes nothing. -/
theorem Sparse.set_get (hm : Sparse.wf d m = true) : Sparse.set d m k (Sparse.get d m k) = m := by
  induction m with
  | nil => simp [Sparse.get, Sparse.set, Sparse.erase]
  | cons e m ih =>
    obtain ⟨j, w⟩ := e
    obtain ⟨hw, habove, hrest⟩ := (Sparse.wf_cons j w).1 hm
    have ih := ih hrest
    by_cases hjk : j = k
    · subst hjk
      simp [Sparse.get, Sparse.set, hw, Sparse.insert]
    · rw [Sparse.get, if_neg hjk]
      by_cases hlt : k < j
      · rw [Sparse.get_above fun x hx => Nat.lt_trans hlt (habove x hx)]
        simp [Sparse.set, Sparse.erase, hjk, hlt]
      · unfold Sparse.set at ih ⊢
        split <;> simp_all [Sparse.erase, Sparse.insert]
end

/-- A register written with what it holds. -/
theorem State.setReg_reg {s : State} (hs : Canonical s) (k : Nat) : s.setReg k (s.reg k) = s := by
  rw [State.setReg, State.reg, Sparse.set_get hs.regs]

/-! ### What ends a command that touches the life-cycle block alone -/

/-- No summary bit and no response shows the life-cycle block. -/
theorem settle_modLcs (s : State) (f : Lcs → Lcs) : settle s (s.modLcs f) = s.modLcs f :=
  settle_quiet (show s.sumSignal &&& ~~~s.sumSignal = 0 by simp) (Nat.le_refl _)

/-! ### LCS_QUERY and LCS_CHALLENGE (R54, R69) -/

section
variable {s : State} {slot : Nat} {t : Track}

/-- The checks of a command without input or parameters. -/
theorem lcsChecks_pass {zero state : Bool} {ext : Nat} (hz : zero = true) (hs : state = true) (hd : t.dmaFail = none) (hn : t.entry.msgLen = 0) :
    Passes (lcsChecks t zero state ext) := by
  simp [lcsChecks, hz, hs, hd, hn]

theorem outHolds_pass {e : WorkEntry} {n : Nat} (h : n ≤ e.outCap) : Passes [e.outHolds n] := by
  simp [WorkEntry.outHolds, h]

theorem exec_lcsQuery (h : Begun s slot 0xC00 0xC00 t) (hz : t.entry.zeroFrom 40 55 = true) (hn : t.entry.msgLen = 0)
    (hd : t.dmaFail = none) (ho : 64 ≤ t.entry.outCap) :
    ∃ b : Bytes, exec (.lcsQuery slot) s = answer s (s.complete slot 0 0 b) ∧
      b.take 16 = toLE 4 s.lcsStateView.toNat ++ toLE 4 s.lcs.otp.lc0.toNat ++ toLE 4 s.lcs.otp.lc1.toNat ++ toLE 4 s.lcs.otp.lc2.toNat := by
  simp only [exec, execLcsQuery, State.onEntry_begun h, State.checked_passes (.append (lcsChecks_pass hz rfl hd hn) (outHolds_pass ho))]
  exact ⟨_, rfl, rfl⟩

/-- A DRBG that serves gives an entry its draw at once. -/
theorem State.entropyStep_serves {k : State} {i : Nat} (hf : s.rng.fault = false) (hs : s.drbgServes i = true) : s.entropyStep slot i k = k := by
  simp [State.entropyStep, hf, hs]

theorem exec_lcsChallenge (h : Begun s slot 0xC02 0xC02 t) (hz : t.entry.zeroFrom 40 55 = true) (hn : t.entry.msgLen = 0)
    (hd : t.dmaFail = none) (ho : 64 ≤ t.entry.outCap) (hl : s.lcs.state = .blank ∨ s.lcs.state = .manufacture ∨ s.lcs.state = .returned)
    (hf : s.rng.fault = false) (hs : s.drbgServes 1 = true) :
    exec (.lcsChallenge slot) s = answer s
      (let x := (s.draw 1 32).1 ++ s.serialBytes ++ toLE 4 (s.reg Reg.gctlIdent).toNat ++ toLE 4 s.lcsStateView.toNat ++ zeros 16
       ((s.draw 1 32).2.modLcs fun l => { l with challenge := some x, lapsed := l.challenge.toList ++ l.lapsed }).complete slot 0 0 x) := by
  have hstate : (s.lcs.state == .blank || s.lcs.state == .manufacture || s.lcs.state == .returned) = true := by
    rcases hl with h | h | h <;> rw [h] <;> rfl
  simp only [exec, execLcsChallenge, State.onEntry_begun h,
    State.checked_passes (.append (lcsChecks_pass hz hstate hd hn) (outHolds_pass ho)), State.entropyStep_serves hf hs]
  rfl

/-! ### Debug (R52, R55) -/

@[simp] theorem State.fillDevice_lcs (s : State) (n : Nat) : (s.fillDevice n).lcs = s.lcs := by
  unfold State.fillDevice; split <;> rfl

@[simp] theorem State.fillDevices_lcs (s : State) (l : List Nat) : (s.fillDevices l).lcs = s.lcs := by
  unfold State.fillDevices
  induction l generalizing s with
  | nil => rfl
  | cons n l ih => rw [List.foldl_cons, ih, State.fillDevice_lcs]

@[simp] theorem State.mrgOwn_lcs (s : State) (m : Nat) (v : Bytes) : (s.mrgOwn m v).lcs = s.lcs := by
  unfold State.mrgOwn; split <;> rfl

theorem State.useChallenge_lcs (s : State) (c : Bytes) : (s.useChallenge c).lcs = s.dropChallenge.lcs := State.mrgOwn_lcs _ _ _

theorem State.openDebug_debugEn (s : State) (t : Track) (c : Bytes) : (s.openDebug t c).lcs.debugEn = true := by
  rw [State.openDebug, State.useChallenge_lcs, State.dropChallenge]
  simp only [State.modLcs, State.fillDevices_lcs]

theorem State.openDebug_challenge (s : State) (t : Track) (c : Bytes) : (s.openDebug t c).lcs.challenge = none := by
  rw [State.openDebug, State.useChallenge_lcs]
  rfl

theorem exec_debugUnlock {x : Bytes} (h : Begun s slot 0xC03 0xC03 t) (hz : t.entry.zeroFrom 40 55 = true) (hm : s.lcs.state = .manufacture)
    (hd : t.dmaFail = none) (hn : t.entry.msgLen = 4627) (hc : s.lcs.challenge = some x)
    (hg : lcsSigOk s.lcs.otp.vendorKeyHash (t.input.take 4627) x = true) :
    exec (.debugUnlock slot) s = answer s ((s.openDebug t x).complete slot 0 0 []) := by
  have hpass : Passes [chk (t.entry.zeroFrom 40 55) St.badParam 0, chk (debugSigs s.lcs.state).isSome St.lcsForbids 4, t.dmaFail,
      chk (t.entry.msgLen == 4627 * (debugSigs s.lcs.state).getD 0) St.badLength 0] := by
    simp [hz, hm, hd, hn, debugSigs]
  have hsig : s.debugSigsOk ((debugSigs s.lcs.state).getD 0) t.input x = true := by
    simp [State.debugSigsOk, hg, hm, debugSigs]
  simp only [exec, execDebugUnlock, State.onEntry_begun h, State.checked_passes hpass, hc, hsig, if_true]

theorem exec_debugLock (h : Begun s slot 0xC04 0xC04 t) (hz : t.entry.zeroFrom 40 55 = true) (hn : t.entry.msgLen = 0) (hd : t.dmaFail = none) :
    exec (.debugLock slot) s = answer s ((s.modLcs fun l => { l with debugEn := false }).complete slot 0 0 []) := by
  simp only [exec, execDebugLock, State.onEntry_begun h, State.checked_passes (lcsChecks_pass hz rfl hd hn)]

/-! ### Images in service (R59, R60) -/

theorem exec_imageStage (h : Begun s slot 0xC10 0xC10 t) (hz : t.entry.zeroFrom 40 55 = true) (hd : t.dmaFail = none)
    (hs : s.stageFail t.input = (none, none)) :
    exec (.imageStage slot) s = answer s
      (let f := s.lcs.flash
       let f := if f.activeB then { f with bankA := putImage f.bankA t.input } else { f with bankB := putImage f.bankB t.input }
       (s.modLcs fun l => { l with flash := withDirectory f l.nextActiveB }).complete slot 0 0 []) := by
  have hpass : Passes [chk (t.entry.zeroFrom 40 55) St.badParam 0, t.dmaFail] := by simp [hz, hd]
  simp only [exec, execImageStage, State.onEntry_begun h, State.checked_passes hpass, hs]

theorem exec_imageActivate (h : Begun s slot 0xC11 0xC11 t) (hz : t.entry.zeroFrom 40 55 = true) (hn : t.entry.msgLen = 0)
    (hd : t.dmaFail = none) :
    exec (.imageActivate slot) s = answer s ((s.modLcs fun l =>
      { l with nextActiveB := !l.flash.activeB, flash := withDirectory l.flash !l.flash.activeB }).complete slot 0 0 []) := by
  simp only [exec, execImageActivate, State.onEntry_begun h, State.checked_passes (lcsChecks_pass hz rfl hd hn)]

theorem exec_svnAdvance_firmware (h : Begun s slot 0xC12 0xC12 t) (hz : t.entry.zeroFrom 42 55 = true)
    (hl : s.lcs.state = .manufacture ∨ s.lcs.state = .owned) (hn : t.entry.msgLen = 0) (hd : t.dmaFail = none) (ht : t.entry.pLE 40 2 = 1) :
    exec (.svnAdvance slot) s = answer s
      ((s.modOtp fun o => { o with svnFw := max o.svnFw s.lcs.loadedSvn.1 }).complete slot 0 0 []) := by
  have hstate : (s.lcs.state == .manufacture || s.lcs.state == .owned) = true := by
    rcases hl with h | h <;> rw [h] <;> rfl
  have hpass : Passes [chk (t.entry.zeroFrom 42 55) St.badParam 0, chk (s.lcs.state == .manufacture || s.lcs.state == .owned) St.lcsForbids 1,
      chk (within (t.entry.pLE 40 2) 1 3) St.badParam 0x40, t.dmaFail, chk (t.entry.msgLen == 0) St.badLength 0] := by
    simp [hz, hstate, hd, hn, ht, within]
  simp only [exec, execSvnAdvance, State.onEntry_begun h, State.checked_passes hpass, if_pos ht]
end

/-! ### Recovery (R67) -/

/-- A bit of a field is clear where the field is 0. -/
theorem flag_of_field_eq_zero {v : W32} {hi lo i : Nat} (h : field v hi lo = 0) (h1 : lo ≤ i) (h2 : i ≤ hi) : flag v i = false := by
  rw [flag_eq_getLsbD]
  rw [field_eq_extractLsb] at h
  have hx : v.extractLsb hi lo = 0 := BitVec.eq_of_toNat_eq (by simpa using h)
  have hb := congrArg (BitVec.getLsbD · (i - lo)) hx
  simpa [BitVec.getLsbD_extractLsb, show lo + (i - lo) = i by omega, show i - lo < hi - lo + 1 by omega] using hb

/-- The load is over, and its words are forgotten. -/
def State.endLoad (s : State) : State := s.modLcs fun l => { l with recoveryBusy := false, recovery := [], recoveryWords := 0 }

section
variable {s : State} (ho : s.regsOpen = true) (hr : s.lcs.phase = .rom)
include hr

theorem State.inRecovery_of_rom : s.inRecovery = true := by simp [State.inRecovery, hr]

theorem State.recoveryStart_fits (h1 : 1 ≤ (s.reg Reg.lcsRecoveryLen).toNat) (h2 : (s.reg Reg.lcsRecoveryLen).toNat ≤ 8396800) :
    s.recoveryStart = s.modLcs fun l =>
      { l with recoveryBusy := true, recovery := [], recoveryLen := (s.reg Reg.lcsRecoveryLen).toNat, recoveryWords := 0 } := by
  have hfits : ¬ ((s.reg Reg.lcsRecoveryLen).toNat = 0 ∨ 8396800 < (s.reg Reg.lcsRecoveryLen).toNat) := by omega
  simp [State.recoveryStart, State.inRecovery_of_rom hr, hfits]

theorem State.recoveryDone_sound (hb : s.lcs.recoveryBusy = true) (hw : s.lcs.recoveryWords = (s.lcs.recoveryLen + 3) / 4)
    (hi : s.endLoad.imageFail 1 (s.lcs.recovery.take s.lcs.recoveryLen) = none) :
    s.recoveryDone = (s.endLoad.startFirmware (s.lcs.recovery.take s.lcs.recoveryLen)).continueBoot := by
  unfold State.endLoad at hi
  simp [State.recoveryDone, State.inRecovery_of_rom hr, hb, hw, hi, State.endLoad]

include ho

/-- A word that the image still lacks joins it. -/
theorem exec_recoveryDataWrite {v : W32} (hd : s.blockDown Reg.lcsRecoveryData = false) (hb : s.lcs.recoveryBusy = true)
    (hw : s.lcs.recoveryWords < (s.lcs.recoveryLen + 3) / 4) :
    exec (.recoveryDataWrite v) s = .next (s.modLcs fun l =>
      { l with recovery := l.recovery ++ toLE 4 v.toNat, recoveryWords := l.recoveryWords + 1 }) := by
  simp only [exec, execRecoveryDataWrite, State.regWrite_on ho hd, State.inRecovery_of_rom hr, hb, Bool.and_self, if_true, answer, settle_modLcs]
  simp [State.modLcs, hw]

variable (hd : s.blockDown Reg.lcsRecoveryCtrl = false)
include hd

/-- START without DONE begins a load, whose length is the one that RECOVERY_LEN holds. -/
theorem exec_recoveryStart {v : W32} (hv : field v 2 1 = 0) (h1 : 1 ≤ (s.reg Reg.lcsRecoveryLen).toNat)
    (h2 : (s.reg Reg.lcsRecoveryLen).toNat ≤ 8396800) :
    ∃ u, exec (.recoveryStart v) s = .next u ∧ u.lcs = { s.lcs with
      recoveryBusy := true, recovery := [], recoveryLen := (s.reg Reg.lcsRecoveryLen).toNat, recoveryWords := 0 } := by
  have hstart : flag (setBits v 1) 0 = true := by rw [flag_setBits, show flag 1 0 = true by decide, Bool.or_true]
  have hdone : flag (setBits v 1) 1 = false := by
    rw [flag_setBits, flag_of_field_eq_zero hv (by decide) (by decide), show flag 1 1 = false by decide, Bool.or_false]
  have hlen (w : W32) : (s.setReg Reg.lcsRecoveryCtrl w).reg Reg.lcsRecoveryLen = s.reg Reg.lcsRecoveryLen :=
    Sparse.get_set_ne (by decide)
  simp only [exec, execRecoveryStart, State.regWrite_on ho hd, State.recoveryCtrlWrite, hstart, hdone, if_true, Bool.false_eq_true, if_false]
  refine ⟨_, rfl, ?_⟩
  rw [State.modReg, settle_lcs, State.recoveryStart_fits (s := s.setReg _ _) hr (by rwa [hlen]) (by rwa [hlen]), hlen]
  rfl

/-- DONE without START or a 1 to ERROR ends the load: a complete image that passes its checks runs. -/
theorem exec_recoveryDone {v : W32} (hs : Canonical s) (hv : v &&& 5 = 0) (hb : s.lcs.recoveryBusy = true)
    (hw : s.lcs.recoveryWords = (s.lcs.recoveryLen + 3) / 4) (hi : s.imageFail 1 (s.lcs.recovery.take s.lcs.recoveryLen) = none) :
    exec (.recoveryDone v) s = answer s (s.endLoad.startFirmware (s.lcs.recovery.take s.lcs.recoveryLen)).continueBoot := by
  have hstart : flag (setBits v 2) 0 = false := by
    have h := flag_disjoint hv 0
    rw [show flag 5 0 = true by decide, Bool.and_true] at h
    rw [flag_setBits, h, show flag 2 0 = false by decide, Bool.or_false]
  have hdone : flag (setBits v 2) 1 = true := by rw [flag_setBits, show flag 2 1 = true by decide, Bool.or_true]
  have hclear : setBits v 2 &&& 4 = 0 := by
    have h4 : v &&& 4 = 0 := by
      rw [show (4 : W32) = 5 &&& 4 by decide, ← BitVec.and_assoc, hv]
      decide
    rw [setBits, BitVec.and_or_distrib_right, h4]
    decide
  have hkeep : s.modReg Reg.lcsRecoveryCtrl (clearBits · 0) = s := by
    rw [State.modReg, clearBits, show ~~~(0 : W32) = BitVec.allOnes 32 by decide, BitVec.and_allOnes, State.setReg_reg hs]
  simp only [exec, execRecoveryDone, State.regWrite_on ho hd, State.recoveryCtrlWrite, hstart, hdone, hclear, hkeep, if_true,
    Bool.false_eq_true, if_false]
  rw [State.recoveryDone_sound hr hb hw hi]
end

/-- Settles O51: each command's answer by its own lemma. -/
theorem lifeCycleCommandsComplete : Obligations.LifeCycleCommandsComplete := by
  unfold Obligations.LifeCycleCommandsComplete
  intro s slot t e l
  refine ⟨exec_lcsQuery, exec_lcsChallenge, rfl, congrArg _ (settle_modLcs s _), fun x h hz hm hd hn hc hg => ?_, exec_debugLock, exec_imageStage,
    exec_imageActivate, exec_svnAdvance_firmware, fun v ho hd hr hv h1 h2 => exec_recoveryStart ho hr hd hv h1 h2,
    fun v ho hd hr hb hw => exec_recoveryDataWrite ho hr hd hb hw, fun v hs ho hd hr hb hv hw hi => exec_recoveryDone ho hr hd hs hv hb hw hi⟩
  exact ⟨exec_debugUnlock h hz hm hd hn hc hg, s.openDebug_debugEn t x, s.openDebug_challenge t x⟩

end Sys2Proof.Machine
end

section
/-!
PROOF. What begins a boot, what the boot ROM decodes, and what a warm reset keeps and empties.
-/
namespace Sys2Proof.Machine
open Sys2Proof

/-! ### Beginning a boot (R63, R488, R541) -/

theorem State.boot_held {s : State} (b : Board) (h : s.held = true) : s.boot b = s := by
  simp [State.boot, h]

theorem State.boot_running {s : State} (b : Board) (h : s.lcs.phase ≠ .reset) : s.boot b = s := by
  simp [State.boot, h]

theorem exec_supplyMonitorRelease {s : State} (b : Board) (hs : s.pwr.supplyHold = true) (hu : s.ust.onBattery = false) :
    exec (.supplyMonitorRelease b) s = answer s
      (({ s with pwr := { s.pwr with supplyHold := false } }.setReg Reg.pwrSupply 0x7FF).boot b) := by
  simp only [exec, execSupplyMonitorRelease, hs, hu, and_self, if_true]
  rfl

/-- No summary bit and no response shows which supply the understorey runs on. -/
theorem settle_onBattery (s : State) (b : Bool) :
    settle s { s with ust := { s.ust with onBattery := b } } = { s with ust := { s.ust with onBattery := b } } :=
  settle_quiet (show s.sumSignal &&& ~~~s.sumSignal = 0 by simp) (Nat.le_refl _)

/-- Training takes place once, while boot waits for it (R481). -/
theorem exec_hbmTrainingDone {s : State} (x y : BitVec 4) (hp : s.lcs.phase = .rom ∨ s.lcs.phase = .resuming ∨ s.lcs.phase = .waiting)
    (hm : ∀ h ∈ s.mem.hbm, h.trained = false ∧ h.trainFail = false) :
    exec (.hbmTrainingDone x y) s = answer s
      (((List.range 4).foldl (fun s i => s.stackTrained i (bitOf x.toNat i) (bitOf y.toNat i)) s).continueBoot) := by
  have hphase : (s.lcs.phase == .rom || s.lcs.phase == .resuming || s.lcs.phase == .waiting) = true := by
    rcases hp with h | h | h <;> rw [h] <;> rfl
  have hhbm : (s.mem.hbm.all fun x => !x.trained && !x.trainFail) = true := by simpa using hm
  simp only [exec, execHbmTrainingDone, hphase, hhbm, Bool.and_self, if_true]

/-! ### The life-cycle state that boot puts in force (R38, R39) -/

/-- The life-cycle state in force, and whether it stands for a code that is none. -/
def State.decoded (s : State) : LcState × Bool := (s.lcs.state, s.lcs.decodeInvalid)

theorem foldl_decoded {α : Type} {f : State → α → State} (h : ∀ s a, (f s a).decoded = s.decoded) (l : List α) (s : State) :
    (l.foldl f s).decoded = s.decoded := by
  induction l generalizing s with
  | nil => rfl
  | cons a l ih => rw [List.foldl_cons, ih, h]

section
variable (s : State)

@[simp] theorem State.setReg_decoded (k : Nat) (v : W32) : (s.setReg k v).decoded = s.decoded := rfl
@[simp] theorem State.mrgUpdate_decoded (m : Nat) (v : Bytes) : (s.mrgUpdate m v).decoded = s.decoded := rfl
@[simp] theorem State.modTod_decoded (f : Tod → Tod) : (s.modTod f).decoded = s.decoded := rfl
@[simp] theorem State.noteSvn_decoded (t n : Nat) : (s.noteSvn t n).decoded = s.decoded := rfl
@[simp] theorem State.startEntropy_decoded (why : StartKind) : (s.startEntropy why).decoded = s.decoded := rfl

/-- What the three copies in OTP spell. -/
theorem State.decodeLifeCycle_decoded :
    s.decodeLifeCycle.decoded = ((stateOfCode s.lcs.otp.code).getD .terminated, (stateOfCode s.lcs.otp.code).isNone) := rfl

/-- The board supplies no life-cycle code. -/
theorem State.takeBoard_code (b : Board) : (s.takeBoard b).lcs.otp.code = s.lcs.otp.code := by
  unfold State.takeBoard
  dsimp only
  (repeat' split) <;> rfl

theorem State.checkBattery_lcs (b : Board) : (s.checkBattery b).lcs = s.lcs := by
  unfold State.checkBattery
  dsimp only
  (repeat' split) <;> rfl

theorem State.logAt_decoded (e : LogEntry) : (s.logAt e).decoded = s.decoded := by
  unfold State.logAt
  dsimp only
  split <;> simp only [State.count, State.modReg, State.setReg_decoded] <;> rfl

@[simp] theorem State.handleLatch_decoded : s.handleLatch.decoded = s.decoded :=
  foldl_decoded (fun s _ => s.logAt_decoded _) _ s

@[simp] theorem State.startJournal_decoded : s.startJournal.decoded = s.decoded := by
  unfold State.startJournal
  dsimp only
  split <;> rfl

theorem State.bootRom_decoded :
    s.bootRom.decoded = ((stateOfCode s.lcs.otp.code).getD .terminated, (stateOfCode s.lcs.otp.code).isNone) := by
  rw [← State.decodeLifeCycle_decoded]
  simp [State.bootRom]

@[simp] theorem State.resume_decoded : s.resume.decoded = s.decoded := by
  unfold State.resume
  split
  · rfl
  · exact foldl_decoded (f := fun s j => s.burnMark j 0x4000) (fun _ _ => rfl) _ s

theorem State.startFirmware_decoded (b : Bytes) : (s.startFirmware b).decoded = s.decoded := by
  simp [State.startFirmware]

theorem State.loadFirmware_decoded : s.loadFirmware.decoded = s.decoded := by
  unfold State.loadFirmware
  dsimp only
  split
  · exact State.startFirmware_decoded _ _
  · split <;> rfl

/-- Boot puts in force what the copies in OTP spell. -/
theorem State.boot_decoded (b : Board) (hh : s.held = false) (hp : s.lcs.phase = .reset) :
    (s.boot b).decoded = ((stateOfCode s.lcs.otp.code).getD .terminated, (stateOfCode s.lcs.otp.code).isNone) := by
  rw [State.boot, if_neg (by simp [hh, hp]), State.loadFirmware_decoded, State.startEntropy_decoded, State.bootRom_decoded,
    State.checkBattery_lcs, State.emit_lcs, State.takeBoard_code]
end

/-! ### The warm reset (R228, R493, R495) -/

theorem exec_warm {s : State} {v : W32} (ho : s.regsOpen = true) (hb : s.blockDown Reg.pwrResetCtrl = false) (hv : flag v 0 = true)
    (hd : s.lcs.phase = .done) (hp : s.pwr.state < 4) (ha : s.lcs.xferActive = false) (hc : s.pwr.change = none) :
    exec (.warm v) s = answer s { s with pwr := { s.pwr with warmHeld := true } }.warmReset := by
  have hheld : { s with pwr := { s.pwr with warmHeld := true } }.releaseWarm = { s with pwr := { s.pwr with warmHeld := true } }.warmReset := by
    simp [State.releaseWarm, ha, hc]
  simp only [exec, execWarm, State.regWrite_on ho hb, hv, hd, hp, and_self, if_true, hheld]

section
variable (s : State)

/-! #### The reset of every function -/

theorem State.lapseCeremony_eq : s.lapseCeremony =
    if s.crd.cer.isSome then (({ s with crd := { s.crd with cer := none } }).emptySlot 9).raise Reg.crdEvent 8 else s := by
  unfold State.lapseCeremony State.dropCeremony
  split <;> rfl

theorem State.lapseCeremony_holdings : s.lapseCeremony.holdings = s.holdings := by
  rw [State.lapseCeremony_eq]; split <;> rfl

theorem State.lapseCeremony_queues : s.lapseCeremony.queues = s.queues := by
  rw [State.lapseCeremony_eq]; split <;> rfl

theorem State.lapseCeremony_errLog : s.lapseCeremony.errLog = s.errLog := by
  rw [State.lapseCeremony_eq]; split <;> rfl

/-- A ceremony that lapses takes with it slot 9 alone. -/
theorem State.lapseCeremony_slot {n : Nat} (h : n ≠ 9) : s.lapseCeremony.slot n = s.slot n := by
  rw [State.lapseCeremony_eq]
  split
  · exact Sparse.get_set_ne (d := slotReset) (m := s.kst.slots) (v := slotReset 9) h
  · rfl

/-- Every entry is dropped with its work. -/
def State.allDropped : State := (s.slotsWhere fun _ => true).foldl State.dropEntry s

theorem State.allDropped_holdings : s.allDropped.holdings = s.holdings := foldl_holdings State.dropEntry_holdings _ s

theorem State.allDropped_of_no_entry (h : s.tracker = []) : s.allDropped = s := by
  simp [State.allDropped, State.slotsWhere, h]

theorem State.resetAllFunctions_holdings : s.resetAllFunctions.holdings = s.holdings :=
  (State.lapseCeremony_holdings _).trans s.allDropped_holdings

theorem State.resetAllFunctions_queues : s.resetAllFunctions.queues = [] := State.lapseCeremony_queues _

theorem State.resetAllFunctions_errLog : s.resetAllFunctions.errLog = s.allDropped.errLog := State.lapseCeremony_errLog _

theorem State.resetAllFunctions_slot {n : Nat} (h : n ≠ 9) :
    s.resetAllFunctions.slot n = if 16 ≤ n ∧ n < 4096 then slotReset n else s.allDropped.slot n :=
  (State.lapseCeremony_slot _ h).trans (Sparse.get_eraseRange _ 16 4080 n)

/-! #### What a warm reset leaves -/

@[simp] theorem State.dropOwnJobs_kst : s.dropOwnJobs.kst = s.kst := by simp only [State.dropOwnJobs, State.modLink, State.modTrk, State.modEvj]
@[simp] theorem State.dropOwnJobs_errLog : s.dropOwnJobs.errLog = s.errLog := by
  simp only [State.dropOwnJobs, State.modLink, State.modTrk, State.modEvj]
@[simp] theorem State.dropOwnJobs_queues : s.dropOwnJobs.queues = s.queues := by
  simp only [State.dropOwnJobs, State.modLink, State.modTrk, State.modEvj]

/-- A warm reset resets every function, frees every engine with its stores loaded again, returns to P0 and goes back to step 7. -/
theorem State.warmReset_leaves :
    s.warmReset.lcs = { s.resetAllFunctions.lcs with phase := .waiting, warm := true, katEngines := [], katPipes := [] } ∧
    s.warmReset.kst.slots = s.resetAllFunctions.kst.slots ∧ s.warmReset.errLog = s.resetAllFunctions.errLog ∧
    s.warmReset.queues = s.resetAllFunctions.queues ∧ s.warmReset.pwr.state = 0 ∧ s.warmReset.comb.ops = [] ∧
    s.warmReset.comb.engines = s.resetAllFunctions.comb.engines.map (Engine.fresh s.resetAllFunctions.comb.stores) := by
  unfold State.warmReset
  generalize s.resetAllFunctions = u
  refine ⟨rfl, ?_, ?_, ?_, rfl, rfl, rfl⟩ <;>
    simp [State.modLcs, State.startEntropy, State.modRng, State.raise, State.count, State.modReg]

theorem Engine.fresh_ready (stores : List StoreSet) (l : List Engine) : ∀ g ∈ l.map (Engine.fresh stores), g.state = .ready := by
  intro g hg
  obtain ⟨e, -, rfl⟩ := List.mem_map.1 hg
  rfl
end

/-- Settles O46: each start by what begins it, the state in force by what the boot ROM decodes, and the warm reset by what it leaves. -/
theorem bootCommandsComplete : Obligations.BootCommandsComplete := by
  unfold Obligations.BootCommandsComplete
  intro s b
  refine ⟨rfl, rfl, exec_supplyMonitorRelease b, State.boot_held b, State.boot_running b, fun hh hp => ?_,
    congrArg _ (settle_onBattery s false), fun x y hp hm => exec_hbmTrainingDone x y hp hm, fun v _ ho hb hv hd hp ha hc => ?_⟩
  · exact Prod.mk.inj (s.boot_decoded b hh hp)
  · let r : State := { s with pwr := { s.pwr with warmHeld := true } }
    have hkept : r.resetAllFunctions.holdings = s.holdings := r.resetAllFunctions_holdings
    obtain ⟨hlcs, hslots, hlog, hqueues, hpower, hops, hengines⟩ := r.warmReset_leaves
    rw [exec_warm ho hb hv hd hp ha hc]
    have hslot {n : Nat} (h : n ≠ 9) : (settle s r.warmReset).slot n = if 16 ≤ n ∧ n < 4096 then slotReset n else r.allDropped.slot n := by
      rw [← r.resetAllFunctions_slot h, State.slot, settle_kst, hslots]
      rfl
    refine ⟨settle s r.warmReset, rfl, ?_, ?_, ?_, ?_, fun n h1 h2 => ?_, fun ht => ⟨?_, fun n hn => ?_⟩, ?_, ?_, fun f q => ?_⟩
    · rw [settle_lcs, hlcs]
    · rw [settle_lcs, hlcs]
      exact congrArg Holdings.state hkept
    · rw [settle_lcs, hlcs]
      exact congrArg Holdings.otp hkept
    · rw [settle_pwr, hpower]
    · rw [hslot (by omega), if_pos ⟨h1, h2⟩]
    · rw [settle_errLog, hlog, State.resetAllFunctions_errLog, State.allDropped_of_no_entry r ht]
    · rw [hslot (by omega), if_neg (by omega), State.allDropped_of_no_entry r ht]
      rfl
    · rw [settle_comb, hengines]
      exact Engine.fresh_ready _ _
    · rw [settle_comb, hops]
    · rw [State.queue, settle_queues, hqueues, State.resetAllFunctions_queues]
      rfl

end Sys2Proof.Machine
end

section
/-!
PROOF. The engine that the forager chooses, and D(op) as a multiple of the release grid.
-/
namespace Sys2Proof.Machine
open Sys2Proof

/-! ### The least of a list -/

theorem leastBy_eq_none {key : Nat → Nat} {l : List Nat} (h : leastBy key l = none) : l = [] := by
  cases l with
  | nil => rfl
  | cons a l =>
    rw [leastBy] at h
    split at h
    · split at h <;> cases h
    · cases h

/-- Of candidates in rising order, the one taken is one of them, none has a lesser key, and none of the same key comes before it. -/
theorem leastBy_eq_some {key : Nat → Nat} {l : List Nat} {b : Nat} (hl : l.Pairwise (· < ·)) (h : leastBy key l = some b) :
    b ∈ l ∧ ∀ a ∈ l, key b ≤ key a ∧ (key b = key a → b ≤ a) := by
  induction l generalizing b with
  | nil => cases h
  | cons a l ih =>
    obtain ⟨ha, hl⟩ := List.pairwise_cons.1 hl
    rw [leastBy] at h
    split at h
    · next c hc =>
      obtain ⟨hmem, hleast⟩ := ih hl hc
      split at h <;> obtain rfl := Option.some.inj h
      · next hlt => exact ⟨List.mem_cons_of_mem a hmem, List.forall_mem_cons.2 ⟨by omega, hleast⟩⟩
      · next hge =>
        refine ⟨List.mem_cons_self, List.forall_mem_cons.2 ⟨by omega, fun x hx => ⟨?_, fun _ => (ha x hx).le⟩⟩⟩
        have := (hleast x hx).1
        omega
    · next hn =>
      obtain rfl := Option.some.inj h
      obtain rfl := leastBy_eq_none hn
      simp

theorem foldr_min_le {l : List Nat} {b : Nat} (a : Nat) (h : b ∈ l) : l.foldr min a ≤ b := by
  induction l with
  | nil => cases h
  | cons c l ih =>
    rcases List.mem_cons.1 h with rfl | h
    · exact min_le_left _ _
    · exact (min_le_right _ _).trans (ih h)

theorem foldr_min_mem {l : List Nat} {a : Nat} (hl : l ≠ []) (h : ∀ b ∈ l, b ≤ a) : l.foldr min a ∈ l := by
  induction l with
  | nil => exact absurd rfl hl
  | cons c l ih =>
    obtain ⟨hc, h⟩ := List.forall_mem_cons.1 h
    by_cases hn : l = []
    · simp [hn, hc]
    · rcases min_choice c (l.foldr min a) with he | he <;> rw [List.foldr_cons, he]
      · exact List.mem_cons_self
      · exact List.mem_cons_of_mem c (ih hn h)

/-! ### The candidates (R88, R89) -/

section
variable (s : State) (o : CombOp)

/-- The engines that are eligible for an operation and cover it. -/
def State.eligibleEngines : List Nat := (s.openEngines o).filter fun e => s.engineIs e fun g => s.covered g o

/-- Those of them whose group is below T_AVOID. -/
def State.coolEngines : List Nat := (s.eligibleEngines o).filter fun e =>
  s.engineIs e fun g => decide (s.engineTemp g < (field (s.reg Reg.fgsBounds) 15 8 : Int))

/-- Those that the forager chooses from. -/
def State.candidates : List Nat := if s.coolEngines o = [] then s.eligibleEngines o else s.coolEngines o

/-- The score of engine e. -/
def State.scoreOf (e : Nat) : Nat := match s.engine e with
  | some g => s.engineScore g
  | none => 0

/-- The least depth among the candidates. -/
def State.leastDepth : Nat := ((s.candidates o).map s.depth).foldr min 16

theorem State.chooseEngine_eq :
    s.chooseEngine o = leastBy s.scoreOf ((s.candidates o).filter fun e => s.depth e == s.leastDepth o) := rfl

/-- An engine holds at most ENG_QDEPTH operations, a field of four bits. -/
theorem State.engQdepth_lt : s.engQdepth < 16 := by
  have : field (s.reg Reg.fgsBounds) 27 24 < 16 := Nat.mod_lt _ (by decide)
  exact max_lt (by decide) this

theorem State.depth_of_open {e : Nat} (h : e ∈ s.openEngines o) : s.depth e < 16 := by
  obtain ⟨-, h⟩ := List.mem_filter.1 h
  split at h
  · next g _ =>
    simp only [State.engineOpen, Bool.and_eq_true, decide_eq_true_eq] at h
    exact h.1.1.1.2.trans s.engQdepth_lt
  · cases h

theorem State.candidates_sublist : (s.candidates o).Sublist (s.eligibleEngines o) := by
  unfold State.candidates
  split
  · exact .refl _
  · exact List.filter_sublist

theorem State.candidates_eq_nil (h : s.candidates o = []) : s.eligibleEngines o = [] := by
  unfold State.candidates at h
  split at h
  · exact h
  · next hc => exact absurd h hc

theorem State.candidates_rising : (s.candidates o).Pairwise (· < ·) :=
  List.pairwise_lt_range.sublist ((s.candidates_sublist o).trans (List.filter_sublist.trans List.filter_sublist))

theorem State.depth_of_candidate {e : Nat} (h : e ∈ s.candidates o) : s.depth e < 16 :=
  s.depth_of_open o (List.mem_filter.1 ((s.candidates_sublist o).subset h)).1

theorem State.leastDepth_le {e : Nat} (h : e ∈ s.candidates o) : s.leastDepth o ≤ s.depth e :=
  foldr_min_le 16 (List.mem_map_of_mem h)

/-- Some candidate has the least depth. -/
theorem State.exists_leastDepth (h : s.candidates o ≠ []) : ∃ e ∈ s.candidates o, s.depth e = s.leastDepth o := by
  refine List.mem_map.1 (foldr_min_mem (mt List.map_eq_nil_iff.1 h) fun d hd => ?_)
  obtain ⟨e, he, rfl⟩ := List.mem_map.1 hd
  exact (s.depth_of_candidate o he).le

/-! ### The choice (R88) -/

theorem State.chooseEngine_eq_none (h : s.chooseEngine o = none) : s.eligibleEngines o = [] := by
  refine s.candidates_eq_nil o (by_contra fun hc => ?_)
  obtain ⟨e, he, hd⟩ := s.exists_leastDepth o hc
  have hin : e ∈ (s.candidates o).filter fun e => s.depth e == s.leastDepth o := List.mem_filter.2 ⟨he, beq_iff_eq.2 hd⟩
  exact List.ne_nil_of_mem hin (leastBy_eq_none h)

theorem State.chooseEngine_eq_some {e : Nat} (h : s.chooseEngine o = some e) :
    e ∈ s.candidates o ∧ ∀ e' ∈ s.candidates o, s.depth e ≤ s.depth e' ∧
      (s.depth e = s.depth e' → s.scoreOf e ≤ s.scoreOf e' ∧ (s.scoreOf e = s.scoreOf e' → e ≤ e')) := by
  obtain ⟨hmem, hleast⟩ := leastBy_eq_some ((s.candidates_rising o).filter _) h
  obtain ⟨he, hd⟩ := List.mem_filter.1 hmem
  have hd : s.depth e = s.leastDepth o := beq_iff_eq.1 hd
  refine ⟨he, fun e' he' => ⟨hd ▸ s.leastDepth_le o he', fun heq => ?_⟩⟩
  exact hleast e' (List.mem_filter.2 ⟨he', beq_iff_eq.2 (heq ▸ hd)⟩)
end

/-! ### D(op) (R94) -/

theorem State.gridNs_pos (s : State) : 0 < s.gridNs := by
  unfold State.gridNs
  omega

/-- D(op) in sixteenths of a nanosecond is the time rounded up to the grid. -/
theorem State.dop_bounds (s : State) (p l : Nat) :
    (p + 4 * l) * 15 ≤ 16 * s.dop p l ∧ 16 * s.dop p l < (p + 4 * l) * 15 + 16 * s.gridNs := by
  have hg : 0 < 16 * s.gridNs := Nat.mul_pos (by decide) s.gridNs_pos
  have hdop : 16 * s.dop p l = 16 * s.gridNs * (((p + 4 * l) * 15 + 16 * s.gridNs - 1) / (16 * s.gridNs)) := by
    unfold State.dop
    ring
  have hlow := Nat.div_add_mod ((p + 4 * l) * 15 + 16 * s.gridNs - 1) (16 * s.gridNs)
  have hmod := Nat.mod_lt ((p + 4 * l) * 15 + 16 * s.gridNs - 1) hg
  rw [hdop]
  omega

/-- Settles O14, by what `leastBy` takes from the candidates of least depth, and by rounding up to the grid. -/
theorem foragerChoice : Obligations.ForagerChoice := by
  unfold Obligations.ForagerChoice
  intro s o
  exact ⟨s.chooseEngine_eq_none o, fun _ h => s.chooseEngine_eq_some o h,
    fun p l => ⟨Dvd.intro_left _ rfl, s.dop_bounds p l⟩⟩

end Sys2Proof.Machine
end

section
/-!
PROOF. What the forager's events do: placement, aging, preemption, the release grid, and the end of an engine's wipe.
-/
namespace Sys2Proof.Machine
open Sys2Proof

/-! ### Placement (R84 to R88, R137, R138) -/

section
variable {s : State} {o : CombOp}

/-- An operation that waits for no gather, and that the forager admits, goes to step 8 once it needs no leaf. -/
theorem State.place_step8 (hr : o.stage ≠ .regather) (ha : s.admissionOpen o = true) (hl : o.isLmsSign = false ∨ o.leaf ≠ none) :
    s.place o = s.placeStep8 o := by
  have hleaf : ¬(o.isLmsSign = true ∧ o.leaf = none) := fun ⟨h, hn⟩ => hl.elim (by simp [h]) (· hn)
  simp only [State.place, hr, ha, hleaf, reduceCtorEq, or_self, if_false]

theorem State.placeStep8_undrawn {e : Nat} (hm : o.mustDraw = false) (he : s.chooseEngine o = some e) :
    s.placeStep8 o = some (s.placeOn o e) := by
  simp [State.placeStep8, State.drbgOpen, State.drawFor, hm, he]

theorem State.placeStep8_draws {e : Nat} (hm : o.mustDraw = true) (hf : o.own = true ∨ s.rng.fault = false) (hs : s.drbgServes 0 = true)
    (he : s.chooseEngine o = some e) :
    s.placeStep8 o = some (((s.draw 0 o.drawLen).2.modOp o.src fun x => { x with draw := (s.draw 0 o.drawLen).1 }).placeOn
      { o with draw := (s.draw 0 o.drawLen).1 } e) := by
  have hfault : ¬(o.own = false ∧ s.rng.fault = true) := fun ⟨h1, h2⟩ => by simp [h1, h2] at hf
  simp [State.placeStep8, State.drbgOpen, State.drawFor, hm, hs, he, hfault]

theorem State.placeStep8_entropyFault (hm : o.mustDraw = true) (ho : o.own = false) (hf : s.rng.fault = true) :
    s.placeStep8 o = some (s.endOp o St.entropyFault 0x60) := by
  simp [State.placeStep8, hm, ho, hf]

/-! #### Step 7 of an LMS_SIGN (R154) -/

section
variable (hr : o.stage ≠ .regather) (ha : s.admissionOpen o = true) (hi : o.isLmsSign = true) (hl : o.leaf = none)
include hr ha hi hl

theorem State.place_exhausted (hx : (s.slot o.keySlot).lmsExhausted = true) : s.place o = some (s.endOp o St.exhausted 0x40) := by
  simp [State.place, hr, ha, hi, hl, hx]

variable (hx : (s.slot o.keySlot).lmsExhausted = false) (ht : (s.slot o.keySlot).treeState = 2)
include hx ht

theorem State.place_awaitsLeaf (hb : (s.slot o.keySlot).blockEnd ≤ (s.slot o.keySlot).nextLeaf) (hw : o.stage ≠ .leafWait) :
    s.place o = some ((s.modOp o.src fun x => { x with stage := .leafWait }).reserveLms o.keySlot) := by
  simp [State.place, hr, ha, hi, hl, hx, ht, hb, hw]

/-- The leaf is spent before step 8 is looked at, whether or not that lets the operation on. -/
theorem State.place_takesLeaf (hb : (s.slot o.keySlot).nextLeaf < (s.slot o.keySlot).blockEnd) :
    let a := s.assignLeaf o.keySlot
    let u := a.2.modOp o.src fun x => { x with leaf := a.1, stage := .waiting }
    s.place o = some ((u.placeStep8 { o with leaf := a.1, stage := .waiting }).getD u) := by
  simp [State.place, hr, ha, hi, hl, hx, ht, hb]
end

/-! #### The event -/

theorem execOperationPlace_first {rest : List CombOp} {t : State} (hw : s.waitingOps = o :: rest) (ht : s.place o = some t) :
    execOperationPlace s = answer s t.fitFills := by
  simp only [execOperationPlace, hw, List.findSome?_cons, ht]

theorem execOperationPlace_none (h : s.waitingOps.findSome? s.place = none) : execOperationPlace s = answer s s.fitFills := by
  simp only [execOperationPlace, h]
end

/-! ### Aging (R86) -/

theorem execPriorityAging_raises {s : State} (op : Nat) (h : field (s.reg Reg.fgsAging) 15 0 ≠ 0) :
    execPriorityAging op s = answer s (s.setOps (s.comb.ops.map fun o =>
      if o.id = op ∧ o.own = false ∧ (o.stage = .waiting ∨ o.stage = .leafWait ∨ o.stage = .preempted) then
        { o with prio := min 3 (o.prio + 1) } else o)) := by
  simp only [execPriorityAging, if_neg h]

/-! ### Preemption (R92) -/

/-- A fold that keeps its candidate or takes the next element ends with the one it began with or with an element. -/
theorem foldl_picks {α : Type} {f : Option α → α → Option α} (hf : ∀ b a, f b a = b ∨ f b a = some a) (l : List α) (b : Option α) :
    l.foldl f b = b ∨ ∃ a ∈ l, l.foldl f b = some a := by
  induction l generalizing b with
  | nil => exact .inl rfl
  | cons a l ih =>
    rw [List.foldl_cons]
    rcases ih (f b a) with h | ⟨x, hx, h⟩
    · rw [h]
      exact (hf b a).imp_right fun h => ⟨a, List.mem_cons_self, h⟩
    · exact .inr ⟨x, List.mem_cons_of_mem a hx, h⟩

/-- Of two operations, the one that has run longer. -/
def startedFirst (best : Option CombOp) (o : CombOp) : Option CombOp := match best with
  | some b => if o.since < b.since then some o else some b
  | none => some o

theorem startedFirst_picks (best : Option CombOp) (o : CombOp) : startedFirst best o = best ∨ startedFirst best o = some o := by
  cases best with
  | none => exact .inr rfl
  | some b => exact (ite_eq_or_eq (o.since < b.since) (some o) (some b)).symm

/-- The operations that can be a victim. -/
def State.victims (s : State) (kind : Nat) : List CombOp := s.comb.ops.filter fun o =>
  o.kind == kind && o.stage == .body && !o.classC && !o.own && decide (o.prio < 3) && !o.wasPreempted &&
    match o.engine with
    | some e => s.engineIs e fun g => g.state == .ready && !g.fenceDue && !s.gated g && !s.leaving false g
    | none => false

theorem State.victim_eq (s : State) (kind : Nat) : s.victim kind = (s.victims kind).foldl startedFirst none := rfl

section
variable {s : State} {o v : CombOp} {e kind : Nat}

theorem State.victim_mem (h : s.victim kind = some v) : v ∈ s.victims kind := by
  rw [State.victim_eq] at h
  obtain hn | ⟨w, hw, he⟩ := foldl_picks startedFirst_picks (s.victims kind) none
  · cases h.symm.trans hn
  · cases h.symm.trans he
    exact hw

/-- A victim is a host operation of class P, below priority 3, that runs and was never preempted. -/
theorem State.victim_spec (h : s.victim kind = some v) :
    v ∈ s.comb.ops ∧ v.kind = kind ∧ v.stage = .body ∧ v.classC = false ∧ v.own = false ∧ v.prio < 3 ∧ v.wasPreempted = false := by
  obtain ⟨hv, hp⟩ := List.mem_filter.1 (State.victim_mem h)
  simp only [Bool.and_eq_true, beq_iff_eq, Bool.not_eq_true', decide_eq_true_eq] at hp
  obtain ⟨⟨⟨⟨⟨⟨hkind, hstage⟩, hclass⟩, hown⟩, hprio⟩, hwas⟩, -⟩ := hp
  exact ⟨hv, hkind, hstage, hclass, hown, hprio, hwas⟩

/-- What preempts has waited long enough, has passed its gates, finds no engine of depth 0 and has a victim. -/
theorem State.preemptor_spec (h : s.preemptor = some o) :
    s.preemptDue o = true ∧ s.gatesPassed o = true ∧ (∀ e ∈ s.openEngines o, s.depth e ≠ 0) ∧ ∃ v, s.victim o.kind = some v := by
  have hp := List.find?_some h
  simp only [Bool.and_eq_true, Bool.not_eq_true', List.any_eq_false, beq_iff_eq] at hp
  obtain ⟨⟨⟨hdue, hgates⟩, hdepth⟩, hvictim⟩ := hp
  exact ⟨hdue, hgates, hdepth, Option.isSome_iff_exists.1 hvictim⟩

theorem State.preemptDue_spec (h : s.preemptDue o = true) :
    o.own = false ∧ o.prio = 3 ∧ 800 * field (s.reg Reg.fgsAging) 31 16 ≤ (s.free - o.waitFrom).toNat := by
  simp only [State.preemptDue, Bool.and_eq_true, Bool.not_eq_true', beq_iff_eq, decide_eq_true_eq] at h
  obtain ⟨⟨⟨hown, hprio⟩, -⟩, hwait⟩ := h
  exact ⟨hown, hprio, hwait⟩

theorem State.gatesPassed_admission (h : s.gatesPassed o = true) : s.admissionOpen o = true := by
  simp only [State.gatesPassed, Bool.and_eq_true] at h
  exact h.1.1

section
variable (hc : flag (s.reg Reg.fgsCtrl) 0 = true) (ho : s.preemptor = some o) (hv : s.victim o.kind = some v) (he : v.engine = some e)
  (hk : s.engineIs e (fun g => s.covered g o) = true)
include hc ho hv he hk

theorem execPreemption_displaces (hn : (s.interruptVictim v).1 ≤ 16) :
    let r := s.interruptVictim v
    let d := (r.2.preempt v e r.1).drawFor o
    execPreemption s = answer s ((d.2.placeOn d.1 e).count Reg.fgsPreemptCount) := by
  simp only [execPreemption, hc, ho, hv, he, hk, Bool.true_eq_false, if_false, if_true, if_neg (Nat.not_lt.2 hn)]

theorem execPreemption_ends (hn : 16 < (s.interruptVictim v).1) :
    execPreemption s = answer s ((((s.interruptVictim v).2.raise Reg.cmbErrStatus 2).endOp v St.faultDetected 0x12).degradeOp v
      (s.tagOfOp v) St.faultDetected 0x12) := by
  simp only [execPreemption, hc, ho, hv, he, hk, Bool.true_eq_false, if_false, if_true, if_pos hn]
end
end

/-! ### The release grid (R94, R98) -/

/-- No summary bit and no response lies in the Comb. -/
theorem settle_setComb (s : State) (c : Comb) : settle s { s with comb := c } = { s with comb := c } :=
  settle_quiet (show s.sumSignal &&& ~~~s.sumSignal = 0 by simp) (Nat.le_refl _)

section
variable {s : State}

theorem execGridTick_starts (h : s.comb.gridPending = false) :
    execGridTick s = answer s ((s.comb.ops.filter fun o => o.stage == .tickWait).foldl State.startBody s) := by
  simp only [execGridTick, h, Bool.false_eq_true, if_false]

theorem execGridTick_held (h : s.comb.gridPending = true) (hr : s.comb.ops.any CombOp.running = true) : execGridTick s = .next s := by
  simp only [execGridTick, h, hr, if_true, answer_self]

theorem execGridTick_newGrid (h : s.comb.gridPending = true) (hr : s.comb.ops.any CombOp.running = false) :
    execGridTick s = .next { s with comb := { s.comb with gridPending := false, gridSteps := field (s.reg Reg.fgsReleaseGrid) 5 0 } } := by
  simp only [execGridTick, h, hr, Bool.false_eq_true, if_true, if_false, answer, settle_setComb]

theorem execReleaseGridWrite_eq (v : W32) (ho : s.regsOpen = true) (hb : s.blockDown Reg.fgsReleaseGrid = false) :
    execReleaseGridWrite v s = answer s { s.plainWrite Reg.fgsReleaseGrid v with
      comb := { (s.plainWrite Reg.fgsReleaseGrid v).comb with gridPending := true } } := by
  simp only [execReleaseGridWrite, State.regWrite_on ho hb]

theorem execStPeriodWrite_eq (v : W32) (ho : s.regsOpen = true) (hb : s.blockDown Reg.fgsStPeriod = false) :
    execStPeriodWrite v s = answer s (s.plainWrite Reg.fgsStPeriod v) := by
  simp only [execStPeriodWrite, State.regWrite_on ho hb]
end

/-! ### The end of a wipe (R99, R103, R104) -/

/-- A periodic test that has passed leaves the engine's fence as it stands. -/
theorem State.testReturns_periodic (s : State) (e : Nat) :
    s.testReturns e .periodic =
      (let u := s.modEngine e fun g => { g.wiped with state := .ready, fenced := g.fenced }
       ({ u with comb := { u.comb with testing := none, testPassed := false } }.engineFree e).runTests) := by
  simp [State.testReturns]

section
variable {s : State} {e : Nat} {g : Engine} (hg : s.engine e = some g) (hw : g.state = .wiping)
include hg hw

theorem execEngineWipeEnd_ready (ht : s.comb.testing.map (·.1) ≠ some e) :
    execEngineWipeEnd e s = answer s ((s.modEngine e fun g => { g.wiped with state := .ready }).engineFree e) := by
  simp only [execEngineWipeEnd, hg, hw, if_true]
  cases hx : s.comb.testing with
  | none => rfl
  | some x =>
    have hne : x.1 ≠ e := fun h => ht (by rw [hx, ← h]; rfl)
    simp only [if_neg hne]

theorem execEngineWipeEnd_withdraws {r : TestReason} (ht : s.comb.testing = some (e, r)) (hp : s.comb.testPassed = false) :
    execEngineWipeEnd e s =
      answer s ((s.modEngine e fun g => { g.wiped with state := if g.fenced then .ready else .withdrawn }).engineFree e) := by
  simp only [execEngineWipeEnd, hg, hw, ht, hp, Bool.false_eq_true, if_true, if_false]

theorem execEngineWipeEnd_returns {r : TestReason} (ht : s.comb.testing = some (e, r)) (hp : s.comb.testPassed = true) :
    execEngineWipeEnd e s = answer s (s.testReturns e r) := by
  simp only [execEngineWipeEnd, hg, hw, ht, hp, if_true]
end

/-- Settles O16: each event by the equation of the case that its premises pick. -/
theorem foragerEventsComplete : Obligations.ForagerEventsComplete := by
  unfold Obligations.ForagerEventsComplete
  intro s
  refine ⟨fun o rest e hw hr ha hl hm he => ?_, fun o rest e hw hr ha hl hm hf hs he => ?_, fun o rest hw hr ha hl hm ho hf => ?_,
    fun o rest hw hr ha hi hl => ⟨fun hx => ?_, fun hx ht hb hs => ?_, fun hx ht hb => ?_⟩, execOperationPlace_none,
    execPriorityAging_raises, fun o h => ?_, fun o v e hc ho hv he hk => ?_, execGridTick_starts, execGridTick_held, execGridTick_newGrid,
    execReleaseGridWrite_eq, execStPeriodWrite_eq, fun e g hg hw ht => execEngineWipeEnd_ready hg hw ht,
    fun e g r hg hw ht hp => execEngineWipeEnd_withdraws hg hw ht hp, fun e g hg hw ht hp => ?_⟩
  · exact execOperationPlace_first hw ((State.place_step8 hr ha hl).trans (State.placeStep8_undrawn hm he))
  · exact execOperationPlace_first hw ((State.place_step8 hr ha hl).trans (State.placeStep8_draws hm hf hs he))
  · exact execOperationPlace_first hw ((State.place_step8 hr ha hl).trans (State.placeStep8_entropyFault hm ho hf))
  · exact execOperationPlace_first hw (State.place_exhausted hr ha hi hl hx)
  · exact execOperationPlace_first hw (State.place_awaitsLeaf hr ha hi hl hx ht hb hs)
  · exact execOperationPlace_first hw (State.place_takesLeaf hr ha hi hl hx ht hb)
  · obtain ⟨hdue, hgates, hdepth, v, hv⟩ := State.preemptor_spec h
    obtain ⟨hown, hprio, hwait⟩ := State.preemptDue_spec hdue
    exact ⟨hown, hprio, hwait, State.gatesPassed_admission hgates, hdepth, v, hv, State.victim_spec hv⟩
  · exact ⟨execPreemption_displaces hc ho hv he hk, execPreemption_ends hc ho hv he hk⟩
  · exact (execEngineWipeEnd_returns hg hw ht hp).trans (congrArg (answer s) (s.testReturns_periodic e))

end Sys2Proof.Machine
end

section
/-!
PROOF. How operations in the Comb end: class P programs, class C bodies and their release, interruptions and the errors of engines.
-/
namespace Sys2Proof.Machine
open Sys2Proof

/-! ### Class P (R96, R100, R120, R139, R152) -/

section
variable {s : State} {o : CombOp} {op : Nat} {r : HbmRead} (ho : s.opById op = some o)
include ho

theorem execClassPEnd_prefixRun (hs : o.stage = .prefixRun) (hr : r.failed = none) :
    execClassPEnd op r s = answer s ((s.noteRead r).prefixEnds o) := by
  have hp : o.classPRun = true := by simp [CombOp.classPRun, hs]
  simp only [execClassPEnd, ho, hp, hr, hs, Bool.true_eq_false, if_false]

theorem execClassPEnd_body (hs : o.stage = .body) (hc : o.classC = false) (hr : r.failed = none) :
    execClassPEnd op r s = answer s
      (if ((s.noteRead r).runProgram o programBound).1 = .trapped then
        ((s.noteRead r).runProgram o programBound).2.endFailed o St.faultDetected 0
      else ((s.noteRead r).runProgram o programBound).2.endFailed o o.verdict.1 o.verdict.2) := by
  have hp : o.classPRun = true := by simp [CombOp.classPRun, hs, hc]
  simp only [execClassPEnd, ho, hp, hr, hs, Bool.true_eq_false, if_false]

theorem execClassPEnd_tail {slot : Nat} (hs : o.stage = .tail) (hh : o.src = .host slot) (hr : r.failed = none) :
    execClassPEnd op r s = answer s ((s.noteRead r).tailEnds o slot) := by
  have hp : o.classPRun = true := by simp [CombOp.classPRun, hs]
  simp only [execClassPEnd, ho, hp, hr, hs, hh, Bool.true_eq_false, if_false]

theorem execClassPEnd_unread {x : HbmUe} (hp : o.classPRun = true) (hr : r.failed = some x) :
    execClassPEnd op r s = answer s ((s.hbmUe 2 x (s.tagOfOp o)).endFailed o St.memUncorrectable 0x38) := by
  simp only [execClassPEnd, ho, hp, hr, Bool.true_eq_false, if_false]

/-! ### Class C (R94 to R97, R121, R161, R175) -/

section
variable (hs : o.stage = .body) (hc : o.classC = true)
include hs hc

theorem execClassCBodyEnd_passesOver (c : BodyCheck) (r : HbmRead) (hp : o.passesOver = true) :
    execClassCBodyEnd op c r s = answer s (s.holdIterLimit o) := by
  simp [execClassCBodyEnd, ho, hs, hc, hp]

variable (hp : o.passesOver = false)
include hp

theorem execClassCBodyEnd_sound (hr : r.failed = none) :
    let d := (s.noteRead r).runProgram o programBound
    execClassCBodyEnd op .sound r s = answer s
      (d.2.hold o (if d.1 = .trapped then { status := St.faultDetected } else o.bodyOutcome)) := by
  simp [execClassCBodyEnd, ho, hs, hc, hp, hr]

theorem execClassCBodyEnd_check {c : BodyCheck} (hr : r.failed = none) (hn : c ≠ .sound) :
    execClassCBodyEnd op c r s = answer s
      ((((s.noteRead r).runProgram o programBound).2.hold o { status := St.faultDetected, ext := o.checkExt c }).degradeOp o (s.tagOfOp o)
        St.faultDetected (o.checkExt c)) := by
  cases c
  case sound => exact absurd rfl hn
  all_goals simp [execClassCBodyEnd, ho, hs, hc, hp, hr]

theorem execClassCBodyEnd_unread {x : HbmUe} (c : BodyCheck) (hr : r.failed = some x) (hl : o.isLmsSign = false) :
    execClassCBodyEnd op c r s = answer s
      ((((s.noteRead r).runProgram o programBound).2.hbmUe 2 x (s.tagOfOp o)).hold o { status := St.memUncorrectable, ext := 0x38 }) := by
  simp [execClassCBodyEnd, ho, hs, hc, hp, hr, hl]
end

/-! ### The release (R96, R136, R152) -/

section
variable (hs : o.stage = .ended)
include hs

theorem execClassCRelease_failed (hf : o.result.status ≠ 0) :
    execClassCRelease op s = answer s (s.endFailed o o.result.status o.result.ext) := by
  simp [execClassCRelease, ho, hs, hf]

variable (hf : o.result.status = 0)
include hf

theorem execClassCRelease_host {slot : Nat} (hh : o.src = .host slot) (hb : within o.opcode 0x234 0x237 = false) :
    execClassCRelease op s = answer s (s.releaseHost o slot) := by
  simp [execClassCRelease, ho, hs, hf, hh, hb]

theorem execClassCRelease_block {slot : Nat} (hh : o.src = .host slot) (hb : within o.opcode 0x234 0x237 = true) :
    execClassCRelease op s = answer s (s.releaseBlock o slot) := by
  simp [execClassCRelease, ho, hs, hf, hh, hb]

theorem execClassCRelease_own {job : OwnJob} (hj : o.src = .own job) :
    execClassCRelease op s = answer s (((s.dropOp o.src).leaveEngine o).ownDone o job) := by
  simp only [execClassCRelease, ho, hs, hf, hj, ne_eq, not_true_eq_false, if_false]
end
end

section
variable {s : State} {o : CombOp}

theorem State.prefixEnds_failed {e : Nat × Nat} (h : o.prefixFail = some e) : s.prefixEnds o = s.endFailed o e.1 e.2 := by
  rw [State.prefixEnds, h]

theorem State.prefixEnds_sound (h : o.prefixFail = none) : s.prefixEnds o = s.modOp o.src fun x => { x with stage := .tickWait } := by
  rw [State.prefixEnds, h]

/-- An output that OUT_CAP holds leaves with its slot written. -/
theorem State.releaseHost_fits {slot : Nat} {t : Track} (ht : s.track slot = some t) (hl : o.result.out.length ≤ t.entry.outCap) :
    s.releaseHost o slot = ((((s.commitDest o).dropOp o.src).sweepTree o).complete slot St.ok 0 o.result.out).leaveEngine o := by
  simp only [State.releaseHost, ht, if_neg (Nat.not_lt.2 hl)]
end

/-! ### Interruptions (R84, R97) -/

section
variable {s : State} {o : CombOp} {e : Nat} (ho : s.runningOp e = some o)
include ho

section
variable (hc : o.classC = true) (hs : o.stage = .body)
include hc hs

theorem execInstructionInterrupt_restarts (b : Bool) (hn : o.restarts < 4) :
    execInstructionInterrupt e .underrun b s =
      answer s ((s.someCommit o b).modOp o.src fun x => { x with restarts := o.restarts + 1 }) := by
  have hle : ¬ 4 < o.restarts + 1 := by omega
  simp [execInstructionInterrupt, ho, hc, hs, hle]

theorem execInstructionInterrupt_abandons (b : Bool) (hn : 4 ≤ o.restarts) :
    execInstructionInterrupt e .underrun b s = answer s ((s.someCommit o b).abandon o) := by
  have hlt : 4 < o.restarts + 1 := by omega
  simp [execInstructionInterrupt, ho, hc, hs, hlt]
end

/-- An instruction of class P that restarts for the seventeenth time without a commit ends its operation. -/
theorem execInstructionInterrupt_ends (hc : o.classC = false) (hs : o.stage = .body) (hn : 16 ≤ o.restarts) :
    execInstructionInterrupt e .underrun false s = answer s
      ((s.raise Reg.cmbErrStatus 2).endAlarmed o (fun u => u.leaveEngine o) St.faultDetected 0x12) := by
  have hp : o.classPRun = true := by simp [CombOp.classPRun, hs, hc]
  have hlt : 16 < o.restarts + 1 := by omega
  simp [execInstructionInterrupt, State.someCommit, ho, hc, hp, hlt]

/-! ### Errors of engines and stores (R85, R114, R121, R123) -/

theorem execOperandMemoryUe_ends (hs : o.stage ≠ .tickWait) :
    execOperandMemoryUe e s = answer s (((s.modEngine e fun g => { g with
      ueCount := satAdd 255 g.ueCount 1 }).raise Reg.cmbErrStatus 1).endAlarmed o (fun u => u.wipeOf o) St.faultDetected 0x11) := by
  simp only [execOperandMemoryUe, ho, if_neg hs]

theorem execWatchdog_ends (hp : o.classPRun = true) :
    execWatchdog e s = answer s ((s.raise Reg.mcsErrStatus 4).endFailedBy o
      (fun u => (u.modEngine e Engine.marked).engineFree e) St.faultDetected 0x13) := by
  simp only [execWatchdog, ho, if_pos hp]

theorem execIterLimit_ends (hs : o.stage = .body) (hi : o.iterating = true) (hl : o.classC = true → o.iterMax < o.passes) :
    execIterLimit e s = answer s (if o.classC then s.holdIterLimit o
      else (s.raise Reg.mcsErrStatus 8).endFailed o St.faultDetected 0x14) := by
  have hgo : ¬(o.iterating = false ∨ o.stage ≠ .body) := by simp [hs, hi]
  simp only [execIterLimit, ho, if_neg hgo]
  cases hc : o.classC with
  | false => rfl
  | true =>
    have hp : o.passesOver = true := by simp [CombOp.passesOver, hi, hl hc]
    rw [if_pos hp]
end

theorem execControlStoreUe_master {s : State} {e : Nat} {g : Engine} (hg : s.engine e = some g) :
    execControlStoreUe e true s = answer s (s.masterFails g.kind) := by
  simp only [execControlStoreUe, hg, if_true]

/-- Settles O17: each event by the equation of the case that its premises pick. -/
theorem combOperationsEnd : Obligations.CombOperationsEnd := by
  unfold Obligations.CombOperationsEnd
  intro s o
  refine ⟨fun op e r ho hs hr hf => ?_, fun op r ho hs hr hf => ?_, fun op r ho hs hc hr => execClassPEnd_body ho hs hc hr,
    fun op slot r ho hs hh hr => execClassPEnd_tail ho hs hh hr, fun op r x ho hp hr => execClassPEnd_unread ho hp hr,
    fun op r ho hs hc hp hr => execClassCBodyEnd_sound ho hs hc hp hr,
    fun op c r ho hs hc hp hr hn => execClassCBodyEnd_check ho hs hc hp hr hn,
    fun op c r ho hs hc hp => execClassCBodyEnd_passesOver ho hs hc c r hp,
    fun op c r x ho hs hc hp hr hl => execClassCBodyEnd_unread ho hs hc hp c hr hl,
    fun op slot t ho hs hf hh hb ht hl => ?_, fun op slot ho hs hf hh hb => execClassCRelease_block ho hs hf hh hb,
    fun op ho hs hf => execClassCRelease_failed ho hs hf, fun op job ho hs hf hj => execClassCRelease_own ho hs hf hj,
    fun e b ho hc hs hn => execInstructionInterrupt_restarts ho hc hs b hn,
    fun e b ho hc hs hn => execInstructionInterrupt_abandons ho hc hs b hn,
    fun e ho hc hs hn => execInstructionInterrupt_ends ho hc hs hn, fun e ho hs => execOperandMemoryUe_ends ho hs,
    fun e ho hp => execWatchdog_ends ho hp, fun e ho hs hi hl => execIterLimit_ends ho hs hi hl, fun e g hg => execControlStoreUe_master hg⟩
  · exact (execClassPEnd_prefixRun ho hs hr).trans (congrArg (answer s) (State.prefixEnds_failed hf))
  · exact (execClassPEnd_prefixRun ho hs hr).trans (congrArg (answer s) (State.prefixEnds_sound hf))
  · exact (execClassCRelease_host ho hs hf hh hb).trans (congrArg (answer s) (State.releaseHost_fits ht hl))

end Sys2Proof.Machine
end

section
/-!
PROOF. Fences, self-tests and the time limits of waiting operations.
-/
namespace Sys2Proof.Machine
open Sys2Proof

/-! ### The checks of the three commands (Table 3.8) -/

section
variable {s : State} {slot : Nat} {t : Track} {g : Engine}

/-- An engine that exists passes the check of its number. -/
theorem testChecks_of_engine {zero : Bool} {n : Nat} (h : Passes (testChecks t zero true)) (hg : s.engine n = some g) :
    Passes (testChecks t zero (s.engine n).isSome) := by
  rwa [hg]

theorem Passes.engineOn {n : Nat} (hg : s.engine n = some g) (ha : s.gated g = false) :
    Passes [chk (s.engineIs n fun g => !s.gated g) St.engineUnavailable 2] := by
  simp [State.engineIs, hg, ha]

/-! ### ENGINE_FENCE and ENGINE_UNFENCE (R107, R109) -/

section
variable (hb : Begun s slot 0xD01 0xD01 t) (hp : Passes (testChecks t (t.entry.zeroFrom 40 41 && t.entry.zeroFrom 44 55) true))
  (hg : s.engine (t.entry.pLE 42 2) = some g) (hf : g.fenced = false)
include hb hp hg hf

theorem execEngineFence_takes (hw : g.state ≠ .wiping) (hr : s.runningOp (t.entry.pLE 42 2) = none) :
    execEngineFence slot s = answer s ((s.fenceNow (t.entry.pLE 42 2)).complete slot St.ok 0 []) := by
  have hfree : s.gated g = true ∨ ((s.runningOp (t.entry.pLE 42 2)).isNone = true ∧ g.state ≠ .wiping) := .inr ⟨by rw [hr]; rfl, hw⟩
  simp only [execEngineFence, State.onEntry_begun hb, State.checked_passes (testChecks_of_engine hp hg)]
  simp only [hg, hf, hfree, Bool.false_eq_true, if_false, if_true]

theorem execEngineFence_waits {o : CombOp} (ha : s.gated g = false) (hr : s.runningOp (t.entry.pLE 42 2) = some o) :
    let u := ((s.busy slot).modEngine (t.entry.pLE 42 2) fun g => { g with fenceDue := true }).replaceQueued (t.entry.pLE 42 2)
    execEngineFence slot s =
      answer s { u with comb := { u.comb with fenceWait := u.comb.fenceWait ++ [(slot, t.entry.pLE 42 2)] } } := by
  simp only [execEngineFence, State.onEntry_begun hb, State.checked_passes (testChecks_of_engine hp hg)]
  simp only [hg, hf, ha, hr, Option.isNone_some, Bool.false_eq_true, false_and, or_self, if_false]
end

section
variable (hb : Begun s slot 0xD02 0xD02 t) (hp : Passes (testChecks t (t.entry.zeroFrom 40 41 && t.entry.zeroFrom 44 55) true))
  (hg : s.engine (t.entry.pLE 42 2) = some g) (ha : s.gated g = false)
include hb hp hg ha

theorem execEngineUnfence_eq :
    execEngineUnfence slot s = answer s
      (if g.fenced then ((s.busy slot).queueTest (t.entry.pLE 42 2) (.unfence slot)).runTests else s.complete slot St.ok 0 []) := by
  simp only [execEngineUnfence, State.onEntry_begun hb,
    State.checked_passes ((testChecks_of_engine hp hg).append (Passes.engineOn hg ha))]
  simp only [State.engineIs, hg]
end

/-! ### SELFTEST_RUN and PERIODIC_SELFTEST (R104, R105, R108) -/

/-- Under scope 2 every engine that is neither FENCED nor GATED is to be tested. -/
theorem execSelftestRun_all (hb : Begun s slot 0xD00 0xD00 t) (h2 : t.entry.p8 40 = 2)
    (hp : Passes (testChecks t (t.entry.zeroFrom 44 55) true)) (ho : 16 ≤ t.entry.outCap) :
    let u := s.busy slot
    let todo := (List.range s.comb.engines.length).filter fun i => s.engineIs i fun g => !g.fenced && !s.gated g
    execSelftestRun slot s = answer s ((todo.foldl (fun (u : State) i => u.queueTest i (.selftestRun slot))
      { u with comb := { u.comb with testRuns := u.comb.testRuns ++ [{ slot := slot, one := false, todo := todo }] } }).endRun
        slot).runTests := by
  have hchecks : Passes (testChecks t (t.entry.zeroFrom 44 55) true ++
      [chk true St.engineUnavailable 2, t.entry.outHolds 16]) := hp.append (outHolds_pass ho)
  simp only [execSelftestRun, State.onEntry_begun hb, h2]
  refine congrArg (answer s) ((State.checked_passes hchecks).trans ?_)
  simp
end

theorem execPeriodicSelftest_queues {s : State} {e : Nat}
    (h : (((List.range s.comb.engines.length).map fun i => (s.comb.nextTest + i) % s.comb.engines.length).find? fun e =>
      s.engineIs e fun g => !g.fenced && !s.gated g) = some e) :
    execPeriodicSelftest s = answer s (({ s with comb := { s.comb with nextTest := e + 1 } }).queueTest e .periodic).runTests := by
  simp only [execPeriodicSelftest, h]

/-! ### SELFTEST_DONE (R104, R106) -/

section
variable {s : State} {e : Nat} {g : Engine} (hl : s.lcs.phase ≠ .testing) (ht : s.comb.testing = some (e, .periodic))
  (hg : s.engine e = some g) (hw : g.state ≠ .wiping) (hr : s.runningOp e = none)
include hl ht hg hw hr

/-- The test ends for the engine that is under test, idle and not wiping. -/
theorem execSelftestDone_periodic (pass : Bool) :
    let u := s.setReg Reg.fgsStStatus (BitVec.ofNat 32 (e + 65536 * b2n pass))
    execSelftestDone e pass s = answer s
      (if pass then { u.wipeEngine e with comb := { (u.wipeEngine e).comb with testPassed := true } }
      else (({ u with comb := { u.comb with testing := none } }.katFail e g.kind).wipeEngine e).runTests) := by
  have hgo : ¬(e ≠ e ∨ (s.runningOp e).isSome = true ∨ g.state = .wiping) := by simp [hr, hw]
  simp only [execSelftestDone, if_neg hl, State.testEnds, ht, hg, if_neg hgo, TestReason.slot]

/-- An engine whose test has passed wipes before it returns to service. -/
theorem execSelftestDone_passed :
    let u := (s.setReg Reg.fgsStStatus (BitVec.ofNat 32 (e + 65536 * b2n true))).wipeEngine e
    execSelftestDone e true s = answer s { u with comb := { u.comb with testPassed := true } } := by
  rw [execSelftestDone_periodic hl ht hg hw hr, if_pos rfl]

/-- An engine whose test has failed is fenced, its fault recorded, and wipes. -/
theorem execSelftestDone_failed :
    let u := s.setReg Reg.fgsStStatus (BitVec.ofNat 32 (e + 65536 * b2n false))
    execSelftestDone e false s = answer s
      ((({ u with comb := { u.comb with testing := none } }.katFail e g.kind).wipeEngine e).runTests) := by
  rw [execSelftestDone_periodic hl ht hg hw hr, if_neg Bool.false_ne_true]
end

/-! ### Operations whose kind keeps no engine (R80, R109) -/

theorem foldl_comb {α : Type} {f : State → α → State} (h : ∀ s a, (f s a).comb = s.comb) (l : List α) (s : State) :
    (l.foldl f s).comb = s.comb := by
  induction l generalizing s with
  | nil => rfl
  | cons a l ih => rw [List.foldl_cons, ih, h]

theorem State.releaseDest_comb (s : State) (d : Option Nat) : (s.releaseDest d).comb = s.comb := by
  cases d with
  | none => rfl
  | some n => exact foldl_comb (fun s _ => s.setSlot_comb _ _) _ s

/-- A host operation that ends while it waits leaves the Comb, and no other does. -/
theorem State.endWaiting_ops (s : State) {o : CombOp} (h : o.own = false) (status ext : Nat) :
    (s.endWaiting o status ext).comb.ops = s.comb.ops.filter fun w => w.src != o.src := by
  unfold State.endWaiting
  split
  · rw [State.complete_comb, State.releaseDest_comb]
    rfl
  · next job hj => simp [CombOp.own, hj] at h

theorem State.endWaiting_ops_subset (s : State) (o : CombOp) (status ext : Nat) : (s.endWaiting o status ext).comb.ops ⊆ s.comb.ops := by
  cases h : o.own with
  | false => rw [State.endWaiting_ops s h]; exact List.filter_subset_self _
  | true =>
    unfold State.endWaiting
    split
    · next slot hs => simp [CombOp.own, hs] at h
    · exact List.Subset.refl _

/-- After the operations of a list have ended, the Comb holds no other operation than before and none of the host's that the list names. -/
theorem foldl_endWaiting_ops (l : List CombOp) (s : State) (status ext : Nat) :
    ∀ w ∈ (l.foldl (fun (s : State) o => s.endWaiting o status ext) s).comb.ops,
      w ∈ s.comb.ops ∧ ∀ o ∈ l, o.own = false → w.src ≠ o.src := by
  induction l generalizing s with
  | nil => exact fun w hw => ⟨hw, by simp⟩
  | cons a l ih =>
    intro w hw
    obtain ⟨hmem, hl⟩ := ih (s.endWaiting a status ext) w hw
    refine ⟨s.endWaiting_ops_subset a status ext hmem, List.forall_mem_cons.2 ⟨fun ha => ?_, hl⟩⟩
    rw [State.endWaiting_ops s ha] at hmem
    simpa using (List.mem_filter.1 hmem).2

/-- No host operation waits any longer for a kind that keeps no engine. -/
theorem State.dropHomeless_ops {s : State} {o w : CombOp} (ho : o ∈ s.comb.ops) (hw : w ∈ s.dropHomeless.comb.ops) (hh : o.own = false)
    (hs : o.stage.waits = true) (hk : s.kindStays o.kind = false) : w.src ≠ o.src :=
  (foldl_endWaiting_ops _ s St.engineUnavailable 2 w hw).2 o (List.mem_filter.2 ⟨ho, by simp [hs, hk]⟩) hh

/-! ### Time limits (R155, R196) -/

section
variable {s : State} {slot : Nat} {o : CombOp} (ho : s.opOf slot = some o)
include ho

theorem execStallTimeout_held (hs : o.stage = .waiting) (hc : o.classC = true) (hd : o.drbg = false) (hf : s.rng.fault = true) :
    execStallTimeout slot s = answer s (s.endOp o St.entropyUnavailable 0x61) := by
  simp [execStallTimeout, ho, hs, hc, hd, hf]

theorem execLmsLeafWaitTimeout_ends {d : TreeDesc} {b : LmsBlock} (hs : o.stage = .leafWait) (hd : (s.slot o.keySlot).tree = some d)
    (hb : d.block = some b) :
    execLmsLeafWaitTimeout slot s = answer s (s.endOp o St.mirrorUnconfirmed (if b.mirrorOk then 0x41 else 0x40)) := by
  simp only [execLmsLeafWaitTimeout, ho, hs, hd, hb, if_true]
  cases b.mirrorOk <;> rfl
end

/-- Settles O18: each command by the equation of the case that its premises pick, and the operations without an engine by induction over those
that end. -/
theorem testAndFenceComplete : Obligations.TestAndFenceComplete := by
  unfold Obligations.TestAndFenceComplete
  intro s slot t
  refine ⟨fun g hb hp hg hf hw hr => execEngineFence_takes hb hp hg hf hw hr,
    fun g o hb hp hg hf ha hr => execEngineFence_waits hb hp hg hf ha hr,
    fun o ho w hw hh hs hk => State.dropHomeless_ops ho hw hh hs hk, fun g hb hp hg ha hf => ?_, fun g hb hp hg ha hf => ?_,
    fun hb h2 hp ho => execSelftestRun_all hb h2 hp ho, fun e h => execPeriodicSelftest_queues h,
    fun e g hl ht hg hw hr => ⟨execSelftestDone_passed hl ht hg hw hr, execSelftestDone_failed hl ht hg hw hr⟩,
    fun o ho hs hc hd hf => execStallTimeout_held ho hs hc hd hf, fun o d b ho hs hd hb => execLmsLeafWaitTimeout_ends ho hs hd hb⟩
  · exact (execEngineUnfence_eq hb hp hg ha).trans (congrArg (answer s) (if_pos hf))
  · exact (execEngineUnfence_eq hb hp hg ha).trans (congrArg (answer s) (if_neg (by simp [hf])))

end Sys2Proof.Machine
end

section
/-!
PROOF. The time of day over any number of CLK_CTL edges.
-/
namespace Sys2Proof.Machine
open Sys2Proof

/-! ### The counter (R366) -/

/-- The time of day in units of the fraction. -/
def Tod.total (t : Tod) : Nat := (t.sec * 10 ^ 9 + t.ns) * nsUnit + t.sub

/-- Every part of the counter is within its modulus. -/
structure Tod.InRange (t : Tod) : Prop where
  ns : t.ns < 10 ^ 9
  sub : t.sub < nsUnit
  sec : t.sec < 2 ^ 48

/-- Units of the fraction in 2^48 seconds. -/
abbrev todSpan : Nat := 2 ^ 48 * 10 ^ 9 * nsUnit

theorem Tod.InRange.total_lt {t : Tod} (h : t.InRange) : t.total < todSpan := by
  obtain ⟨hns, hsub, hsec⟩ := h
  simp only [Tod.total, todSpan, nsUnit] at *
  omega

theorem Tod.tick_inRange (t : Tod) (incr : Nat) : (t.tick incr).InRange :=
  ⟨Nat.mod_lt _ (by decide), Nat.mod_lt _ (by decide), Nat.mod_lt _ (by decide)⟩

/-- The fraction carries into the nanoseconds, and these into the seconds. -/
theorem Tod.tick_total (t : Tod) (incr : Nat) : (t.tick incr).total = (t.total + incr) % todSpan := by
  simp only [Tod.tick, Tod.total, todSpan, nsUnit]
  omega

/-- The counter after n edges at one increment. -/
def Tod.ticks (t : Tod) (incr n : Nat) : Tod := (fun x => x.tick incr)^[n] t

theorem Tod.ticks_succ (t : Tod) (incr n : Nat) : t.ticks incr (n + 1) = (t.ticks incr n).tick incr :=
  Function.iterate_succ_apply' _ n t

theorem Tod.ticks_inRange {t : Tod} (h : t.InRange) (incr n : Nat) : (t.ticks incr n).InRange := by
  cases n with
  | zero => exact h
  | succ n => rw [Tod.ticks_succ]; exact Tod.tick_inRange _ _

theorem Tod.ticks_total {t : Tod} (h : t.InRange) (incr n : Nat) : (t.ticks incr n).total = (t.total + n * incr) % todSpan := by
  induction n with
  | zero => rw [Nat.zero_mul, Nat.add_zero, Nat.mod_eq_of_lt h.total_lt]; rfl
  | succ n ih => rw [Tod.ticks_succ, Tod.tick_total, ih, Nat.mod_add_mod, Nat.succ_mul, Nat.add_assoc]

theorem Tod.ticks_servoAge (t : Tod) (incr n : Nat) : (t.ticks incr n).servoAge = t.servoAge + n := by
  induction n with
  | zero => rfl
  | succ n ih => rw [Tod.ticks_succ, ← Nat.add_assoc, ← ih]; rfl

theorem Tod.ticks_servoSeen (t : Tod) (incr n : Nat) : (t.ticks incr n).servoSeen = t.servoSeen := by
  induction n with
  | zero => rfl
  | succ n ih => rw [Tod.ticks_succ, ← ih]; rfl

/-! ### The edges (R93) -/

theorem State.edge_reset {s : State} (h : s.lcs.phase = .reset) : s.edge = s := if_pos h

theorem State.edge_running {s : State} (h : s.lcs.phase ≠ .reset) : s.edge = { s with free := s.free + 1, tod := s.tod.tick s.incr } :=
  if_neg h

/-- Edges change the two counters alone, so that RATE and with it the increment stay. -/
theorem State.edges_eq {s : State} (h : s.lcs.phase ≠ .reset) (n : Nat) :
    State.edge^[n] s = { s with free := s.free + BitVec.ofNat 64 n, tod := s.tod.ticks s.incr n } := by
  induction n with
  | zero => simp [Tod.ticks]
  | succ n ih =>
    have hn : (State.edge^[n] s).lcs.phase ≠ .reset := by rw [ih]; exact h
    rw [Function.iterate_succ_apply', State.edge_running hn, ih, Tod.ticks_succ, BitVec.ofNat_add, ← BitVec.add_assoc]
    rfl

/-- Settles O19, by induction over the edges: the sum of the increments modulo 2^48 seconds. -/
theorem timeAdvancesExactly : Obligations.TimeAdvancesExactly := by
  unfold Obligations.TimeAdvancesExactly
  refine ⟨fun s hs => ⟨fun h => ?_, fun _ => step_nil hs⟩, fun s n h hns hsub hsec => ?_⟩
  · rw [step_nil hs, State.edge_reset h]
  · have hr : s.tod.InRange := ⟨hns, hsub, hsec⟩
    obtain ⟨hns', hsub', hsec'⟩ := Tod.ticks_inRange hr s.incr n
    rw [State.edges_eq h n]
    exact ⟨Tod.ticks_total hr s.incr n, rfl, Tod.ticks_servoAge _ _ _, Tod.ticks_servoSeen _ _ _, hns', hsub', hsec', rfl⟩

end Sys2Proof.Machine
end

section
/-!
PROOF. The admission of public-key commands (Tables 5.2, 5.7 and 6.2): each family's checks pass from the premises of its statements, and
its operation then waits for the forager.
-/
namespace Sys2Proof.Machine
open Sys2Proof

/-! ### Single checks -/

theorem chk_pass {ok : Bool} {a b : Nat} (h : ok = true) : chk ok a b = none := by rw [h, chk_true]

theorem Passes.cons {a : Option (Nat × Nat)} {l : List (Option (Nat × Nat))} (ha : a = none) (hl : Passes l) : Passes (a :: l) := by
  rw [ha]; exact hl

section
variable {e : WorkEntry} {n : Nat}

theorem WorkEntry.lenIs_pass (h : e.msgLen = n) : e.lenIs n = none := chk_pass (by simp [h])

theorem WorkEntry.lenAtLeast_pass (h : n ≤ e.msgLen) : e.lenAtLeast n = none := chk_pass (by simp [h])

theorem WorkEntry.absorbed_pass (h : e.msgLen ≤ 16384) : e.absorbed = none := chk_pass (by simp [h])

theorem WorkEntry.aSlot_pass (h : isSlot e.keySlot = true) : e.aSlot = none := chk_pass h

theorem WorkEntry.noKey_pass (h : e.keySlot = noSlot) : e.noKey = none := chk_pass (by simp [h])

theorem WorkEntry.digestAfter_pass (hlo : n + 32 ≤ e.msgLen) (hhi : e.msgLen ≤ n + 64) : e.digestAfter n = none :=
  chk_pass (by simp [within, hlo, hhi])
end

/-- A key whose run matches its code is read (R227). -/
theorem State.readSlots_sound {s u : State} {slot n : Nat} (h : s.slotBad n = false) : s.readSlots slot [n] u = u := by
  simp [State.readSlots, h]

/-! ### Families of commands

`hc` is the equation of a command, and `hk` says which family its entry goes to. -/

section
variable {s : State} {slot lo hi : Nat} {t : Track} {c : Instr} {k : Track → State} (hb : Begun s slot lo hi t)
  (hc : exec c s = answer s (s.onEntry slot lo hi k))
include hb hc

theorem exec_begun : exec c s = .next (settle s (k t)) := by
  rw [hc, State.onEntry_begun hb, answer]

section
variable (he : s.engineCheck t.entry.opcode = none) (hd : t.dmaFail = none)
include he hd

/-- Key generation (R134, R141). -/
theorem exec_keygenOp {kind outLen : Nat} {zero : Bool} {more : List (Option (Nat × Nat))}
    (hk : k t = s.keygenOp slot t kind outLen zero true more) (hz : zero = true) (hm : Passes more) (hn : isSlot t.entry.keySlot = true)
    (hs : Passes (s.destKey t.func t.entry.keySlot (· == kind))) (hl : t.entry.msgLen = 0) (ho : outLen ≤ t.entry.outCap) :
    exec c s = .next (settle s (s.startOp slot { s.mkOp slot t t.entry.opcode with drbg := true, dest := some t.entry.keySlot })) := by
  have hfields : Passes (more ++ [t.entry.aSlot]) := hm.append (.cons (WorkEntry.aSlot_pass hn) .nil)
  have hlens := Passes.cons (WorkEntry.lenIs_pass hl) (outHolds_pass ho)
  rw [exec_begun hb hc, hk, State.keygenOp, State.checked_passes (State.combChecks_passes hz he rfl hfields hs hd hlens)]

/-- A signature under a slot's key (R145, R149, R172). -/
theorem exec_signOp {kind : Nat} {zero params pre drbg : Bool} {lens : List (Option (Nat × Nat))}
    (hk : k t = s.signOp slot t kind zero params lens pre drbg) (hz : zero = true) (hp : params = true) (hl : Passes lens)
    (hn : isSlot t.entry.keySlot = true) (hkey : Passes (s.sourceKey t.func t.entry.keySlot Usage.sign noDevice (· == kind)))
    (hg : s.slotBad t.entry.keySlot = false) :
    exec c s = .next (settle s (s.startOp slot
      ({ s.mkOp slot t t.entry.opcode with hasPrefix := pre, drbg := drbg }.withKey (s.slot t.entry.keySlot)))) := by
  have hfields : Passes [t.entry.aSlot] := .cons (WorkEntry.aSlot_pass hn) .nil
  rw [exec_begun hb hc, hk, State.signOp, State.checked_passes (State.combChecks_passes hz he hp hfields hkey hd hl),
    State.readSlots_sound hg]

/-- Public input alone (R147, R150, R158, R172). -/
theorem exec_publicOp {zero params pre drbg : Bool} {lens : List (Option (Nat × Nat))}
    (hk : k t = s.publicOp slot t zero params lens pre drbg) (hz : zero = true) (hp : params = true) (hl : Passes lens)
    (hn : t.entry.keySlot = noSlot) :
    exec c s = .next (settle s (s.startOp slot { s.mkOp slot t t.entry.opcode with hasPrefix := pre, drbg := drbg })) := by
  have hfields : Passes [t.entry.noKey] := .cons (WorkEntry.noKey_pass hn) .nil
  rw [exec_begun hb hc, hk, State.publicOp, State.checked_passes (State.combChecks_passes hz he hp hfields .nil hd hl)]

section
variable (hz : t.entry.kemZero = true) (hp : t.entry.kemOk = true) (hss : ssIsSlot t.entry.ssTarget = none)
  (hs : Passes (s.ssChecks t.func t.entry.ssTarget))
include hz hp hss hs

/-- Encapsulation (R142, R159). -/
theorem exec_encapsOp {keyLen ctLen ssLen : Nat} (hk : k t = s.encapsOp slot t keyLen ctLen ssLen) (hn : t.entry.keySlot = noSlot)
    (hl : t.entry.msgLen = keyLen) (ho : ctLen + (if t.entry.ssDest = 0 then ssLen else 0) ≤ t.entry.outCap) :
    exec c s = .next (settle s (s.startOp slot
      { s.mkOp slot t t.entry.opcode with hasPrefix := true, drbg := true, dest := t.entry.ssTarget })) := by
  have hfields := Passes.cons (WorkEntry.noKey_pass hn) (.cons hss .nil)
  have hlens := Passes.cons (WorkEntry.lenIs_pass hl) (outHolds_pass ho)
  rw [exec_begun hb hc, hk, State.encapsOp, State.checked_passes (State.combChecks_passes hz he hp hfields hs hd hlens)]

/-- A shared secret made with a private key (R143, R159, R172). -/
theorem exec_secretOp {usage kind inLen ssLen : Nat} {pre : Bool} (hk : k t = s.secretOp slot t usage kind inLen ssLen pre)
    (hn : isSlot t.entry.keySlot = true) (hkey : Passes (s.sourceKey t.func t.entry.keySlot usage noDevice (· == kind)))
    (hl : t.entry.msgLen = inLen) (ho : (if t.entry.ssDest = 0 then ssLen else 0) ≤ t.entry.outCap)
    (hg : s.slotBad t.entry.keySlot = false) :
    exec c s = .next (settle s (s.startOp slot
      ({ s.mkOp slot t t.entry.opcode with hasPrefix := pre, dest := t.entry.ssTarget }.withKey (s.slot t.entry.keySlot)))) := by
  have hfields := Passes.cons (WorkEntry.aSlot_pass hn) (.cons hss .nil)
  have hlens := Passes.cons (WorkEntry.lenIs_pass hl) (outHolds_pass ho)
  rw [exec_begun hb hc, hk, State.secretOp,
    State.checked_passes (State.combChecks_passes hz he hp hfields (hkey.append hs) hd hlens), State.readSlots_sound hg]
end
end
end

/-- RSA_OAEP_DECRYPT, whose SS_DEST and SS_SLOT stand in bytes 52 to 55 (R167). -/
theorem exec_rsaOaepDecrypt {s : State} {slot : Nat} {t : Track} {target : Option Nat} (hb : Begun s slot 0x328 0x32A t)
    (ht : target = if t.entry.p8 52 = 1 then some (t.entry.pLE 53 3) else none) (hz : t.entry.rsaZero = true)
    (he : s.engineCheck t.entry.opcode = none) (hp : t.entry.rsaOk [2] none = true) (hdest : t.entry.p8 52 ≤ 1)
    (hunused : t.entry.p8 52 = 0 → t.entry.pLE 53 3 = 0) (hn : isSlot t.entry.keySlot = true) (hss : ssIsSlot target = none)
    (hkey : Passes (s.sourceKey t.func t.entry.keySlot Usage.decaps noDevice (· == 0x38 + (t.entry.opcode - 0x328))))
    (hs : Passes (s.ssChecks t.func target)) (hd : t.dmaFail = none)
    (hl : t.entry.msgLen = (s.slot t.entry.keySlot).rsaBits / 8 + t.entry.labelLen) (hg : s.slotBad t.entry.keySlot = false) :
    exec (.rsaOaepDecrypt slot) s = .next (settle s (s.startOp slot
      ({ s.mkOp slot t t.entry.opcode with hasPrefix := true, dest := target }.withKey (s.slot t.entry.keySlot)))) := by
  subst ht
  have hused : t.entry.p8 52 = 1 ∨ t.entry.pLE 53 3 = 0 := (Nat.le_one_iff_eq_zero_or_eq_one.1 hdest).elim (.inr ∘ hunused) .inl
  have hparams : (t.entry.rsaOk [2] none && decide (t.entry.p8 52 ≤ 1) && (t.entry.p8 52 == 1 || t.entry.pLE 53 3 == 0)) = true := by
    simp [hp, hdest, hused]
  have hfields := Passes.cons (WorkEntry.aSlot_pass hn) (.cons hss .nil)
  have hlens := Passes.cons (WorkEntry.lenIs_pass hl) .nil
  rw [exec_begun (c := .rsaOaepDecrypt slot) hb rfl,
    State.checked_passes (State.combChecks_passes hz he hparams hfields (hkey.append hs) hd hlens), State.readSlots_sound hg]

/-! ### The statements -/

/-- Settles O9: seven commands by the rule of key generation, row by row, and LMS_KEYGEN with the check of its types. -/
theorem keygenCommandsAdmit : Obligations.KeygenCommandsAdmit := by
  unfold Obligations.KeygenCommandsAdmit
  constructor
  · intro r hr
    simp only [List.mem_cons, List.not_mem_nil, or_false] at hr
    rcases hr with rfl | rfl | rfl | rfl | rfl | rfl | rfl
    all_goals dsimp only; exact fun s slot t hb hz he hn hs hd hl ho => exec_keygenOp hb rfl he hd rfl hz .nil hn hs hl ho
  · intro s slot t hb e hz he hlo hhi hwlo hwhi hn hs hd hl
    have htypes : (within (e.pLE 40 4) 0xA 0xD && within (e.pLE 44 4) 5 8) = true := by simp [within, hlo, hhi, hwlo, hwhi]
    exact exec_keygenOp hb rfl he hd rfl hz (.cons (chk_pass htypes) .nil) hn hs hl (Nat.zero_le _)

/-- Settles O10: two commands by the rule of encapsulation, four by that of a shared secret, and RSA_OAEP_DECRYPT by its own. -/
theorem secretCommandsAdmit : Obligations.SecretCommandsAdmit := by
  unfold Obligations.SecretCommandsAdmit
  refine ⟨fun r hr => ?_, fun r hr => ?_, fun s slot t hb hz he hp hdest hunused hn hss hkey hs hd hl hg =>
    exec_rsaOaepDecrypt hb rfl hz he hp hdest hunused hn hss hkey hs hd hl hg⟩
  · simp only [List.mem_cons, List.not_mem_nil, or_false] at hr
    rcases hr with rfl | rfl
    all_goals dsimp only; exact fun s slot t hb hz he hp hn hss hs hd hl ho => exec_encapsOp hb rfl he hd hz hp hss hs rfl hn hl ho
  · simp only [List.mem_cons, List.not_mem_nil, or_false] at hr
    rcases hr with rfl | rfl | rfl | rfl
    all_goals
      dsimp only
      exact fun s slot t hb hz he hp hn hss hkey hs hd hl ho hg => exec_secretOp hb rfl he hd hz hp hss hs rfl hn hkey hl ho hg

/-- Settles O11: each command by the rule of signing, from its own length checks. -/
theorem signingCommandsAdmit : Obligations.SigningCommandsAdmit := by
  unfold Obligations.SigningCommandsAdmit
  intro s slot t e k taken
  refine ⟨fun hb hz hp hm ho he hn hkey hd => ?_, fun hb hz hp hm ha ho he hn hkey hd => ?_, fun hb hz hlo hhi ho he hn hkey hd => ?_,
    fun hb hz hp hm ha ho he hn hkey hd => ?_, fun hb hz hz' hp hm ho he hn hkey hd => ?_⟩
  · exact exec_signOp hb rfl he hd rfl hz hp (hm.append (outHolds_pass ho)) hn hkey
  · exact exec_signOp hb rfl he hd rfl hz hp (hm.append (.cons (WorkEntry.absorbed_pass ha) (outHolds_pass ho))) hn hkey
  · have hdigest : e.digestAfter 0 = none := WorkEntry.digestAfter_pass (by omega) (by omega)
    exact exec_signOp hb rfl he hd rfl hz rfl (.cons hdigest (outHolds_pass ho)) hn hkey
  · have habsorbed : (if e.prehash then none else e.absorbed) = none := by
      rcases ha with ha | ha
      · rw [if_pos ha]
      · rw [WorkEntry.absorbed_pass ha, ite_self]
    exact exec_signOp hb rfl he hd rfl hz hp (hm.append (.cons habsorbed (outHolds_pass ho))) hn hkey
  · exact exec_signOp hb rfl he hd rfl (Bool.and_eq_true_iff.2 ⟨hz, hz'⟩) hp (.cons (WorkEntry.lenIs_pass hm) (outHolds_pass ho)) hn hkey

/-- Settles O12: each command by the rule of public input, from its own length checks. -/
theorem publicCommandsAdmit : Obligations.PublicCommandsAdmit := by
  unfold Obligations.PublicCommandsAdmit
  intro s slot t e taken
  refine ⟨fun hb hz hp hm he hn hd => ?_, fun hb hz hp hm he hn hd => ?_, fun hb hz hz' hm he hn hd => ?_,
    fun hb hz hz' hm he hn hd => ?_, fun hb hz hlo hhi he hn hd => ?_, fun hb hz hp hm he hn hd => ?_,
    fun hb hz hz' hp hm he hn hd => ?_, fun hb hz hz' hp hm ho he hn hd => ?_⟩
  · exact exec_publicOp hb rfl he hd rfl hz hp hm hn
  · exact exec_publicOp hb rfl he hd rfl hz hp hm hn
  · exact exec_publicOp hb rfl he hd rfl (Bool.and_eq_true_iff.2 ⟨hz, hz'⟩) rfl (.cons (WorkEntry.lenAtLeast_pass hm) .nil) hn
  · exact exec_publicOp hb rfl he hd rfl (Bool.and_eq_true_iff.2 ⟨hz, hz'⟩) rfl (.cons (WorkEntry.lenAtLeast_pass hm) .nil) hn
  · exact exec_publicOp hb rfl he hd rfl hz rfl (.cons (WorkEntry.digestAfter_pass hlo hhi) .nil) hn
  · exact exec_publicOp hb rfl he hd rfl hz hp hm hn
  · exact exec_publicOp hb rfl he hd rfl (Bool.and_eq_true_iff.2 ⟨hz, hz'⟩) hp (.cons (WorkEntry.lenIs_pass hm) .nil) hn
  · exact exec_publicOp hb rfl he hd rfl (Bool.and_eq_true_iff.2 ⟨hz, hz'⟩) hp
      (.cons (WorkEntry.lenAtLeast_pass hm) (outHolds_pass ho)) hn

end Sys2Proof.Machine
end

section
/-!
PROOF. LMS commands: where a tree cache finds room (R152).
-/
namespace Sys2Proof.Machine
open Sys2Proof

/-- A device whose own partition starts at 1 MiB, and an LMS key of height 5 whose tree cache lies at 0, before it. -/
def cacheBeforeOwn : State :=
  { State.reset with
    regs := [(Reg.memPartSa, 1), (Reg.memPartOwn, 1)]
    kst := { slots := [(16, {
      attr := 0x201, content := [0, 0, 0, 10, 0, 0, 0, 7]
      tree := some { cacheAt := 0, func := 0, recordAddr := 0, floor := 0 } })] } }

theorem cacheBeforeOwn_partStart : cacheBeforeOwn.partStart 3 = 2 ^ 20 := by decide

/-- The end of the cache held is the lowest place tried with room after it, though the own partition starts later. -/
theorem cacheBeforeOwn_cacheRoom : cacheBeforeOwn.cacheRoom (cacheBytes 5) = some (cacheBytes 5) := by decide

/-- Refutes O13: `State.cacheRoom` also tries the end of a cache held that lies before the own partition, and the PA it answers then lies
before the partition too; the statement does not ask that the caches held lie in the partition. -/
theorem not_lmsCommandsComplete : ¬ Obligations.LmsCommandsComplete := by
  unfold Obligations.LmsCommandsComplete
  intro h
  obtain ⟨-, -, hroom, -⟩ := h cacheBeforeOwn 0 { func := 0, qid := 0, index := 0, entry := {} }
  obtain ⟨hstart, -⟩ := hroom _ _ cacheBeforeOwn_cacheRoom
  rw [cacheBeforeOwn_partStart] at hstart
  exact absurd hstart (by decide)

end Sys2Proof.Machine
end

section
/-!
PROOF. The scalars of the P-curves that EC_KEYGEN and ECDSA_SIGN form (R172).
-/
namespace Sys2Proof.Machine
open Sys2Proof

theorem one_lt_ecOrder (i : Nat) : 1 < ecOrder i := by
  unfold ecOrder
  split
  · decide
  · split
    · decide
    · decide +kernel

theorem ecScalar_pos (i : Nat) (draw : Bytes) : 1 ≤ ecScalar i draw := Nat.le_add_left 1 _

theorem ecScalar_lt_order (i : Nat) (draw : Bytes) : ecScalar i draw < ecOrder i := by
  have hn := one_lt_ecOrder i
  have hr : beNat draw % 2 ^ (ecBits i + 64) % (ecOrder i - 1) < ecOrder i - 1 := Nat.mod_lt _ (by omega)
  unfold ecScalar
  omega

/-- Settles O15: a remainder modulo n − 1, plus 1. -/
theorem ecScalarInRange : Obligations.EcScalarInRange := by
  unfold Obligations.EcScalarInRange
  exact fun i draw _ => ⟨ecScalar_pos i draw, ecScalar_lt_order i draw⟩

end Sys2Proof.Machine
end

section
/-!
PROOF. Keys that enter the store from outside or from another key (R171, R217 to R224): what a key does once the checks on its command have
passed, and each command's checks from the premises of its statement.
-/
namespace Sys2Proof.Machine
open Sys2Proof

/-! ### The kinds that a check or a job is for -/

/-- Only a P-curve scalar is compared with the order (R171). -/
theorem scalarCheck_other {kind : Nat} (h : within kind 0x30 0x32 = false) (c : Bytes) : scalarCheck kind c = none := by
  simp [scalarCheck, h]

theorem jobProgram_curve {kind : Nat} (h : within kind 0x30 0x32 = true) : jobProgram kind = some (0x300 + (kind - 0x30)) := by
  have hml : within kind 0x14 0x16 = false := by
    simp only [within, Bool.and_eq_true, Bool.and_eq_false_iff, decide_eq_true_eq, decide_eq_false_iff_not] at h ⊢
    omega
  rw [jobProgram, hml, h]
  rfl

/-- A kind that needs no consistency check has no scalar to compare. -/
theorem scalarCheck_of_noJob {kind : Nat} (h : jobProgram kind = none) (c : Bytes) : scalarCheck kind c = none := by
  refine scalarCheck_other (Bool.eq_false_iff.2 fun hk => ?_) c
  exact absurd (h.symm.trans (jobProgram_curve hk)) (by simp)

/-- KEY_DERIVE produces no curve scalar (R219). -/
theorem scalarCheck_of_derivable {kind : Nat} (h : derivable kind = true) (c : Bytes) : scalarCheck kind c = none := by
  refine scalarCheck_other (Bool.eq_false_iff.2 fun hk => ?_) c
  simp only [derivable, within, Bool.or_eq_true, Bool.and_eq_true, decide_eq_true_eq] at h hk
  omega

theorem State.destState_kindOk {s : State} {n : Nat} {kindOk : Nat → Bool} (h : s.destState n kindOk = none) :
    kindOk (s.slot n).kind = true := by
  unfold State.destState at h
  dsimp only at h
  split at h
  · cases h
  · simpa [chk] using h

/-! ### A key enters its slot -/

section
variable {s : State} {slot : Nat} {t : Track} {n : Nat} {content blob : Bytes} {origin : Nat} {test : Bool}

/-- A kind without a consistency check commits at once. -/
theorem State.enterKey_commits (hj : jobProgram (s.slot n).kind = none) : s.enterKey slot t n content blob origin test =
    (s.commitKey n (entering (s.slot n).kind content) [] origin test).complete slot St.ok 0 [] := by
  simp only [State.enterKey, scalarCheck_of_noJob hj, hj]

/-- A kind with one waits for it in the Comb (R222, R223). -/
theorem State.enterKey_starts {op : Nat} (hs : scalarCheck (s.slot n).kind content = none) (hj : jobProgram (s.slot n).kind = some op)
    (he : s.engineCheck op = none) : s.enterKey slot t n content blob origin test =
    s.startOp slot { s.mkOp slot t op with key := content, input := blob, test := test, dest := some n } := by
  simp only [State.enterKey, hs, hj, he]

theorem State.enterKey_outOfRange {x : Nat × Nat} (hs : scalarCheck (s.slot n).kind content = some x) :
    s.enterKey slot t n content blob origin test = s.fail slot x := by
  simp only [State.enterKey, hs]
end

/-! ### The template after an unwrap (R221) -/

theorem bitsOf_eq_extractLsb (w : W64) (hi lo : Nat) : bitsOf w.toNat hi lo = (w.extractLsb hi lo).toNat := by
  simp [bitsOf, BitVec.extractLsb, BitVec.extractLsb'_toNat, Nat.shiftRight_eq_div_pow]

/-- The header narrows the usage bits only: the KIND of the destination stays. -/
theorem narrowed_kind (k : KeySlot) (p : Bytes) : ({ k with attr := narrowed k.attr p } : KeySlot).kind = k.kind := by
  simp only [KeySlot.kind, bitsOf_eq_extractLsb]
  have hmask : ∀ x : W64, (~~~0x7FF000 ||| x : W64).extractLsb 11 4 = BitVec.allOnes 8 := fun x => by
    have h : (~~~0x7FF000 : W64).extractLsb 11 4 = BitVec.allOnes 8 := by decide
    rw [BitVec.extractLsb_or, h, BitVec.allOnes_or]
  rw [narrowed, BitVec.extractLsb_and, hmask, BitVec.and_allOnes]

/-! ### What fails outside Table 11.1 -/

/-- A failure that is none of Table 11.1 counts nothing (R297). -/
theorem State.reject_eq_fail {s : State} {slot : Nat} {e : Nat × Nat} (h : e.2 < 0xA0) : s.reject slot e = s.fail slot e := by
  have h1 : ¬ 0xA0 ≤ e.2 := by omega
  simp [State.reject, h1]

/-! ### The four commands -/

/-- Keys that match their code are read (R227). -/
theorem State.readSlots_allSound {s u : State} {slot : Nat} {ns : List Nat} (h : ∀ n ∈ ns, s.slotBad n = false) :
    s.readSlots slot ns u = u := by
  have hn : ns.find? (fun n => s.slotBad n) = none := List.find?_eq_none.2 fun n hm => by simp [h n hm]
  simp [State.readSlots, hn]

/-- A begun entry whose checks pass runs what comes after them. -/
theorem exec_checked {s u : State} {slot lo hi : Nat} {t : Track} {c : Instr} {k : Track → State} {l : List (Option (Nat × Nat))}
    (hb : Begun s slot lo hi t) (hc : exec c s = answer s (s.onEntry slot lo hi k)) (hk : k t = s.checked slot l u) (hl : Passes l) :
    exec c s = .next (settle s u) := by
  rw [exec_begun hb hc, hk, State.checked_passes hl]

/-- Bytes 40 and 41 of KEY_IMPORT are 0 but for RSA. -/
theorem rsaBits_pass {rsa : Bool} {bits : Nat} (h : rsa = false → bits = 0) : val (rsa || bits == 0) = none := by
  cases rsa
  · exact chk_pass (beq_iff_eq.2 (h rfl))
  · rfl

/-- For RSA they are the MOD_BITS of the content (R224). -/
theorem rsaModulus_pass {rsa : Bool} {got bits : Nat} (h : rsa = true → got = bits) : val (!rsa || got == bits) = none := by
  cases rsa
  · rfl
  · exact chk_pass (beq_iff_eq.2 (h rfl))

/-- The effect of KEY_UNWRAP on a sound blob of the destination's KIND, opened as `p`: a template that no job is to check is narrowed, and the
key enters (R221, R222). -/
def State.enterUnwrapped (s : State) (slot : Nat) (t : Track) (n : Nat) (p : Bytes) (test : Bool) : State :=
  let k := s.slot n
  let s := if (jobProgram k.kind).isNone then s.setSlot n { k with attr := narrowed k.attr p } else s
  s.enterKey slot t n (p.drop 16) p 2 test

section
variable {s : State} {slot : Nat} {t : Track} {n : Nat} {p : Bytes} {test : Bool}

theorem State.enterUnwrapped_commits (hc : Canonical s) (hj : jobProgram (s.slot n).kind = none) :
    s.enterUnwrapped slot t n p test = ((s.setSlot n { s.slot n with attr := narrowed (s.slot n).attr p }).commitKey n
      (entering (s.slot n).kind (p.drop 16)) [] 2 test).complete slot St.ok 0 [] := by
  have hkept : ((s.setSlot n { s.slot n with attr := narrowed (s.slot n).attr p }).slot n).kind = (s.slot n).kind := by
    rw [State.slot_setSlot hc.slots, if_pos rfl, narrowed_kind]
  simp only [State.enterUnwrapped, hj, Option.isNone_none, if_true]
  rw [State.enterKey_commits (hkept ▸ hj), hkept]

theorem State.enterUnwrapped_starts {op : Nat} (hj : jobProgram (s.slot n).kind = some op)
    (hs : scalarCheck (s.slot n).kind (p.drop 16) = none) (he : s.engineCheck op = none) : s.enterUnwrapped slot t n p test =
    s.startOp slot { s.mkOp slot t op with key := p.drop 16, input := p, test := test, dest := some n } := by
  simp only [State.enterUnwrapped, hj, Option.isNone_some, Bool.false_eq_true, if_false]
  exact State.enterKey_starts hs hj he
end

/-- The KIND of a blob, and for a SECRET its length, are the destination's (R221). -/
theorem blobKind_pass {p : Bytes} {k : KeySlot} (hkind : blobKind p = k.kind) (hclen : k.kind = 3 → natAt p 7 = k.clen) :
    (blobKind p == k.kind && (k.kind != 3 || natAt p 7 == k.clen)) = true := by
  by_cases h3 : k.kind = 3
  · simp [hkind, hclen h3]
  · simp [hkind, h3]

/-- Settles O28: each command passes its checks; then a key enters its slot by the rule of its kind, and a blob is wrapped or opened. -/
theorem keyTransportComplete : Obligations.KeyTransportComplete := by
  unfold Obligations.KeyTransportComplete
  intro s slot t e
  refine ⟨?keyImport, ?keyDerive, ?keyWrap, ?keyUnwrap⟩
  case keyImport =>
    intro n k hb hz hbits hmod ho hplain hdest hd hl
    have enters : exec (.keyImport slot) s = .next (settle s (s.enterKey slot t n t.input [] 3 false)) :=
      exec_checked hb rfl rfl <| .cons (chk_pass hz) <| .cons (rsaBits_pass hbits) <| .cons ho <| .cons (chk_pass hplain) <|
        .cons hdest <| .cons hd <| .cons (chk_pass (beq_iff_eq.2 hl)) <| .cons (rsaModulus_pass hmod) .nil
    refine ⟨fun hj => ?_, fun op hj hs he => ?_, fun x hs => ?_⟩
    · rw [enters, State.enterKey_commits hj]
    · rw [enters, State.enterKey_starts hs hj he]
    · rw [enters, State.enterKey_outOfRange hs]
  case keyDerive =>
    intro n k ki hb hz hz' hkdf hlabel hoi ho hsource hdest hd hlo hhi hg key
    have hlen : within e.msgLen (e.pLE 42 2) (e.pLE 42 2 + 4096) = true := by simp [within, hlo, hhi]
    have hparams : (decide (e.p8 40 ≤ 1) && decide (e.pLE 42 2 ≤ 256)) = true := by simp [hkdf, hlabel]
    have derives : exec (.keyDerive slot) s = .next (settle s (if s.dge.freeLane.isSome then s.enterKey slot t n key [] 1 ki.test
        else ((s.claim n).busy slot).modDge fun d => { d with cmds := d.cmds ++ [
          { slot := slot, order := t.order, key := key, test := ki.test, dest := some n, internal := true }] })) :=
      (exec_checked hb rfl rfl <| .cons (chk_pass (Bool.and_eq_true_iff.2 ⟨hz, hz'⟩)) <| .cons (chk_pass hparams) <|
        .cons hoi <| .cons ho <| .cons hsource <| .cons hdest <| .cons hd <| .cons (chk_pass hlen) .nil).trans
        (by rw [State.readSlots_sound hg])
    refine ⟨fun hlane hj => ?_, fun op hlane hj he => ?_, fun hlane => ?_⟩
    · rw [derives, if_pos hlane, State.enterKey_commits hj]
    · rw [derives, if_pos hlane, State.enterKey_starts (scalarCheck_of_derivable (State.destState_kindOk hdest) _) hj he]
    · rw [derives, hlane, if_neg (by simp)]
  case keyWrap =>
    intro w k hb hz hz' hm how hok hsource hexport hd hlen hgw hgk
    refine (exec_checked hb rfl rfl <| .cons (chk_pass (Bool.and_eq_true_iff.2 ⟨hz, hz'⟩)) <| .cons (chk_pass (beq_iff_eq.2 hm)) <|
      .cons how <| .cons hok <| .cons hsource <| .cons hexport <| .cons hd (outHolds_pass hlen)).trans ?_
    rw [State.readSlots_allSound (by simpa using ⟨hgw, hgk⟩)]
  case keyUnwrap =>
    intro n u k opened hb hz hz' hou ho hsource hdest hd hl hg p
    have unwraps : exec (.keyUnwrap slot) s = .next (settle s (s.checked slot
        [chk (Config.stdHolds .aesKwpOk 0 [u.content, t.input]) St.verifyFail 0x70, chk (blobOk p) St.badParam 0x71,
          chk (blobKind p == k.kind && (k.kind != 3 || natAt p 7 == k.clen)) St.keyPolicy 0x50]
        (s.enterUnwrapped slot t n p u.test))) :=
      (exec_checked hb rfl rfl <| .cons (chk_pass (Bool.and_eq_true_iff.2 ⟨hz, hz'⟩)) <| .cons hou <| .cons ho <|
        .cons hsource <| .cons hdest <| .cons hd <| .cons (chk_pass (beq_iff_eq.2 hl)) .nil).trans
        (by rw [State.readSlots_sound hg]; rfl)
    refine ⟨fun hbad => ?_, fun hc hsound hblob hkind hclen hj => ?_, fun op hsound hblob hkind hj hs he => ?_⟩
    · rw [unwraps, hbad, State.checked_fails ⟨rfl, by decide⟩, State.reject_eq_fail (by decide)]
    · have hkinds := blobKind_pass hkind hclen
      rw [unwraps, State.checked_passes <| .cons (chk_pass hsound) <| .cons (chk_pass hblob) <| .cons (chk_pass hkinds) .nil,
        State.enterUnwrapped_commits hc hj]
    · have hkinds := blobKind_pass (k := k) hkind fun h3 => by rw [h3] at hj; cases hj
      rw [unwraps, State.checked_passes <| .cons (chk_pass hsound) <| .cons (chk_pass hblob) <| .cons (chk_pass hkinds) .nil,
        State.enterUnwrapped_starts hj hs he]

end Sys2Proof.Machine
end

section
/-!
PROOF. The two health tests over any sequence of samples (R181).
-/
namespace Sys2Proof.Machine
open Sys2Proof

/-! ### One sample -/

section
variable (p : Pair) (b : Bool)

theorem Pair.test_lastBit : (p.test b).1.lastBit = some b := rfl

theorem Pair.test_run : (p.test b).1.run = if p.lastBit = some b then p.run + 1 else 1 := rfl

theorem Pair.test_aptPos : (p.test b).1.aptPos = (p.aptPos + 1) % 1024 := rfl

variable {p} (h : p.aptPos ≠ 0)
include h

/-- Within a window the first sample stays, and one more is counted where it is equal to the first. -/
theorem Pair.test_aptFirst : (p.test b).1.aptFirst = p.aptFirst := if_neg h

theorem Pair.test_aptCount : (p.test b).1.aptCount = p.aptCount + b2n (b == p.aptFirst) := by
  simp [Pair.test, h]
end

/-! ### The repetition count -/

/-- The pair fed with samples that are listed newest first. -/
def Pair.fed (l : List Bool) : Pair := l.foldr (fun b p => (p.test b).1) {}

theorem Pair.fed_cons (b : Bool) (l : List Bool) : Pair.fed (b :: l) = ((Pair.fed l).test b).1 := rfl

/-- The length of the run of equal bits that a list begins with. -/
def headRun (l : List Bool) : Nat := (l.takeWhile (· == l.headD true)).length

theorem headRun_singleton (b : Bool) : headRun [b] = 1 := by simp [headRun]

theorem headRun_cons_cons (b c : Bool) (l : List Bool) : headRun (b :: c :: l) = if c = b then headRun (c :: l) + 1 else 1 := by
  unfold headRun
  split
  · next h => simp [h]
  · next h => simp [h]

theorem Pair.fed_lastBit (l : List Bool) : (Pair.fed l).lastBit = l.head? := by
  cases l with
  | nil => rfl
  | cons b l => rw [Pair.fed_cons, Pair.test_lastBit, List.head?_cons]

theorem Pair.fed_run : ∀ l : List Bool, (Pair.fed l).run = headRun l
  | [] => rfl
  | [b] => (headRun_singleton b).symm
  | b :: c :: l => by
    rw [Pair.fed_cons b, Pair.test_run, Pair.fed_run (c :: l), Pair.fed_lastBit, headRun_cons_cons]
    simp only [List.head?_cons, Option.some_inj]

/-! ### The adaptive proportion -/

/-- Until its window ends, a pair counts the samples equal to the window's first. -/
theorem Pair.foldl_test_aptCount (l : List Bool) {p : Pair} (h : p.aptPos ≠ 0) (hl : p.aptPos + l.length < 1024) :
    (l.foldl (fun p b => (p.test b).1) p).aptCount = p.aptCount + l.countP (· == p.aptFirst) := by
  induction l generalizing p with
  | nil => rfl
  | cons b l ih =>
    rw [List.length_cons] at hl
    have hpos : (p.test b).1.aptPos = p.aptPos + 1 := (Pair.test_aptPos p b).trans (Nat.mod_eq_of_lt (by omega))
    rw [List.foldl_cons, ih (by omega) (by omega), Pair.test_aptFirst b h, Pair.test_aptCount b h, List.countP_cons, b2n]
    omega

/-- Settles O23: the repetition count by recursion from the newest sample, the adaptive proportion by induction over the window. -/
theorem healthTestCounts : Obligations.HealthTestCounts := by
  unfold Obligations.HealthTestCounts
  intro first bits
  refine ⟨?_, fun hl => ?_⟩
  · have hfed : (first :: bits).foldl (fun p b => (p.test b).1) {} = Pair.fed (first :: bits).reverse := (List.foldr_reverse ..).symm
    exact (congrArg Pair.run hfed).trans (Pair.fed_run _)
  · have hpos : (({} : Pair).test first).1.aptPos = 1 := rfl
    have hcount := Pair.foldl_test_aptCount bits (p := (({} : Pair).test first).1) (by rw [hpos]; decide) (by rw [hpos]; omega)
    refine hcount.trans ?_
    rw [← List.countP_eq_length_filter, List.countP_cons_of_pos (by simp), Nat.add_comm]
    rfl

end Sys2Proof.Machine
end

section
/-!
PROOF. The entropy source: each event of the pairs, the conditioner, the channels, the DRBG instances and the random-word FIFOs by the case its
premises pick, and the three entropy commands (chapter 7).
-/
namespace Sys2Proof.Machine
open Sys2Proof

/-! ### A sample of a pair (R182, R191, R200) -/

section
variable {s : State} {n : Nat} {p : Pair} (hp : s.rng.pairs[n]? = some p) (hr : s.rng.running = true)
include hp hr

section
variable {k : Nat} (hs : p.starting = some k)
include hs

theorem execPairSample_warmUp (b : Bool) (hk : k < 1024) :
    execPairSample n b s = answer s ((s.feedRaw n b).modPair n fun p => { p with starting := some (k + 1) }) := by
  simp [execPairSample, hp, hr, hs, hk]

theorem execPairSample_startTest (b : Bool) (hlo : 1024 ≤ k) (hhi : k < 2048) : execPairSample n b s =
    answer s (((s.feedRaw n b).modPair n fun _ => (p.startTest k b).1).countHealth (p.startTest k b).2.1 (p.startTest k b).2.2) := by
  simp [execPairSample, hp, hr, hs, Nat.not_lt.2 hlo, hhi]
end

section
variable (hs : p.starting = none)
include hs

section
variable (hi : p.inService = true)
include hi

theorem execPairSample_passes {b : Bool} (hraw : s.rng.rawReads = []) (ht : (p.test b).2 = (false, false)) : execPairSample n b s =
    answer s (((s.feedRaw n b).modPair n fun _ => (p.test b).1).modRng fun r => { r with raw := r.raw ++ [b] }) := by
  simp [execPairSample, hp, hr, hs, hi, hraw, ht]

theorem execPairSample_fails {b x y : Bool} (ht : (p.test b).2 = (x, y)) (hxy : (x || y) = true) :
    execPairSample n b s = answer s (((s.feedRaw n b).modPair n fun _ => (p.test b).1).pairFails n x y) := by
  simp only [execPairSample, hp, hr, hs, hi, ht, hxy, if_true, Bool.true_eq_false, if_false]
end

theorem execPairSample_rawRead {r : RawRead} (b : Bool) (hi : p.inService = false) (hm : r ∈ s.rng.rawReads) (hn : r.pair = n) :
    execPairSample n b s = answer s (((s.feedRaw n b).modPair n fun _ => (p.test b).1).countHealth ((p.test b).1.run == 61)
      ((p.test b).1.aptCount == 812 && b == (p.test b).1.aptFirst)) := by
  have hreading : (s.rng.rawReads.any fun r => r.pair == n) = true := List.any_eq_true.2 ⟨r, hm, beq_iff_eq.2 hn⟩
  simp only [execPairSample, hp, hr, hs, hi, hreading, if_true, Bool.true_eq_false, Bool.false_eq_true, if_false]
end
end

/-! ### The conditioner and the channels (R183, R185) -/

theorem execBlockConditioned_forms {s : State} (hr : s.rng.running = true) (hl : 1024 ≤ s.rng.raw.length) :
    execBlockConditioned s = answer s (((((s.modRng fun r =>
      { r with raw := r.raw.drop 1024, ctr := r.ctr + 1 }).modReg Reg.rngBlockCount (· + 1)).fitFills).deliver
        (sha3_256 (bitBytes 128 (s.rng.raw.take 1024) ++ toLE 8 s.rng.ctr))).continueBoot) := by
  simp only [execBlockConditioned, hr, hl, and_self, if_true]

/-- A channel at its reseed point, before it takes a seed. -/
def MaskChan.atReseedPoint (m : MaskChan) : MaskChan := { m with words := m.words - reseedWords, state := lfsrJump reseedSteps m.state }

section
variable {s : State} {c : Nat} {m : MaskChan} (hm : s.rng.chans[c]? = some m) (hs : m.seeded = true) (hr : m.stopped = false)
  (hp : s.maskPowered c = true)
include hm hs hr hp

theorem execChannelReseed_takes {seed : Bytes} {rest : List Bytes} (hq : m.queue = seed :: rest) : execChannelReseed c s = answer s
    (((s.modMask c fun _ => { m.atReseedPoint with queue := rest }.absorb seed).modReg Reg.rngReseedCount (· + 1)).allocateAll) := by
  simp [execChannelReseed, MaskChan.atReseedPoint, hm, hs, hr, hp, hq]

theorem execChannelReseed_holds (hq : m.queue = []) (hc : c < 16 ∨ s.runsOwnJob c = true) : execChannelReseed c s =
    answer s ((s.modMask c fun _ => { m.atReseedPoint with hold := true }).count Reg.rngHoldCount) := by
  simp [execChannelReseed, MaskChan.atReseedPoint, hm, hs, hr, hp, hq, hc]

theorem execChannelReseed_stops (hq : m.queue = []) (hc : 16 ≤ c) (hj : s.runsOwnJob c = false) : execChannelReseed c s =
    answer s ((s.modMask c fun _ => { m.atReseedPoint with stopped := true }).count Reg.rngStopCount) := by
  simp [execChannelReseed, MaskChan.atReseedPoint, hm, hs, hr, hp, hq, hj, Nat.not_lt.2 hc]
end

/-! ### The DRBG instances (R189) -/

theorem State.askReseed_asks {s : State} {i : Nat} (hl : (s.drbg i).live = true) (hd : (s.drbg i).reseedDue = false) :
    s.askReseed i = ((s.modDrbg i fun d => { d with reseedDue := true, dueOrder := s.rng.dueSeq }).modRng fun r =>
      { r with dueSeq := r.dueSeq + 1 }).allocateAll := if_pos ⟨hl, hd⟩

theorem execDrbgStop_stops {s : State} {i : Nat} (hl : (s.drbg i).live = true) (hd : (s.drbg i).reseedDue = true) :
    execDrbgStop i s = answer s (s.modDrbg i fun d => { d with stopped := true }) := congrArg (answer s) (if_pos ⟨hl, hd⟩)

/-! ### Start-up tests and the floor (R191, R194) -/

theorem State.log_rng (s : State) (e : LogEntry) : (s.log e).rng = s.rng := by
  unfold State.log State.logAt
  dsimp only
  split <;> rfl

theorem State.pairTested_start (s : State) (n : Nat) (pass : Bool) : (s.pairTested n pass).rng.start = s.rng.start := by
  cases pass with
  | true => rfl
  | false =>
    simp only [State.pairTested, Bool.false_eq_true, if_false, State.log_rng]
    rfl

/-- The entries that end change nothing of the entropy source. -/
theorem State.endRestores_start (s : State) (n : Nat) (pass : Bool) : (s.endRestores n pass).rng.start = s.rng.start := by
  refine List.foldlRecOn (motive := fun u : State => u.rng.start = s.rng.start) _ _ rfl fun u hu r _ => ?_
  split
  · rw [State.complete_rng, hu]
  · split
    · rw [State.complete_rng, hu]
    · rw [State.complete_rng, hu]

/-- Outside a start-up of the source, the end of a pair's test ends no round. -/
theorem execStartupTestEnd_restored {s : State} {n : Nat} {p : Pair} (hp : s.rng.pairs[n]? = some p) (hs : p.starting = some 2048)
    (hn : s.rng.start = none) : execStartupTestEnd n s =
    answer s (((s.pairTested n (!p.suFailed)).endRestores n (!p.suFailed)).checkFault.tryReady.continueBoot) := by
  have hstart : ((s.pairTested n (!p.suFailed)).endRestores n (!p.suFailed)).rng.start = none := by
    rw [State.endRestores_start, State.pairTested_start, hn]
  simp only [execStartupTestEnd, hp, hs, Option.getD_some, Nat.le_refl, if_true, hstart]

theorem execMinPairsWrite_on {s : State} (v : W32) (ho : s.regsOpen = true) (hb : s.blockDown Reg.rngCtrl = false) :
    execMinPairsWrite v s = answer s (s.plainWrite Reg.rngCtrl v).checkFault :=
  congrArg (answer s) (State.regWrite_on ho hb)

/-! ### Random words (R198) -/

theorem execRngFifoRefill_serves {s : State} {i : Nat} (hd : s.drbgServes 3 = true)
    (hi : ((List.range 256).find? fun i => s.fifoRoom ((s.rng.lastServed + 1 + i) % 256)) = some i) :
    let f := (s.rng.lastServed + 1 + i) % 256
    let d := s.draw 3 16
    execRngFifoRefill s = answer s ((d.2.setFunc f { d.2.func f with
      fifo := (d.2.func f).fifo ++ (List.range 4).map fun j => BitVec.ofNat 32 (leAt d.1 (4 * j) 4) }).modRng fun r =>
        { r with lastServed := f }) := by
  simp only [execRngFifoRefill, hi, hd, if_true]

section
variable {s : State} {f : Nat}

theorem State.readWord_answers {w : W32} {ws : List W32} (status : Nat) (hf : (s.func f).fifo = w :: ws) (hd : s.drbgServes 3 = true) :
    s.readWord f status = (s.setFunc f { s.func f with fifo := ws }).emit (.readData w) := by
  simp only [State.readWord, hf, hd, if_true]

theorem State.readWord_underruns (status : Nat) (hf : (s.func f).fifo = []) (hn : s.rng.fault = false) :
    s.readWord f status = (s.raise status 1).emit (.readData 0) := by
  simp only [State.readWord, hf, hn, Bool.false_eq_true, if_false]
end

theorem execRngDataRead_on {s : State} (ho : s.regsOpen = true) (hb : s.blockDown Reg.rngData = false) :
    execRngDataRead s = answer s (s.readWord 0 Reg.rngDataStatus) := by
  simp only [State.regsOpen, Bool.and_eq_true, bne_iff_ne] at ho
  exact congrArg (answer s) (State.regRead_on ho.1 ho.2 hb)

theorem execVfRngDataRead_on {s : State} {f : Nat} (hf : f ≠ 0) (hp : s.funcPresent f = true) (hr : s.lcs.phase ≠ .reset)
    (ht : s.lcs.state ≠ .terminated) (hb : s.blockDown (Reg.vfRngData + 0x10000 * f) = false) :
    execVfRngDataRead f s = answer s (s.readWord f (Reg.vfRngStatus + 0x10000 * f)) := by
  rw [execVfRngDataRead, if_neg (by simp [hf, hp]), State.regRead_on hr ht hb]

/-- Settles O24: each event by the equation of the case that its premises pick. -/
theorem entropyEventsComplete : Obligations.EntropyEventsComplete := by
  unfold Obligations.EntropyEventsComplete
  intro s
  refine ⟨fun n p b hp hr hraw hs hi ht => execPairSample_passes hp hr hs hi hraw ht,
    fun n p b x y hp hr hs hi ht hxy => execPairSample_fails hp hr hs hi ht hxy,
    fun n k p b hp hr hs hk => execPairSample_warmUp hp hr hs b hk,
    fun n k p b hp hr hs hlo hhi => execPairSample_startTest hp hr hs b hlo hhi,
    fun n p b r hp hr hs hi hm hn => execPairSample_rawRead hp hr hs b hi hm hn, execBlockConditioned_forms,
    fun c m hm hs hr hp => ⟨fun seed rest hq => execChannelReseed_takes hm hs hr hp hq,
      fun hq hc => execChannelReseed_holds hm hs hr hp hq hc, fun hq hc hj => execChannelReseed_stops hm hs hr hp hq hc hj⟩,
    fun i hl hd => congrArg (answer s) (State.askReseed_asks hl hd), fun i hl hd => execDrbgStop_stops hl hd,
    fun n p hp hs hn => execStartupTestEnd_restored hp hs hn, fun v ho hb => execMinPairsWrite_on v ho hb,
    fun i hi hd => execRngFifoRefill_serves hd hi, fun w ws ho hb hf hd => ?_, fun ho hb hf hn => ?_,
    fun f w ws h0 hp hr ht hb hf hd => ?_⟩
  · exact (execRngDataRead_on ho hb).trans (congrArg (answer s) (State.readWord_answers _ hf hd))
  · exact (execRngDataRead_on ho hb).trans (congrArg (answer s) (State.readWord_underruns _ hf hn))
  · exact (execVfRngDataRead_on h0 hp hr ht hb).trans (congrArg (answer s) (State.readWord_answers _ hf hd))

/-! ### The entropy commands (R200, R201) -/

/-- A check on a field that both of two conditions decide passes where the second holds. -/
theorem and_pass {a b : Bool} (hb : b = true) : (a && b) = a := by rw [hb, Bool.and_true]

section
variable {s : State} {slot : Nat} {t : Track}

section
variable (hb : Begun s slot 0x400 0x400 t) (hpr : t.entry.p8 44 ≤ 1)
  (hc : Passes (rngChecks t (t.entry.zeroFrom 45 55) (within (t.entry.pLE 40 4) 1 65536) (t.entry.pLE 40 4)))
include hb hpr hc

/-- An RNG_GENERATE whose checks pass ends in ENTROPY_FAULT, waits for the reseed that PR = 1 asks for, or draws. -/
theorem exec_rngGenerate : exec (.rngGenerate slot) s = answer s
    (if s.rng.fault then (s.forgetUnit slot).fail slot (St.entropyFault, 0x60)
     else if decide (t.entry.p8 44 = 1) ∧ !s.rng.prDone.contains slot ∧ s.rng.ready = true then
       if s.rng.prWait.contains slot then s.waitEntropy slot
       else ((s.waitEntropy slot).modRng fun r => { r with prWait := r.prWait ++ [slot] }).askReseed 2
     else s.entropyStep slot 2
       (((s.draw 2 (t.entry.pLE 40 4)).2.modRng fun r => { r with prDone := r.prDone.filter (· != slot) }).complete slot St.ok 0
         (s.draw 2 (t.entry.pLE 40 4)).1)) := by
  have hz : (t.entry.zeroFrom 45 55 && decide (t.entry.p8 44 ≤ 1)) = t.entry.zeroFrom 45 55 := and_pass (decide_eq_true hpr)
  exact exec_checked hb rfl rfl (by rw [hz]; exact hc)
end

/-- RNG_RAW_READ waits for its samples. -/
theorem exec_rngRawRead (hb : Begun s slot 0x401 0x401 t) (hn : t.entry.p8 44 ≤ 7)
    (hc : Passes (rngChecks t (t.entry.zeroFrom 45 55) (within (t.entry.pLE 40 4) 1 4096) (t.entry.pLE 40 4))) :
    exec (.rngRawRead slot) s = answer s ((s.busy slot).modRng fun r =>
      { r with rawReads := r.rawReads ++ [⟨slot, t.entry.p8 44, 8 * t.entry.pLE 40 4, []⟩] }) := by
  have hrange : (within (t.entry.pLE 40 4) 1 4096 && decide (t.entry.p8 44 ≤ 7)) = within (t.entry.pLE 40 4) 1 4096 :=
    and_pass (decide_eq_true hn)
  exact exec_checked hb rfl rfl (by rw [hrange]; exact hc)

/-- An RNG_PAIR_RESTORE whose checks pass ends at once or waits for a test, which it begins where none runs. -/
theorem exec_rngPairRestore {p : Pair} (hb : Begun s slot 0x402 0x402 t) (hz : t.entry.zeroFrom 40 43 = true) (hn : t.entry.p8 44 ≤ 7)
    (hc : Passes (rngChecks t (t.entry.zeroFrom 45 55) true 0)) (hp : s.rng.pairs[t.entry.p8 44]? = some p) :
    exec (.rngPairRestore slot) s = answer s
      (if p.inService then s.complete slot St.ok 0 []
       else ((if p.starting.isSome then s else s.startPair (t.entry.p8 44)).busy slot).modRng fun r =>
         { r with restores := r.restores ++ [{ slot := slot, pair := t.entry.p8 44 }] }) := by
  have hget : s.rng.pairs.getD (t.entry.p8 44) {} = p := by rw [List.getD_eq_getElem?_getD, hp, Option.getD_some]
  have hzero : (t.entry.zeroFrom 40 43 && t.entry.zeroFrom 45 55) = t.entry.zeroFrom 45 55 := by rw [hz, Bool.true_and]
  rw [← hget]
  exact exec_checked hb rfl rfl (by rw [hzero, decide_eq_true hn]; exact hc)
end

/-- Settles O25: each command by its rule, and then by the branch that its premises pick. -/
theorem entropyCommandsComplete : Obligations.EntropyCommandsComplete := by
  unfold Obligations.EntropyCommandsComplete
  intro s slot t
  dsimp only
  refine ⟨fun hb hpr hc hs hf => ?_, fun hb hpr hc hf hr hd hw => ?_, fun hb hpr hc hf => ?_,
    fun hb hn hc => exec_rngRawRead hb hn hc, fun p hb hz hn hc hp => ?_⟩
  · rw [exec_rngGenerate hb (by omega) hc, if_neg (by simp [hf]), if_neg (by simp [hpr]), State.entropyStep_serves hf hs]
    rfl
  · rw [exec_rngGenerate hb hpr.le hc, if_neg (by simp [hf]), if_pos ⟨decide_eq_true hpr, by simp only [hd, Bool.not_false], hr⟩,
      if_neg (by simp only [hw, Bool.false_eq_true, not_false_eq_true])]
    rfl
  · rw [exec_rngGenerate hb hpr hc, if_pos hf]
    rfl
  · rw [exec_rngPairRestore hb hz hn hc hp]
    cases p.inService with
    | true => rfl
    | false => cases p.starting <;> rfl

end Sys2Proof.Machine
end

section
/-!
PROOF. The word of Table 8.1 that a commit leaves (R205, R217): the template's bits and those that the commit writes do not overlap.
-/
namespace Sys2Proof.Machine
open Sys2Proof

/-- What a commit writes beside the template: VALID, ORIGIN and TEST. -/
def commitBits (origin : Nat) (test : Bool) : W64 := BitVec.ofNat 64 (1 + 2 ^ 32 * origin + 2 ^ 34 * b2n test)

theorem committedAttr_eq (attr : W64) (origin : Nat) (test : Bool) :
    committedAttr attr origin test = attr &&& templateMask ||| commitBits origin test := rfl

theorem commitBits_fields : ∀ (origin : Fin 4) (test : Bool),
    let v := commitBits origin test
    v.getLsbD 0 = true ∧ v.getLsbD 1 = false ∧ (v.extractLsb 33 32).toNat = origin ∧ v.getLsbD 34 = test ∧ v &&& templateMask = 0 := by
  decide

theorem bitOf_eq_getLsbD (w : W64) (i : Nat) : bitOf w.toNat i = w.getLsbD i := by
  simp [bitOf, BitVec.getLsbD, Nat.testBit, Nat.shiftRight_eq_div_pow, Nat.one_and_eq_mod_two]

section
variable (attr : W64) (origin : Nat) (test : Bool)

/-- A bit that is none of the template's is as the commit writes it. -/
theorem bitOf_committedAttr {i : Nat} (h : templateMask.getLsbD i = false) :
    bitOf (committedAttr attr origin test).toNat i = (commitBits origin test).getLsbD i := by
  rw [bitOf_eq_getLsbD, committedAttr_eq, BitVec.getLsbD_or, BitVec.getLsbD_and, h, Bool.and_false, Bool.false_or]

theorem origin_committedAttr :
    bitsOf (committedAttr attr origin test).toNat 33 32 = ((commitBits origin test).extractLsb 33 32).toNat := by
  have hmask : templateMask.extractLsb 33 32 = 0#_ := by decide
  rw [bitsOf_eq_extractLsb, committedAttr_eq, BitVec.extractLsb_or, BitVec.extractLsb_and, hmask, BitVec.and_zero, BitVec.zero_or]

theorem template_committedAttr (h : commitBits origin test &&& templateMask = 0) :
    committedAttr attr origin test &&& templateMask = attr &&& templateMask := by
  rw [committedAttr_eq, BitVec.and_or_distrib_right, BitVec.and_assoc, BitVec.and_self, h]
  exact BitVec.or_zero
end

/-- Settles O26: the commit's own bits by their four places, and the template's because the two parts share no bit. -/
theorem attributeWordAfterCommit : Obligations.AttributeWordAfterCommit := by
  unfold Obligations.AttributeWordAfterCommit
  intro attr origin test horigin
  obtain ⟨hvalid, hclaimed, hfield, htest, hdisjoint⟩ := commitBits_fields ⟨origin, horigin⟩ test
  refine ⟨?_, ?_, ?_, ?_, template_committedAttr attr origin test hdisjoint⟩
  · rw [bitOf_committedAttr attr origin test (by decide), hvalid]
  · rw [bitOf_committedAttr attr origin test (by decide), hclaimed]
  · rw [origin_committedAttr, hfield]
  · rw [bitOf_committedAttr attr origin test (by decide), htest]

end Sys2Proof.Machine
end

section
/-!
PROOF. The key-store commands of Table 8.9 that move no key material in or out (R206 to R232): each passes its checks in the order of the table,
and its effect follows.
-/
namespace Sys2Proof.Machine
open Sys2Proof

/-! ### Single checks -/

theorem WorkEntry.noInput_pass {e : WorkEntry} (h : e.msgLen = 0) : e.noInput = none := chk_pass (beq_iff_eq.2 h)

/-- A command that takes neither input nor a key. -/
theorem noInputNoKey_pass {e : WorkEntry} (hl : e.msgLen = 0) (hn : e.keySlot = noSlot) : (e.msgLen == 0 && e.keySlot == noSlot) = true := by
  simp [hl, hn]

/-- A field of one bit, and the reserved bytes behind it. -/
theorem flagAndZeros_pass {v : Nat} {zero : Bool} (hv : v < 2) (hz : zero = true) : (decide (v < 2) && zero) = true := by
  simp [hv, hz]

theorem length_runSlots (kind n : Nat) : (runSlots kind n).length = runLength kind := by simp [runSlots]

/-- KEY_RANGE_SET looks at a base only where the range has slots (R211). -/
theorem rangeBounds_pass {base count : Nat} (h : count ≠ 0 → 16 ≤ base ∧ base + count ≤ 4096) :
    val (count == 0 || (decide (16 ≤ base) && decide (base + count ≤ 4096))) = none := by
  by_cases hc : count = 0
  · exact chk_pass (by simp [hc])
  · exact chk_pass (by simp [h hc])

/-! ### KEY_GENERATE (R217) -/

/-- The draw of KEY_GENERATE and the commit of what it drew. -/
def State.generateKey (s : State) (slot n : Nat) : State :=
  let d := s.draw 0 (contentLen (s.slot n).kind (s.slot n).clen)
  (d.2.commitKey n d.1 [] 0 false).complete slot 0 0 []

section
variable {s : State} {slot : Nat} {t : Track} (hb : Begun s slot 0x501 0x501 t)
include hb

/-- A KEY_GENERATE whose checks pass claims its slot before its entropy step. -/
theorem exec_keyGenerate_first (hfirst : t.step8 = false) (hz : t.entry.zeroFrom 40 55 = true) (hm : t.entry.msgLen = 0)
    (hdest : Passes (s.destKey t.func t.entry.keySlot (fun k => within k 1 3))) (hd : t.dmaFail = none) :
    let u := (s.claim t.entry.keySlot).waitEntropy slot
    exec (.keyGenerate slot) s = .next (settle s (u.entropyStep slot 0 (u.generateKey slot t.entry.keySlot))) := by
  have hchecks : Passes ([chk (t.entry.zeroFrom 40 55) St.badParam 0, t.entry.noInput] ++
      s.destKey t.func t.entry.keySlot (fun k => within k 1 3) ++ [t.dmaFail]) :=
    .append (.append (.cons (chk_pass hz) <| .cons (WorkEntry.noInput_pass hm) .nil) hdest) (.cons hd .nil)
  exact exec_checked hb rfl (by rw [hfirst]; rfl) hchecks

/-- After a wait for entropy its checks stand and its slot is claimed. -/
theorem exec_keyGenerate_waited (hwaited : t.step8 = true) :
    exec (.keyGenerate slot) s = .next (settle s (s.entropyStep slot 0 (s.generateKey slot t.entry.keySlot))) := by
  rw [exec_begun (c := .keyGenerate slot) hb rfl, if_pos hwaited]
  rfl
end

/-! ### The commands -/

/-- Settles O27: each command passes its checks in the order of Table 8.9, a draw is served at once, and its effect follows. -/
theorem keyCommandsComplete : Obligations.KeyCommandsComplete := by
  unfold Obligations.KeyCommandsComplete
  intro s slot t e n k
  refine ⟨?keyPrepare, ?keyGenerate, ?keyGenerateWaited, ?keyDelete, ?keyRestrict, ?keyQuery, ?keyRangeSet, ?keyBvrInit, ?rederive⟩
  case keyPrepare =>
    intro w run hb hz hm htemplate husage ho hlocked hempty hd
    have hopen : s.openSlot t.func n noDevice (runLength (bitsOf w.toNat 11 4)) = none := length_runSlots _ n ▸ ho
    have hnoneLocked : (run.all fun i => !(s.slot i).locked) = true := List.all_eq_true.2 fun i hi => by simp [hlocked i hi]
    have hallEmpty : (run.all fun i => !(s.slot i).valid && !(s.slot i).claimed) = true :=
      List.all_eq_true.2 fun i hi => by simp [hempty i hi]
    exact exec_checked hb rfl rfl <| .cons (chk_pass hz) <| .cons (WorkEntry.noInput_pass hm) <| .cons (chk_pass htemplate) <|
      .cons (chk_pass husage) <| .cons hopen <| .cons (chk_pass hnoneLocked) <| .cons (chk_pass hallEmpty) <| .cons hd .nil
  case keyGenerate =>
    intro hb hfirst hz hm hdest hd u hf hs
    exact (exec_keyGenerate_first hb hfirst hz hm hdest hd).trans (by rw [State.entropyStep_serves hf hs]; rfl)
  case keyGenerateWaited =>
    intro hb hwaited hf hs
    exact (exec_keyGenerate_waited hb hwaited).trans (by rw [State.entropyStep_serves hf hs]; rfl)
  case keyDelete =>
    intro hb hmode hz hm ho hc hd
    have hrun : (s.orphanTree n).clearRun n (decide (e.p8 40 = 1)) =
        (s.orphanTree n).modRun n fun k => if e.p8 40 = 1 then {} else k.cleared := by
      simp only [State.clearRun, decide_eq_true_eq]
    rw [← hrun]
    exact exec_checked hb rfl rfl <| .cons (chk_pass (flagAndZeros_pass hmode hz)) <| .cons (WorkEntry.noInput_pass hm) <| .cons ho <|
      .cons (chk_pass (by rw [hc]; rfl)) <| .cons hd .nil
  case keyRestrict =>
    intro hb hlock hz hm hclear ho hl hd
    exact exec_checked hb rfl rfl <| .cons (chk_pass (flagAndZeros_pass hlock hz)) <| .cons (WorkEntry.noInput_pass hm) <|
      .cons (chk_pass (beq_iff_eq.2 hclear)) <| .cons ho <| .cons (chk_pass (by rw [hl]; rfl)) <| .cons hd .nil
  case keyQuery =>
    intro hb hz hm ho hdevice hd hcap hg
    have hfilled : (decide (16 ≤ n) || k.valid) = true := by
      rcases Nat.lt_or_ge n 16 with h | h
      · rw [hdevice h, Bool.or_true]
      · rw [decide_eq_true h, Bool.true_or]
    refine (exec_checked hb rfl rfl <| .cons (chk_pass hz) <| .cons (WorkEntry.noInput_pass hm) <| .cons ho <|
      .cons (chk_pass hfilled) <| .cons hd (outHolds_pass hcap)).trans ?_
    rw [State.readSlots_sound hg]
  case keyRangeSet =>
    intro base hb hz hplain hz' hm hn hbounds hoverlap huse hd
    exact exec_checked hb rfl rfl <| .cons (chk_pass (by simp [e, hz, hplain, hz'])) <| .cons (chk_pass (noInputNoKey_pass hm hn)) <|
      .cons (rangeBounds_pass hbounds) <| .cons (chk_pass (by rw [hoverlap, huse]; rfl)) <| .cons hd .nil
  case keyBvrInit =>
    intro hb hz hm hn hstate hpolicy hbvr hd hf hs
    refine (exec_checked hb rfl rfl <| .cons (chk_pass hz) <| .cons (chk_pass (noInputNoKey_pass hm hn)) <|
      .cons (chk_pass (by rw [hstate, hpolicy]; rfl)) <| .cons (chk_pass (bne_iff_ne.2 hbvr)) <| .cons hd .nil).trans ?_
    rw [State.entropyStep_serves hf hs]
  case rederive =>
    intro m hfailed hboot
    exact congrArg (answer s) ((if_pos hfailed).trans (if_pos hboot))

end Sys2Proof.Machine
end

section
/-!
PROOF. The sum of a check-value unit (R251, R252): it stays within W bits, so that a turn into output orientation and back leaves it, and
absorbing is one pass over the bytes.
-/
namespace Sys2Proof.Machine
open Sys2Proof

/-! ### Numbers of W bits -/

theorem reflect_lt (w v : Nat) : reflect w v < 2 ^ w := by
  induction w generalizing v with
  | zero => exact Nat.one_pos
  | succ w ih =>
    have hlow : reflect w (v / 2) < 2 ^ w := ih _
    have htop : v % 2 * 2 ^ w ≤ 1 * 2 ^ w := Nat.mul_le_mul_right _ (by omega)
    rw [reflect, Nat.pow_succ]
    omega

/-- Bit i of a reflection is bit w - 1 - i of the number. -/
theorem testBit_reflect (w v i : Nat) : (reflect w v).testBit i = (decide (i < w) && v.testBit (w - 1 - i)) := by
  induction w generalizing v with
  | zero => simp [reflect]
  | succ w ih =>
    rw [reflect, Nat.mul_comm, Nat.testBit_two_pow_mul_add _ (reflect_lt w _), ih]
    rcases lt_trichotomy i w with h | rfl | h
    · have hpred : w - i = w - 1 - i + 1 := by omega
      simp [h, Nat.lt_succ_of_lt h, hpred, Nat.testBit_add_one]
    · simp
    · have hbeyond : v % 2 < 2 ^ (i - w) := (Nat.mod_lt v two_pos).trans_le (Nat.le_self_pow (by omega) 2)
      simp [show ¬ i < w by omega, show ¬ i < w + 1 by omega, Nat.testBit_lt_two_pow hbeyond]

theorem reflect_reflect {w v : Nat} (h : v < 2 ^ w) : reflect w (reflect w v) = v := by
  refine Nat.eq_of_testBit_eq fun i => ?_
  rw [testBit_reflect, testBit_reflect]
  by_cases hi : i < w
  · simp [hi, show w - 1 - i < w by omega, show w - 1 - (w - 1 - i) = i by omega]
  · have hbeyond : v < 2 ^ i := h.trans_le (Nat.pow_le_pow_right two_pos (by omega))
    simp [hi, Nat.testBit_lt_two_pow hbeyond]

section
variable {w poly : Nat} (hp : poly < 2 ^ w)
include hp

theorem crcBit_lt (sum : Nat) (b : Bool) : crcBit w poly sum b < 2 ^ w := by
  have hshifted : sum * 2 % 2 ^ w < 2 ^ w := Nat.mod_lt _ (Nat.two_pow_pos w)
  unfold crcBit
  dsimp only
  split
  · exact Nat.xor_lt_two_pow hshifted hp
  · exact hshifted

theorem crcByte_lt {sum : Nat} (refin : Bool) (b : Nat) (h : sum < 2 ^ w) : crcByte w poly refin sum b < 2 ^ w :=
  List.foldlRecOn (motive := (· < 2 ^ w)) _ _ h fun _ _ _ _ => crcBit_lt hp _ _
end

/-! ### Reads of a unit's settings after a write -/

theorem cvuReg_inj {n r q : Nat} : cvuReg n r = cvuReg n q ↔ r = q := Nat.add_right_cancel_iff

section
variable {s : State} (hs : Canonical s) {n lo : Nat}
include hs

theorem State.reg_cvuSet (v r : Nat) : (s.cvuSet n lo v).reg (cvuReg n r) =
    if r = lo + 4 then BitVec.ofNat 32 (v / 2 ^ 32) else if r = lo then BitVec.ofNat 32 v else s.reg (cvuReg n r) := by
  rw [State.cvuSet, State.reg_setReg (Sparse.wf_set hs.regs), State.reg_setReg hs.regs]
  simp only [cvuReg_inj]

/-- A write of a setting leaves the other registers of its unit. -/
theorem State.reg_cvuSet_other {r : Nat} (v : Nat) (hlo : r ≠ lo) (hhi : r ≠ lo + 4) :
    (s.cvuSet n lo v).reg (cvuReg n r) = s.reg (cvuReg n r) := by
  rw [State.reg_cvuSet hs, if_neg hhi, if_neg hlo]

theorem State.cvuWidth_cvuSet (v : Nat) (h : Reg.cvuCtrl < lo) : (s.cvuSet n lo v).cvuWidth n = s.cvuWidth n := by
  rw [State.cvuWidth, State.reg_cvuSet_other hs v h.ne (by omega), State.cvuWidth]

/-- Bits above W are ignored (R251). -/
theorem State.cvuGet_cvuSet (v : Nat) (h : Reg.cvuCtrl < lo) : (s.cvuSet n lo v).cvuGet n lo = v % 2 ^ s.cvuWidth n := by
  have hw : s.cvuWidth n ≤ 64 := by simp [State.cvuWidth, clamp]
  have hsplit : v % 2 ^ 32 + 2 ^ 32 * (v / 2 ^ 32 % 2 ^ 32) = v % 2 ^ 64 := (Nat.mod_mul (b := 2 ^ 32)).symm
  rw [State.cvuGet, State.cvuWidth_cvuSet hs v h, State.reg_cvuSet hs, State.reg_cvuSet hs, if_pos rfl, if_neg (by omega), if_pos rfl,
    BitVec.toNat_ofNat, BitVec.toNat_ofNat, hsplit, Nat.mod_mod_of_dvd _ (Nat.pow_dvd_pow 2 hw)]

theorem State.cvuGet_cvuSet_other {r : Nat} (v : Nat) (h : Reg.cvuCtrl < lo) (h0 : r ≠ lo) (h1 : r ≠ lo + 4) (h2 : r + 4 ≠ lo) :
    (s.cvuSet n lo v).cvuGet n r = s.cvuGet n r := by
  rw [State.cvuGet, State.cvuWidth_cvuSet hs v h, State.reg_cvuSet_other hs v h0 h1, State.reg_cvuSet_other hs v h2 (by omega), State.cvuGet]
end

/-! ### Absorbing as one pass over the bytes -/

/-- A number of W bits in the other orientation, where REFOUT = 1. -/
def State.cvuTurn (s : State) (n v : Nat) : Nat := if flag (s.reg (cvuReg n Reg.cvuCtrl)) 8 then reflect (s.cvuWidth n) v else v

/-- Bytes advance a sum that is not in output orientation. -/
def State.cvuSum (s : State) (n : Nat) (data : Bytes) (x : Nat) : Nat :=
  data.foldl (fun x b => crcByte (s.cvuWidth n) (s.cvuGet n Reg.cvuPolyLo) (flag (s.reg (cvuReg n Reg.cvuCtrl)) 7) x b.toNat) x

theorem State.cvuAbsorb_eq (s : State) (n : Nat) (data : Bytes) : s.cvuAbsorb n data =
    s.cvuSet n Reg.cvuValueLo (s.cvuTurn n (s.cvuSum n data (s.cvuTurn n (s.cvuGet n Reg.cvuValueLo)))) := rfl

section
variable (s : State) (n : Nat)

theorem State.cvuGet_lt (lo : Nat) : s.cvuGet n lo < 2 ^ s.cvuWidth n := Nat.mod_lt _ (Nat.two_pow_pos _)

variable {s n} {x : Nat} (h : x < 2 ^ s.cvuWidth n)
include h

theorem State.cvuTurn_lt : s.cvuTurn n x < 2 ^ s.cvuWidth n := by
  unfold State.cvuTurn
  split
  · exact reflect_lt _ _
  · exact h

theorem State.cvuTurn_cvuTurn : s.cvuTurn n (s.cvuTurn n x) = x := by
  unfold State.cvuTurn
  split
  · exact reflect_reflect h
  · rfl

theorem State.cvuSum_lt (data : Bytes) : s.cvuSum n data x < 2 ^ s.cvuWidth n :=
  List.foldlRecOn (motive := (· < 2 ^ s.cvuWidth n)) _ _ h fun _ hx _ _ => crcByte_lt (s.cvuGet_lt n _) _ _ hx
end

theorem State.cvuSum_append (s : State) (n : Nat) (a b : Bytes) (x : Nat) : s.cvuSum n (a ++ b) x = s.cvuSum n b (s.cvuSum n a x) :=
  List.foldl_append

section
variable {s : State} (hs : Canonical s) (n : Nat) (data : Bytes)
include hs

/-- Absorbing writes VALUE: the unit's width and orientation stay. -/
theorem State.cvuTurn_cvuAbsorb : (s.cvuAbsorb n data).cvuTurn n = s.cvuTurn n := by
  unfold State.cvuTurn
  rw [State.cvuAbsorb_eq, State.cvuWidth_cvuSet hs _ (by decide), State.reg_cvuSet_other hs _ (by decide) (by decide)]

/-- Its polynomial and input reflection stay too. -/
theorem State.cvuSum_cvuAbsorb : (s.cvuAbsorb n data).cvuSum n = s.cvuSum n := by
  unfold State.cvuSum
  rw [State.cvuAbsorb_eq, State.cvuWidth_cvuSet hs _ (by decide), State.reg_cvuSet_other hs _ (by decide) (by decide),
    State.cvuGet_cvuSet_other hs _ (by decide) (by decide) (by decide) (by decide)]

theorem State.cvuXorout_cvuAbsorb : (s.cvuAbsorb n data).cvuGet n Reg.cvuXoroutLo = s.cvuGet n Reg.cvuXoroutLo := by
  rw [State.cvuAbsorb_eq, State.cvuGet_cvuSet_other hs _ (by decide) (by decide) (by decide) (by decide)]

/-- VALUE after the bytes: the sum over them, in output orientation (R252). -/
theorem State.cvuValue_cvuAbsorb : (s.cvuAbsorb n data).cvuGet n Reg.cvuValueLo =
    s.cvuTurn n (s.cvuSum n data (s.cvuTurn n (s.cvuGet n Reg.cvuValueLo))) := by
  have hlt := State.cvuTurn_lt (State.cvuSum_lt (State.cvuTurn_lt (s.cvuGet_lt n Reg.cvuValueLo)) data)
  rw [State.cvuAbsorb_eq, State.cvuGet_cvuSet hs _ (by decide), Nat.mod_eq_of_lt hlt]

theorem State.cvuAbsorb_canonical : Canonical (s.cvuAbsorb n data) := { hs with regs := Sparse.wf_set (Sparse.wf_set hs.regs) }
end

/-- Settles O29: the second string goes on from the sum that the first one left, and XOROUT stays. -/
theorem cvuSplitsInput : Obligations.CvuSplitsInput := by
  unfold Obligations.CvuSplitsInput
  intro s n a b hs _
  have ha := State.cvuAbsorb_canonical hs n a
  have hvalue : ((s.cvuAbsorb n a).cvuAbsorb n b).cvuGet n Reg.cvuValueLo = (s.cvuAbsorb n (a ++ b)).cvuGet n Reg.cvuValueLo := by
    have hsum := State.cvuSum_lt (State.cvuTurn_lt (s.cvuGet_lt n Reg.cvuValueLo)) a
    rw [State.cvuValue_cvuAbsorb ha, State.cvuTurn_cvuAbsorb hs, State.cvuSum_cvuAbsorb hs, State.cvuValue_cvuAbsorb hs,
      State.cvuValue_cvuAbsorb hs, State.cvuTurn_cvuTurn hsum, State.cvuSum_append]
  refine ⟨hvalue, ?_⟩
  rw [State.cvuResult, State.cvuResult, hvalue, State.cvuXorout_cvuAbsorb ha, State.cvuXorout_cvuAbsorb hs, State.cvuXorout_cvuAbsorb hs]

end Sys2Proof.Machine
end

section
/-!
PROOF. The admission of the digest and check-value commands (R243 to R248, R254, Tables 9.2 to 9.4): where a result goes decides the checks
on its target, and the rest of each command's checks pass from the premises of its statement.
-/
namespace Sys2Proof.Machine
open Sys2Proof

theorem within_eq_true {v lo hi : Nat} (hlo : lo ≤ v) (hhi : v ≤ hi) : within v lo hi = true := by simp [within, hlo, hhi]

/-! ### Where a result goes (Table 9.3) -/

/-- A measurement register that a host command may extend (R245). -/
def HostMrg (m : Nat) : Prop := (8 ≤ m ∧ m ≤ 29) ∨ m = 31

/-- A result of `len` bytes for host memory that holds it, or for a measurement register of PF0. -/
def WorkEntry.ForHostOrMrg (e : WorkEntry) (f len : Nat) : Prop :=
  (e.target = 0 ∧ len ≤ e.outCap) ∨ (e.target = 1 ∧ f = 0 ∧ len = 48 ∧ HostMrg (e.p8 43))

theorem mrgChecks_extend {m : Nat} (h : HostMrg m) : Passes (mrgChecks true m 48) :=
  .cons (chk_pass (by simpa [HostMrg, within] using h)) <| .cons rfl .nil

theorem mrgChecks_other {extend : Bool} (h : extend = false) (m len : Nat) : Passes (mrgChecks extend m len) := by
  rw [h]; rfl

section
variable {e : WorkEntry} {f len : Nat} (h : e.ForHostOrMrg f len)
include h

theorem WorkEntry.ForHostOrMrg.target_allowed (slots : Bool) : targetOk f e.target slots = true := by
  obtain ⟨ht, -⟩ | ⟨ht, hf, -⟩ := h
  · simp [targetOk, ht]
  · simp [targetOk, ht, hf]

theorem WorkEntry.ForHostOrMrg.register_pass : Passes (mrgChecks (e.target == 1) (e.p8 43) len) := by
  obtain ⟨ht, -⟩ | ⟨ht, -, rfl, hm⟩ := h
  · exact mrgChecks_other (by rw [ht]; rfl) _ _
  · rw [ht]
    exact mrgChecks_extend hm

theorem WorkEntry.ForHostOrMrg.out_pass : Passes [e.outHolds (if e.target = 0 then len else 0)] := by
  refine outHolds_pass ?_
  obtain ⟨ht, hcap⟩ | ⟨ht, -⟩ := h
  · rwa [if_pos ht]
  · rw [ht]
    exact Nat.zero_le _

theorem WorkEntry.ForHostOrMrg.target_ne_two : e.target ≠ 2 := by
  obtain ⟨ht, -⟩ | ⟨ht, -⟩ := h <;> omega
end

/-- Every check on the target of a keyed command, whose result of `len` bytes goes to the slot `dest` or to none, passes. -/
structure State.TargetPasses (s : State) (t : Track) (len : Nat) (dest : Option Nat) : Prop where
  path : s.slotPath t.entry.target = none
  target : targetOk t.func t.entry.target true = true
  register : Passes (mrgChecks (t.entry.target == 1) (t.entry.p8 43) len)
  named : t.entry.digestDest = dest
  isSlot : ssIsSlot dest = none
  state : Passes (s.digestDest t.func len dest)
  out : Passes [t.entry.outHolds (if t.entry.target = 0 then len else 0)]

section
variable {s : State} {t : Track} {len : Nat}

theorem State.TargetPasses.ofHostOrMrg (h : t.entry.ForHostOrMrg t.func len) : s.TargetPasses t len none where
  path := chk_pass (by simp [h.target_ne_two])
  target := h.target_allowed true
  register := h.register_pass
  named := if_neg h.target_ne_two
  isSlot := rfl
  state := rfl
  out := h.out_pass

theorem State.TargetPasses.ofSlot {n : Nat} (ht : t.entry.target = 2) (hen : s.comb.dgeSlotEn = true) (hdest : n = t.entry.pLE 48 4)
    (hn : n < 4096) (hstate : Passes (s.destKey t.func n fun d => destFits d len)) : s.TargetPasses t len (some n) where
  path := chk_pass (by simp [hen])
  target := by simp [targetOk, ht]
  register := mrgChecks_other (by rw [ht]; rfl) _ _
  named := hdest ▸ if_pos ht
  isSlot := chk_pass (decide_eq_true hn)
  state := hstate
  out := outHolds_pass (by simp [ht])

/-- The checks of HMAC and KMAC, which begin and end in those of their own. -/
theorem State.TargetPasses.keyedChecks {dest : Option Nat} {first key last : List (Option (Nat × Nat))} (h : s.TargetPasses t len dest)
    (hn : t.entry.keySlot < 4096) (hfirst : Passes first) (hkey : Passes key) (hlast : Passes last) :
    Passes (first ++ mrgChecks (t.entry.target == 1) (t.entry.p8 43) len ++ t.entry.keyedSlots ++ key ++
      s.digestDest t.func len t.entry.digestDest ++ last) := by
  obtain ⟨-, -, hregister, rfl, hslot, hstate, -⟩ := h
  have hslots : Passes t.entry.keyedSlots := .cons (WorkEntry.aSlot_pass (decide_eq_true hn)) <| .cons hslot .nil
  exact ((((hfirst.append hregister).append hslots).append hkey).append hstate).append hlast
end

/-! ### The keyed commands -/

section
variable {s : State} {slot : Nat} {t : Track} (hn : t.entry.keySlot < 4096) (hd : t.dmaFail = none)
  (hg : s.slotBad t.entry.keySlot = false)
include hn hd hg

/-- HMAC (R240, R246). -/
theorem exec_hmac {dest : Option Nat} (hb : Begun s slot 0x601 0x601 t) (hz : t.entry.zeroFrom 42 42 = true)
    (hz' : t.entry.zeroFrom 52 55 = true) (halg : hmacOk (t.entry.p8 40) t.entry.outBytes = true)
    (hkey : Passes (s.sourceKey t.func t.entry.keySlot Usage.hmac noDevice (· == 3)))
    (hdest : s.TargetPasses t (tagLen (t.entry.p8 40) t.entry.outBytes) dest) :
    exec (.hmac slot) s = .next (settle s (s.digestStart slot t dest (s.slot t.entry.keySlot))) := by
  refine (exec_checked hb rfl rfl <| hdest.keyedChecks hn (.cons (chk_pass (Bool.and_eq_true_iff.2 ⟨hz, hz'⟩)) <|
    .cons hdest.path <| .cons (chk_pass (Bool.and_eq_true_iff.2 ⟨halg, hdest.target⟩)) .nil) hkey (.cons hd hdest.out)).trans ?_
  rw [State.readSlots_sound hg, hdest.named]

/-- HMAC_VERIFY (R241). -/
theorem exec_hmacVerify (hb : Begun s slot 0x602 0x602 t) (hz : t.entry.zeroFrom 41 43 = true) (hz' : t.entry.zeroFrom 48 55 = true)
    (halg : hmacOk (t.entry.p8 40) t.entry.outBytes = true)
    (hkey : Passes (s.sourceKey t.func t.entry.keySlot Usage.hmac noDevice (· == 3)))
    (hlen : tagLen (t.entry.p8 40) t.entry.outBytes ≤ t.entry.msgLen) :
    exec (.hmacVerify slot) s = .next (settle s (s.digestStart slot t none (s.slot t.entry.keySlot))) := by
  refine (exec_checked hb rfl rfl <| .append (.append (.cons (chk_pass (Bool.and_eq_true_iff.2 ⟨hz, hz'⟩)) <| .cons (chk_pass halg) <|
    .cons (WorkEntry.aSlot_pass (decide_eq_true hn)) .nil) hkey) (.cons hd <| .cons (WorkEntry.lenAtLeast_pass hlen) .nil)).trans ?_
  rw [State.readSlots_sound hg]

/-- KMAC (R242, R246). -/
theorem exec_kmac {dest : Option Nat} (hb : Begun s slot 0x603 0x603 t) (hflags : t.entry.p8 42 = 0 ∨ t.entry.p8 42 = 2)
    (hz : t.entry.zeroFrom 53 55 = true) (halg : within (t.entry.p8 40) 0xA 0xB = true) (hlen : within t.entry.outBytes 1 65536 = true)
    (hkey : Passes (s.sourceKey t.func t.entry.keySlot Usage.kmac noDevice (· == 3))) (hs : t.entry.p8 52 ≤ t.entry.msgLen)
    (hdest : s.TargetPasses t t.entry.outBytes dest) :
    exec (.kmac slot) s = .next (settle s (s.digestStart slot t dest (s.slot t.entry.keySlot))) := by
  have hparams := Bool.and_eq_true_iff.2 ⟨Bool.and_eq_true_iff.2 ⟨halg, hdest.target⟩, hlen⟩
  refine (exec_checked hb rfl rfl <| hdest.keyedChecks hn (.cons (chk_pass (by simpa using hflags)) <| .cons (chk_pass hz) <|
    .cons hdest.path <| .cons (chk_pass hparams) .nil) hkey (.cons hd <| .cons (WorkEntry.lenAtLeast_pass hs) hdest.out)).trans ?_
  rw [State.readSlots_sound hg, hdest.named]
end

/-! ### HASH -/

/-- What raw block mode alone asks for (R239). -/
theorem rawOnly_pass {v : Nat} {p : Bool} (hv : v ≤ 1) (h : v = 1 → p = true) : (!bitOf v 0 || p) = true := by
  obtain rfl | rfl := Nat.le_one_iff_eq_zero_or_eq_one.1 hv
  · rfl
  · exact h rfl

/-- OUT_BYTES is in range for an XOF and 0 for another ALG (Table 9.4). -/
theorem hashOutBytes_pass {alg n : Nat} (halg : alg ≤ 8) (h : if alg < 7 then n = 0 else 1 ≤ n ∧ n ≤ 65536) :
    (if within alg 7 8 then within n 1 65536 else n == 0) = true := by
  by_cases hx : alg < 7
  · rw [if_pos hx] at h
    simp [within, h, show ¬ 7 ≤ alg by omega]
  · rw [if_neg hx] at h
    rw [within_eq_true (by omega) halg, if_pos rfl, within_eq_true h.1 h.2]

/-- HASH (R237, R239). -/
theorem exec_hash {s : State} {slot : Nat} {t : Track} (hb : Begun s slot 0x600 0x600 t) (hraw : t.entry.p8 42 ≤ 1)
    (hopen : t.entry.p8 42 = 1 → s.rawOpen = true ∧ t.entry.target = 0 ∧ t.entry.msgLen % algBlock (t.entry.p8 40) = 0)
    (hz : t.entry.zeroFrom 48 55 = true) (hlo : 1 ≤ t.entry.p8 40) (hhi : t.entry.p8 40 ≤ 8)
    (hbytes : if t.entry.p8 40 < 7 then t.entry.outBytes = 0 else 1 ≤ t.entry.outBytes ∧ t.entry.outBytes ≤ 65536)
    (hdest : t.entry.ForHostOrMrg t.func (hashLen t.entry)) (hn : t.entry.keySlot = noSlot) (hd : t.dmaFail = none) :
    exec (.hash slot) s = .next (settle s (s.digestStart slot t none {})) := by
  have hparams := Bool.and_eq_true_iff.2 ⟨Bool.and_eq_true_iff.2 ⟨Bool.and_eq_true_iff.2 ⟨within_eq_true hlo hhi, hdest.target_allowed false⟩,
    rawOnly_pass hraw fun h => beq_iff_eq.2 (hopen h).2.1⟩, hashOutBytes_pass hhi hbytes⟩
  exact exec_checked hb rfl rfl <| .append (.append (.cons (chk_pass (Bool.and_eq_true_iff.2 ⟨decide_eq_true hraw, hz⟩)) <|
    .cons (chk_pass (rawOnly_pass hraw fun h => (hopen h).1)) <| .cons (chk_pass hparams) .nil) hdest.register_pass) <|
    .cons (WorkEntry.noKey_pass hn) <| .cons hd <| .cons (chk_pass (rawOnly_pass hraw fun h => beq_iff_eq.2 (hopen h).2.2)) hdest.out_pass

/-! ### The statement -/

/-- Settles O30: each command passes its checks in their order, those on its target by where its result goes. -/
theorem digestCommandsAdmit : Obligations.DigestCommandsAdmit := by
  unfold Obligations.DigestCommandsAdmit
  intro s slot t e k extends_
  refine ⟨exec_hash, ?hmac, ?hmacToSlot, ?hmacVerify, ?kmac, ?mrgExtend, ?cvuRun⟩
  case hmac =>
    intro hb hz hz' halg hdest hn hkey hd hg
    exact exec_hmac hn hd hg hb hz hz' halg hkey (.ofHostOrMrg hdest)
  case hmacToSlot =>
    intro hb hz hz' halg ht hen hn hm hkey hstate hd hg
    exact exec_hmac hn hd hg hb hz hz' halg hkey (.ofSlot ht hen rfl hm hstate)
  case hmacVerify =>
    intro hb hz hz' halg hn hkey hd hlen hg
    exact exec_hmacVerify hn hd hg hb hz hz' halg hkey hlen
  case kmac =>
    intro hb hflags hz hlo hhi hlo' hhi' hn hkey hd hs hg
    have hadmitted {dest : Option Nat} := exec_kmac (dest := dest) hn hd hg hb hflags hz (within_eq_true hlo hhi)
      (within_eq_true hlo' hhi') hkey hs
    exact ⟨fun hdest => hadmitted (.ofHostOrMrg hdest), fun ht hen hm hstate => hadmitted (.ofSlot ht hen rfl hm hstate)⟩
  case mrgExtend =>
    intro hb hz hz' hm hn hd hlen
    exact exec_checked hb rfl rfl <| .append (.append (.cons (chk_pass (Bool.and_eq_true_iff.2 ⟨hz, hz'⟩)) .nil) (mrgChecks_extend hm)) <|
      .cons (WorkEntry.noKey_pass hn) <| .cons hd <| .cons (WorkEntry.lenIs_pass hlen) .nil
  case cvuRun =>
    intro hb hflags hz hz' hunit hn hd hcap
    refine (exec_checked hb rfl rfl <| .cons (chk_pass (by simp [e, hflags, hz, hz'])) <| .cons (chk_pass (decide_eq_true hunit)) <|
      .cons (WorkEntry.noKey_pass hn) <| .cons hd (outHolds_pass hcap)).trans ?_
    dsimp only
    cases (s.busy slot).cvuOwner (e.p8 40) <;> rfl

end Sys2Proof.Machine
end

section
/-!
PROOF. The commit of digest commands (R240 to R246, R249), the end of a CVU_RUN (R253, R254), and the register writes of a check-value unit.
-/
namespace Sys2Proof.Machine
open Sys2Proof

/-! ### The commit step of a lane's command -/

section
variable {s : State} {c : DgeCmd} {t : Track}

/-- MRG_EXTEND (R244). -/
theorem State.digestCommit_mrgExtend (h : t.entry.opcode = 0x604) :
    s.digestCommit c t = (s.mrgExtend (t.entry.p8 43) t.input).complete c.slot St.ok 0 [] := if_pos h

/-- HMAC_VERIFY (R241). -/
theorem State.digestCommit_verify (h : t.entry.opcode = 0x602) : s.digestCommit c t =
    if digestResult t.entry c.key t.input = t.input.take (digestResult t.entry c.key t.input).length then s.complete c.slot St.ok 0 []
    else s.fail c.slot (St.verifyFail, 0x80) := by
  unfold State.digestCommit
  exact (if_neg (by omega)).trans (if_pos h)

section
variable (h : t.entry.opcode = 0x600 ∨ t.entry.opcode = 0x601 ∨ t.entry.opcode = 0x603)
include h

/-- A result for a slot (R246). -/
theorem State.digestCommit_slot {n : Nat} (hd : c.dest = some n) : s.digestCommit c t =
    ((if (s.slot n).kind = 3 then s.commitSecret n (digestResult t.entry c.key t.input) c.test
      else s.commitKey n (digestResult t.entry c.key t.input) [] 1 c.test).complete c.slot St.ok 0 []) := by
  have hextend : t.entry.opcode ≠ 0x604 := by omega
  have hverify : t.entry.opcode ≠ 0x602 := by omega
  simp only [State.digestCommit, if_neg hextend, if_neg hverify, hd]

/-- A result for a measurement register (R244) or the host. -/
theorem State.digestCommit_noSlot (hd : c.dest = none) : s.digestCommit c t =
    if t.entry.target = 1 then (s.mrgExtend (t.entry.p8 43) (digestResult t.entry c.key t.input)).complete c.slot St.ok 0 []
    else s.complete c.slot St.ok 0 (digestResult t.entry c.key t.input) := by
  have hextend : t.entry.opcode ≠ 0x604 := by omega
  have hverify : t.entry.opcode ≠ 0x602 := by omega
  simp only [State.digestCommit, if_neg hextend, if_neg hverify, hd]
end
end

/-! ### DIGEST_COMMIT -/

section
variable {s : State} {slot : Nat} {t : Track} (ht : s.track slot = some t)
include ht

section
variable {c : DgeCmd} (hc : s.dge.cmds.find? (fun c => c.slot == slot && c.lane.isSome) = some c)
include hc

/-- A sound lane frees itself and its command commits. -/
theorem execDigestCommit_host (hi : c.internal = false) :
    exec (.digestCommit slot true) s = .next (settle s ((s.dgeLeave slot).digestCommit c t)) := by
  simp only [exec, execDigestCommit, ht, hc, hi, if_true, Bool.false_eq_true, if_false, answer]

/-- A KEY_DERIVE that waited for the lane enters its key (R219). -/
theorem execDigestCommit_internal {n : Nat} (hi : c.internal = true) (hd : c.dest = some n) : exec (.digestCommit slot true) s =
    .next (settle s (((s.dgeLeave slot).releaseDest (some n)).enterKey slot t n c.key [] 1 c.test)) := by
  simp only [exec, execDigestCommit, ht, hc, hi, hd, if_true, answer]

/-- A lane that failed its check withholds the result (R249). -/
theorem execDigestCommit_unsound : exec (.digestCommit slot false) s = .next (settle s
    (((((s.dgeLeave slot).releaseDest c.dest).raise Reg.dgeErrStatus 1).fail slot (St.faultDetected, 0x84)).degrade
      St.faultDetected 0x84 0xFFFF t.entry.tag)) := by
  simp only [exec, execDigestCommit, ht, hc, Bool.false_eq_true, if_false, answer]
end

/-- A CVU_RUN ends on its unit (R254). -/
theorem execDigestCommit_cvu {n : Nat} (sound : Bool) (hc : s.dge.cmds.find? (fun c => c.slot == slot && c.lane.isSome) = none)
    (ho : s.dge.cvuOwned.find? (fun o => o.2 == slot) = some (n, slot)) :
    exec (.digestCommit slot sound) s = .next (settle s (s.cvuFinish n slot t)) := by
  simp only [exec, execDigestCommit, ht, hc, ho, answer]
end

section
variable {s : State} {n slot : Nat} {t : Track}

/-- A CVU_RUN without CHECK answers RESULT. -/
theorem State.cvuFinish_answers (h : bitOf (t.entry.p8 41) 1 = false) :
    let v := (s.cvuAbsorb n t.input).cvuSet n Reg.cvuExpectLo (t.entry.pLE 44 8)
    s.cvuFinish n slot t = (v.cvuLeave n).complete slot St.ok 0 (toLE 8 (v.cvuResult n)) := by
  simp only [State.cvuFinish, h, Bool.false_and, Bool.false_eq_true, if_false]

/-- With CHECK it compares RESULT with EXPECT (R253). -/
theorem State.cvuFinish_checks (h : bitOf (t.entry.p8 41) 1 = true) :
    let v := ((s.cvuAbsorb n t.input).cvuSet n Reg.cvuExpectLo (t.entry.pLE 44 8)).cvuCompare n
    s.cvuFinish n slot t = if v.cvuResult n = v.cvuGet n Reg.cvuExpectLo
      then (v.cvuLeave n).complete slot St.ok 0 (toLE 8 (v.cvuResult n)) else (v.cvuLeave n).fail slot (St.verifyFail, 0x83) := by
  simp only [State.cvuFinish, h, Bool.true_and, if_true, bne_iff_ne, ne_eq, ite_not]
end

/-! ### Register writes -/

section
variable {s : State} {n : Nat} (hn : n < 8)
include hn

theorem State.cvuGuard_free {k : State} (h : s.cvuOwner n = none) : s.cvuGuard n k = k := by
  simp [State.cvuGuard, Nat.not_le.2 hn, h]

/-- A write to a unit that a CVU_RUN holds is lost (R254). -/
theorem State.cvuGuard_held {k : State} (h : (s.cvuOwner n).isSome = true) : s.cvuGuard n k = s.raise (cvuReg n Reg.cvuStatus) 8 := by
  simp [State.cvuGuard, Nat.not_le.2 hn, h]

/-- A write of CTRL with one of START and CHECK set keeps the settings below them. -/
theorem State.cvuCtrlWrite_setBits {m v : W32} (hm : m &&& 0x1FF = 0) (h : s.cvuOwner n = none) : s.cvuCtrlWrite n (setBits v m) =
    let u := s.setReg (cvuReg n Reg.cvuCtrl) (v &&& 0x1FF)
    let u := if flag v 9 || flag m 9 then u.cvuInit n else u
    if flag v 10 || flag m 10 then u.cvuCompare n else u := by
  have hkept : setBits v m &&& 0x1FF = v &&& 0x1FF := by rw [setBits, BitVec.and_or_distrib_right, hm]; exact BitVec.or_zero
  rw [State.cvuCtrlWrite, State.cvuGuard_free hn h, hkept, flag_setBits, flag_setBits]
end

section
variable {s : State} (ho : s.regsOpen = true) (hb : s.blockDown Reg.cvuCtrl = false)
include ho hb

theorem exec_cvuData8Write (n : Nat) (v : W32) :
    exec (.cvuData8Write n v) s = .next (settle s (s.cvuGuard n (s.cvuAbsorb n (toLE 1 v.toNat)))) := by
  simp only [exec, execCvuData8Write, State.regWrite_on ho hb, answer]

theorem exec_cvuData32Write (n : Nat) (v : W32) :
    exec (.cvuData32Write n v) s = .next (settle s (s.cvuGuard n (s.cvuAbsorb n (toLE 4 v.toNat)))) := by
  simp only [exec, execCvuData32Write, State.regWrite_on ho hb, answer]

theorem exec_cvuStart (n : Nat) (v : W32) : exec (.cvuStart n v) s = .next (settle s (s.cvuCtrlWrite n (setBits v 0x200))) := by
  simp only [exec, execCvuStart, State.regWrite_on ho hb, answer, setBits]

theorem exec_cvuCheck (n : Nat) (v : W32) : exec (.cvuCheck n v) s = .next (settle s (s.cvuCtrlWrite n (setBits v 0x400))) := by
  simp only [exec, execCvuCheck, State.regWrite_on ho hb, answer, setBits]
end

/-- Settles O31: each commit by the case of its opcode and its target, the end of a CVU_RUN by its CHECK, and each write by the unit's owner. -/
theorem digestCommandsCommit : Obligations.DigestCommandsCommit := by
  unfold Obligations.DigestCommandsCommit
  intro s slot t c ht e u r
  refine ⟨fun hc hi => ?lane, fun hc => ⟨fun n hi hd => execDigestCommit_internal ht hc hi hd, execDigestCommit_unsound ht hc⟩,
    fun n b hc ho hcheck => ?cvu, fun n b hc ho hcheck => ?cvuCheck, fun ho hb v => ?mrgLock, fun ho hb n v hn => ⟨fun hfree => ?free,
      fun hheld => ?held⟩⟩
  case lane =>
    rw [execDigestCommit_host ht hc hi]
    refine ⟨fun hop => ?_, fun hop => ?_, fun hop hd htarget => ?_, fun hop hd htarget => ?_, fun n hop hd => ?_⟩
    · rw [State.digestCommit_mrgExtend hop]
      rfl
    · rw [State.digestCommit_verify hop]
    · rw [State.digestCommit_noSlot hop hd, if_neg (by rw [htarget]; decide)]
    · rw [State.digestCommit_noSlot hop hd, if_pos htarget]
      rfl
    · rw [State.digestCommit_slot (.inr hop) hd]
  case cvu => exact (execDigestCommit_cvu ht b hc ho).trans (by rw [State.cvuFinish_answers hcheck])
  case cvuCheck => exact (execDigestCommit_cvu ht b hc ho).trans (by rw [State.cvuFinish_checks hcheck])
  case mrgLock => simp only [exec, execMrgLock, State.regWrite_on ho hb, answer]
  case free =>
    refine ⟨?_, ?_, fun hstart hcheck => ?_, fun hstart hcheck => ?_⟩
    · rw [exec_cvuData8Write ho hb, State.cvuGuard_free hn hfree]
    · rw [exec_cvuData32Write ho hb, State.cvuGuard_free hn hfree]
    · rw [exec_cvuStart ho hb, State.cvuCtrlWrite_setBits hn (by decide) hfree, hstart, hcheck]
      rfl
    · rw [exec_cvuCheck ho hb, State.cvuCtrlWrite_setBits hn (by decide) hfree, hstart, hcheck]
      rfl
  case held =>
    intro i hi
    simp only [List.mem_cons, List.not_mem_nil, or_false] at hi
    rcases hi with rfl | rfl | rfl | rfl
    · rw [exec_cvuData8Write ho hb, State.cvuGuard_held hn hheld]
    · rw [exec_cvuData32Write ho hb, State.cvuGuard_held hn hheld]
    · rw [exec_cvuStart ho hb, State.cvuCtrlWrite, State.cvuGuard_held hn hheld]
    · rw [exec_cvuCheck ho hb, State.cvuCtrlWrite, State.cvuGuard_held hn hheld]

end Sys2Proof.Machine
end

section
/-!
PROOF. Doorbells and the admin commands of Table 10.8: what a doorbell does to a queue, and what each admin command answers once its checks pass.
-/
namespace Sys2Proof.Machine
open Sys2Proof

/-! ### The doorbell (R271, R272, R274) -/

theorem Queue.scanning_iff (q : Queue) : q.scanning = true ↔ q.waiting = true ∨ q.retries.isSome = true := by
  simp [Queue.scanning]

theorem Queue.not_scanning {q : Queue} (hw : q.waiting = false) (hr : q.retries = none) : q.scanning = false := by
  simp [Queue.scanning, hw, hr]

section
variable {s : State} {f q : Nat} {v : QueueView}

theorem State.ring_overruns (h : (s.queue f q).depth < (v.prod - (s.queue f q).head).toNat) :
    s.ring f q v = (s.count Reg.qenOverruns).queueError f q 1 v.prod.toNat := if_pos h

/-- A PROD_IDX within DEPTH of HEAD_IDX has the queue served up to it. -/
theorem State.ring_advances (h : (v.prod - (s.queue f q).head).toNat ≤ (s.queue f q).depth)
    (ht : ((s.queue f q).fetch - (s.queue f q).head).toNat ≤ (v.prod - (s.queue f q).head).toNat) :
    s.ring f q v = (s.setQueue f q { s.queue f q with target := v.prod, rung := false }).serve f q v.slots := by
  rw [State.ring, if_neg (Nat.not_lt.2 h), if_pos ht]

/-- A PROD_IDX behind the fetch index leaves the target where it is. -/
theorem State.ring_behind (h : (v.prod - (s.queue f q).head).toNat ≤ (s.queue f q).depth)
    (ht : (v.prod - (s.queue f q).head).toNat < ((s.queue f q).fetch - (s.queue f q).head).toNat) :
    s.ring f q v = (s.setQueue f q { s.queue f q with rung := false }).serve f q v.slots := by
  rw [State.ring, if_neg (Nat.not_lt.2 h), if_neg (Nat.not_le.2 ht)]

section
variable (hon : s.qenOn = true) (hp : s.funcPresent f = true)
include hon hp

theorem exec_doorbell_discarded (h : (s.queue f q).state ≠ .enabled) : exec (.doorbell f q v) s =
    .next (settle s ((s.count Reg.qenDbDrops).log ⟨0, 0x0B03, 0, 1, f, q, 0, 0, 0⟩)) := by
  show execDoorbell f q v s = _
  simp only [execDoorbell, hon, hp, Bool.true_eq_false, or_self, if_false, if_pos h, answer]

theorem exec_doorbell_waits (h : (s.queue f q).state = .enabled) (hw : (s.func f).bme = false ∨ (s.queue f q).scanning = true) :
    exec (.doorbell f q v) s = .next (settle s (s.setQueue f q { s.queue f q with rung := true })) := by
  show execDoorbell f q v s = _
  simp only [execDoorbell, hon, hp, Bool.true_eq_false, or_self, if_false, h, ne_eq, not_true_eq_false, if_pos hw, answer]

theorem exec_doorbell_rings (h : (s.queue f q).state = .enabled) (hb : (s.func f).bme = true) (hn : (s.queue f q).scanning = false) :
    exec (.doorbell f q v) s = .next (settle s (s.ring f q v)) := by
  show execDoorbell f q v s = _
  simp only [execDoorbell, hon, hp, Bool.true_eq_false, or_self, if_false, h, ne_eq, not_true_eq_false, hb, hn, Bool.false_eq_true,
    answer]
end
end

/-- Settles O2: a doorbell is discarded, waits, or rings; a ring overruns, moves the target, or leaves it. -/
theorem doorbellEffect : Obligations.DoorbellEffect := by
  unfold Obligations.DoorbellEffect
  intro s f q v hon hp x u
  refine ⟨exec_doorbell_discarded hon hp, fun he hw => ?_, fun he hb hw hr ho => ?_, fun he hb hw hr hd ht => ?_,
    fun he hb hw hr ht hd => ?_⟩
  · exact exec_doorbell_waits hon hp he (hw.imp_right (Queue.scanning_iff x).2)
  · rw [exec_doorbell_rings hon hp he hb (Queue.not_scanning hw hr), State.ring_overruns ho]
  · rw [exec_doorbell_rings hon hp he hb (Queue.not_scanning hw hr), State.ring_advances hd ht]
  · rw [exec_doorbell_rings hon hp he hb (Queue.not_scanning hw hr), State.ring_behind hd ht]

/-! ### The admin commands (Table 10.8) -/

/-- A queue that an admin command names (R263), in the state that the command takes. -/
theorem queueField_pass {qid : Nat} {ok : Bool} (h1 : 1 ≤ qid) (h2 : qid ≤ 255) (hok : ok = true) : (within qid 1 255 && ok) = true := by
  rw [within_eq_true h1 h2, hok, Bool.and_self]

/-- The queue that a QUEUE_CREATE makes: ENABLED, its indices at 0 (R285). -/
def Track.newQueue (t : Track) : Queue :=
  { state := .enabled, ring := leAt t.input 0 8, qcb := leAt t.input 8 8, log2 := t.entry.p8 42, vector := t.entry.pLE 44 2 }

theorem exec_queueCreate {s : State} {slot : Nat} {t : Track} (hb : Begun s slot 1 1 t) (hz : t.entry.zeroFrom 43 43 = true)
    (hz' : t.entry.zeroFrom 46 55 = true) (hm : t.entry.msgLen = 16) (hq : within (t.entry.pLE 40 2) 1 255 = true)
    (hstate : (s.queue t.func (t.entry.pLE 40 2)).state = .absent) (htotal : s.queuesOf (fun _ => true) < 4096)
    (hown : s.queuesOf (fun g => g == t.func) < (s.func t.func).queueQuota) (hdepth : within (t.entry.p8 42) 6 16 = true)
    (hvec : t.entry.pLE 44 2 < tableSize t.func) (hd : t.dmaFail = none) (hring : leAt t.input 0 8 % 4096 = 0)
    (hqcb : leAt t.input 8 8 % 64 = 0) : exec (.queueCreate slot) s = .next (settle s
      (((s.setQueue t.func (t.entry.pLE 40 2) t.newQueue).writeQcb t.func (t.entry.pLE 40 2)).complete slot 0 0 [])) :=
  exec_checked hb rfl rfl <| .cons (chk_pass (by rw [hz, hz', Bool.and_self])) <| .cons (chk_pass (beq_iff_eq.2 hm)) <|
    .cons (chk_pass (by rw [hq, beq_iff_eq.2 hstate, Bool.and_self])) <|
    .cons (chk_pass (by rw [decide_eq_true htotal, decide_eq_true hown, Bool.and_self])) <|
    .cons (chk_pass (by rw [hdepth, decide_eq_true hvec, Bool.and_self])) <| .cons hd <| .cons (chk_pass (beq_iff_eq.2 hring)) <|
    .cons (chk_pass (beq_iff_eq.2 hqcb)) .nil

/-- Settles O7: each command passes its checks in the order of Table 10.8, and its effect follows. -/
theorem adminCommandsComplete : Obligations.AdminCommandsComplete := by
  unfold Obligations.AdminCommandsComplete
  intro s slot t e qid q
  refine ⟨?nop, ?create, ?disable, ?enable, ?destroy, ?abort, ?query⟩
  case nop =>
    intro hb hchecks
    exact exec_checked hb rfl rfl hchecks
  case create =>
    intro hb hz hz' hm h1 h2 hstate htotal hown hlo hhi hvec hd hring hqcb
    exact exec_queueCreate hb hz hz' hm (within_eq_true h1 h2) hstate htotal hown (within_eq_true hlo hhi) hvec hd hring hqcb
  case disable =>
    intro v hb hz h1 h2 hstate hmode hd
    exact exec_checked hb rfl rfl <| .cons (chk_pass hz) <| .cons (chk_pass (queueField_pass h1 h2 (beq_iff_eq.2 hstate))) <|
      .cons (chk_pass (decide_eq_true hmode)) <| .cons hd .nil
  case enable =>
    intro hb hz h1 h2 hstate hd
    exact exec_checked hb rfl rfl <| .cons (chk_pass hz) <| .cons (chk_pass (queueField_pass h1 h2 (beq_iff_eq.2 hstate))) <|
      .cons hd .nil
  case destroy =>
    intro hb hz h1 h2 hstate hd
    exact exec_checked hb rfl rfl <| .cons (chk_pass hz) <| .cons (chk_pass (queueField_pass h1 h2 (beq_iff_eq.2 hstate))) <|
      .cons hd .nil
  case abort =>
    intro hb hz hz' h2 hstate hlo hhi hd
    exact exec_checked hb rfl rfl <| .cons (chk_pass (by rw [hz, hz', Bool.and_self])) <|
      .cons (chk_pass (by rw [decide_eq_true h2, bne_iff_ne.2 hstate, Bool.and_self])) <|
      .cons (chk_pass (within_eq_true hlo hhi)) <| .cons hd .nil
  case query =>
    intro hb hz h2 hd hcap
    exact exec_checked hb rfl rfl <| .cons (chk_pass hz) <| .cons (chk_pass (decide_eq_true h2)) <| .cons hd <|
      .cons (chk_pass (decide_eq_true hcap)) .nil

end Sys2Proof.Machine
end

section
/-!
PROOF. The queue events of chapter 10 and the registers of the admin queue: what each does to the queue that it names.
-/
namespace Sys2Proof.Machine
open Sys2Proof

section
variable {s : State} {f qid : Nat} {v : QueueView} {b : Bytes} {bs : List Bytes}

/-! ### A slot read again (R273) -/

section
variable {n : Nat} (hr : (s.queue f qid).retries = some n) (hv : v.slots = b :: bs) (he : (s.queue f qid).state = .enabled)
  (hb : (s.func f).bme = true)
include hr hv he hb

theorem exec_phaseRetry_current (hp : phaseOf b = expectedPhase (s.queue f qid) (s.queue f qid).fetch) : exec (.phaseRetry f qid v) s =
    .next (settle s ((s.setQueue f qid { s.queue f qid with retries := none }).serve f qid (b :: bs))) := by
  show execPhaseRetry f qid v s = _
  simp [execPhaseRetry, hr, hv, he, hb, if_pos hp, answer]

theorem exec_phaseRetry_miss (hp : phaseOf b ≠ expectedPhase (s.queue f qid) (s.queue f qid).fetch) : exec (.phaseRetry f qid v) s =
    .next (settle s (if n < 15 then s.setQueue f qid { s.queue f qid with retries := some (n + 1) }
      else ((s.setQueue f qid { s.queue f qid with retries := none }).count Reg.qenPhaseStalls).log
        ⟨0, 0x0B02, 0, 1, f, qid, 0, 0, (s.queue f qid).fetch.toNat⟩)) := by
  have hlast : n + 1 < 16 ↔ n < 15 := Nat.succ_lt_succ_iff
  show execPhaseRetry f qid v s = _
  simp [execPhaseRetry, hr, hv, he, hb, if_neg hp, hlast, answer]
end

/-! ### A scan that goes on (R271, R275, R286) -/

section
variable (hon : s.qenOn = true) (hb : (s.func f).bme = true)
include hon hb

theorem exec_scanResume_serves (he : (s.queue f qid).state = .enabled) (hw : (s.queue f qid).waiting = true) :
    exec (.scanResume f qid v) s = .next (settle s (s.serve f qid v.slots)) := by
  show execScanResume f qid v s = _
  simp [execScanResume, hon, hb, he, hw, answer]

theorem exec_scanResume_rings (he : (s.queue f qid).state = .enabled) (hw : (s.queue f qid).waiting = false)
    (hr : (s.queue f qid).retries = none) (hg : (s.queue f qid).rung = true) :
    exec (.scanResume f qid v) s = .next (settle s (s.ring f qid v)) := by
  show execScanResume f qid v s = _
  simp [execScanResume, hon, hb, he, hw, hr, hg, answer]

theorem exec_scanResume_drains (hd : (s.queue f qid).state = .draining) :
    exec (.scanResume f qid v) s = .next (settle s ((s.drainQueue f qid v.prod v.slots).checkIdle f qid)) := by
  show execScanResume f qid v s = _
  simp [execScanResume, hon, hb, hd, answer]
end

/-! ### Input and retirement (R277, R278, R280, R295) -/

theorem exec_dmaReadComplete_gathers {slot : Nat} {t : Track} (g : GatherView) (ht : s.track slot = some t) (hp : t.phase = .gather)
    (hb : (s.func t.func).bme = true) :
    let frags := g.frags.take t.entry.fragCount
    exec (.dmaReadComplete slot g) s = .next (settle s ((s.issueGather t frags).setTrack slot
      (some { t with phase := .ready, dmaFail := gatherFail t.entry frags, input := fit t.entry.msgLen g.data }))) := by
  show execDmaReadComplete slot g s = _
  simp [execDmaReadComplete, ht, hp, hb, answer]

theorem exec_flushingReadReturn_retires {i : W32} (h : (s.queue f qid).flushing.contains i = true) :
    exec (.flushingReadReturn f qid i) s = .next (settle s
      (((s.setChan f { s.chan f with unflushed := [] }).setQueue f qid ((s.queue f qid).retire i)).checkIdle f qid)) := by
  show execFlushingReadReturn f qid i s = _
  simp only [execFlushingReadReturn, h, if_true, answer]

theorem exec_headIdxWrite_present (h : (s.queue f qid).state ≠ .absent) :
    let q := s.queue f qid
    let u := if q.head = q.headWritten then s else s.writeQcb f qid
    let w := u.setQueue f qid { u.queue f qid with irq := (u.queue f qid).irq.filter fun i => !(u.queue f qid).covers i }
    exec (.headIdxWrite f qid) s = .next (settle s
      ((if q.irq.any q.covers then w.msix f (u.queue f qid).vector else w).checkIdle f qid)) := by
  show execHeadIdxWrite f qid s = _
  simp only [execHeadIdxWrite, if_neg h, answer]

/-! ### The registers of the admin queue (R282) -/

section
variable (hon : s.qenOn = true) (hp : s.funcPresent f = true)
include hon hp

theorem exec_admqEnable_running (value : W32) (h : (s.queue f 0).state = .enabled ∨ (s.queue f 0).state = .draining) :
    exec (.admqEnable f value) s = .next (settle s
      (s.modReg (admReg f Reg.qenAdmqCtrl Reg.vfAdmqCtrl) fun w => setField (setField w 9 9 (field value 9 9)) 8 8 1)) := by
  show execAdmqEnable f value s = _
  simp only [execAdmqEnable, hon, hp, Bool.true_eq_false, or_self, if_false, if_pos h, answer]

/-- An ABSENT admin queue adds itself to the queues of the device (R263). -/
theorem exec_admqEnable_absent (value : W32) (h : (s.queue f 0).state = .absent) :
    let ctrl := admReg f Reg.qenAdmqCtrl Reg.vfAdmqCtrl
    let status := admReg f Reg.qenAdmqStatus Reg.vfAdmqStatus
    let ring := s.pair (admReg f Reg.qenAdmqRingLo Reg.vfAdmqRingLo) (admReg f Reg.qenAdmqRingHi Reg.vfAdmqRingHi)
    let qcb := s.pair (admReg f Reg.qenAdmqQcbLo Reg.vfAdmqQcbLo) (admReg f Reg.qenAdmqQcbHi Reg.vfAdmqQcbHi)
    let w := s.setReg ctrl (value &&& 0xFFFF021F)
    exec (.admqEnable f value) s = .next (settle s (
      if ring % 4096 = 0 ∧ qcb % 64 = 0 ∧ 6 ≤ field value 4 0 ∧ field value 4 0 ≤ 16 ∧ field value 31 16 < tableSize f ∧
          s.queuesOf (fun _ => true) < 4096 then
        (((w.raise ctrl 0x100).modReg status (clearBits · 8)).setQueue f 0
          { state := .enabled, ring := ring, qcb := qcb, log2 := field value 4 0, vector := field value 31 16 }).writeQcb f 0
      else w.raise status 8)) := by
  have hidle : ¬ (QState.absent = .enabled ∨ QState.absent = .draining) := by decide
  have hroom : 4096 + b2n (QState.absent != .absent) = 4096 := rfl
  show execAdmqEnable f value s = _
  simp only [execAdmqEnable, hon, hp, h, Bool.true_eq_false, or_self, if_false, if_neg hidle, hroom, answer]
  rfl

theorem exec_admqDisable_enabled (value : W32) (h : (s.queue f 0).state = .enabled) :
    exec (.admqDisable f value v) s = .next (settle s
      ((s.modReg (admReg f Reg.qenAdmqCtrl Reg.vfAdmqCtrl) fun w => setField (setField w 9 9 (field value 9 9)) 8 8 0).disableQueue
        f 0 (field value 9 9) v.prod v.slots)) := by
  show execAdmqDisable f value v s = _
  simp only [execAdmqDisable, hon, hp, h, Bool.true_eq_false, or_self, if_false, true_or, if_true, answer]
end
end

/-- Settles O8: each event does to its queue what its rule says. -/
theorem queueEventsComplete : Obligations.QueueEventsComplete := by
  unfold Obligations.QueueEventsComplete
  intro s f qid v q
  refine ⟨fun b bs hr hv he hb hp => ?_, fun b bs n => exec_phaseRetry_miss, exec_scanResume_serves,
    fun hon hb he hw hr hg hd ht => ?_, exec_scanResume_drains, fun slot t g => exec_dmaReadComplete_gathers g,
    fun i => exec_flushingReadReturn_retires, exec_headIdxWrite_present, fun value hon hp => exec_admqEnable_running hon hp value,
    fun value hon hp => exec_admqEnable_absent hon hp value, fun value hon hp => exec_admqDisable_enabled hon hp value⟩
  · obtain ⟨n, hn⟩ := Option.isSome_iff_exists.1 hr
    exact exec_phaseRetry_current hn hv he hb hp
  · rw [exec_scanResume_rings hon hb he hw hr hg, State.ring_advances hd ht]

end Sys2Proof.Machine
end

section
/-!
PROOF. HEAD_IDX and the scan: where retirement leaves HEAD_IDX, what taking an entry changes in its queue, and the turns of a scan.
-/
namespace Sys2Proof.Machine
open Sys2Proof

/-! ### HEAD_IDX (R277) -/

/-- What advancing HEAD_IDX from `h` over the indices `l` leaves: it has passed the n indices from `h` on, all of them in `l`, it stands at none that is
left, and no other index of `l` is gone. -/
structure Advanced (h : W32) (l : List W32) (n : Nat) (r : W32 × List W32) : Prop where
  stops : r.1 ∉ r.2
  head : r.1 = h + BitVec.ofNat 32 n
  passed : ∀ k, k < n → h + BitVec.ofNat 32 k ∈ l
  gone : ∀ j ∈ l, j ∉ r.2 → ∃ k, k < n ∧ j = h + BitVec.ofNat 32 k

theorem add_ofNat_succ (h : W32) (k : Nat) : h + BitVec.ofNat 32 (k + 1) = h + 1 + BitVec.ofNat 32 k := by
  rw [BitVec.ofNat_add, BitVec.add_comm (BitVec.ofNat 32 k), ← BitVec.add_assoc]
  rfl

theorem Advanced.refl {h : W32} {l : List W32} (hl : h ∉ l) : Advanced h l 0 (h, l) where
  stops := hl
  head := by simp
  passed := fun _ hk => absurd hk (Nat.not_lt_zero _)
  gone := fun _ hj hn => absurd hj hn

/-- HEAD_IDX passes an index that has retired. -/
theorem Advanced.step {h : W32} {l : List W32} {n : Nat} {r : W32 × List W32} (hl : h ∈ l) (hr : Advanced (h + 1) (l.filter (· != h)) n r) :
    Advanced h l (n + 1) r where
  stops := hr.stops
  head := by rw [hr.head, add_ofNat_succ]
  passed
    | 0, _ => by simpa using hl
    | k + 1, hk => by
      rw [add_ofNat_succ]
      exact List.mem_of_mem_filter (hr.passed k (Nat.lt_of_succ_lt_succ hk))
  gone := fun j hj hn => by
    by_cases hjh : j = h
    · exact ⟨0, Nat.succ_pos n, by simp [hjh]⟩
    · obtain ⟨k, hk, rfl⟩ := hr.gone j (List.mem_filter.2 ⟨hj, bne_iff_ne.2 hjh⟩) hn
      exact ⟨k + 1, Nat.succ_lt_succ hk, (add_ofNat_succ h k).symm⟩

/-- As many turns as there are indices are enough: each turn takes one away. -/
theorem advanceHead_advanced : ∀ (m : Nat) (h : W32) (l : List W32), l.length ≤ m → ∃ n ≤ m, Advanced h l n (advanceHead m h l)
  | 0, h, l, hm => ⟨0, Nat.le_refl 0, .refl (by rw [List.eq_nil_of_length_eq_zero (Nat.le_zero.1 hm)]; exact List.not_mem_nil)⟩
  | m + 1, h, l, hm => by
    by_cases hl : h ∈ l
    · have hshorter : (l.filter (· != h)).length < l.length := List.length_filter_lt_length_iff_exists.2 ⟨h, hl, by simp⟩
      obtain ⟨n, hn, hr⟩ := advanceHead_advanced m (h + 1) (l.filter (· != h)) (by omega)
      rw [advanceHead, if_pos (List.contains_iff_mem.2 hl)]
      exact ⟨n + 1, Nat.succ_le_succ hn, hr.step hl⟩
    · rw [advanceHead, if_neg (by simpa using hl)]
      exact ⟨0, Nat.zero_le _, .refl hl⟩

/-- Settles O5: each turn of the advance passes an index that has retired, and there are turns enough for all of them. -/
theorem headStopsAtLowestNotRetired : Obligations.HeadStopsAtLowestNotRetired := by
  unfold Obligations.HeadStopsAtLowestNotRetired
  intro q i r
  obtain ⟨n, hn, hr⟩ := advanceHead_advanced (q.retired.length + 1) q.head (q.retired ++ [i]) (by simp)
  exact ⟨hr.stops, n, hn, hr.head, hr.passed, hr.gone⟩

/-! ### Completing an entry, for its queue -/

/-- A queue after an entry of it has retired (R277, R278, R280). -/
def Queue.retireTrack (q : Queue) (t : Track) : Queue :=
  let q := if bitOf t.entry.flags.toNat 1 then { q with irq := q.irq ++ [t.index] } else q
  if bitOf t.entry.flags.toNat 0 then { q with flushing := q.flushing ++ [t.index] } else q.retire t.index

theorem State.retireEntry_queues (s : State) (slot : Nat) (t : Track) :
    (s.retireEntry slot t).queues = (s.setQueue t.func t.qid ((s.queue t.func t.qid).retireTrack t)).queues := by
  unfold State.retireEntry Queue.retireTrack
  dsimp only
  split <;> rfl

/-- A digest command counts as completed as its entry completes (R250). -/
def State.digestCounted (s : State) (t : Track) : State := if t.entry.opcode / 256 = 6 then s.modReg Reg.dgeCmdCount (· + 1) else s

theorem State.digestCounted_sends (s : State) (t : Track) : Sends s (s.digestCounted t) := by
  unfold State.digestCounted
  split <;> rfl

/-- The status write of an entry (R277, Table 10.6). -/
def State.statusWrite (s : State) (t : Track) (status ext len : Nat) : HostWrite :=
  ⟨t.func, (s.queue t.func t.qid).slotAddr t.index + 56, statusBytes status ext len⟩

/-- The state after the output and the status of an entry have been handed to its channel (R96, R277). -/
def State.statusSent (s : State) (t : Track) (status ext len : Nat) (out : Bytes) : State :=
  (s.hostWrite .outputWrite t.qid t.entry.tag ⟨t.func, t.entry.outAddr, out⟩).hostWrite .statusWrite t.qid t.entry.tag
    (s.statusWrite t status ext len)

theorem State.statusSent_sends (s : State) (t : Track) (status ext len : Nat) (out : Bytes) : Sends s (s.statusSent t status ext len out) :=
  (State.hostWrite_sends s _ _ _ _).trans (State.hostWrite_sends _ _ _ _ _)

theorem Sends.queues {s t : State} (h : Sends s t) : t.queues = s.queues := by rw [h]

theorem Sends.queue {s t : State} (h : Sends s t) (f q : Nat) : t.queue f q = s.queue f q := congrArg (Sparse.get _ · _) h.queues

/-- An entry completes: its writes are sent, and it retires or, while a write of its function waits, is held (R260). -/
theorem State.completeLen_eq {s : State} {slot : Nat} {t : Track} (ht : s.track slot = some t) (status ext len : Nat) (out : Bytes) :
    s.completeLen slot status ext len out =
      let u := (s.digestCounted t).statusSent t status ext len out
      if (u.chan t.func).waiting.isEmpty then u.retireEntry slot t else u.setTrack slot (some { t with phase := .held }) := by
  simp only [State.completeLen, ht, State.statusSent, State.statusWrite, (s.digestCounted_sends t).queue]
  rfl

/-- Completing an entry touches its queue alone, and that only where the entry retires. -/
theorem State.completeLen_queues {s : State} {slot : Nat} {t : Track} (ht : s.track slot = some t) (status ext len : Nat) (out : Bytes) :
    (s.completeLen slot status ext len out).queues = s.queues ∨ (s.completeLen slot status ext len out).queues =
      (s.setQueue t.func t.qid ((s.queue t.func t.qid).retireTrack t)).queues := by
  have hsent := (s.digestCounted_sends t).trans ((s.digestCounted t).statusSent_sends t status ext len out)
  rw [State.completeLen_eq ht]
  dsimp only
  split
  · right
    rw [State.retireEntry_queues, State.setQueue_queues, State.setQueue_queues, hsent.queue, hsent.queues]
  · exact .inl hsent.queues

/-! ### The scan of a queue (R272 to R276) -/

/-- Two records of a queue whose scan stands at the same place: same state, fetch index and target. -/
structure SameScan (x y : Queue) : Prop where
  state : y.state = x.state
  fetch : y.fetch = x.fetch
  target : y.target = x.target

theorem SameScan.refl (x : Queue) : SameScan x x := ⟨rfl, rfl, rfl⟩

theorem Queue.retireTrack_sameScan (q : Queue) (t : Track) : SameScan q (q.retireTrack t) := by
  unfold Queue.retireTrack
  dsimp only
  split <;> split <;> exact ⟨rfl, rfl, rfl⟩

theorem State.queue_setQueue_self {s : State} (hs : Canonical s) (f q : Nat) (x : Queue) : (s.setQueue f q x).queue f q = x := by
  rw [State.queue_setQueue hs.queues, if_pos rfl]

theorem SameScan.trans {x y z : Queue} (h1 : SameScan x y) (h2 : SameScan y z) : SameScan x z :=
  ⟨h2.state.trans h1.state, h2.fetch.trans h1.fetch, h2.target.trans h1.target⟩

/-- States with the same queues have the same queue of each function. -/
theorem State.queue_congr {s t : State} (h : s.queues = t.queues) (f q : Nat) : s.queue f q = t.queue f q :=
  congrArg (Sparse.get _ · _) h

theorem State.complete_sameScan {s : State} (hs : Canonical s) (slot status ext : Nat) (out : Bytes) (f q : Nat) :
    SameScan (s.queue f q) ((s.complete slot status ext out).queue f q) := by
  unfold State.complete
  cases ht : s.track slot with
  | none =>
    rw [State.completeLen, ht]
    exact .refl _
  | some t =>
    rcases State.completeLen_queues ht status ext out.length out with h | h
    · rw [State.queue_congr h]
      exact .refl _
    · rw [State.queue_congr h, State.queue_setQueue hs.queues]
      split
      · next hk =>
        have hsame : s.queue f q = s.queue t.func t.qid := congrArg (Sparse.get _ s.queues) hk
        rw [hsame]
        exact Queue.retireTrack_sameScan _ t
      · exact .refl _

/-- Taking an entry moves its queue on, and the entry then goes to its unit or fails a check at fetch. -/
theorem State.takeEntry_cases (s : State) (f q : Nat) (b : Bytes) :
    ∃ u : State, (s.takeEntry f q b = u ∨ ∃ slot x, s.takeEntry f q b = u.fail slot x) ∧ Extends s u ∧
      u.queues = (s.setQueue f q { s.queue f q with
        fetch := (s.queue f q).fetch + 1, marks := (s.queue f q).marks.filter (· != (s.queue f q).fetch) }).queues := by
  unfold State.takeEntry
  dsimp only
  split
  · exact ⟨_, .inr ⟨_, _, rfl⟩, by simp (maxDischargeDepth := 99), rfl⟩
  · exact ⟨_, .inl rfl, by simp (maxDischargeDepth := 99), rfl⟩

/-- Taking an entry moves the fetch index on by one, and leaves the rest of the scan's place. -/
theorem State.takeEntry_sameScan {s : State} (hs : Canonical s) (f q : Nat) (b : Bytes) :
    SameScan { s.queue f q with fetch := (s.queue f q).fetch + 1 } ((s.takeEntry f q b).queue f q) := by
  obtain ⟨u, htaken, hu, hqueues⟩ := s.takeEntry_cases f q b
  have hmoved : SameScan { s.queue f q with fetch := (s.queue f q).fetch + 1 } (u.queue f q) := by
    rw [State.queue_congr hqueues, State.queue_setQueue_self hs]
    exact ⟨rfl, rfl, rfl⟩
  rcases htaken with h | ⟨slot, x, h⟩
  · rw [h]
    exact hmoved
  · rw [h]
    exact hmoved.trans (State.complete_sameScan (hu.canonical hs) slot x.1 x.2 [] f q)

section
variable {s : State} {f q : Nat} {b : Bytes} (he : (s.queue f q).state = .enabled) (bs : List Bytes)
include he

omit he in
theorem scan_atTarget (h : (s.queue f q).fetch = (s.queue f q).target) :
    scan f q (b :: bs) s = s.setQueue f q { s.queue f q with waiting := false, retries := none } := by
  rw [scan, if_pos (.inl h)]

theorem scan_waits (h : (s.queue f q).fetch ≠ (s.queue f q).target) (ha : s.slotAllowed f q = false) :
    scan f q (b :: bs) s = s.setQueue f q { s.queue f q with waiting := true, retries := none } := by
  rw [scan, if_neg (not_or.2 ⟨h, not_not.2 he⟩), if_pos ha]

theorem scan_retries (h : (s.queue f q).fetch ≠ (s.queue f q).target) (ha : s.slotAllowed f q = true)
    (hp : phaseOf b ≠ expectedPhase (s.queue f q) (s.queue f q).fetch) :
    scan f q (b :: bs) s = s.setQueue f q { s.queue f q with waiting := false, retries := some 0 } := by
  rw [scan, if_neg (not_or.2 ⟨h, not_not.2 he⟩), if_neg (by simp [ha]), if_pos hp]

theorem scan_takes (h : (s.queue f q).fetch ≠ (s.queue f q).target) (ha : s.slotAllowed f q = true)
    (hp : phaseOf b = expectedPhase (s.queue f q) (s.queue f q).fetch) :
    scan f q (b :: bs) s = scan f q bs (s.takeEntry f q b) := by
  rw [scan, if_neg (not_or.2 ⟨h, not_not.2 he⟩), if_neg (by simp [ha]), if_neg (not_not.2 hp)]
end

/-- Settles O4: the four turns of a scan, and the place of the scan after an entry is taken. -/
theorem scanTurn : Obligations.ScanTurn := by
  unfold Obligations.ScanTurn
  intro s f q b bs x hs he
  have hplace := State.takeEntry_sameScan hs f q b
  exact ⟨scan_atTarget bs, scan_waits he bs, scan_retries he bs, scan_takes he bs, hplace.fetch, hplace.target, hplace.state⟩

end Sys2Proof.Machine
end

section
/-!
PROOF. A producer index too far ahead: what sending leaves alone, what an error does to its queue (R274, R281), and the bound of a scan.
-/
namespace Sys2Proof.Machine
open Sys2Proof

/-! ### Sending to the host writes no register -/

theorem foldl_regs {α : Type} {g : State → α → State} (h : ∀ s a, (g s a).regs = s.regs) (l : List α) (s : State) :
    (l.foldl g s).regs = s.regs := by
  induction l generalizing s with
  | nil => rfl
  | cons a l ih => rw [List.foldl_cons, ih, h]

section
variable (s : State)

theorem State.dirtyMark_regs (f addr len : Nat) : (s.dirtyMark f addr len).regs = s.regs := by
  unfold State.dirtyMark
  dsimp only
  split
  · rfl
  · exact foldl_regs (fun s i => by (repeat' split) <;> rfl) _ s

theorem State.sendRun_regs (relaxed : Bool) (w : HostWrite) : (s.sendRun relaxed w).regs = s.regs := by
  unfold State.sendRun
  exact foldl_regs (fun s _ => s.emit_regs _) _ s

theorem State.issueWrite_regs (x : ChanWrite) : (s.issueWrite x).regs = s.regs :=
  foldl_regs (fun _ _ => (State.dirtyMark_regs _ _ _ _).trans (State.sendRun_regs _ _ _)) _ s

@[simp] theorem State.hostWrite_regs (kind : XferKind) (qid tag : Nat) (w : HostWrite) : (s.hostWrite kind qid tag w).regs = s.regs := by
  unfold State.hostWrite
  dsimp only
  split
  · rfl
  · split
    · exact State.issueWrite_regs _ _
    · rfl

@[simp] theorem State.msix_regs (f v : Nat) : (s.msix f v).regs = s.regs := by
  unfold State.msix
  dsimp only
  split
  · exact State.dirtyMark_regs _ _ _ _
  · rfl

@[simp] theorem settle_regs (t : State) : (settle s t).regs = t.regs := by
  unfold settle
  dsimp only
  split <;> split <;> simp

/-! ### The QCB and a queue that may be IDLE (R265, R286) -/

theorem State.writeQcb_queues (f q : Nat) :
    (s.writeQcb f q).queues = (s.setQueue f q { s.queue f q with headWritten := (s.queue f q).head }).queues := by
  rw [State.writeQcb, State.setQueue_queues, State.setQueue_queues, (State.hostWrite_sends s _ _ _ _).queues]

/-- What an error leaves alone of a queue's surroundings: the registers, the tracker and the error log. -/
structure SameRecords (s t : State) : Prop where
  regs : t.regs = s.regs
  tracker : t.tracker = s.tracker
  errLog : t.errLog = s.errLog

theorem SameRecords.trans {s t u : State} (h1 : SameRecords s t) (h2 : SameRecords t u) : SameRecords s u :=
  ⟨h2.regs.trans h1.regs, h2.tracker.trans h1.tracker, h2.errLog.trans h1.errLog⟩

theorem Sends.sameRecords {s t : State} (h : Sends s t) (hr : t.regs = s.regs) : SameRecords s t := ⟨hr, by rw [h], by rw [h]⟩

theorem State.setQueue_sameRecords (f q : Nat) (x : Queue) : SameRecords s (s.setQueue f q x) := ⟨rfl, rfl, rfl⟩

theorem State.writeQcb_sameRecords (f q : Nat) : SameRecords s (s.writeQcb f q) :=
  ((State.hostWrite_sends s _ _ _ _).sameRecords (State.hostWrite_regs s _ _ _ _)).trans (State.setQueue_sameRecords _ f q _)

theorem State.checkIdle_sameRecords (f q : Nat) : SameRecords s (s.checkIdle f q) := by
  unfold State.checkIdle
  dsimp only
  split
  · exact (State.setQueue_sameRecords s f q _).trans (State.writeQcb_sameRecords _ f q)
  · exact ⟨rfl, rfl, rfl⟩

theorem State.msix_sameRecords (f v : Nat) : SameRecords s (s.msix f v) := (State.msix_sends s f v).sameRecords (State.msix_regs s f v)

theorem settle_sameRecords (t : State) : SameRecords t (settle s t) := (settle_sends s t).sameRecords (settle_regs s t)

theorem State.writeQcb_queue {s : State} (hs : Canonical s) (f q : Nat) :
    (s.writeQcb f q).queue f q = { s.queue f q with headWritten := (s.queue f q).head } := by
  rw [State.queue_congr (s.writeQcb_queues f q), State.queue_setQueue_self hs]

/-- A queue found idle is IDLE, its HEAD_IDX written; another is as it was. -/
theorem State.checkIdle_queue {s : State} (hs : Canonical s) (f q : Nat) : (s.checkIdle f q).queue f q = s.queue f q ∨
    (s.checkIdle f q).queue f q = { s.queue f q with state := .idle, headWritten := (s.queue f q).head } := by
  unfold State.checkIdle
  dsimp only
  split
  · have hidle := State.queue_setQueue_self hs f q { s.queue f q with state := .idle }
    rw [State.writeQcb_queue ((State.setQueue_extends (.refl s) _ _ _).canonical hs), hidle]
    exact .inr rfl
  · exact .inl rfl

/-! ### The error log (R526) -/

theorem State.logAt_errLog (e : LogEntry) :
    (s.logAt e).errLog = (s.errLog ++ [e]).drop (if decide (512 ≤ s.errLog.length) then 1 else 0) := by
  unfold State.logAt
  dsimp only
  split <;> rfl

/-- An event is logged by the log as it stands and the time. -/
theorem State.log_errLog_congr {t : State} (hl : s.errLog = t.errLog) (ht : s.tod = t.tod) (e : LogEntry) :
    (s.log e).errLog = (t.log e).errLog := by
  have htime : s.compactTime = t.compactTime := by rw [State.compactTime, State.compactTime, ht]
  rw [State.log, State.log, State.logAt_errLog, State.logAt_errLog, hl, htime]

/-- Beside the log itself, an event changes LOG_PROD and LOG_LOST alone. -/
theorem State.log_leaves (e : LogEntry) : (s.log e).queues = s.queues ∧ (s.log e).tracker = s.tracker := by
  unfold State.log State.logAt
  dsimp only
  split <;> exact ⟨rfl, rfl⟩

theorem State.log_reg {k : Nat} (hp : k ≠ Reg.ercLogProd) (hl : k ≠ Reg.ercLogLost) (e : LogEntry) : (s.log e).reg k = s.reg k := by
  have hprod {t : State} {v : W32} : (t.setReg Reg.ercLogProd v).reg k = t.reg k := Sparse.get_set_ne hp
  unfold State.log State.logAt
  dsimp only
  split
  · exact (Sparse.get_set_ne hl).trans hprod
  · exact hprod
end

/-! ### A queue in error (R281) -/

/-- A queue that has met an error: as it was, but DRAINING or IDLE, marked with the error, with no scan running. -/
structure Errored (x : Queue) (code : Nat) (y : Queue) : Prop where
  state : y.state = .draining ∨ y.state = .idle
  error : y.error = true
  errCode : y.errCode = code
  fetch : y.fetch = x.fetch

section
variable {s : State} (f q code detail : Nat)

theorem Errored.headWritten {x y : Queue} (h : Errored x code y) (i : W32) : Errored x code { y with headWritten := i } :=
  ⟨h.state, h.error, h.errCode, h.fetch⟩

theorem Errored.idle {x y : Queue} (h : Errored x code y) : Errored x code { y with state := .idle } :=
  ⟨.inr rfl, h.error, h.errCode, h.fetch⟩

/-- The event under which an error of a queue is logged (Table 22.7). -/
def errorEvent : LogEntry :=
  ⟨0, if code = 1 then 0x0B04 else 0x0B01, 0, 1, f, q, 0, 0, if code = 1 then detail else code⟩

/-- A queue marked with its error, and the error logged. -/
def State.errorMarked (s : State) : State :=
  (s.setQueue f q { s.queue f q with
    state := .draining, error := true, errCode := code, waiting := false, retries := none, rung := false }).log (errorEvent f q code detail)

theorem State.queueError_eq : s.queueError f q code detail =
    let u := (s.errorMarked f q code detail).checkIdle f q
    (if (u.queue f q).state = .draining then u.writeQcb f q else u).msix f (s.queue f q).vector := rfl

theorem State.errorMarked_queue (hs : Canonical s) : Errored (s.queue f q) code ((s.errorMarked f q code detail).queue f q) := by
  rw [State.errorMarked, State.queue_congr (State.log_leaves _ _).1, State.queue_setQueue_self hs]
  exact ⟨.inl rfl, rfl, rfl, rfl⟩

theorem State.queueError_queue (hs : Canonical s) : Errored (s.queue f q) code ((s.queueError f q code detail).queue f q) := by
  have hmarked := State.errorMarked_queue f q code detail hs
  have hm : Canonical (s.errorMarked f q code detail) :=
    (State.log_extends (State.setQueue_extends (.refl s) _ _ _) _).canonical hs
  rw [State.queueError_eq]
  dsimp only
  rw [(State.msix_sends _ _ _).queue]
  have hchecked : Errored (s.queue f q) code (((s.errorMarked f q code detail).checkIdle f q).queue f q) := by
    rcases State.checkIdle_queue hm f q with h | h <;> rw [h]
    · exact hmarked
    · exact (hmarked.idle).headWritten _ _
  split
  · rw [State.writeQcb_queue ((State.checkIdle_extends (.refl _) f q).canonical hm)]
    exact hchecked.headWritten _ _
  · exact hchecked

theorem State.queueError_sameRecords : SameRecords (s.errorMarked f q code detail) (s.queueError f q code detail) := by
  have hchecked := State.checkIdle_sameRecords (s.errorMarked f q code detail) f q
  rw [State.queueError_eq]
  dsimp only
  split
  · exact (hchecked.trans (State.writeQcb_sameRecords _ f q)).trans (State.msix_sameRecords _ _ _)
  · exact hchecked.trans (State.msix_sameRecords _ _ _)

theorem State.errorMarked_errLog : (s.errorMarked f q code detail).errLog = (s.log (errorEvent f q code detail)).errLog :=
  State.log_errLog_congr _ (State.setQueue_errLog s f q _) (State.setQueue_tod s f q _) _
end

/-! ### The bound of a scan -/

/-- A scan moves its target no more than taking an entry does. -/
theorem scan_target (f q : Nat) (l : List Bytes) : ∀ {s : State}, Canonical s → ((scan f q l s).queue f q).target = (s.queue f q).target := by
  induction l with
  | nil => exact fun hs => by rw [scan, State.queue_setQueue_self hs]
  | cons b bs ih =>
    intro s hs
    unfold scan
    dsimp only
    split
    · rw [State.queue_setQueue_self hs]
    · split
      · rw [State.queue_setQueue_self hs]
      · split
        · rw [State.queue_setQueue_self hs]
        · rw [ih ((State.takeEntry_extends (.refl s) f q b).canonical hs)]
          exact (State.takeEntry_sameScan hs f q b).target

theorem State.serve_target {s : State} (hs : Canonical s) (f q : Nat) (slots : List Bytes) :
    ((s.serve f q slots).queue f q).target = (s.queue f q).target := by
  have hw := (State.setQueue_extends (.refl s) f q { s.queue f q with waiting := true }).canonical hs
  have hmarked : ((s.setQueue f q { s.queue f q with waiting := true }).queue f q).target = (s.queue f q).target := by
    rw [State.queue_setQueue_self hs]
  unfold State.serve
  dsimp only
  split
  · exact (scan_target f q slots hw).trans hmarked
  · split
    · refine (scan_target f q _ ?_).trans hmarked
      exact ⟨hw.regs, Sparse.wf_set hw.funcs, hw.chans, hw.queues, hw.vectors, hw.tracker, hw.slots, hw.lines⟩
    · exact hmarked

/-- Settles O39: an overrun puts the queue in error without a fetch; a PROD_IDX behind the fetch index leaves the target. -/
theorem producerOverrun : Obligations.ProducerOverrun := by
  unfold Obligations.ProducerOverrun
  intro s f q v hs hon hp _ _ x he hw hr hb
  refine ⟨fun ho => ?_, fun hd ht => ?_⟩
  · have hcounted : Canonical (s.count Reg.qenOverruns) := (State.count_extends (.refl s) _).canonical hs
    have herror := State.queueError_queue (s := s.count Reg.qenOverruns) f q 1 v.prod.toNat hcounted
    have hrecords := State.queueError_sameRecords (s := s.count Reg.qenOverruns) f q 1 v.prod.toNat
    refine ⟨_, by rw [exec_doorbell_rings hon hp he hb (Queue.not_scanning hw hr), State.ring_overruns ho], ?_⟩
    generalize (s.count Reg.qenOverruns).queueError f q 1 v.prod.toNat = u at herror hrecords ⊢
    have hleft := hrecords.trans (settle_sameRecords s u)
    rw [(settle_sends s u).queue]
    refine ⟨?_, ?_, herror.fetch, herror.state, herror.error, herror.errCode, ?_⟩
    · rw [hleft.tracker, State.errorMarked, (State.log_leaves _ _).2]
      rfl
    · rw [State.reg, hleft.regs]
      refine (State.log_reg _ (by decide) (by decide) _).trans ?_
      exact (State.reg_setReg hs.regs _ _ _).trans (if_pos rfl)
    · rw [hleft.errLog, State.errorMarked_errLog]
      exact State.log_errLog_congr _ (State.setReg_errLog s _ _) (State.setReg_tod s _ _) _
  · refine ⟨_, by rw [exec_doorbell_rings hon hp he hb (Queue.not_scanning hw hr), State.ring_behind hd ht], ?_⟩
    rw [(settle_sends s _).queue, State.serve_target ((State.setQueue_extends (.refl s) _ _ _).canonical hs), State.queue_setQueue_self hs]

end Sys2Proof.Machine
end

section
/-!
PROOF. The turns of the queues (R275): whose turn it is and what a visit does, for queues named by their function and their number below 256; and why the
statement fails, whose clause on functions also speaks of numbers from 256 on.
-/
namespace Sys2Proof.Machine
open Sys2Proof

/-! ### The next of a list of numbers -/

theorem nextAfter_some {last n : Nat} {l : List Nat} (h : nextAfter last l = some n) : n ∈ l ∧ ((∃ m ∈ l, last < m) → last < n) := by
  unfold nextAfter at h
  cases hf : l.find? fun n => decide (last < n) with
  | some m =>
    rw [hf] at h
    obtain rfl : m = n := Option.some.inj h
    exact ⟨List.mem_of_find?_eq_some hf, fun _ => by simpa using List.find?_some hf⟩
  | none =>
    rw [hf] at h
    exact ⟨List.mem_of_mem_head? h, fun ⟨m, hm, hlt⟩ => absurd hlt (by simpa using List.find?_eq_none.1 hf m hm)⟩

/-! ### The queues that wait to be served -/

/-- A key that does not hold what an unlisted key holds is listed. -/
theorem Sparse.mem_of_get_ne {α : Type} {d : Nat → α} {m : Sparse α} {k : Nat} (h : Sparse.get d m k ≠ d k) :
    (k, Sparse.get d m k) ∈ m := by
  induction m with
  | nil => exact absurd rfl h
  | cons e m ih =>
    obtain ⟨j, v⟩ := e
    unfold Sparse.get at h ⊢
    split
    · next hj => simp [hj]
    · next hj => exact List.mem_cons_of_mem _ (ih (by simpa [hj] using h))

section
variable {s : State} {f q : Nat}

theorem State.wantsVisit_enabled (h : s.wantsVisit f q = true) : (s.queue f q).state = .enabled := by
  simp only [State.wantsVisit, Bool.and_eq_true, decide_eq_true_eq] at h
  obtain ⟨⟨⟨⟨he, -⟩, -⟩, -⟩, -⟩ := h
  exact he

theorem State.mem_wanting : (f, q) ∈ s.wanting ↔ q < 256 ∧ s.wantsVisit f q = true := by
  unfold State.wanting
  rw [List.mem_filterMap]
  constructor
  · rintro ⟨⟨k, x⟩, -, hk⟩
    dsimp only at hk
    split at hk
    · next hv =>
      obtain ⟨rfl, rfl⟩ := Prod.mk.inj (Option.some.inj hk)
      exact ⟨Nat.mod_lt _ (by decide), hv⟩
    · cases hk
  · rintro ⟨hq, hv⟩
    have hkey : qkey f q / 256 = f ∧ qkey f q % 256 = q := by unfold qkey; omega
    have hlisted : Sparse.get (fun _ => ({} : Queue)) s.queues (qkey f q) ≠ {} := fun h => by
      have he : (s.queue f q).state = .enabled := State.wantsVisit_enabled hv
      rw [State.queue, h] at he
      cases he
    exact ⟨_, Sparse.mem_of_get_ne hlisted, by simp [hkey, hv]⟩

/-! ### Whose turn it is -/

/-- The turn is a queue that waits to be served: of a function after the one served last unless no such function waits, and within the function a
queue after the one it had served last unless no such queue waits. -/
structure InTurn (s : State) (f q : Nat) : Prop where
  number : q < 256
  waits : s.wantsVisit f q = true
  function : (∃ g p, s.lastFunc < g ∧ p < 256 ∧ s.wantsVisit g p = true) → s.lastFunc < f
  queue : (∃ p, (s.func f).lastQueue < p ∧ p < 256 ∧ s.wantsVisit f p = true) → (s.func f).lastQueue < q

theorem State.turn_inTurn (h : s.turn = some (f, q)) : InTurn s f q := by
  unfold State.turn at h
  split at h
  · cases h
  · next g hg =>
    obtain ⟨p, hp, he⟩ := Option.map_eq_some_iff.1 h
    obtain ⟨rfl, rfl⟩ := Prod.mk.inj he
    obtain ⟨-, hfunction⟩ := nextAfter_some hg
    obtain ⟨hmem, hqueue⟩ := nextAfter_some hp
    have hwanting : (g, p) ∈ s.wanting := by simpa using hmem
    obtain ⟨hlt, hwaits⟩ := State.mem_wanting.1 hwanting
    refine ⟨hlt, hwaits, fun ⟨g', p', hlast, hp', hv⟩ => ?_, fun ⟨p', hlast, hp', hv⟩ => ?_⟩
    · exact hfunction ⟨g', List.mem_map.2 ⟨(g', p'), State.mem_wanting.2 ⟨hp', hv⟩, rfl⟩, hlast⟩
    · exact hqueue ⟨p', by simpa using State.mem_wanting.2 ⟨hp', hv⟩, hlast⟩

/-! ### Serving a queue -/

section
variable (slots : List Bytes) (hv : (s.setQueue f q { s.queue f q with waiting := true }).wantsVisit f q = true)
include hv

theorem State.serve_outOfTurn (ht : (s.setQueue f q { s.queue f q with waiting := true }).turn ≠ some (f, q)) :
    s.serve f q slots = s.setQueue f q { s.queue f q with waiting := true } := by
  rw [State.serve, if_neg (by simp [hv]), if_neg ht]

theorem State.serve_inTurn (ht : (s.setQueue f q { s.queue f q with waiting := true }).turn = some (f, q)) :
    s.serve f q slots = (s.setQueue f q { s.queue f q with waiting := true }).visit f q slots := by
  rw [State.serve, if_neg (by simp [hv]), if_pos ht]
end
end

/-! ### Where the statement fails -/

/-- A queue that waits to be served. -/
def waitingQueue : Queue := { state := .enabled, log2 := 6, target := 1, waiting := true }

/-- Queue 1 of PF0 and queue 0 of VF 2 wait; PF0 and VF 1 have Bus Master Enable, VF 2 has not; PF0 was served last. -/
def twoWaiting : State := { State.reset with
  queues := [(1, waitingQueue), (512, waitingQueue)], funcs := [(0, { funcReset 0 with bme := true }), (1, { funcReset 1 with bme := true })] }

/-- Refutes O3: its clause on functions asks for some p' with `wantsVisit g' p'` and, unlike its clause on queues, does not hold p' below 256. Number 256 of
VF 1 has the key of queue 0 of VF 2, which VF 1's Bus Master Enable then seems to let be fetched from. VF 2 cannot be fetched from, so the turn is
PF0's though PF0 was served last. For numbers below 256 the clause holds (`State.turn_inTurn`), and the two on serving hold as they stand
(`State.serve_outOfTurn`, `State.serve_inTurn`). -/
theorem not_queuesServedInTurn : ¬ Obligations.QueuesServedInTurn := by
  unfold Obligations.QueuesServedInTurn
  intro h
  obtain ⟨-, -, hturn⟩ := h twoWaiting 0 0 []
  obtain ⟨-, hfunction, -⟩ := hturn 0 1 (by decide +kernel)
  exact absurd (hfunction ⟨1, 256, by decide, by decide +kernel⟩) (by decide)

end Sys2Proof.Machine
end

section
/-!
PROOF. The memory requests that carry a write (R294): they tile its range of addresses.
-/
namespace Sys2Proof.Machine
open Sys2Proof

/-! ### Tiles of a range of addresses -/

/-- Parts that follow one another without a gap from address `a` over `n` addresses, none empty, each satisfying `ok`. -/
inductive Tiles (ok : Nat → Nat → Prop) : Nat → Nat → List (Nat × Nat) → Prop
  | nil (a : Nat) : Tiles ok a 0 []
  | cons {a n m : Nat} {l : List (Nat × Nat)} (pos : 0 < n) (here : ok a n) (rest : Tiles ok (a + n) m l) : Tiles ok a (n + m) ((a, n) :: l)

section
variable {ok ok' : Nat → Nat → Prop}

theorem Tiles.append {a n m : Nat} {l k : List (Nat × Nat)} (hl : Tiles ok a n l) (hk : Tiles ok (a + n) m k) : Tiles ok a (n + m) (l ++ k) := by
  induction hl with
  | nil a => simpa using hk
  | cons pos here rest ih =>
    rw [Nat.add_assoc]
    exact .cons pos here (ih (by rwa [Nat.add_assoc]))

/-- Parts that are tiled in turn. -/
theorem Tiles.flatMap {g : Nat × Nat → List (Nat × Nat)} (hg : ∀ b k, ok b k → Tiles ok' b k (g (b, k))) {a n : Nat} {l : List (Nat × Nat)}
    (h : Tiles ok a n l) : Tiles ok' a n (l.flatMap g) := by
  induction h with
  | nil a => exact .nil a
  | cons _ here _ ih => exact (hg _ _ here).append ih

/-- A property of the tiles that lie inside the range. -/
theorem Tiles.imp {a n : Nat} {l : List (Nat × Nat)} (h : Tiles ok a n l)
    (himp : ∀ b k, a ≤ b → b + k ≤ a + n → 0 < k → ok b k → ok' b k) : Tiles ok' a n l := by
  induction h with
  | nil a => exact .nil a
  | cons pos here rest ih =>
    exact .cons pos (himp _ _ (Nat.le_refl _) (by omega) pos here) (ih fun b k h1 h2 => himp b k (by omega) (by omega))

/-- A tile lies inside the range. -/
theorem Tiles.bounds {a n : Nat} {l : List (Nat × Nat)} (h : Tiles ok a n l) : ∀ p ∈ l, a ≤ p.1 ∧ p.1 + p.2 ≤ a + n := by
  induction h with
  | nil a => simp
  | cons pos here rest ih =>
    rintro p (_ | ⟨_, hp⟩)
    · simp
    · obtain ⟨h1, h2⟩ := ih p hp
      omega

theorem Tiles.single {a n : Nat} (pos : 0 < n) (here : ok a n) : Tiles ok a n [(a, n)] := .cons pos here (.nil _)

/-- Rising bounds cut a range into tiles. -/
theorem tiles_of_bounds (b : Nat → Nat) : ∀ n, (∀ i < n, b i < b (i + 1) ∧ ok (b i) (b (i + 1) - b i)) →
    b 0 ≤ b n ∧ Tiles ok (b 0) (b n - b 0) ((List.range n).map fun i => (b i, b (i + 1) - b i))
  | 0, _ => ⟨Nat.le_refl _, by simpa using Tiles.nil (b 0)⟩
  | n + 1, h => by
    obtain ⟨hle, htiles⟩ := tiles_of_bounds b n fun i hi => h i (Nat.lt_succ_of_lt hi)
    obtain ⟨hlt, hok⟩ := h n (Nat.lt_succ_self n)
    have hlen : b (n + 1) - b 0 = b n - b 0 + (b (n + 1) - b n) := by omega
    rw [List.range_succ, List.map_append, hlen]
    refine ⟨by omega, htiles.append ?_⟩
    rw [Nat.add_sub_cancel' hle]
    exact .single (Nat.sub_pos_of_lt hlt) hok

/-- The same, for parts given as a range over which they have those bounds. -/
theorem tiles_of_range {addr len n : Nat} {part : Nat → Nat × Nat} (b : Nat → Nat) (h0 : b 0 = addr) (hn : b n = addr + len)
    (hb : ∀ i < n, b i < b (i + 1) ∧ ok (b i) (b (i + 1) - b i) ∧ part i = (b i, b (i + 1) - b i)) :
    Tiles ok addr len ((List.range n).map part) := by
  have hparts : (List.range n).map part = (List.range n).map fun i => (b i, b (i + 1) - b i) :=
    List.map_congr_left fun i hi => (hb i (List.mem_range.1 hi)).2.2
  obtain ⟨-, htiles⟩ := tiles_of_bounds (ok := ok) b n fun i hi => ⟨(hb i hi).1, (hb i hi).2.1⟩
  rw [h0, hn, Nat.add_sub_cancel_left] at htiles
  rwa [hparts]
end

/-! ### The parts of R294 -/

/-- Cutting a range of addresses at a size. -/
theorem sizeParts_tiles {size : Nat} (hs : 0 < size) (addr len : Nat) : Tiles (fun _ n => n ≤ size) addr len (sizeParts size addr len) := by
  have hdiv := Nat.div_add_mod (len + size - 1) size
  have hmod := Nat.mod_lt (len + size - 1) hs
  unfold sizeParts
  generalize (len + size - 1) / size = n at hdiv ⊢
  rw [Nat.mul_comm] at hdiv
  refine tiles_of_range (fun i => min (addr + len) (addr + i * size)) (by simp) (by omega) fun i hi => ?_
  have hnext := Nat.mul_le_mul_right size (Nat.succ_le_of_lt hi)
  simp only [Nat.succ_mul, Prod.mk.injEq] at hnext ⊢
  omega

/-- Addresses that lie within one page. -/
def OnePage (page a n : Nat) : Prop := ∃ j, j * page ≤ a ∧ a + n ≤ (j + 1) * page

/-- The first and the last of them have the same page number. -/
theorem OnePage.div_eq {page a n : Nat} (h : OnePage page a n) (hn : 0 < n) : a / page = (a + n - 1) / page := by
  obtain ⟨j, h1, h2⟩ := h
  rw [Nat.div_eq_of_lt_le h1 (by omega), Nat.div_eq_of_lt_le (k := j) (by omega) (by omega)]

/-- Cutting a range of addresses at the multiples of a page. -/
theorem pageParts_tiles {page : Nat} (hp : 0 < page) (addr len : Nat) : Tiles (OnePage page) addr len (pageParts page addr len) := by
  unfold pageParts
  split
  · next h => rw [h]; exact .nil addr
  · next h =>
    have hfirst := Nat.div_add_mod addr page
    have hfirstMod := Nat.mod_lt addr hp
    have hlast := Nat.div_add_mod (addr + len - 1) page
    have hlastMod := Nat.mod_lt (addr + len - 1) hp
    obtain ⟨d, hd⟩ := Nat.exists_eq_add_of_le (Nat.div_le_div_right (c := page) (show addr ≤ addr + len - 1 by omega))
    rw [hd] at hlast ⊢
    generalize addr / page = k at hfirst hlast ⊢
    rw [Nat.add_sub_cancel_left]
    rw [Nat.mul_comm] at hfirst hlast
    simp only [Nat.add_mul] at hlast
    refine tiles_of_range (fun i => max addr (min (addr + len) ((k + i) * page))) ?_ ?_ fun i hi => ?_
    · simp only [Nat.add_mul]; omega
    · simp only [Nat.add_mul]; omega
    · have hnext := Nat.mul_le_mul_right page (Nat.le_of_lt_succ hi)
      refine ⟨?_, ⟨k + i, ?_⟩, ?_⟩ <;> simp only [Nat.add_mul, Prod.mk.injEq] <;> omega

/-! ### The requests of a write -/

theorem slice_add (b : Bytes) (i n m : Nat) : slice b i n ++ slice b (i + n) m = slice b i (n + m) := by
  rw [slice, slice, slice, List.take_add, List.drop_drop]

theorem slice_slice (b : Bytes) {i n j m : Nat} (h : j + m ≤ n) : slice (slice b i n) j m = slice b (i + j) m := by
  rw [slice, slice, slice, List.drop_take, List.take_take, List.drop_drop, min_eq_left (by omega)]

theorem length_slice {b : Bytes} {i n : Nat} (h : i + n ≤ b.length) : (slice b i n).length = n := by
  rw [slice, List.length_take, List.length_drop, min_eq_left (by omega)]

/-- A part of a part of a write is a part of the write. -/
theorem HostWrite.part_part (w : HostWrite) {p q : Nat × Nat} (hw : w.addr ≤ p.1) (hp : p.1 ≤ q.1) (hq : q.1 + q.2 ≤ p.1 + p.2) :
    (w.part p).part q = w.part q := by
  have hlen : q.1 - p.1 + q.2 ≤ p.2 := by omega
  have hoff : p.1 - w.addr + (q.1 - p.1) = q.1 - w.addr := by omega
  simp only [HostWrite.part, slice_slice _ hlen, hoff]

/-- The parts of a write, one after the other, carry its bytes: each begins where the one before ends. -/
theorem Tiles.carries {ok : Nat → Nat → Prop} {w : HostWrite} {a n : Nat} {l : List (Nat × Nat)} (h : Tiles ok a n l) (ha : w.addr ≤ a)
    (hn : a + n ≤ w.addr + w.bytes.length) :
    (l.map w.part).flatMap (·.bytes) = slice w.bytes (a - w.addr) n ∧
    ∀ i x, (l.map w.part)[i]? = some x → x.func = w.func ∧ x.addr = a + (((l.map w.part).take i).flatMap (·.bytes)).length ∧
      0 < x.bytes.length ∧ ok x.addr x.bytes.length := by
  induction h with
  | nil a => simp [slice]
  | @cons a n m l pos here rest ih =>
    obtain ⟨hbytes, hparts⟩ := ih (by omega) (by omega)
    have hfirst : (w.part (a, n)).bytes.length = n := length_slice (by omega)
    have hoff : a + n - w.addr = a - w.addr + n := by omega
    constructor
    · rw [List.map_cons, List.flatMap_cons, hbytes, hoff]
      exact slice_add _ _ _ _
    · rintro (_ | i) x hx
      · obtain rfl : w.part (a, n) = x := by simpa using hx
        rw [hfirst]
        exact ⟨rfl, rfl, pos, here⟩
      · obtain ⟨hfunc, haddr, hrest⟩ := hparts i x (by simpa using hx)
        refine ⟨hfunc, ?_, hrest⟩
        rw [haddr, List.map_cons, List.take_succ_cons, List.flatMap_cons, List.length_append, hfirst, Nat.add_assoc]

/-- The ranges of the requests that carry a write. -/
def State.requestParts (s : State) (w : HostWrite) : List (Nat × Nat) :=
  (pageParts 4096 w.addr w.bytes.length).flatMap fun p => sizeParts (s.func w.func).maxPayload p.1 p.2

section
variable (s : State) (w : HostWrite) (hm : 0 < (s.func w.func).maxPayload)
include hm

theorem State.requestParts_tiles : Tiles (fun a n => n ≤ (s.func w.func).maxPayload ∧ OnePage 4096 a n) w.addr w.bytes.length
    (s.requestParts w) := by
  refine (pageParts_tiles (by decide) w.addr w.bytes.length).flatMap fun b k hpage => ?_
  refine (sizeParts_tiles hm b k).imp fun c n h1 h2 _ hsize => ⟨hsize, ?_⟩
  obtain ⟨j, hlo, hhi⟩ := hpage
  exact ⟨j, by omega, by omega⟩

theorem State.requestsOf_eq : s.requestsOf w = (s.requestParts w).map w.part := by
  have hpages := (pageParts_tiles (by decide : 0 < 4096) w.addr w.bytes.length).bounds
  rw [State.requestsOf, State.requestParts, List.map_flatMap]
  refine List.flatMap_congr fun p hp => List.map_congr_left fun q hq => ?_
  obtain ⟨h1, -⟩ := hpages p hp
  obtain ⟨h2, h3⟩ := (sizeParts_tiles hm p.1 p.2).bounds q hq
  exact w.part_part h1 h2 h3

/-- The requests of a write carry its bytes in order, none empty, too long or across a page. -/
theorem State.requestsOf_carry :
    (s.requestsOf w).flatMap (·.bytes) = w.bytes ∧
    ∀ i x, (s.requestsOf w)[i]? = some x → x.func = w.func ∧ x.addr = w.addr + (((s.requestsOf w).take i).flatMap (·.bytes)).length ∧
      0 < x.bytes.length ∧ x.bytes.length ≤ (s.func w.func).maxPayload ∧ x.addr / 4096 = (x.addr + x.bytes.length - 1) / 4096 := by
  obtain ⟨hbytes, hparts⟩ := (s.requestParts_tiles w hm).carries (Nat.le_refl _) (Nat.le_refl _)
  rw [s.requestsOf_eq w hm]
  refine ⟨?_, fun i x hx => ?_⟩
  · rw [hbytes]
    simp [slice]
  · obtain ⟨hfunc, haddr, hpos, hsize, hpage⟩ := hparts i x hx
    exact ⟨hfunc, haddr, hpos, hsize, hpage.div_eq hpos⟩
end

end Sys2Proof.Machine
end

section
/-!
PROOF. Completing an entry (R260, R276 to R279, R294): what a function that may write sends, what is held while it may not, and where that leaves the entry.
-/
namespace Sys2Proof.Machine
open Sys2Proof

/-! ### What a write sends -/

/-- `t` is `s` after messages were sent on channel `f`: only the record of what may have to be sent again has changed beside (R299). -/
structure Sent (f : Nat) (msgs : List OutMsg) (s t : State) : Prop where
  eq : t = { s with out := s.out ++ msgs, chans := t.chans }
  waiting : (t.chan f).waiting = (s.chan f).waiting
  halted : (t.chan f).halted = (s.chan f).halted

section
variable {f : Nat} {s t u : State} {a b : List OutMsg}

theorem Sent.trans (h1 : Sent f a s t) (h2 : Sent f b t u) : Sent f (a ++ b) s u where
  eq := by rw [h2.eq, h1.eq]; simp
  waiting := h2.waiting.trans h1.waiting
  halted := h2.halted.trans h1.halted

theorem Sent.nil (f : Nat) (s : State) : Sent f [] s s := ⟨by simp, rfl, rfl⟩

theorem Sent.emit (f : Nat) (s : State) (m : OutMsg) : Sent f [m] s (s.emit m) := ⟨rfl, rfl, rfl⟩

theorem Sent.func (h : Sent f a s t) (g : Nat) : t.func g = s.func g := by rw [h.eq]; rfl

theorem Sent.out (h : Sent f a s t) : t.out = s.out ++ a := by rw [h.eq]

/-- Sending a list of things one after the other, each of which sends the same whatever was sent before. -/
theorem Sent.foldl {α : Type} {g : State → α → State} {m : α → List OutMsg} (l : List α) :
    ∀ {s : State}, (∀ x ∈ l, ∀ t, t.funcs = s.funcs → Sent f (m x) t (g t x)) → Sent f (l.flatMap m) s (l.foldl g s) := by
  induction l with
  | nil => exact fun _ => Sent.nil f _
  | cons x l ih =>
    intro s h
    have hx := h x (List.mem_cons_self ..) s rfl
    have hfuncs : (g s x).funcs = s.funcs := by rw [hx.eq]
    exact hx.trans (ih fun y hy t ht => h y (List.mem_cons_of_mem _ hy) t (ht.trans hfuncs))
end

/-- The message that carries a request: output is marked for relaxed ordering where its function enables that (R279). -/
def requestMsg (relaxed : Bool) (w : HostWrite) : OutMsg := if relaxed then .relaxedWrite w else .hostWrite w

theorem requestMsg_eq (relaxed : Bool) : requestMsg relaxed = if relaxed then .relaxedWrite else .hostWrite := by
  cases relaxed <;> rfl

theorem State.sendRun_sent (s : State) (f : Nat) (relaxed : Bool) (w : HostWrite) : Sent f
    ((sizeParts (s.func w.func).maxPayload w.addr w.bytes.length).map fun p => requestMsg relaxed (w.part p)) s (s.sendRun relaxed w) := by
  rw [List.map_eq_flatMap]
  exact Sent.foldl _ fun p _ t _ => Sent.emit f t _

/-- A function without a dirty map marks no page (R309). -/
theorem State.dirtyMark_off {s : State} {f : Nat} (h : f = 0 ∨ (s.func f).dirtyEn = false) (addr len : Nat) : s.dirtyMark f addr len = s := by
  unfold State.dirtyMark
  rcases h with h | h <;> simp [h]

section
variable {s : State} {x : ChanWrite}

theorem State.issueWrite_sent (hd : x.write.func = 0 ∨ (s.func x.write.func).dirtyEn = false) (f : Nat) : Sent f
    ((s.requestsOf x.write).map (requestMsg (decide (x.kind = .outputWrite) && (s.func x.write.func).relaxed))) s (s.issueWrite x) := by
  have hpages := (pageParts_tiles (by decide : 0 < 4096) x.write.addr x.write.bytes.length).bounds
  rw [State.requestsOf, List.map_flatMap]
  refine Sent.foldl _ fun p hp t ht => ?_
  obtain ⟨h1, h2⟩ := hpages p hp
  have hfunc : t.func x.write.func = s.func x.write.func := congrArg (Sparse.get _ · _) ht
  have hlen : (x.write.part p).bytes.length = p.2 := length_slice (by omega)
  have hrun := t.sendRun_sent f (decide (x.kind = .outputWrite) && (t.func x.write.func).relaxed) (x.write.part p)
  rw [hlen, show (x.write.part p).func = x.write.func from rfl, hfunc, show (x.write.part p).addr = p.1 from rfl] at hrun
  rw [hfunc, State.dirtyMark_off (by rwa [hrun.func, hfunc]), List.map_map]
  exact hrun

theorem State.chan_setChan_self (hs : Canonical s) (f : Nat) (c : Channel) : (s.setChan f c).chan f = c := by
  rw [State.chan_setChan hs.chans, if_pos rfl]

theorem State.sendWrite_sent (hs : Canonical s) (hd : x.write.func = 0 ∨ (s.func x.write.func).dirtyEn = false) : Sent x.write.func
    ((s.requestsOf x.write).map (requestMsg (decide (x.kind = .outputWrite) && (s.func x.write.func).relaxed))) s (s.sendWrite x) := by
  let u := s.setChan x.write.func { s.chan x.write.func with unflushed := (s.chan x.write.func).unflushed ++ [x] }
  have hnoted : Sent x.write.func [] s u :=
    ⟨by simp [u, State.setChan], by rw [State.chan_setChan_self hs], by rw [State.chan_setChan_self hs]⟩
  exact hnoted.trans (State.issueWrite_sent (s := u) hd _)
end

/-! ### A function that may write, and one that may not -/

/-- Writes of a function leave at once: it masters the bus and is not in reset, the link is up, its channel runs and nothing waits on it. -/
structure MayWrite (s : State) (f : Nat) : Prop where
  bme : (s.func f).bme = true
  notReset : (s.func f).flrActive = false
  link : s.linkUp = true
  running : (s.chan f).halted = false
  free : (s.chan f).waiting = []

theorem MayWrite.sent {f : Nat} {s t : State} {a : List OutMsg} (h : MayWrite s f) (ht : Sent f a s t) : MayWrite t f where
  bme := by rw [ht.func]; exact h.bme
  notReset := by rw [ht.func]; exact h.notReset
  link := by rw [ht.eq]; exact h.link
  running := ht.halted.trans h.running
  free := ht.waiting.trans h.free

section
variable {s : State} {w : HostWrite} (kind : XferKind) (qid tag : Nat)

theorem State.requestsOf_empty (s : State) (h : w.bytes = []) : s.requestsOf w = [] := by
  simp [State.requestsOf, pageParts, h]

theorem State.hostWrite_sends_write (hw : MayWrite s w.func) (hb : w.bytes ≠ []) :
    s.hostWrite kind qid tag w = s.sendWrite ⟨w, kind, qid, tag⟩ := by
  simp [State.hostWrite, hw.running, hw.notReset, hb, hw.bme, hw.link, hw.free]

theorem State.hostWrite_empty (s : State) (hb : w.bytes = []) : s.hostWrite kind qid tag w = s := by
  simp [State.hostWrite, hb]

theorem State.hostWrite_sent (hs : Canonical s) (hw : MayWrite s w.func) (hd : w.func = 0 ∨ (s.func w.func).dirtyEn = false) : Sent w.func
    ((s.requestsOf w).map (requestMsg (decide (kind = .outputWrite) && (s.func w.func).relaxed))) s (s.hostWrite kind qid tag w) := by
  by_cases hb : w.bytes = []
  · rw [s.hostWrite_empty kind qid tag hb, s.requestsOf_empty hb]
    exact .nil _ _
  · rw [State.hostWrite_sends_write kind qid tag hw hb]
    exact State.sendWrite_sent (x := ⟨w, kind, qid, tag⟩) hs hd

/-- Writes of a function are held: its Bus Master Enable is 0, it is not in reset, and its channel runs (R260). -/
structure MayNotWrite (s : State) (f : Nat) : Prop where
  bme : (s.func f).bme = false
  notReset : (s.func f).flrActive = false
  running : (s.chan f).halted = false

theorem State.hostWrite_waits (hw : MayNotWrite s w.func) (hn : w.bytes ≠ []) : s.hostWrite kind qid tag w =
    s.setChan w.func { s.chan w.func with waiting := (s.chan w.func).waiting ++ [⟨w, kind, qid, tag⟩] } := by
  simp [State.hostWrite, hw.bme, hw.notReset, hw.running, hn]

/-- A held write changes its channel alone. -/
theorem State.hostWrite_held (hs : Canonical s) (hw : MayNotWrite s w.func) :
    s.hostWrite kind qid tag w = { s with chans := (s.hostWrite kind qid tag w).chans } ∧
      MayNotWrite (s.hostWrite kind qid tag w) w.func := by
  by_cases hn : w.bytes = []
  · rw [s.hostWrite_empty kind qid tag hn]
    exact ⟨rfl, hw⟩
  · rw [State.hostWrite_waits kind qid tag hw hn]
    exact ⟨rfl, hw.bme, hw.notReset, by rw [State.chan_setChan_self hs]; exact hw.running⟩
end

/-! ### The writes of an entry that completes -/

/-- The requests of a write depend on the settings of its function alone. -/
theorem State.requestsOf_congr {s t : State} {w : HostWrite} (h : t.func w.func = s.func w.func) : t.requestsOf w = s.requestsOf w := by
  rw [State.requestsOf, State.requestsOf, h]

section
variable {s : State} {t : Track} (status ext len : Nat) (out : Bytes)

theorem statusBytes_ne_nil : statusBytes status ext len ≠ [] := by simp [statusBytes]

/-- A function that may write sends the output and then the status. -/
theorem State.statusSent_sent (hs : Canonical s) (hw : MayWrite s t.func) (hd : t.func = 0 ∨ (s.func t.func).dirtyEn = false) : Sent t.func
    ((s.requestsOf ⟨t.func, t.entry.outAddr, out⟩).map (requestMsg (s.func t.func).relaxed) ++
      (s.requestsOf (s.statusWrite t status ext len)).map .hostWrite) s (s.statusSent t status ext len out) := by
  have hout := State.hostWrite_sent (w := ⟨t.func, t.entry.outAddr, out⟩) .outputWrite t.qid t.entry.tag hs hw hd
  have hcanon := (State.hostWrite_extends (.refl s) .outputWrite t.qid t.entry.tag ⟨t.func, t.entry.outAddr, out⟩).canonical hs
  have hstatus := State.hostWrite_sent (w := s.statusWrite t status ext len) .statusWrite t.qid t.entry.tag hcanon (hw.sent hout)
    (by rwa [hout.func])
  rw [State.requestsOf_congr (hout.func _)] at hstatus
  exact hout.trans hstatus

/-- While Bus Master Enable is 0 only the channel changes, and the status waits on it. -/
theorem State.statusSent_held (hs : Canonical s) (hw : MayNotWrite s t.func) :
    s.statusSent t status ext len out = { s with chans := (s.statusSent t status ext len out).chans } ∧
      ((s.statusSent t status ext len out).chan t.func).waiting ≠ [] := by
  obtain ⟨hout, hwout⟩ := State.hostWrite_held (w := ⟨t.func, t.entry.outAddr, out⟩) .outputWrite t.qid t.entry.tag hs hw
  have hcanon := (State.hostWrite_extends (.refl s) .outputWrite t.qid t.entry.tag ⟨t.func, t.entry.outAddr, out⟩).canonical hs
  rw [State.statusSent, State.hostWrite_waits (w := s.statusWrite t status ext len) _ _ _ hwout (statusBytes_ne_nil status ext len)]
  constructor
  · rw [hout]; rfl
  · exact (congrArg Channel.waiting (State.chan_setChan_self hcanon t.func _)).trans_ne (by simp)
end

/-! ### An entry outside group 0x06 completes -/

section
variable {s : State} {slot : Nat} {t : Track} (status ext len : Nat) (out : Bytes) (ht : s.track slot = some t)
  (hop : t.entry.opcode / 256 ≠ 6)

theorem Queue.retireTrack_irq (q : Queue) (t : Track) :
    (q.retireTrack t).irq = q.irq ++ if bitOf t.entry.flags.toNat 1 then [t.index] else [] := by
  unfold Queue.retireTrack
  dsimp only
  split <;> split <;> simp [Queue.retire]

theorem Queue.retireTrack_barrier {q : Queue} {t : Track} (hb : bitOf t.entry.flags.toNat 0 = true) :
    (q.retireTrack t).head = q.head ∧ (q.retireTrack t).flushing = q.flushing ++ [t.index] := by
  unfold Queue.retireTrack
  dsimp only
  rw [if_pos hb]
  split <;> exact ⟨rfl, rfl⟩

theorem Queue.retireTrack_noBarrier {q : Queue} {t : Track} (hb : bitOf t.entry.flags.toNat 0 = false) :
    (q.retireTrack t).head = (q.retire t.index).head := by
  unfold Queue.retireTrack
  dsimp only
  rw [if_neg (by simp [hb])]
  split <;> rfl

theorem State.retireEntry_out (s : State) (slot : Nat) (t : Track) : (s.retireEntry slot t).out =
    s.out ++ if bitOf t.entry.flags.toNat 0 then [.flushRead t.func (s.queue t.func t.qid).qcb] else [] := by
  have hqcb : (if bitOf t.entry.flags.toNat 1 then { s.queue t.func t.qid with irq := (s.queue t.func t.qid).irq ++ [t.index] }
      else s.queue t.func t.qid).qcb = (s.queue t.func t.qid).qcb := by split <;> rfl
  unfold State.retireEntry
  dsimp only
  split
  · rw [hqcb]; rfl
  · simp

theorem State.retireEntry_leaves (s : State) (slot : Nat) (t : Track) : (s.retireEntry slot t).regs = s.regs ∧
    (s.retireEntry slot t).tracker = (s.setTrack slot none).tracker := by
  unfold State.retireEntry
  dsimp only
  split <;> exact ⟨rfl, rfl⟩

theorem State.statusSent_regs (s : State) (t : Track) : (s.statusSent t status ext len out).regs = s.regs :=
  (State.hostWrite_regs _ _ _ _ _).trans (State.hostWrite_regs _ _ _ _ _)

include ht hop

/-- Outside group 0x06 no register counts the completion. -/
theorem State.completeLen_other : s.completeLen slot status ext len out =
    if ((s.statusSent t status ext len out).chan t.func).waiting.isEmpty then (s.statusSent t status ext len out).retireEntry slot t
    else (s.statusSent t status ext len out).setTrack slot (some { t with phase := .held }) := by
  rw [State.completeLen_eq ht, State.digestCounted, if_neg hop]

theorem State.completeLen_regs : (s.completeLen slot status ext len out).regs = s.regs := by
  rw [State.completeLen_other status ext len out ht hop]
  split
  · exact (State.retireEntry_leaves _ _ _).1.trans (State.statusSent_regs ..)
  · exact State.statusSent_regs ..

end

theorem Finishes.kst {s t : State} (h : Finishes s t) : t.kst = s.kst := by rw [h]
theorem Finishes.comb {s t : State} (h : Finishes s t) : t.comb = s.comb := by rw [h]

/-- The tracker slot and the queue of an entry that has retired. -/
theorem State.retireEntry_track {s : State} (hs : Canonical s) (slot : Nat) (t : Track) : (s.retireEntry slot t).track slot = none := by
  rw [State.track, (State.retireEntry_leaves s slot t).2]
  exact (State.track_setTrack hs.tracker slot slot none).trans (if_pos rfl)

theorem State.retireEntry_queue {s : State} (hs : Canonical s) (slot : Nat) (t : Track) :
    (s.retireEntry slot t).queue t.func t.qid = (s.queue t.func t.qid).retireTrack t := by
  rw [State.queue_congr (s.retireEntry_queues slot t), State.queue_setQueue_self hs]

/-- Settles O6: the requests of a write tile it; a completing entry sends its output and its status, and retires, or is held with them. -/
theorem completionOrder : Obligations.CompletionOrder := by
  unfold Obligations.CompletionOrder
  refine ⟨fun s w hm => s.requestsOf_carry w hm, ?_⟩
  intro s slot status ext len out t hs ht hop hh hr hd u q st
  have hu : u = _ := State.completeLen_other status ext len out ht hop
  have hfinish : Finishes s u := State.completeLen_finishes s slot status ext len out
  have hcanon : Canonical (s.statusSent t status ext len out) :=
    (State.hostWrite_extends (State.hostWrite_extends (.refl s) _ _ _ _) _ _ _ _).canonical hs
  have hqueue : (s.statusSent t status ext len out).queue t.func t.qid = q := (s.statusSent_sends t status ext len out).queue _ _
  refine ⟨State.completeLen_regs status ext len out ht hop, hfinish.kst, hfinish.comb, fun hb hl hfree => ?_, fun hb => ?_⟩
  · have hw : MayWrite s t.func := ⟨hb, hr, hl, hh, hfree⟩
    have hsent := State.statusSent_sent status ext len out hs hw hd
    rw [if_pos (by simp [(hw.sent hsent).free])] at hu
    have hretired : u.queue t.func t.qid = q.retireTrack t := by rw [hu, State.retireEntry_queue hcanon, hqueue]
    rw [hretired]
    refine ⟨?_, ?_, q.retireTrack_irq t, Queue.retireTrack_barrier, Queue.retireTrack_noBarrier⟩
    · rw [hu, State.retireEntry_track hcanon]
    · rw [hu, State.retireEntry_out, hsent.out, hqueue, requestMsg_eq, ← List.append_assoc]
      rfl
  · obtain ⟨hheld, hwaits⟩ := State.statusSent_held status ext len out hs (t := t) ⟨hb, hr, hh⟩
    rw [if_neg (by simpa using hwaits), hheld] at hu
    refine ⟨by rw [hu]; rfl, by rw [hu]; rfl, ?_⟩
    rw [hu]
    exact (State.track_setTrack hs.tracker slot slot _).trans (if_pos rfl)

end Sys2Proof.Machine
end

section
/-!
PROOF. A queue is created (R285): where its QCB write stands in the output, and how its first doorbell serves it.
-/
namespace Sys2Proof.Machine
open Sys2Proof

/-! ### Canonical tables are given by what their keys hold -/

section
variable {α : Type} [DecidableEq α] {d : Nat → α}

theorem Sparse.ext : ∀ {m n : Sparse α}, Sparse.wf d m = true → Sparse.wf d n = true → (∀ k, Sparse.get d m k = Sparse.get d n k) → m = n
  | [], [], _, _, _ => rfl
  | [], (k, w) :: n, _, hn, h => by
    obtain ⟨hw, -, -⟩ := (Sparse.wf_cons k w).1 hn
    exact absurd (h k).symm (by simpa [Sparse.get] using hw)
  | (j, v) :: m, [], hm, _, h => by
    obtain ⟨hv, -, -⟩ := (Sparse.wf_cons j v).1 hm
    exact absurd (h j) (by simpa [Sparse.get] using hv)
  | (j, v) :: m, (k, w) :: n, hm, hn, h => by
    obtain ⟨hv, hjm, hm'⟩ := (Sparse.wf_cons j v).1 hm
    obtain ⟨hw, hkn, hn'⟩ := (Sparse.wf_cons k w).1 hn
    have hjk : j = k := by
      rcases Nat.lt_trichotomy j k with hlt | heq | hlt
      · have habove : Sparse.above j ((k, w) :: n) := by
          rintro e (_ | ⟨_, he⟩)
          · exact hlt
          · exact hlt.trans (hkn e he)
        exact absurd ((h j).trans (Sparse.get_above habove)) (by simpa [Sparse.get] using hv)
      · exact heq
      · have habove : Sparse.above k ((j, v) :: m) := by
          rintro e (_ | ⟨_, he⟩)
          · exact hlt
          · exact hlt.trans (hjm e he)
        exact absurd ((h k).symm.trans (Sparse.get_above habove)) (by simpa [Sparse.get] using hw)
    subst hjk
    have hvw : v = w := by simpa [Sparse.get] using h j
    have htail : m = n := Sparse.ext hm' hn' fun i => by
      by_cases hi : j = i
      · rw [← hi, Sparse.get_above hjm, Sparse.get_above hkn]
      · simpa [Sparse.get, hi] using h i
    rw [hvw, htail]

/-- The later of two writes of a key stands. -/
theorem Sparse.set_set {m : Sparse α} {k : Nat} {a b : α} (hm : Sparse.wf d m = true) :
    Sparse.set d (Sparse.set d m k a) k b = Sparse.set d m k b := by
  refine Sparse.ext (Sparse.wf_set (Sparse.wf_set hm)) (Sparse.wf_set hm) fun i => ?_
  rw [Sparse.get_set (Sparse.wf_set hm), Sparse.get_set hm, Sparse.get_set hm]
  split <;> rfl
end

theorem State.setQueue_setQueue {s : State} (hs : Canonical s) (f q : Nat) (x y : Queue) :
    (s.setQueue f q x).setQueue f q y = s.setQueue f q y := by
  rw [State.setQueue, State.setQueue, State.setQueue, Sparse.set_set hs.queues]

/-! ### A write of one request -/

theorem pageParts_one {page a len : Nat} (hl : 0 < len) (h : a % page + len ≤ page) : pageParts page a len = [(a, len)] := by
  have hdiv := Nat.div_add_mod a page
  have hlast : (a + len - 1) / page = a / page :=
    Nat.div_eq_of_lt_le (by rw [Nat.mul_comm]; omega) (by rw [Nat.add_mul, Nat.mul_comm]; omega)
  have hlo : a / page * page ≤ a := Nat.div_mul_le_self a page
  have hhi : a + len ≤ (a / page + 1) * page := by rw [Nat.add_mul, Nat.mul_comm]; omega
  simp [pageParts, hl.ne', hlast, hlo, hhi]

theorem sizeParts_one {size a len : Nat} (hl : 0 < len) (h : len ≤ size) : sizeParts size a len = [(a, len)] := by
  have hone : (len + size - 1) / size = 1 := Nat.div_eq_of_lt_le (by omega) (by omega)
  simp [sizeParts, hone, h]

theorem HostWrite.part_whole (w : HostWrite) : w.part (w.addr, w.bytes.length) = w := by
  simp [HostWrite.part, slice]

section
variable {s : State}

/-- A write that is one request goes out as it stands; dirty marks may follow (R294, R309). -/
theorem State.sendWrite_one {x : ChanWrite} (hl : 0 < x.write.bytes.length) (hp : x.write.addr % 4096 + x.write.bytes.length ≤ 4096)
    (hm : x.write.bytes.length ≤ (s.func x.write.func).maxPayload) :
    s.out ++ [requestMsg (decide (x.kind = .outputWrite) && (s.func x.write.func).relaxed) x.write] <+: (s.sendWrite x).out := by
  let u := s.setChan x.write.func { s.chan x.write.func with unflushed := (s.chan x.write.func).unflushed ++ [x] }
  have hrun : u.sendRun (decide (x.kind = .outputWrite) && (s.func x.write.func).relaxed) x.write =
      u.emit (requestMsg (decide (x.kind = .outputWrite) && (s.func x.write.func).relaxed) x.write) := by
    have hmu : x.write.bytes.length ≤ (u.func x.write.func).maxPayload := hm
    rw [State.sendRun, sizeParts_one hl hmu, List.foldl_cons, List.foldl_nil, HostWrite.part_whole]
    rfl
  have hsend : s.sendWrite x = (u.sendRun (decide (x.kind = .outputWrite) && (s.func x.write.func).relaxed) x.write).dirtyMark x.write.func
      x.write.addr x.write.bytes.length := by
    rw [State.sendWrite, State.issueWrite, pageParts_one hl hp, List.foldl_cons, List.foldl_nil, HostWrite.part_whole]
    rfl
  rw [hsend, hrun]
  exact (State.dirtyMark_extends (.refl (u.emit _)) _ _ _).out

theorem State.complete_queue_other {slot : Nat} {t : Track} (ht : s.track slot = some t) (status ext : Nat) (out : Bytes) {f q : Nat}
    (h : qkey f q ≠ qkey t.func t.qid) : (s.complete slot status ext out).queue f q = s.queue f q := by
  rcases State.completeLen_queues ht status ext out.length out with hq | hq
  · exact State.queue_congr hq f q
  · exact (State.queue_congr hq f q).trans (Sparse.get_set_ne h)
end

/-! ### The first doorbell of a queue -/

/-- The state in which a queue waits for its turn to be scanned to PROD_IDX 1. -/
def State.duePending (s : State) (f q : Nat) : State := s.setQueue f q { s.queue f q with target := 1, rung := false, waiting := true }

/-- A doorbell with a PROD_IDX of 1 for a queue that has fetched nothing takes the entry that it finds, when the queue's turn has come. -/
theorem exec_doorbell_first {s : State} {f q : Nat} {b : Bytes} (hs : Canonical s) (he : (s.queue f q).state = .enabled)
    (hfetch : (s.queue f q).fetch = 0) (hhead : (s.queue f q).head = 0) (hn : (s.queue f q).scanning = false) (hon : s.qenOn = true)
    (hp : s.funcPresent f = true) (hb : (s.func f).bme = true) (hphase : phaseOf b = 1) (ha : (s.duePending f q).slotAllowed f q = true)
    (ht : (s.duePending f q).turn = some (f, q)) :
    let v := s.duePending f q
    exec (.doorbell f q ⟨1, [b]⟩) s = .next (settle s (scan f q []
      ({ v with lastFunc := f, funcs := Sparse.set funcReset v.funcs f { v.func f with lastQueue := q } }.takeEntry f q b))) := by
  intro v
  have hwait : (s.setQueue f q { s.queue f q with target := 1, rung := false }).setQueue f q
      { (s.setQueue f q { s.queue f q with target := 1, rung := false }).queue f q with waiting := true } = v := by
    rw [State.queue_setQueue_self hs, State.setQueue_setQueue hs]
    rfl
  have hvq : v.queue f q = { s.queue f q with target := 1, rung := false, waiting := true } := State.queue_setQueue_self hs f q _
  have hwants : v.wantsVisit f q = true := by
    have hbme : (v.func f).bme = true := hb
    simp [State.wantsVisit, hvq, he, hfetch, hbme, v, ha]
  have hone : ((1 : W32) - 0).toNat = 1 := rfl
  rw [exec_doorbell_rings hon hp he hb hn, State.ring_advances (by rw [hhead, hone]; exact Nat.one_le_two_pow) (by simp [hfetch, hhead]),
    State.serve_inTurn _ (by rw [hwait]; exact hwants) (by rw [hwait]; exact ht), hwait]
  let w := { v with lastFunc := f, funcs := Sparse.set funcReset v.funcs f { v.func f with lastQueue := q } }
  have hwq : w.queue f q = { s.queue f q with target := 1, rung := false, waiting := true } := hvq
  have htakes : scan f q [b] w = scan f q [] (w.takeEntry f q b) :=
    scan_takes (by rw [hwq]; exact he) [] (by rw [hwq]; simp [hfetch]) ha (by rw [hwq]; simp [hphase, expectedPhase, hfetch])
  exact congrArg (fun u => Host.Outcome.next (settle s u)) htakes

/-- The QCB write of a new queue is one request: HEAD_IDX 0 and DEV_FLAGS 0x01 (R265, R285). -/
theorem State.writeQcb_new {s : State} (hs : Canonical s) {f q : Nat} {t : Track} (hw : MayWrite s f) (ha : leAt t.input 8 8 % 64 = 0)
    (hm : 8 ≤ (s.func f).maxPayload) :
    s.out ++ [.hostWrite ⟨f, leAt t.input 8 8 + 8, [0, 0, 0, 0, 1, 0, 0, 0]⟩] <+: ((s.setQueue f q t.newQueue).writeQcb f q).out := by
  let r := s.setQueue f q t.newQueue
  let w : HostWrite := ⟨f, leAt t.input 8 8 + 8, [0, 0, 0, 0, 1, 0, 0, 0]⟩
  have hr : MayWrite r f := ⟨hw.bme, hw.notReset, hw.link, hw.running, hw.free⟩
  have hout : (r.writeQcb f q).out = (r.hostWrite .statusWrite q 0 w).out := by
    have hflags : t.newQueue.devFlags = 1 := rfl
    have hhead : t.newQueue.head = 0 := rfl
    have herr : t.newQueue.errCode = 0 := rfl
    have hbytes : toLE 4 t.newQueue.head.toNat ++ [BitVec.ofNat 8 t.newQueue.devFlags, BitVec.ofNat 8 t.newQueue.errCode, 0, 0] =
        [0, 0, 0, 0, 1, 0, 0, 0] := by
      simp [hflags, hhead, herr, toLE]
    rw [State.writeQcb, State.queue_setQueue_self hs, hbytes]
    rfl
  rw [hout, State.hostWrite_sends_write _ _ _ hr (List.cons_ne_nil _ _)]
  refine State.sendWrite_one (s := r) (x := ⟨w, .statusWrite, q, 0⟩) (Nat.zero_lt_succ 7) ?_ hm
  show (leAt t.input 8 8 + 8) % 4096 + 8 ≤ 4096
  omega

/-- Settles O40: the QCB write is the first of what the command sends, the completion of its entry leaves the new queue, and its first
doorbell finds it with its indices at 0. -/
theorem queueCreateEnables : Obligations.QueueCreateEnables := by
  unfold Obligations.QueueCreateEnables
  intro s slot t e f q hs hb ⟨hz, hz', hlen, hq, hdepth, hvec⟩ ⟨hstate, htotal, hown⟩ ⟨hd, hring, hqcb⟩
    ⟨_, hqid, hbme, hflr, hlink, hhalt, hwait, hmps⟩
  let u1 := (s.setQueue f q t.newQueue).writeQcb f q
  let u := settle s (u1.complete slot 0 0 [])
  have hexec : exec (.queueCreate slot) s = .next u := exec_queueCreate hb hz hz' hlen hq hstate htotal hown hdepth hvec hd hring hqcb
  have hu : Canonical u := (exec_extends hexec).canonical hs
  have htrack : u1.track slot = some t := by
    have hsame := (State.setQueue_sameRecords s f q t.newQueue).trans (State.writeQcb_sameRecords _ f q)
    exact (congrArg (Sparse.get _ · slot) hsame.tracker).trans hb.1
  have hkey : qkey f q ≠ qkey t.func t.qid := fun h => hqid (Nat.add_left_cancel h).symm
  have hqueue : u.queue f q = t.newQueue := by
    have hset : Canonical (s.setQueue f q t.newQueue) := (State.setQueue_extends (.refl s) _ _ _).canonical hs
    rw [(settle_sends s _).queue, State.complete_queue_other htrack 0 0 [] hkey, State.writeQcb_queue hset, State.queue_setQueue_self hs]
    rfl
  have hout : u1.out <+: u.out :=
    (settle_extends (State.complete_extends (.refl u1) slot 0 0 [])).out
  obtain ⟨rest, hrest⟩ := (State.writeQcb_new hs ⟨hbme, hflr, hlink, hhalt, hwait⟩ hqcb hmps).trans hout
  refine ⟨u, hexec, by rw [hqueue]; rfl, by rw [hqueue]; rfl, by rw [hqueue]; rfl, by rw [hqueue]; rfl, ⟨rest, ?_⟩, ?_⟩
  · rw [← hrest, List.append_assoc, List.singleton_append]
  · intro b hon hp hub hphase v ha hturn
    exact exec_doorbell_first hu (by rw [hqueue]; rfl) (by rw [hqueue]; rfl) (by rw [hqueue]; rfl) (by rw [hqueue]; rfl) hon hp hub hphase
      ha hturn

end Sys2Proof.Machine
end

section
/-!
PROOF. What the power block, the phase of boot, the temperatures and the PCIe link keep through the work of the units.
-/
namespace Sys2Proof.Machine
open Sys2Proof

/-! ### The standing of a state -/

/-- What power commands set and the work of the units leaves: the power block, but for the entry that a change completes, the phase of boot, the
temperatures, and whether the PCIe link is up. -/
structure Standing where
  power : Pwr
  phase : BootPhase
  temps : List Int
  linkUp : Bool

/-- The standing of a state. -/
def State.standing (s : State) : Standing where
  power := { s.pwr with change := s.pwr.change.map fun c => { c with slot := none } }
  phase := s.lcs.phase
  temps := s.comb.temps
  linkUp := s.linkUp

theorem foldl_standing {α : Type} {f : State → α → State} (h : ∀ s a, (f s a).standing = s.standing) (l : List α) (s : State) :
    (l.foldl f s).standing = s.standing := by
  induction l generalizing s with
  | nil => rfl
  | cons a l ih => rw [List.foldl_cons, ih, h]

theorem Finishes.standing {s t : State} (h : Finishes s t) : t.standing = s.standing := by
  rw [h]
  rfl

section
variable (s : State)

/-! #### Parts that touch one unit -/

@[simp] theorem State.setReg_standing (k : Nat) (v : W32) : (s.setReg k v).standing = s.standing := rfl
@[simp] theorem State.modReg_standing (k : Nat) (f : W32 → W32) : (s.modReg k f).standing = s.standing := rfl
@[simp] theorem State.raise_standing (k : Nat) (m : W32) : (s.raise k m).standing = s.standing := rfl
@[simp] theorem State.emit_standing (m : OutMsg) : (s.emit m).standing = s.standing := rfl
@[simp] theorem State.setChan_standing (n : Nat) (c : Channel) : (s.setChan n c).standing = s.standing := rfl
@[simp] theorem State.setTrack_standing (n : Nat) (t : Option Track) : (s.setTrack n t).standing = s.standing := rfl
@[simp] theorem State.setSlot_standing (n : Nat) (k : KeySlot) : (s.setSlot n k).standing = s.standing := rfl
@[simp] theorem State.emptySlot_standing (n : Nat) : (s.emptySlot n).standing = s.standing := rfl
@[simp] theorem State.modEngine_standing (e : Nat) (f : Engine → Engine) : (s.modEngine e f).standing = s.standing := rfl
@[simp] theorem State.wipeEngine_standing (e : Nat) : (s.wipeEngine e).standing = s.standing := rfl
@[simp] theorem State.occupy_standing (o : CombOp) (e : Nat) : (s.occupy o e).standing = s.standing := rfl
@[simp] theorem State.dropOp_standing (src : OpSrc) : (s.dropOp src).standing = s.standing := rfl
@[simp] theorem State.dropRun_standing (slot : Nat) : (s.dropRun slot).standing = s.standing := rfl
@[simp] theorem State.modDge_standing (f : Dge → Dge) : (s.modDge f).standing = s.standing := rfl
@[simp] theorem State.mrgUpdate_standing (m : Nat) (v : Bytes) : (s.mrgUpdate m v).standing = s.standing := rfl
@[simp] theorem State.cvuAbsorb_standing (n : Nat) (b : Bytes) : (s.cvuAbsorb n b).standing = s.standing := rfl
@[simp] theorem State.freeNat_standing : s.freeNat.2.standing = s.standing := rfl
@[simp] theorem State.cardOff_standing : s.cardOff.standing = s.standing := rfl
@[simp] theorem State.modTrk_standing (f : Trk → Trk) : (s.modTrk f).standing = s.standing := rfl
@[simp] theorem State.modLink_standing (west : Bool) (f : TrkLink → TrkLink) : (s.modLink west f).standing = s.standing := rfl
@[simp] theorem State.modRng_standing (f : Rng → Rng) : (s.modRng f).standing = s.standing := rfl
@[simp] theorem State.modMask_standing (c : Nat) (f : MaskChan → MaskChan) : (s.modMask c f).standing = s.standing := rfl
@[simp] theorem State.modEvj_standing (f : Evj → Evj) : (s.modEvj f).standing = s.standing := rfl
@[simp] theorem State.setSa_standing (i : Nat) (x : Option Sa) : (s.setSa i x).standing = s.standing := rfl
@[simp] theorem State.gateChannels_standing (cells : Nat) : (s.gateChannels cells).standing = s.standing := rfl
@[simp] theorem State.battLog_standing (src cls sample : Nat) (b : Bool) : (s.battLog src cls sample b).standing = s.standing := rfl
@[simp] theorem State.latchEvidence_standing (g : Nat) (b : Bool) : (s.latchEvidence g b).standing = s.standing := rfl
@[simp] theorem State.abortRestore_standing (slot : Nat) : (s.abortRestore slot).standing = s.standing := rfl
@[simp] theorem State.forgetTests_standing (slot : Nat) : (s.forgetTests slot).standing = s.standing := rfl
@[simp] theorem State.forgetWaits_standing (slot : Nat) : (s.forgetWaits slot).standing = s.standing := rfl
@[simp] theorem State.forgetRing_standing (slot : Nat) : (s.forgetRing slot).standing = s.standing := rfl
@[simp] theorem State.forgetDraws_standing (slot : Nat) : (s.forgetDraws slot).standing = s.standing := rfl

/-- The entry that a change completes may be dropped: the standing leaves it out. -/
@[simp] theorem State.forgetPower_standing (slot : Nat) : (s.forgetPower slot).standing = s.standing := by
  rcases h : s.pwr.change with _ | c
  · simp [State.standing, State.forgetPower, h]
  · by_cases hc : c.slot = some slot <;> simp [State.standing, State.forgetPower, h, hc]

/-! #### What is sent, logged and completed -/

@[simp] theorem State.complete_standing (slot status ext : Nat) (out : Bytes) : (s.complete slot status ext out).standing = s.standing :=
  (s.complete_finishes slot status ext out).standing

@[simp] theorem State.fail_standing (slot : Nat) (e : Nat × Nat) : (s.fail slot e).standing = s.standing := (s.fail_finishes slot e).standing

@[simp] theorem State.msix_standing (f v : Nat) : (s.msix f v).standing = s.standing := (s.msix_sends f v).finishes.standing

theorem settle_standing (t : State) : (settle s t).standing = t.standing := (settle_sends s t).finishes.standing

@[simp] theorem State.log_standing (e : LogEntry) : (s.log e).standing = s.standing := by
  unfold State.log State.logAt
  dsimp only
  split <;> rfl

/-! #### Engines and the tests that wait for them -/

@[simp] theorem State.unclaim_standing (n : Nat) : (s.unclaim n).standing = s.standing :=
  foldl_standing (fun s _ => s.setSlot_standing _ _) _ s

@[simp] theorem State.releaseDest_standing (d : Option Nat) : (s.releaseDest d).standing = s.standing := by
  unfold State.releaseDest; split <;> simp

@[simp] theorem State.sweepTree_standing (o : CombOp) : (s.sweepTree o).standing = s.standing := by
  unfold State.sweepTree; split <;> simp

@[simp] theorem State.endWaiting_standing (o : CombOp) (status ext : Nat) : (s.endWaiting o status ext).standing = s.standing := by
  unfold State.endWaiting; split <;> simp

@[simp] theorem State.dropHomeless_standing : s.dropHomeless.standing = s.standing :=
  foldl_standing (fun s o => s.endWaiting_standing o _ _) _ s

@[simp] theorem State.endRun_standing (slot : Nat) : (s.endRun slot).standing = s.standing := by
  unfold State.endRun; (repeat' split) <;> simp

@[simp] theorem State.stepRun_standing (slot e : Nat) (f : SelftestRun → SelftestRun) : (s.stepRun slot e f).standing = s.standing :=
  State.endRun_standing _ slot

@[simp] theorem State.skipTest_standing (e : Nat) (r : TestReason) (gated : Bool) : (s.skipTest e r gated).standing = s.standing := by
  unfold State.skipTest; (repeat' split) <;> simp

theorem startTests_standing (n : Nat) : (startTests n s).standing = s.standing := by
  induction n generalizing s with
  | zero => rfl
  | succ n ih =>
    unfold startTests
    split
    · dsimp only
      split
      · split
        · rw [ih, State.skipTest_standing]; rfl
        · split <;> rfl
      · rw [ih]; rfl
    · rfl

@[simp] theorem State.runTests_standing : s.runTests.standing = s.standing := startTests_standing s _

@[simp] theorem State.cancelTest_standing (e : Nat) : (s.cancelTest e).standing = s.standing := by
  unfold State.cancelTest
  split
  · split
    · rw [State.runTests_standing, State.skipTest_standing]; rfl
    · rfl
  · rfl

@[simp] theorem State.fenceNow_standing (e : Nat) : (s.fenceNow e).standing = s.standing := by
  unfold State.fenceNow
  rw [State.cancelTest_standing, foldl_standing (by simp)]
  refine (State.dropHomeless_standing _).trans ?_
  split <;> rfl

@[simp] theorem State.engineFree_standing (e : Nat) : (s.engineFree e).standing = s.standing := by
  unfold State.engineFree; (repeat' split) <;> simp

@[simp] theorem State.leaveEngine_standing (o : CombOp) : (s.leaveEngine o).standing = s.standing := by
  unfold State.leaveEngine; (repeat' split) <;> simp

@[simp] theorem State.testReturns_standing (e : Nat) (r : TestReason) : (s.testReturns e r).standing = s.standing := by
  unfold State.testReturns
  rw [State.runTests_standing, State.engineFree_standing]
  cases r with
  | unfence slot => exact State.complete_standing _ _ _ _ _
  | selftestRun slot => exact State.stepRun_standing _ _ _ _
  | _ => rfl

@[simp] theorem State.testGated_standing (e : Nat) : (s.testGated e).standing = s.standing := by
  unfold State.testGated; (repeat' split) <;> simp

@[simp] theorem State.gateEngines_standing (before : Nat) : (s.gateEngines before).standing = s.standing :=
  foldl_standing (fun s e => by simp) _ _

/-! #### What the units hold for an entry -/

@[simp] theorem State.forgetClaim_standing (slot : Nat) : (s.forgetClaim slot).standing = s.standing := by
  unfold State.forgetClaim; (repeat' split) <;> simp

@[simp] theorem State.dgeLeave_standing (slot : Nat) : (s.dgeLeave slot).standing = s.standing := by
  unfold State.dgeLeave
  dsimp only
  split
  · exact foldl_standing (fun s _ => s.mrgUpdate_standing _ _) _ _
  · rfl

@[simp] theorem State.cvuTake_standing (n slot : Nat) : (s.cvuTake n slot).standing = s.standing := by
  unfold State.cvuTake; dsimp only; (repeat' split) <;> rfl

@[simp] theorem State.cvuLeave_standing (n : Nat) : (s.cvuLeave n).standing = s.standing := by
  unfold State.cvuLeave; dsimp only; split <;> simp

@[simp] theorem State.forgetDigest_standing (slot : Nat) : (s.forgetDigest slot).standing = s.standing := by
  unfold State.forgetDigest; dsimp only; (repeat' split) <;> simp

@[simp] theorem State.forgetCalibration_standing (slot : Nat) : (s.forgetCalibration slot).standing = s.standing := by
  unfold State.forgetCalibration State.phwNextCalibration; (repeat' split) <;> rfl

@[simp] theorem State.forgetCard_standing (slot : Nat) : (s.forgetCard slot).standing = s.standing := by
  unfold State.forgetCard; dsimp only; (repeat' split) <;> rfl

@[simp] theorem State.forgetUnit_standing (slot : Nat) : (s.forgetUnit slot).standing = s.standing := by
  simp [State.forgetUnit]

@[simp] theorem State.dropEntry_standing (slot : Nat) : (s.dropEntry slot).standing = s.standing := by
  unfold State.dropEntry; dsimp only; (repeat' split) <;> simp

@[simp] theorem State.dropFunction_standing (f : Nat) : (s.dropFunction f).standing = s.standing :=
  foldl_standing (fun s slot => s.dropEntry_standing slot) _ s

@[simp] theorem State.endOp_standing (o : CombOp) (status ext : Nat) : (s.endOp o status ext).standing = s.standing := by
  unfold State.endOp State.endOpBy; dsimp only; (repeat' split) <;> simp

@[simp] theorem State.abortEntry_standing (slot status ext : Nat) : (s.abortEntry slot status ext).standing = s.standing := by
  unfold State.abortEntry; (repeat' split) <;> simp

@[simp] theorem State.abortWhere_standing (p : Track → Bool) (status ext : Nat) : (s.abortWhere p status ext).standing = s.standing :=
  foldl_standing (fun s slot => s.abortEntry_standing slot status ext) _ s

/-! #### Transfers that fail -/

@[simp] theorem State.haltChannel_standing (f : Nat) (x : FailedXfer) : (s.haltChannel f x).standing = s.standing := by
  unfold State.haltChannel
  dsimp only
  rw [State.log_standing, foldl_standing fun s q => by simp [State.haltedQueue]]
  exact s.dropFunction_standing f

@[simp] theorem State.failTransfer_standing (f : Nat) (x : FailedXfer) : (s.failTransfer f x).standing = s.standing := by
  unfold State.failTransfer; dsimp only; (repeat' split) <;> simp

@[simp] theorem State.failReads_standing : s.failReads.standing = s.standing := by
  refine foldl_standing (fun s f => ?_) _ s
  rw [foldl_standing fun s x => s.failTransfer_standing f x]
  dsimp only
  split <;> rfl

/-! #### The trunk -/

theorem State.process_standing (n k : Nat) : ∀ (ps : List Nat) (s : State), (s.process n k ps).standing = s.standing := by
  induction k with
  | zero => exact fun _ _ => rfl
  | succ k ih => exact fun ps s => (ih _ _).trans rfl

@[simp] theorem State.trkSend_standing (west : Bool) (typ dst : Nat) (detour : Bool) (p : Bytes) :
    (s.trkSend west typ dst detour p).standing = s.standing := by
  unfold State.trkSend State.trkFrame State.cipherPass
  dsimp only
  (repeat' split) <;> simp [State.process_standing]

@[simp] theorem State.sendLeave_standing (reason : Nat) : (s.sendLeave reason).standing = s.standing := by
  simp [State.sendLeave]

@[simp] theorem State.dropOwn_standing (job : OwnJob) : (s.dropOwn job).standing = s.standing := by
  unfold State.dropOwn; dsimp only; (repeat' split) <;> simp

@[simp] theorem State.dropHandshake_standing (west : Bool) : (s.dropHandshake west).standing = s.standing :=
  foldl_standing State.dropOwn_standing _ s

@[simp] theorem State.linksFall_standing : s.linksFall.standing = s.standing := by
  simp [State.linksFall, State.linkDown]

@[simp] theorem State.modSa_standing (i : Nat) (f : Sa → Sa) : (s.modSa i f).standing = s.standing := by
  unfold State.modSa; split <;> simp

@[simp] theorem State.confirmLms_standing (n : Nat) : (s.confirmLms n).standing = s.standing := by
  unfold State.confirmLms; dsimp only; (repeat' split) <;> simp

@[simp] theorem State.ackLms_standing (id : Bytes) (first : Nat) : (s.ackLms id first).standing = s.standing := by
  refine foldl_standing (fun s n => ?_) _ s
  dsimp only
  (repeat' split) <;> simp

@[simp] theorem State.confirmRecord_standing (r : TrkRecord) : (s.confirmRecord r).standing = s.standing := by
  cases r <;> simp [State.confirmRecord, State.confirmPn, State.confirmJrn]

@[simp] theorem State.confirmAll_standing : s.confirmAll.standing = s.standing :=
  foldl_standing State.confirmRecord_standing _ _

@[simp] theorem State.clearMap_standing : s.clearMap.standing = s.standing := by
  unfold State.clearMap
  dsimp only
  rw [foldl_standing fun s n => s.fail_standing n _]
  (repeat' split) <;> simp

@[simp] theorem State.trunkOff_standing : s.trunkOff.standing = s.standing := by
  have hlost (r : State) (t : Trk) (m : Sparse W32) : ({ r with trk := t, regs := m } : State).standing = r.standing := rfl
  unfold State.trunkOff
  exact (hlost _ _ _).trans s.clearMap_standing

/-! #### Alarms -/

@[simp] theorem State.haltResponse_standing (leave : Bool) : (s.haltResponse leave).standing = s.standing := by
  unfold State.haltResponse; split <;> simp

@[simp] theorem State.dropCeremony_standing : s.dropCeremony.standing = s.standing := by
  unfold State.dropCeremony; split <;> rfl

@[simp] theorem State.endProtected_standing : s.endProtected.standing = s.standing := by
  unfold State.endProtected
  dsimp only
  rw [State.dropCeremony_standing, State.cardOff_standing]
  have hxfer (r : State) : ({ r with lcs := { r.lcs with xferActive := false, xferSlot := none, xferRecord := none } } : State).standing =
      r.standing := rfl
  split
  · rw [State.complete_standing]
    refine (hxfer _).trans ?_
    split <;> simp
  · rw [hxfer]
    split <;> simp

@[simp] theorem State.zeroiseKeys_standing : s.zeroiseKeys.standing = s.standing :=
  (State.raise_standing _ _ _).trans s.endProtected_standing

@[simp] theorem State.alarm_standing (src cls sample detail tag : Nat) : (s.alarm src cls sample detail tag).standing = s.standing := by
  unfold State.alarm
  dsimp only
  have htem (r : State) (m : Tem) : ({ r with tem := m } : State).standing = r.standing := rfl
  (repeat' split) <;> simp only [htem, State.zeroiseKeys_standing, State.haltResponse_standing, State.emit_standing,
    State.latchEvidence_standing, State.raise_standing, State.battLog_standing, State.log_standing]

@[simp] theorem State.degradeBare_standing : s.degradeBare.standing = s.standing := State.alarm_standing _ _ _ _ _ _

/-! #### Mask blocks and port groups -/

@[simp] theorem State.giveSeed_standing (c : Nat) (seed : Bytes) : (s.giveSeed c seed).standing = s.standing := by
  unfold State.giveSeed; dsimp only; split <;> simp

@[simp] theorem State.giveBlock_standing (q : Requester) (block : Bytes) : (s.giveBlock q block).standing = s.standing := by
  cases q with
  | inst i => unfold State.giveBlock State.reseed; dsimp only; split <;> rfl
  | chan c => unfold State.giveBlock; dsimp only; split <;> simp

theorem allocate_standing (n : Nat) : (allocate n s).standing = s.standing := by
  induction n generalizing s with
  | zero => rfl
  | succ n ih =>
    unfold allocate
    split
    · rw [ih, State.giveBlock_standing, State.modRng_standing]
    · rfl

@[simp] theorem State.allocateAll_standing : s.allocateAll.standing = s.standing := by
  unfold State.allocateAll
  split
  · exact allocate_standing s _
  · rfl

@[simp] theorem State.portsOn_standing (on : Nat → Bool) : (s.portsOn on).standing = s.standing :=
  foldl_standing (fun s g => by split <;> rfl) _ s
end

end Sys2Proof.Machine
end

section
/-!
PROOF. Link, power-state and thermal commands (R258, R299, R491 to R507).
-/
namespace Sys2Proof.Machine
open Sys2Proof

/-! ### The PCIe link (R258, R299, R491, R494) -/

section
variable {s : State}

theorem State.pcieDown_of_down (h : s.linkUp = false) : s.pcieDown = s := by
  simp [State.pcieDown, h]

theorem State.pcieDown_of_up (h : s.linkUp = true) : s.pcieDown = { s with linkUp := false }.failReads := by
  simp [State.pcieDown, h]

/-- The link is down afterwards; the rest of the standing is as it was. -/
theorem State.pcieDown_standing (s : State) : s.pcieDown.standing = { s.standing with linkUp := false } := by
  rcases h : s.linkUp with _ | _
  · rw [State.pcieDown_of_down h, ← h]
    rfl
  · rw [State.pcieDown_of_up h, State.failReads_standing]
    rfl

theorem exec_perstAssert (h : s.pwr.perstLow = false) (hp : s.lcs.phase ≠ .reset) : exec .perstAssert s = .next (settle s
    ((({ s.pcieDown with pwr := { s.pcieDown.pwr with perstLow := true } }.resetAllFunctions).count Reg.pwrPerstCount).raise
      Reg.pwrEvent 8)) := by
  have hphase : s.pcieDown.lcs.phase ≠ .reset := by
    rw [show s.pcieDown.lcs.phase = s.lcs.phase from congrArg Standing.phase s.pcieDown_standing]
    exact hp
  show execPerstAssert s = _
  simp only [execPerstAssert, h, State.modPwr, hphase, Bool.false_eq_true, if_false]
  rfl

/-- No summary bit and no response shows what the power block holds. -/
theorem settle_pwr_self (s : State) (p : Pwr) : settle s { s with pwr := p } = { s with pwr := p } :=
  settle_quiet (show s.sumSignal &&& ~~~s.sumSignal = 0 by simp) (Nat.le_refl _)

theorem State.trainLink_speed (s : State) : s.trainLink.linkSpeed ∈ [64, 32, 16] := by
  have h : s.freeNat.1 % 3 < [64, 32, 16].length := Nat.mod_lt _ (Nat.zero_lt_succ 2)
  rw [show s.trainLink.linkSpeed = [64, 32, 16].getD (s.freeNat.1 % 3) 16 from rfl, List.getD_eq_getElem _ _ h]
  exact List.getElem_mem h

theorem two_pow_mod_five (n : Nat) : 2 ^ (n % 5) ∈ [1, 2, 4, 8, 16] := by
  have h : ∀ k < 5, 2 ^ k ∈ [1, 2, 4, 8, 16] := by decide
  exact h _ (Nat.mod_lt n (Nat.zero_lt_succ 4))

theorem exec_pcieLinkUp (hl : s.pwr.perstLow = false) (hr : s.pwr.refOk = true) (hp : s.lcs.phase ≠ .reset) :
    exec .pcieLinkUp s = .next (settle s
      (s.chans.foldl (fun (w : State) c => if w.mayRelease c.1 then w.releaseWrites c.1 else w) { s with linkUp := true }.trainLink)) := by
  show execPcieLinkUp s = _
  simp only [execPcieLinkUp, hl, hr, hp, Bool.false_eq_true, reduceCtorEq, or_self, if_false]
  rfl
end

/-! ### Power states (R500 to R504) -/

section
variable {s : State} {c : PowerChange}

/-- A standing with the power state that a change is for in force, and no change under way. -/
def Standing.changed (x : Standing) (c : PowerChange) : Standing := { x with
  power := { x.power with state := c.target, cellOn := c.cellOn, portOn := c.portOn, trunkOn := c.trunkOn, change := none } }

/-- A change to P0, P1 or P2 ends with that state in force, and the rest of the standing as it was. -/
theorem State.finishChange_standing (ht : c.target < 3) (hw : s.pwr.warmHeld = false) : (s.finishChange c).standing = s.standing.changed c := by
  have hforce (r : State) : (r.modPwr fun p => { p with
      state := c.target, cellOn := c.cellOn, portOn := c.portOn, trunkOn := c.trunkOn, change := none }).standing = r.standing.changed c := rfl
  have htrunk : (if s.pwr.trunkOn && !c.trunkOn then s.trunkOff else s).standing = s.standing := by split <;> simp
  have hrelease {r : State} {x : Standing} (h : r.standing = x) (hx : x.power.warmHeld = false) : r.releaseWarm.standing = x := by
    rw [State.releaseWarm, if_neg fun hr => Bool.false_ne_true (hx.symm.trans (h ▸ hr.1)), h]
  unfold State.finishChange
  dsimp only
  rw [if_neg (by omega)]
  refine hrelease ?_ hw
  rw [State.allocateAll_standing]
  split <;> simp only [State.complete_standing, State.dropHomeless_standing, State.raise_standing, State.setReg_standing,
    State.gateEngines_standing, hforce, State.portsOn_standing, State.gateChannels_standing, htrunk]

theorem exec_powerStateChangeDone (hc : s.pwr.change = some c) (hd : s.changeDrained c = true) (ht : c.target < 3) :
    exec .powerStateChangeDone s = .next (settle s (s.finishChange c)) := by
  show execPowerStateChangeDone s = _
  simp [execPowerStateChangeDone, hc, hd, ht, answer]

theorem exec_drainTimeout (hc : s.pwr.change = some c) (ha : c.aborting = false) : exec .drainTimeout s = .next (settle s
    (({ s with pwr := { s.pwr with change := some { c with aborting := true } } } : State).abortLeaving c)) := by
  show execDrainTimeout s = _
  simp only [execDrainTimeout, hc, ha, Bool.false_eq_true, if_false]
  rfl

theorem exec_setPowerState {slot : Nat} {t : Track} (hb : Begun s slot 0x20 0x20 t) (hz : t.entry.zeroFrom 46 55 = true)
    (htrunk : t.entry.p8 45 ≤ 1) (hm : t.entry.msgLen = 0) (hn : t.entry.keySlot = noSlot) (hv : s.powerValues t.entry = true)
    (hd : t.dmaFail = none) (hx : s.lcs.xferActive = false) (hc : s.pwr.change = none) :
    exec (.setPowerState slot) s = .next (settle s
      (if t.entry.p8 40 = s.pwr.state ∧ t.entry.p8 40 ≠ 1 then s.complete slot 0 0 [] else s.beginChange slot (s.changeFor slot t.entry))) := by
  have hexec := exec_checked (c := .setPowerState slot) hb rfl rfl <| .cons (chk_pass (by rw [hz, decide_eq_true htrunk, Bool.and_self])) <|
    .cons (chk_pass (noInputNoKey_pass hm hn)) <| .cons (chk_pass hv) <| .cons hd .nil
  rwa [if_neg (by simp [hx, hc])] at hexec
end

/-! ### The thermal limit (R507) -/

section
variable {s : State}

/-- The state with the temperatures of a sample. -/
def State.sampled (s : State) (l : List Int) (tj : Int) : State := { s with comb := { s.comb with temps := l } }.recordTj tj

theorem State.sampled_standing (l : List Int) (tj : Int) : (s.sampled l tj).standing = { s.standing with temps := l } := rfl

theorem State.sampled_thermCfg (l : List Int) (tj : Int) : (s.sampled l tj).reg Reg.pwrThermCfg = s.reg Reg.pwrThermCfg :=
  Sparse.get_set_ne (by decide)

theorem State.sampled_tLimit (l : List Int) (tj : Int) : (s.sampled l tj).tLimit = s.tLimit := by
  rw [State.tLimit, State.sampled_thermCfg]
  rfl

theorem State.sampled_tHyst (l : List Int) (tj : Int) : (s.sampled l tj).tHyst = s.tHyst := by
  rw [State.tHyst, State.sampled_thermCfg]
  rfl

/-- What a sample makes of the thermal state: whether the device is at its limit, and the samples below it so far. -/
def State.thermAfter (s : State) (tj : Int) : Bool × Nat :=
  if s.pwr.thermLimit then
    if tj < s.tLimit - s.tHyst then if 9 ≤ s.pwr.thermBelow then (false, 0) else (true, s.pwr.thermBelow + 1) else (true, 0)
  else if s.tLimit ≤ tj then (true, 0) else (false, s.pwr.thermBelow)

theorem State.thermAfter_sampled (l : List Int) (tj : Int) : (s.sampled l tj).thermAfter tj = s.thermAfter tj := by
  rw [State.thermAfter, State.sampled_tLimit, State.sampled_tHyst]
  rfl

/-- The step of THERMAL_SAMPLE once the sample is recorded. -/
def State.thermStep (s : State) (tj : Int) : State :=
  if s.pwr.thermLimit then s.thermCool tj else if s.tLimit ≤ tj then s.thermEnter else s

theorem exec_thermalSample {l : List Int} {o : Int} (hp : s.lcs.phase ≠ .reset) :
    exec (.thermalSample l o) s = .next (settle s ((s.sampled l (l.foldl max o)).thermStep (l.foldl max o))) := by
  show execThermalSample l o s = _
  simp only [execThermalSample, hp, if_false]
  rfl

theorem State.thermStep_standing (s : State) (tj : Int) : (s.thermStep tj).standing = { s.standing with
    power := { s.standing.power with thermLimit := (s.thermAfter tj).1, thermBelow := (s.thermAfter tj).2 } } := by
  unfold State.thermStep State.thermAfter
  rcases hlimit : s.pwr.thermLimit with _ | _
  · by_cases hhot : s.tLimit ≤ tj
    · simp only [hhot, Bool.false_eq_true, if_false, if_true]
      rw [State.thermEnter, State.degradeBare_standing]
      rfl
    · simp only [hhot, Bool.false_eq_true, if_false]
      rw [← hlimit]
      rfl
  · unfold State.thermCool
    by_cases hcool : tj < s.tLimit - s.tHyst
    · by_cases hten : 9 ≤ s.pwr.thermBelow
      · simp only [hcool, hten, if_true]
        rfl
      · simp only [hcool, hten, if_true, if_false]
        rw [← hlimit]
        rfl
    · simp only [hcool, if_true, if_false]
      rw [← hlimit]
      rfl
end

/-- Settles O47: each command by the branch that it takes, and what stands after the longer ones by the standing that their work keeps. -/
theorem powerCommandsComplete : Obligations.PowerCommandsComplete := by
  unfold Obligations.PowerCommandsComplete
  intro s
  refine ⟨exec_perstAssert, congrArg _ (settle_pwr_self s _), rfl, congrArg _ (settle_pwr_self s _), rfl, State.pcieDown_of_down, fun h =>
    ⟨State.pcieDown_of_up h, congrArg Standing.linkUp s.pcieDown_standing⟩, fun hl hr hp => ⟨rfl, State.trainLink_speed _,
    two_pow_mod_five _, exec_pcieLinkUp hl hr hp⟩, ?set, ?query, fun c hc ha => exec_drainTimeout hc ha, ?done, ?thermal⟩
  case set =>
    intro slot t hb hz htrunk hm hn hv hd hx hc
    rw [exec_setPowerState hb hz htrunk hm hn hv hd hx hc]
    refine ⟨fun h h1 => by rw [if_pos ⟨h, h1⟩], fun h => by rw [if_neg fun h' => h.elim (· h'.1) h'.2]⟩
  case query =>
    intro slot t hb hz hm hn hd hcap
    exact exec_checked hb rfl rfl <| .cons (chk_pass hz) <| .cons (chk_pass (noInputNoKey_pass hm hn)) <| .cons hd <| outHolds_pass hcap
  case done =>
    intro c hc hd ht hw
    have hstand := (settle_standing s _).trans (State.finishChange_standing ht hw)
    have hchange := congrArg (fun x => x.power.change) hstand
    exact ⟨_, exec_powerStateChangeDone hc hd ht, congrArg (fun x => x.power.state) hstand, Option.map_eq_none_iff.1 hchange,
      congrArg (fun x => x.power.cellOn) hstand, congrArg (fun x => x.power.portOn) hstand, congrArg (fun x => x.power.trunkOn) hstand⟩
  case thermal =>
    intro l o hp tj
    have hstand := (settle_standing s _).trans (State.thermStep_standing (s.sampled l tj) tj)
    rw [State.thermAfter_sampled, State.sampled_standing] at hstand
    have hlimit : (settle s ((s.sampled l tj).thermStep tj)).pwr.thermLimit = (s.thermAfter tj).1 := congrArg (fun x => x.power.thermLimit) hstand
    have hbelow : (settle s ((s.sampled l tj).thermStep tj)).pwr.thermBelow = (s.thermAfter tj).2 := congrArg (fun x => x.power.thermBelow) hstand
    refine ⟨_, exec_thermalSample hp, congrArg Standing.temps hstand, fun h ht => ?_, fun h ht => ?_, fun h ht => ?_, fun h ht => ?_⟩
    · rw [hlimit, hbelow]
      simp [State.thermAfter, h, ht]
    · rw [hlimit]
      simp [State.thermAfter, h, Int.not_le.2 ht]
    · rw [hlimit, hbelow]
      simp [State.thermAfter, h, Int.not_lt.2 ht]
    · rw [hlimit, hbelow]
      by_cases hten : 9 ≤ s.pwr.thermBelow
      · simp [State.thermAfter, h, ht, hten]
      · simp [State.thermAfter, h, ht, hten, Nat.lt_of_not_le hten]

end Sys2Proof.Machine
end

section
/-!
PROOF. SYNC of a VF's dirty map (R310): what becomes of its flushing read, and where the statement on it fails.
-/
namespace Sys2Proof.Machine
open Sys2Proof

/-! ### The flushing read of a sync (R260, R301, R310) -/

/-- No summary bit shows what a function holds. -/
@[simp] theorem State.setFunc_sumSignal (s : State) (n : Nat) (f : Func) : (s.setFunc n f).sumSignal = s.sumSignal := rfl

/-- The state with a VF's sync lost: its map is incomplete. -/
def State.syncLost (s : State) (n : Nat) : State :=
  s.setFunc n { s.func n with syncing := false, syncDue := false, dirtyStatus := setBits (s.func n).dirtyStatus 4 }

section
variable {s : State} {n : Nat}

theorem State.syncRead_waits (hb : (s.func 0).bme = false) :
    s.syncRead n = s.setFunc n { s.func n with syncing := true, syncDue := true } := by
  rw [State.syncRead, if_pos hb]

/-- While channel 0 is halted the read is not issued, and the sync is lost. -/
theorem State.syncRead_halted (hb : (s.func 0).bme = true) (hh : (s.chan 0).halted = true) : s.syncRead n = s.syncLost n := by
  rw [State.syncRead, if_neg (by simp [hb]), if_pos (.inr hh)]
  rfl

theorem State.syncRead_leaves (hb : (s.func 0).bme = true) (hl : s.linkUp = true) (hh : (s.chan 0).halted = false) : s.syncRead n =
    (s.setFunc n { s.func n with syncing := true, syncDue := false }).emit (.flushRead 0 (s.func n).dirtyMap) := by
  rw [State.syncRead, if_neg (by simp [hb]), if_neg (by simp [hl, hh])]
end

/-- The state with EN of the selected VF as DIRTY_CTRL is written. -/
def State.dirtyEnSet (s : State) (v : W32) : State :=
  s.setFunc (field (s.reg Reg.vfcFuncSel) 7 0) { s.func (field (s.reg Reg.vfcFuncSel) 7 0) with dirtyEn := flag v 0 }

section
variable {s : State} {v : W32} (ho : s.regsOpen = true) (hd : s.blockDown Reg.vfcFuncSel = false)
  (hn : field (s.reg Reg.vfcFuncSel) 7 0 ≠ 0) (hv : flag v 1 = true)
include ho hd hn hv

omit ho hd hv in
theorem State.dirtyEnSet_bme : ((s.dirtyEnSet v).func 0).bme = (s.func 0).bme :=
  congrArg Func.bme (Sparse.get_set_ne hn.symm)

theorem exec_sync : exec (.sync v) s = answer s ((s.dirtyEnSet v).syncRead (field (s.reg Reg.vfcFuncSel) 7 0)) := by
  show execSync v s = _
  rw [execSync, State.regWrite_on ho hd, if_neg hn, if_pos hv]
  rfl

/-- The clause of the statement on a read that leaves, with the premise that it lacks: channel 0 runs. -/
theorem exec_sync_leaves (hb : (s.func 0).bme = true) (hl : s.linkUp = true) (hh : (s.chan 0).halted = false) :
    let n := field (s.reg Reg.vfcFuncSel) 7 0
    let u := s.dirtyEnSet v
    exec (.sync v) s = .next (settle s
      ((u.setFunc n { u.func n with syncing := true, syncDue := false }).emit (.flushRead 0 (u.func n).dirtyMap))) :=
  (exec_sync ho hd hn hv).trans (congrArg (answer s) (State.syncRead_leaves ((State.dirtyEnSet_bme hn).trans hb) hl hh))

/-- While PF0's Bus Master Enable is 0 the sync waits for it. -/
theorem exec_sync_waits (hb : (s.func 0).bme = false) :
    let n := field (s.reg Reg.vfcFuncSel) 7 0
    let u := s.dirtyEnSet v
    exec (.sync v) s = .next (settle s (u.setFunc n { u.func n with syncing := true, syncDue := true })) :=
  (exec_sync ho hd hn hv).trans (congrArg (answer s) (State.syncRead_waits ((State.dirtyEnSet_bme hn).trans hb)))

/-- While channel 0 is halted the sync is lost, and no message leaves. -/
theorem exec_sync_halted (hb : (s.func 0).bme = true) (hh : (s.chan 0).halted = true) :
    exec (.sync v) s = .next ((s.dirtyEnSet v).syncLost (field (s.reg Reg.vfcFuncSel) 7 0)) := by
  rw [exec_sync ho hd hn hv, State.syncRead_halted (s := s.dirtyEnSet v) ((State.dirtyEnSet_bme hn).trans hb) hh]
  rw [answer, settle_quiet]
  · simp [State.syncLost, State.dirtyEnSet]
  · exact Nat.le_refl _
end

/-! ### Where the statement fails -/

/-- PF0 masters the bus over a link that is up, its channel has halted, and VF 1 exists and is selected. -/
def pf0Halted : State := { State.reset with
  lcs := { phase := .done, state := .owned }
  regs := [(Reg.vfcFuncSel, 1)]
  vfEnable := true
  numVfs := 1
  linkUp := true
  funcs := [(0, { funcReset 0 with bme := true })]
  chans := [(0, { halted := true })] }

/-- Refutes O42: its clause on a SYNC under PF0's Bus Master Enable with the link up does not ask that channel 0 runs. While that channel is halted
the flushing read is not issued and the sync is LOST (R301, R310): a SYNC for VF 1 sends nothing, where the statement has it send the read. On a
channel 0 that runs the clause holds (`exec_sync_leaves`), and so does that on a Bus Master Enable of 0 (`exec_sync_waits`). -/
theorem not_transferCommandsComplete : ¬ Obligations.TransferCommandsComplete := by
  unfold Obligations.TransferCommandsComplete
  intro h
  have hopen : pf0Halted.regsOpen = true := by decide
  have hon : pf0Halted.blockDown Reg.vfcFuncSel = false := by decide
  have hvf : field (pf0Halted.reg Reg.vfcFuncSel) 7 0 ≠ 0 := by decide
  obtain ⟨-, -, -, -, hsync, -⟩ := h pf0Halted 0
  have hsent := (hsync 3 hopen hon hvf (by decide)).1 (by decide) rfl
  have hlost := exec_sync_halted hopen hon hvf (v := 3) (by decide) (by decide) (by decide)
  have hsame := Host.Outcome.next.inj (hlost.symm.trans hsent)
  have hread := (settle_extends (s := pf0Halted) (.refl _)).out.length_le.trans_eq (congrArg (fun u => u.out.length) hsame.symm)
  exact absurd hread (by decide)

end Sys2Proof.Machine
end

section
/-!
PROOF. The quality code of a stamp (R369, R382).
-/
namespace Sys2Proof.Machine
open Sys2Proof

section
variable {s : State}

/-- E in units of a nanosecond's part of a second: the offset last written and the drift of every edge since (R369). -/
def State.holdoverError (s : State) : Nat := (s.reg Reg.tsuServoOffset).toNat * edgesPerSecond + s.driftPpb * s.tod.servoAge

/-- The edge at which the holdover is spent is the first whose E reaches 1,000 ns. -/
theorem State.inHoldover_iff : s.inHoldover = true ↔ s.holdoverError < 1000 * edgesPerSecond := by
  unfold State.inHoldover State.holdoverEdges State.holdoverError edgesPerSecond
  generalize (s.reg Reg.tsuServoOffset).toNat = offset
  rcases Nat.lt_or_ge offset 1000 with hlow | hhigh
  · by_cases hd : s.driftPpb = 0
    · simp only [hd, if_neg (show ¬ 1000 - offset = 0 by omega), if_true, true_iff]
      omega
    · simp only [hd, if_neg (show ¬ 1000 - offset = 0 by omega), if_false, decide_eq_true_eq]
      rw [Nat.lt_iff_add_one_le, Nat.le_div_iff_mul_le (Nat.pos_of_ne_zero hd), Nat.add_one_mul, Nat.mul_comm s.tod.servoAge]
      have hpos := Nat.pos_of_ne_zero hd
      generalize s.driftPpb * s.tod.servoAge = drift
      omega
  · simp only [if_pos (show 1000 - offset = 0 by omega), Nat.not_lt_zero, decide_false, Bool.false_eq_true, false_iff]
    omega

/-- Settles O20: the four values of the code, and the edge at which the holdover is spent as the bound on E. -/
theorem qualityCode : Obligations.QualityCode := by
  unfold Obligations.QualityCode
  intro s age offset locked bound suspect
  have hover : s.inHoldover = true ↔ bound < 1000 * 800000000 := State.inHoldover_iff
  have hcode : s.qualityCode =
      (if s.tod.servoSeen = false then 0x40 else if locked then 0 else if s.inHoldover then 0x10 else 0x20) + suspect := rfl
  refine ⟨fun hseen => ?_, fun hseen hlock => ?_, fun hseen hlock hb => ?_, fun hseen hlock hb => ?_⟩ <;> rw [hcode, hseen]
  · rw [if_pos rfl]
  · rw [if_neg Bool.noConfusion, if_pos hlock, Nat.zero_add]
  · rw [if_neg Bool.noConfusion, if_neg hlock, if_pos (hover.2 hb)]
  · rw [if_neg Bool.noConfusion, if_neg hlock, if_neg fun h => Nat.not_lt.2 hb (hover.1 h)]
end

end Sys2Proof.Machine
end

section
/-!
PROOF. A window of the phase witness (R379 to R384).
-/
namespace Sys2Proof.Machine
open Sys2Proof

/-! ### The parts of a window -/

/-- A register that a write of another leaves alone. -/
theorem State.setReg_reg_ne {s : State} {j k : Nat} {v : W32} (h : j ≠ k) : (s.setReg k v).reg j = s.reg j := Sparse.get_set_ne h

theorem State.log_phw (s : State) (e : LogEntry) : (s.log e).phw = s.phw := by
  unfold State.log State.logAt
  dsimp only
  split <;> rfl

/-- A judged window changes what the witness holds but its state, and where it counts enough windows beyond the bound it latches TIME_SUSPECT,
counts and logs it (R381, R382). -/
theorem State.phwJudge_cases (s : State) (r : Int) : ∃ p : Phw, p.state = s.phw.state ∧
    (s.phwJudge r = { s with phw := p } ∨ s.phwJudge r =
      ((({ s with phw := p } : State).raise Reg.phwSuspect 1).count Reg.phwSuspectCount).logEvent 0x3801 0 (BitVec.ofInt 64 r).toNat) := by
  unfold State.phwJudge
  extract_lets out latched n raise residuals u
  refine ⟨u.phw, rfl, ?_⟩
  cases raise
  · exact .inl rfl
  · exact .inr rfl

/-- The registers in which a judged window reports. -/
def judgedRegs : List Nat := [Reg.phwSuspect, Reg.phwSuspectCount, Reg.ercLogProd, Reg.ercLogLost]

theorem State.phwJudge_reg {k : Nat} (s : State) (r : Int) (hk : k ∉ judgedRegs) : (s.phwJudge r).reg k = s.reg k := by
  simp only [judgedRegs, List.mem_cons, List.not_mem_nil, or_false, not_or] at hk
  obtain ⟨hsuspect, hcount, hprod, hlost⟩ := hk
  obtain ⟨p, -, h | h⟩ := s.phwJudge_cases r
  · rw [h]
    rfl
  · rw [h]
    exact (State.log_reg _ hprod hlost _).trans ((State.setReg_reg_ne hcount).trans (State.setReg_reg_ne hsuspect))

theorem State.phwJudge_state (s : State) (r : Int) : (s.phwJudge r).phw.state = s.phw.state := by
  obtain ⟨p, hp, h | h⟩ := s.phwJudge_cases r
  · rw [h]
    exact hp
  · rw [h]
    exact (congrArg Phw.state (State.log_phw _ _)).trans hp

/-! ### PHW_WINDOW -/

section
variable (s : State) (a b freq : Nat) (r : Int)

/-- A window as its registers show it, before it moves the state. -/
def State.phwShown : State :=
  ((s.setReg Reg.phwFreq (BitVec.ofNat 32 freq)).setReg Reg.phwMag (BitVec.ofNat 32 (s.phwSelect a b).1)).setReg Reg.phwResidual
    (BitVec.ofInt 32 r)

/-- The state of Table 14.6 that a window leads to. -/
abbrev State.phwAfter : Nat := (s.phwNext (s.phwSelect a b).1 freq).1

/-- A window has moved the state, and is not yet judged. -/
def State.phwMoved : State :=
  let u := s.phwShown a b freq r
  let seed := u.freeNat
  let v := if s.phw.state == 1 && s.phwAfter a b freq == 2 then seed.2.modPhw fun p => { p with
    sigma := seed.1 % 2 ^ 32, residuals := List.replicate 64 ((seed.1 % 2 ^ 32 : Nat) : Int) } else u
  v.modPhw fun p => { p with
    state := s.phwAfter a b freq, windows := (s.phwNext (s.phwSelect a b).1 freq).2, onPwb := (s.phwSelect a b).2
    beyond := if s.phwAfter a b freq == 2 || s.phwAfter a b freq == 3 then p.beyond else 0 }

/-- The window judged, where its state is TRACKING or WIDE and it is not void (R381, R384). -/
def State.phwJudged : State :=
  let u := s.phwMoved a b freq r
  if (s.phwAfter a b freq == 2 || s.phwAfter a b freq == 3) && !u.phw.voided then u.phwJudge r else u

/-- What a window leaves. -/
def State.phwEnd : State :=
  let u := (s.phwJudged a b freq r).modPhw fun p => { p with voided := false }
  (u.setReg Reg.phwSigmaNs (BitVec.ofNat 32 u.phw.sigma)).setReg Reg.phwBoundNs (BitVec.ofNat 32 u.phwBound)

variable {s}

theorem exec_phwWindow_off (h : s.phw.state = 0 ∨ s.phw.state = 7) : exec (.phwWindow a b freq r) s = .next s := by
  show execPhwWindow a b freq r s = _
  rw [execPhwWindow, if_pos h, answer_self]

theorem exec_phwWindow_on (h0 : s.phw.state ≠ 0) (h7 : s.phw.state ≠ 7) :
    exec (.phwWindow a b freq r) s = .next (settle s (s.phwEnd a b freq r)) := by
  show execPhwWindow a b freq r s = _
  rw [execPhwWindow, if_neg (not_or.2 ⟨h0, h7⟩)]
  rfl


/-! ### What a window leaves -/

variable (s)

theorem State.phwMoved_reg (k : Nat) : (s.phwMoved a b freq r).reg k = (s.phwShown a b freq r).reg k := by
  unfold State.phwMoved
  dsimp only
  split <;> rfl

theorem State.phwEnd_reg {k : Nat} (hs : k ≠ Reg.phwSigmaNs) (hb : k ≠ Reg.phwBoundNs) :
    (s.phwEnd a b freq r).reg k = (s.phwJudged a b freq r).reg k :=
  (State.setReg_reg_ne hb).trans (State.setReg_reg_ne hs)

/-- A window that is not judged leaves TIME_SUSPECT. -/
theorem State.phwJudged_of_unjudged (h2 : s.phwAfter a b freq ≠ 2) (h3 : s.phwAfter a b freq ≠ 3) :
    s.phwJudged a b freq r = s.phwMoved a b freq r := by
  simp [State.phwJudged, h2, h3]

theorem State.phwEnd_shown {k : Nat} (hs : k ≠ Reg.phwSigmaNs) (hb : k ≠ Reg.phwBoundNs) (hk : k ∉ judgedRegs) :
    (s.phwEnd a b freq r).reg k = (s.phwShown a b freq r).reg k := by
  rw [State.phwEnd_reg s a b freq r hs hb, ← State.phwMoved_reg, State.phwJudged]
  split
  · exact State.phwJudge_reg _ r hk
  · rfl

theorem State.phwEnd_state : (s.phwEnd a b freq r).phw.state = s.phwAfter a b freq := by
  show (s.phwJudged a b freq r).phw.state = _
  rw [State.phwJudged]
  split
  · rw [State.phwJudge_state]
    rfl
  · rfl
end

/-- Settles O22: what a window shows and where it leads, by the cases of Table 14.6. -/
theorem phaseWitnessWindow : Obligations.PhaseWitnessWindow := by
  unfold Obligations.PhaseWitnessWindow
  intro s a b freq r
  refine ⟨exec_phwWindow_off a b freq r, fun hs h0 h7 => ⟨_, exec_phwWindow_on a b freq r h0 h7, ?_⟩⟩
  intro nominal mag wide
  have hreg (k : Nat) : (settle s (s.phwEnd a b freq r)).reg k = (s.phwEnd a b freq r).reg k := by rw [State.reg, settle_regs]; rfl
  have hshown (k : Nat) : (s.phwShown a b freq r).reg k =
      if k = Reg.phwResidual then BitVec.ofInt 32 r else if k = Reg.phwMag then BitVec.ofNat 32 mag
      else if k = Reg.phwFreq then BitVec.ofNat 32 freq else s.reg k := by
    have h1 := ((State.setReg_extends (.refl s) Reg.phwFreq (BitVec.ofNat 32 freq)).canonical hs)
    have h2 := ((State.setReg_extends (.refl _) Reg.phwMag (BitVec.ofNat 32 mag)).canonical h1)
    rw [State.phwShown, State.reg_setReg h2.regs, State.reg_setReg h1.regs, State.reg_setReg hs.regs]
  have hnext : (s.phwEnd a b freq r).phw.state = (s.phwNext mag freq).1 := State.phwEnd_state s a b freq r
  simp only [hreg, settle_phw, hnext]
  have hdark (h : mag * 10 < nominal) : s.phwNext mag freq = (5, 0) := if_pos h
  have hout (h : nominal ≤ mag * 10) (hf : freq < 45000 ∨ 65000 < freq) : s.phwNext mag freq = (6, 0) :=
    (if_neg (Nat.not_lt.2 h)).trans (if_pos hf)
  refine ⟨?_, ?_, ?_, rfl, fun h => by rw [hdark h], fun h hf => by rw [hout h hf], fun h hlo hhi => ?_, fun h2 h3 => ?_⟩
  · rw [State.phwEnd_shown _ _ _ _ _ (by decide) (by decide) (by decide), hshown]
    rfl
  · rw [State.phwEnd_shown _ _ _ _ _ (by decide) (by decide) (by decide), hshown]
    rfl
  · rw [State.phwEnd_shown _ _ _ _ _ (by decide) (by decide) (by decide), hshown]
    rfl
  · have hin : ¬(freq < 45000 ∨ 65000 < freq) := by omega
    have hsignal : s.phwNext mag freq =
        if s.phw.state = 5 ∨ s.phw.state = 6 then (1, 0)
        else if s.phw.state = 1 then (if s.phw.windows + 1 < 20 then (1, s.phw.windows + 1) else (2, 0))
        else if wide then (3, s.phw.windows + 1)
        else if s.phw.state = 3 then (4, 0)
        else if s.phw.state = 4 then (if s.phw.windows + 1 < 5 then (4, s.phw.windows + 1) else (2, 0))
        else (2, s.phw.windows + 1) := by
      refine (if_neg (Nat.not_lt.2 h)).trans ((if_neg hin).trans ?_)
      simp only [decide_eq_true_eq]
      rfl
    rw [hsignal]
    refine ⟨fun hs => by rw [if_pos hs], fun hs => ?_, fun hs hw => ?_, fun hs hw => ?_, fun hs hw => ?_, fun hs hw => ?_⟩
    · rw [hs, if_neg (by decide), if_pos rfl, apply_ite Prod.fst]
    · rw [if_neg (by omega), if_neg (by omega), if_pos hw]
    · rw [hs, if_neg (by decide), if_neg (by decide), if_neg hw, if_pos rfl]
    · rw [hs, if_neg (by decide), if_neg (by decide), if_neg hw, if_neg (by decide), if_pos rfl, apply_ite Prod.fst]
    · rw [hs, if_neg (by decide), if_neg (by decide), if_neg hw, if_neg (by decide), if_neg (by decide)]
  · rw [State.phwEnd_reg s a b freq r (by decide) (by decide), State.phwJudged_of_unjudged s a b freq r h2 h3, State.phwMoved_reg, hshown]
    rfl

end Sys2Proof.Machine
end

section
/-!
PROOF. Time registers and commands (R366 to R369, R377, R378, R384 to R389).
-/
namespace Sys2Proof.Machine
open Sys2Proof

/-! ### Registers and events -/

section
variable {s : State}

theorem exec_rateWrite (v : W32) (ho : s.regsOpen = true) (hb : s.blockDown Reg.tsuRate = false) :
    exec (.rateWrite v) s = .next (settle s (
      if 65536000 < (v.toInt - (s.reg Reg.tsuRate).toInt).natAbs then (s.setReg Reg.tsuRate v).phwVoid else s.setReg Reg.tsuRate v)) :=
  congrArg (answer s) (State.regWrite_on ho hb)

theorem exec_servoOffsetWrite (v : W32) (ho : s.regsOpen = true) (hb : s.blockDown Reg.tsuServoOffset = false) :
    exec (.servoOffsetWrite v) s = .next (settle s ((s.setReg Reg.tsuServoOffset v).modTod fun t =>
      { t with servoSeen := true, servoAge := 0 })) :=
  congrArg (answer s) (State.regWrite_on ho hb)

/-- A command that leaves every summary bit and the response ends with no message. -/
theorem settle_of_sameSignal {u : State} (h : u.sumSignal = s.sumSignal) (hr : u.tem.resp = s.tem.resp) : settle s u = u :=
  settle_quiet (by rw [h]; simp) (Nat.le_of_eq hr)

theorem exec_todNsRead (h : s.regsOpen = true) (hb : s.blockDown Reg.tsuTodNs = false) :
    exec .todNsRead s = .next { s with
      out := s.out ++ [.readData (BitVec.ofNat 32 s.tod.ns)]
      tsu := { s.tsu with latch := [BitVec.ofNat 32 s.tod.sec, BitVec.ofNat 32 (s.tod.sec / 2 ^ 32),
        BitVec.ofNat 32 (s.stampNow.frac + 256 * s.qualityCode), BitVec.ofNat 32 s.free.toNat,
        BitVec.ofNat 32 (s.free.toNat / 2 ^ 32)] } } := by
  simp only [State.regsOpen, Bool.and_eq_true, bne_iff_ne] at h
  exact (congrArg (answer s) (State.regRead_on h.1 h.2 hb)).trans (congrArg Host.Outcome.next (settle_of_sameSignal rfl rfl))

theorem exec_capCtrlEnable (v : W32) (ho : s.regsOpen = true) (hb : s.blockDown Reg.tsuCapCtrl = false) (hen : flag v 8 = true) :
    let u := s.plainWrite Reg.tsuCapCtrl v
    exec (.capCtrlEnable v) s = .next (settle s (({ u with
      tsu := { u.tsu with capLog2 := if flag (s.reg Reg.tsuCapCtrl) 8 then s.tsu.capLog2 else clamp 6 16 (field v 4 0) } }.setReg
        Reg.tsuCapProd 0).setReg Reg.tsuCapCons 0)) :=
  congrArg (answer s) ((State.regWrite_on ho hb).trans (if_pos hen))
end

/-! ### Commands (R387, R388) -/

section
variable {s : State} {slot : Nat} {t : Track}

theorem exec_timeRead (hb : Begun s slot 0x900 0x900 t) (hp : Passes (timeChecks t (t.entry.zeroFrom 40 55) true)) (ho : 32 ≤ t.entry.outCap) :
    exec (.timeRead slot) s = .next (settle s (s.complete slot 0 0 s.timeRead)) :=
  exec_checked hb rfl rfl (hp.append (.cons (chk_pass (decide_eq_true ho)) .nil))

theorem exec_phwCalibrate (hb : Begun s slot 0x902 0x902 t) (hp : Passes (timeChecks t (t.entry.zeroFrom 40 55) true))
    (ho : 8 ≤ t.entry.outCap) : exec (.phwCalibrate slot) s = .next (settle s
      (((s.busy slot).modPhw fun p => { p with calib := p.calib ++ [slot] }).phwNextCalibration)) :=
  exec_checked hb rfl rfl (hp.append (.cons (chk_pass (decide_eq_true ho)) .nil))

/-- TIME_STEP with RESTART = 0 to the time that the entry gives (R378, R384, R388). -/
theorem exec_timeStep_absolute (hb : Begun s slot 0x901 0x901 t) (hmode : t.entry.p8 40 = 1) (hz : t.entry.zeroFrom 41 41 = true)
    (hz' : t.entry.zeroFrom 52 55 = true) (hp : Passes (timeChecks t true true)) (hns : t.entry.pLE 48 4 < 10 ^ 9) :
    let n := t.entry.pLE 42 6 * 10 ^ 9 + t.entry.pLE 48 4
    exec (.timeStep slot) s = .next (settle s (((s.modTod fun d => { d with
      sec := n / 10 ^ 9, ns := n % 10 ^ 9, sub := 0, servoSeen := false }).phwVoid).complete slot 0 0 [])) := by
  have habs : bitOf (t.entry.p8 40) 0 = true := by rw [hmode]; rfl
  have hrestart : bitOf (t.entry.p8 40) 1 = false := by rw [hmode]; rfl
  have hsmall : decide (t.entry.p8 40 < 4) = true := by rw [hmode]; rfl
  rw [exec_begun (c := .timeStep slot) hb rfl]
  simp only [habs, hrestart, hsmall, hz, hz', if_true, if_pos hns, Bool.true_or, Bool.and_true, Option.isSome_some,
    State.checked_passes hp, Option.getD_some, Bool.false_eq_true, false_and, if_false, Bool.not_true, Bool.and_false]

/-- TIME_STEP with RESTART = 0 by the step that the entry gives, within the range of the time (R378, R384, R388). -/
theorem exec_timeStep_relative {n : Nat} (hb : Begun s slot 0x901 0x901 t) (hmode : t.entry.p8 40 = 0) (hz : t.entry.zeroFrom 41 41 = true)
    (hz' : t.entry.zeroFrom 42 43 = true) (hz'' : t.entry.zeroFrom 52 55 = true) (hp : Passes (timeChecks t true true))
    (hn : s.tod.stepped (signed64 (t.entry.pLE 44 8)) = some n) :
    exec (.timeStep slot) s = .next (settle s (((s.modTod fun d => { d with
      sec := n / 10 ^ 9, ns := n % 10 ^ 9 }).phwVoid).complete slot 0 0 [])) := by
  have hrel : bitOf (t.entry.p8 40) 0 = false := by rw [hmode]; rfl
  have hrestart : bitOf (t.entry.p8 40) 1 = false := by rw [hmode]; rfl
  have hsmall : decide (t.entry.p8 40 < 4) = true := by rw [hmode]; rfl
  rw [exec_begun (c := .timeStep slot) hb rfl]
  simp only [hrel, hrestart, hsmall, hz, hz', hz'', if_false, Bool.false_or, Bool.and_true, hn, Option.isSome_some,
    State.checked_passes hp, Option.getD_some, Bool.false_eq_true, false_and, Bool.not_false]

/-- The calibration at the front ends within 5 % of the reference: its coefficients are taken (R385). -/
theorem exec_phwCalibrationEnd_sound {reading offset gain : Int} {rest : List Nat} (hc : s.phw.calib = slot :: rest)
    (hlo : 570000 ≤ reading) (hhi : reading ≤ 630000) : exec (.phwCalibrationEnd reading offset gain) s = .next (settle s
      (((s.modPhw fun p => { p with calib := rest, offset := offset, gain := gain }).phwNextCalibration).complete slot 0 0
        (toLE 4 (BitVec.ofInt 32 offset).toNat ++ toLE 4 (BitVec.ofInt 32 gain).toNat))) := by
  have hok : (reading - 600000).natAbs ≤ 30000 := by omega
  show execPhwCalibrationEnd reading offset gain s = _
  simp only [execPhwCalibrationEnd, hc, hok, decide_true, if_true]
  rfl

/-- Outside 5 % it is a fault, and the old coefficients stay (R385). -/
theorem exec_phwCalibrationEnd_fault {reading offset gain : Int} {rest : List Nat} (hc : s.phw.calib = slot :: rest)
    (hout : reading < 570000 ∨ 630000 < reading) : exec (.phwCalibrationEnd reading offset gain) s = .next (settle s
      ((((s.modPhw fun p => { p with calib := rest }).phwNextCalibration).fail slot (0x22, 0xD1)).degrade 0x22 0xD1 0xFFFF (s.tagOf slot))) := by
  have hbad : ¬(reading - 600000).natAbs ≤ 30000 := by omega
  have htag (u : State) : u.phwNextCalibration.tagOf slot = u.tagOf slot := by
    unfold State.phwNextCalibration
    split <;> rfl
  show execPhwCalibrationEnd reading offset gain s = _
  simp only [execPhwCalibrationEnd, hc, hbad, decide_false, Bool.false_eq_true, if_false, htag]
  rfl
end

/-- Settles O21: each register access and event by its definition, each command by the checks that it passes. -/
theorem timeCommandsComplete : Obligations.TimeCommandsComplete := by
  unfold Obligations.TimeCommandsComplete
  intro s slot t e
  refine ⟨exec_rateWrite, exec_servoOffsetWrite, congrArg Host.Outcome.next (settle_of_sameSignal rfl rfl), fun n hn => ?_, exec_todNsRead,
    exec_capCtrlEnable, exec_timeRead, exec_timeStep_absolute, fun n => exec_timeStep_relative, exec_phwCalibrate,
    fun _ _ _ _ => exec_phwCalibrationEnd_sound, fun _ _ _ _ => exec_phwCalibrationEnd_fault⟩
  show execHoldoverLimit s = _
  rw [execHoldoverLimit, hn]
  exact congrArg Host.Outcome.next (settle_of_sameSignal rfl rfl)

end Sys2Proof.Machine
end

section
/-!
PROOF. The lookaside commands (R361 to R365): their admission by Table 13.8, and how each ends on the pipelines.
-/
namespace Sys2Proof.Machine
open Sys2Proof

/-! ### Admission (R361, R362) -/

section
variable {s : State} {slot lo hi : Nat} {t : Track} {c : Instr} {k : Track → State}

/-- The premises on an entry's key that every lookaside command shares. -/
structure State.CipherKey (s : State) (t : Track) : Prop where
  dma : t.dmaFail = none
  isSlot : t.entry.keySlot < 4096
  source : Passes (s.sourceKey t.func t.entry.keySlot Usage.cipher noDevice (fun _ => true))
  kind : within (s.slot t.entry.keySlot).kind 1 2 = true
  sound : s.slotBad t.entry.keySlot = false

/-- The state in which a command has gone to the pipelines with its keys. -/
def State.lkaTaken (s : State) (slot : Nat) (t : Track) (key2 : Bytes) : State :=
  (s.modLine fun l => { l with lka := l.lka ++ [{ slot := slot, key := (s.slot t.entry.keySlot).content, key2 := key2 }] }).busy slot

/-- The premises on the tweak key of an XTS command (R362). -/
structure State.TweakKey (s : State) (t : Track) : Prop where
  isSlot : t.entry.pLE 48 4 < 4096
  source : Passes (s.sourceKey t.func (t.entry.pLE 48 4) Usage.cipher noDevice (fun _ => true))
  other : t.entry.keySlot ≠ t.entry.pLE 48 4
  kind : (s.slot t.entry.keySlot).kind = (s.slot (t.entry.pLE 48 4)).kind
  value : (s.slot t.entry.keySlot).content ≠ (s.slot (t.entry.pLE 48 4)).content
  sound : s.slotBad (t.entry.pLE 48 4) = false

theorem State.TweakKey.key2Checks (h : s.TweakKey t) : Passes (s.key2Checks t) :=
  h.source.append (.cons (chk_pass (by simp [h.other, h.kind, h.value])) .nil)

variable (hkey : s.CipherKey t) (hb : Begun s slot lo hi t) (hc : exec c s = answer s (s.onEntry slot lo hi k))
include hkey hb hc

/-- A command whose checks pass takes its key, and its tweak key where it has one (`two`). -/
theorem exec_lkaStart {zero params two : Bool} {lens : List (Option (Nat × Nat))} (hk : k t = s.lkaStart slot t zero params two lens)
    (hz : zero = true) (hp : params = true) (h2 : two = true → s.TweakKey t) (hl : Passes lens) :
    exec c s = .next (settle s (s.lkaTaken slot t (if two then (s.slot (t.entry.pLE 48 4)).content else []))) := by
  have hslot2 : (!two || isSlot (t.entry.pLE 48 4)) = true := by
    cases two
    · rfl
    · exact decide_eq_true (h2 rfl).isSlot
  have hkey2 : Passes (if two then s.key2Checks t else []) := by
    cases two
    · exact .nil
    · exact (h2 rfl).key2Checks
  have hsound : ∀ n ∈ t.entry.keySlot :: (if two then [t.entry.pLE 48 4] else []), s.slotBad n = false := by
    cases two
    · simpa using hkey.sound
    · simpa using ⟨hkey.sound, (h2 rfl).sound⟩
  have hfields : Passes [chk zero St.badParam 0, chk params St.badParam 0xC0, t.entry.aSlot,
      chk (!two || isSlot (t.entry.pLE 48 4)) St.badParam 0x41] :=
    .cons (chk_pass hz) <| .cons (chk_pass hp) <| .cons (WorkEntry.aSlot_pass (decide_eq_true hkey.isSlot)) <| .cons (chk_pass hslot2) .nil
  refine (exec_checked hb hc hk <| .append (.append (.append (.append (.append hfields hkey.source) (.cons (chk_pass hkey.kind) .nil)) hkey2)
    (.cons hkey.dma .nil)) hl).trans ?_
  rw [State.readSlots_allSound hsound]
  rfl

/-- A command under one key. -/
theorem exec_lkaStart_one {zero params : Bool} {lens : List (Option (Nat × Nat))} (hk : k t = s.lkaStart slot t zero params false lens)
    (hz : zero = true) (hp : params = true) (hl : Passes lens) : exec c s = .next (settle s (s.lkaTaken slot t [])) :=
  exec_lkaStart hkey hb hc hk hz hp Bool.noConfusion hl

/-- A command under a key and a tweak key. -/
theorem exec_lkaStart_two {zero params : Bool} {lens : List (Option (Nat × Nat))} (hk : k t = s.lkaStart slot t zero params true lens)
    (hz : zero = true) (hp : params = true) (h2 : s.TweakKey t) (hl : Passes lens) :
    exec c s = .next (settle s (s.lkaTaken slot t (s.slot (t.entry.pLE 48 4)).content)) :=
  exec_lkaStart hkey hb hc hk hz hp (fun _ => h2) hl
end

/-- MSG_LEN is as Table 13.8 gives it. -/
theorem WorkEntry.lkaLen_pass {e : WorkEntry} {ok : Bool} (hok : ok = true) (hm : e.msgLen ≤ 2 ^ 24) : e.lkaLen ok = none :=
  chk_pass (by rw [hok, decide_eq_true hm]; rfl)

/-- Settles O32: each command's checks are those of its family, and they pass in the order of Table 5.7. -/
theorem cipherCommandsAdmit : Obligations.CipherCommandsAdmit := by
  unfold Obligations.CipherCommandsAdmit
  intro s slot t e k go hd hn hs hlo hhi hg hm
  have hkey : s.CipherKey t := ⟨hd, hn, hs, within_eq_true hlo hhi, hg⟩
  have hlen {ok : Bool} (h : ok = true) := WorkEntry.lkaLen_pass (e := e) h hm
  have hgmac (ht : e.tagOk = true) (ha : e.aadLen = 0) : (e.tagOk && e.aadLen == 0) = true := by rw [ht, ha]; rfl
  have hwrap {m low : Nat} (hm : e.msgLen % m = 0) (hlow : low ≤ e.msgLen) : (e.msgLen % m == 0 && decide (low ≤ e.msgLen)) = true := by
    rw [hm, decide_eq_true hlow]
    rfl
  refine ⟨?gcmEncrypt, ?gcmDecrypt, ?gmacGen, ?gmacVerify, ?ctr, ?cbcEncrypt, ?cbcDecrypt, ?xts, fun hz => ⟨?kwWrap, ?kwUnwrap, ?kwpWrap, ?kwpUnwrap⟩⟩
  case gcmEncrypt =>
    intro hb hz ht ha ho
    exact exec_lkaStart_one hkey hb rfl rfl hz ht <| .cons (hlen rfl) <| .cons (chk_pass (decide_eq_true ha)) (outHolds_pass ho)
  case gcmDecrypt =>
    intro hb hz ht ha ho
    exact exec_lkaStart_one hkey hb rfl rfl hz ht <| .cons (hlen rfl) <| .cons (chk_pass (decide_eq_true ha)) (outHolds_pass ho)
  case gmacGen =>
    intro hb hz ht ha ho
    exact exec_lkaStart_one hkey hb rfl rfl hz (hgmac ht ha) <| .cons (hlen rfl) (outHolds_pass ho)
  case gmacVerify =>
    intro hb hz ht ha ho
    exact exec_lkaStart_one hkey hb rfl rfl hz (hgmac ht ha) <| .cons (hlen rfl) <| .cons (chk_pass (decide_eq_true ho)) .nil
  case ctr =>
    intro hb ho
    exact exec_lkaStart_one hkey hb rfl rfl rfl rfl <| .cons (hlen rfl) (outHolds_pass ho)
  case cbcEncrypt =>
    intro hb h16 ho
    exact exec_lkaStart_one hkey hb rfl rfl rfl rfl <| .cons (hlen (beq_iff_eq.2 h16)) (outHolds_pass ho)
  case cbcDecrypt =>
    intro hb h16 ho
    exact exec_lkaStart_one hkey hb rfl rfl rfl rfl <| .cons (hlen (beq_iff_eq.2 h16)) (outHolds_pass ho)
  case xts =>
    rintro _ rfl hn2 hs2 hother hkind hvalue hg2 hz hlow ho
    have htweak : s.TweakKey t := ⟨hn2, hs2, hother, hkind, hvalue, hg2⟩
    have hlens := Passes.cons (hlen (decide_eq_true hlow)) (outHolds_pass ho)
    exact ⟨fun hb => exec_lkaStart_two hkey hb rfl rfl hz rfl htweak hlens, fun hb => exec_lkaStart_two hkey hb rfl rfl hz rfl htweak hlens⟩
  case kwWrap =>
    intro hb h8 hlow ho
    exact exec_lkaStart_one hkey hb rfl rfl hz rfl <| .cons (hlen (hwrap h8 hlow)) (outHolds_pass ho)
  case kwUnwrap =>
    intro hb h8 hlow ho
    exact exec_lkaStart_one hkey hb rfl rfl hz rfl <| .cons (hlen (hwrap h8 hlow)) (outHolds_pass ho)
  case kwpWrap =>
    intro hb hlow ho
    exact exec_lkaStart_one hkey hb rfl rfl hz rfl <| .cons (hlen (hwrap (Nat.mod_one _) hlow)) (outHolds_pass ho)
  case kwpUnwrap =>
    intro hb h8 hlow
    exact exec_lkaStart_one hkey hb rfl rfl hz rfl <| .cons (hlen (hwrap h8 hlow)) (outHolds_pass (Nat.zero_le _))

/-! ### The end of a command (R362, R363, R365, R479) -/

section
variable {s : State} {slot : Nat} {t : Track} {c : LkaCmd} (hc : s.line.lka.find? (fun c => c.slot == slot) = some c)
  (ht : s.track slot = some t)

/-- The state in which a command has left the pipelines and its input is counted. -/
def State.lkaLeft (s : State) (slot : Nat) (t : Track) : State :=
  ((s.cipherPass false t.input.length).modLine fun l => { l with lka := l.lka.filter (·.slot != slot) }).wideAdd
    (4 * Reg.lceLkaBytesLo) t.input.length

include hc ht

/-- Without a pipeline in the pool nothing ends. -/
theorem exec_lookasideCipherEnd_fenced (r : HbmRead) (h : s.line.fenced = 0xFFFF) : exec (.lookasideCipherEnd slot r) s = .next s := by
  show execLookasideCipherEnd slot r s = _
  simp only [execLookasideCipherEnd, hc, ht, if_pos h, answer_self]

/-- A command ends with its result; a held output has been read from the decryption hold. -/
theorem exec_lookasideCipherEnd_ends {r : HbmRead} (h : s.line.fenced ≠ 0xFFFF) (hr : r.failed = none) :
    exec (.lookasideCipherEnd slot r) s = .next (settle s
      ((if isHeldOut t.entry.opcode then (s.lkaLeft slot t).noteRead r else s.lkaLeft slot t).complete slot
        (lkaResult t.entry c t.input).1.1 (lkaResult t.entry c t.input).1.2 (lkaResult t.entry c t.input).2)) := by
  show execLookasideCipherEnd slot r s = _
  simp only [execLookasideCipherEnd, hc, ht, if_neg h, hr]
  split <;> rfl

theorem exec_lookasideCipherEnd_unread {r : HbmRead} {x : HbmUe} (h : s.line.fenced ≠ 0xFFFF) (hr : r.failed = some x)
    (hheld : isHeldOut t.entry.opcode = true) : exec (.lookasideCipherEnd slot r) s = .next (settle s
      (((s.lkaLeft slot t).hbmUe 2 x t.entry.tag).complete slot 0x25 0x38 [])) := by
  show execLookasideCipherEnd slot r s = _
  simp only [execLookasideCipherEnd, hc, ht, if_neg h, hr, if_pos hheld]
  rfl
end

/-- Settles O33: the three ways a command ends, and its result by its opcode. -/
theorem cipherCommandsEnd : Obligations.CipherCommandsEnd := by
  unfold Obligations.CipherCommandsEnd
  intro s slot t c hc ht e inp u held
  refine ⟨exec_lookasideCipherEnd_fenced hc ht, fun r => exec_lookasideCipherEnd_ends hc ht, fun r x => exec_lookasideCipherEnd_unread hc ht,
    fun h => ?_, fun h ct hct => ?_, fun h => ?_, fun h => ?_⟩
  · exact if_pos h
  · rw [hct]
    exact (if_neg (by rw [h]; decide)).trans (if_pos h)
  · simp only [lkaResult, h]
    rfl
  · simp only [lkaResult, h]
    rfl

end Sys2Proof.Machine
end

section
/-!
PROOF. What sending on the trunk touches.
-/
namespace Sys2Proof.Machine
open Sys2Proof

/-- `t` is `s` but for registers, output, free values, the entropy block and the trunk: all that a message on the trunk can touch. -/
def SendsOnTrunk (s t : State) : Prop := t = { s with regs := t.regs, out := t.out, freeUsed := t.freeUsed, rng := t.rng, trk := t.trk }

theorem SendsOnTrunk.refl (s : State) : SendsOnTrunk s s := rfl

theorem SendsOnTrunk.trans {s t u : State} (h1 : SendsOnTrunk s t) (h2 : SendsOnTrunk t u) : SendsOnTrunk s u := by
  unfold SendsOnTrunk at *; rw [h2, h1]

theorem State.process_onTrunk (n k : Nat) : ∀ (ps : List Nat) (s : State), SendsOnTrunk s (s.process n k ps) := by
  induction k with
  | zero => exact fun _ s => .refl s
  | succ k ih => exact fun ps s => SendsOnTrunk.trans (t := s.freeNat.2.modMask _ _) rfl (ih _ _)

theorem State.trkFrame_onTrunk (s : State) (west hello : Bool) (body : Bytes) : SendsOnTrunk s (s.trkFrame west hello body) := by
  unfold State.trkFrame
  dsimp only
  split
  · rfl
  · exact (State.process_onTrunk _ _ _ s).trans rfl

theorem State.trkSend_onTrunk (s : State) (west : Bool) (typ dst : Nat) (detour : Bool) (payload : Bytes) :
    SendsOnTrunk s (s.trkSend west typ dst detour payload) := by
  unfold State.trkSend
  split
  · exact .refl s
  · dsimp only
    split
    · exact .refl s
    · refine SendsOnTrunk.trans ?_ (State.trkFrame_onTrunk _ _ _ _)
      split <;> rfl

theorem State.mirrorAll_onTrunk (s : State) (rs : List TrkRecord) : SendsOnTrunk s (s.mirrorAll rs) := by
  unfold State.mirrorAll
  split
  · exact .refl s
  · split <;> rfl
  · dsimp only
    split
    · split <;> rfl
    · exact (State.trkSend_onTrunk s _ _ _ _ _).trans rfl

theorem State.mirror_onTrunk (s : State) (r : TrkRecord) : SendsOnTrunk s (s.mirror r) := s.mirrorAll_onTrunk [r]

end Sys2Proof.Machine
end

section
/-!
PROOF. Packet numbers (R341 to R344): a value is used once, and what else using it does to its SA.
-/
namespace Sys2Proof.Machine
open Sys2Proof

/-! ### Reading the SA table -/

section
variable {s : State}

theorem State.sa_setSa (h : Sparse.wf (fun _ => none) s.line.sas = true) (i j : Nat) (x : Option Sa) :
    (s.setSa i x).sa j = if j = i then x else s.sa j := Sparse.get_set h

theorem State.setSa_wf (h : Sparse.wf (fun _ => none) s.line.sas = true) (i : Nat) (x : Option Sa) :
    Sparse.wf (fun _ => none) (s.setSa i x).line.sas = true := by
  unfold State.setSa State.modLine
  exact Sparse.wf_set h

theorem State.modSa_some {i : Nat} {x : Sa} (hx : s.sa i = some x) (f : Sa → Sa) : s.modSa i f = s.setSa i (some (f x)) := by
  simp only [State.modSa, hx]
end

/-! ### What an SA keeps while its ratchet, its blocks and its warnings follow -/

/-- Two SAs of one next value, type, function, keys and descriptor. -/
structure Sa.Same (x y : Sa) : Prop where
  next : y.next = x.next
  saType : y.saType = x.saType
  func : y.func = x.func
  key : y.key = x.key
  rk : y.rk = x.rk
  desc : y.desc = x.desc

theorem Sa.Same.refl (x : Sa) : x.Same x := ⟨rfl, rfl, rfl, rfl, rfl, rfl⟩

theorem Sa.Same.trans {x y z : Sa} (h1 : x.Same y) (h2 : y.Same z) : x.Same z :=
  ⟨h2.next.trans h1.next, h2.saType.trans h1.saType, h2.func.trans h1.func, h2.key.trans h1.key, h2.rk.trans h1.rk, h2.desc.trans h1.desc⟩

/-- The table is canonical and holds at index i an SA that is `x` but for its blocks, its ratchet and its warnings. -/
def State.HoldsSa (s : State) (i : Nat) (x : Sa) : Prop := Sparse.wf (fun _ => none) s.line.sas = true ∧ ∃ y, s.sa i = some y ∧ x.Same y

section
variable {s t : State} {i : Nat} {x y : Sa}

theorem State.HoldsSa.of_line (h : s.HoldsSa i x) (hl : t.line = s.line) : t.HoldsSa i x := by
  unfold State.HoldsSa State.sa at *
  rw [hl]
  exact h

theorem State.HoldsSa.setSa (h : s.HoldsSa i x) (hy : x.Same y) : (s.setSa i (some y)).HoldsSa i x :=
  ⟨State.setSa_wf h.1 i _, y, (State.sa_setSa h.1 i i _).trans (if_pos rfl), hy⟩

theorem State.HoldsSa.modSa {f : Sa → Sa} (h : s.HoldsSa i x) (hf : ∀ y : Sa, y.Same (f y)) : (s.modSa i f).HoldsSa i x := by
  obtain ⟨y, hy, hxy⟩ := h.2
  rw [State.modSa_some hy]
  exact h.setSa (hxy.trans (hf y))

theorem State.log_line (s : State) (e : LogEntry) : (s.log e).line = s.line := by
  unfold State.log State.logAt
  dsimp only
  split <;> rfl

/-- A change of the SA that is reported. -/
theorem State.HoldsSa.reported {f : Sa → Sa} (h : s.HoldsSa i x) (hf : ∀ y : Sa, y.Same (f y)) {k code object detail : Nat} {m : W32} :
    (((s.modSa i f).raise k m).logEvent code object detail).HoldsSa i x :=
  (h.modSa hf).of_line (State.log_line _ _)

theorem State.HoldsSa.reservePn (h : s.HoldsSa i x) : (s.reservePn i).HoldsSa i x := by
  obtain ⟨y, hy, hxy⟩ := h.2
  have hannounced {u : State} (j : Nat) (b : Block) (hu : u.HoldsSa i x) : (u.announcePn j b).HoldsSa i x := by
    unfold State.announcePn
    split
    · exact hu
    · exact hu.of_line (by rw [State.mirror_onTrunk])
  simp only [State.reservePn, hy]
  split
  · exact hannounced _ _ (h.setSa (hxy.trans ⟨rfl, rfl, rfl, rfl, rfl, rfl⟩))
  · split
    · exact hannounced _ _ (h.setSa (hxy.trans ⟨rfl, rfl, rfl, rfl, rfl, rfl⟩))
    · exact h

theorem State.HoldsSa.beginRatchet (h : s.HoldsSa i x) : (s.beginRatchet i).HoldsSa i x := by
  unfold State.beginRatchet State.ratchetBlocked
  split
  · exact h.reported fun _ => by constructor <;> rfl
  · exact h.modSa fun _ => by constructor <;> rfl
end

/-! ### The next value -/

theorem Sa.nextValue_value {x : Sa} {n : Nat} (h : x.nextValue = .value n) : n = x.next ∧ n ≤ pnMax x.saType x.desc ∧
    ∃ b ∈ x.blocks, b.confirmed = true ∧ b.start ≤ n ∧ n < b.stop := by
  unfold Sa.nextValue at h
  split at h
  · cases h
  · next hmax =>
    split at h
    · next hblock =>
      cases h
      simp only [List.any_eq_true, Bool.and_eq_true, decide_eq_true_eq] at hblock
      obtain ⟨b, hb, ⟨hconfirmed, hstart⟩, hstop⟩ := hblock
      exact ⟨rfl, Nat.le_of_not_lt hmax, b, hb, hconfirmed, hstart, hstop⟩
    · cases h

/-- Using a value moves NEXT_PN by one; what follows of blocks, warnings and the ratchet leaves it. -/
theorem State.usePn_holds {s : State} {i : Nat} {x : Sa} (hs : Sparse.wf (fun _ => none) s.line.sas = true) (hx : s.sa i = some x) :
    (s.usePn i).HoldsSa i { x with next := x.next + 1 } := by
  simp -zeta only [State.usePn, hx]
  extract_lets n half s1 s2 s3 s4
  have h1 : s1.HoldsSa i { x with next := x.next + 1 } :=
    ⟨State.setSa_wf hs i _, _, (State.sa_setSa hs i i _).trans (if_pos rfl), ⟨rfl, rfl, rfl, rfl, rfl, rfl⟩⟩
  have h2 : s2.HoldsSa i { x with next := x.next + 1 } := by
    unfold s2
    cases half
    · exact h1
    · dsimp only
      split
      · exact h1.reservePn
      · exact h1
  have h3 : s3.HoldsSa i { x with next := x.next + 1 } := by
    unfold s3
    split
    · exact h2.reported fun _ => by constructor <;> rfl
    · exact h2
  have h4 : s4.HoldsSa i { x with next := x.next + 1 } := by
    unfold s4
    split
    · split
      · exact h3.reported fun _ => by constructor <;> rfl
      · exact h3
    · exact h3
  split
  · split
    · exact h4.beginRatchet
    · exact h4
  · exact h4

/-- Settles O36: what a value given says of the SA, and what the SA keeps when it is used. -/
theorem packetNumberUsedOnce : Obligations.PacketNumberUsedOnce := by
  unfold Obligations.PacketNumberUsedOnce
  intro s i x hs hx
  obtain ⟨-, y, hy, hxy⟩ := State.usePn_holds hs hx
  exact ⟨fun n => Sa.nextValue_value, fun h => if_pos h, y, hy, hxy.next, hxy.saType, hxy.func, hxy.key, hxy.rk, hxy.desc⟩

end Sys2Proof.Machine
end

section
/-!
PROOF. The SA commands (R331, R332, R334 to R340): which checks an entry passes, and which decides where it fails.
-/
namespace Sys2Proof.Machine
open Sys2Proof

section
variable {s : State} {slot : Nat} {t : Track}

/-- The SA index of an entry lies in its function's range (R332). -/
abbrev State.OwnsSa (s : State) (t : Track) : Prop :=
  (s.func t.func).saBase ≤ t.entry.keySlot ∧ t.entry.keySlot < (s.func t.func).saBase + (s.func t.func).saCount

theorem State.saInRange_pass (h : s.OwnsSa t) : s.saInRange t = none := chk_pass (by simp [h])

theorem State.saInRange_fail (h : ¬ s.OwnsSa t) : s.saInRange t = some (St.keyPolicy, 0xB0) := by
  rw [State.saInRange, ← Bool.decide_and, decide_eq_false h, chk_false]

theorem State.saPresent_pass (h : (s.sa t.entry.keySlot).isSome = true) : s.saPresent t = none := chk_pass h

theorem State.saPresent_fail (h : s.sa t.entry.keySlot = none) : s.saPresent t = some (St.keyEmpty, 0xB0) := by
  rw [State.saPresent, h]
  rfl

theorem FailsWith.head {a : Option (Nat × Nat)} {l : List (Option (Nat × Nat))} {e : Nat × Nat} (ha : a = some e) (he : e ≠ notGathered) :
    FailsWith (a :: l) e := ⟨by rw [ha]; rfl, he⟩

theorem FailsWith.cons {a : Option (Nat × Nat)} {l : List (Option (Nat × Nat))} {e : Nat × Nat} (ha : a = none) (h : FailsWith l e) :
    FailsWith (a :: l) e := ⟨by rw [ha]; exact h.1, h.2⟩

/-- An entry fails with its first check that does not hold, where that is none of Table 11.1. -/
theorem exec_checked_fails {s u : State} {slot lo hi : Nat} {t : Track} {c : Instr} {k : Track → State} {l : List (Option (Nat × Nat))}
    {e : Nat × Nat} (hb : Begun s slot lo hi t) (hc : exec c s = answer s (s.onEntry slot lo hi k)) (hk : k t = s.checked slot l u)
    (hf : FailsWith l e) (he : e.2 < 0xA0 ∨ 0xA3 < e.2) : exec c s = .next (settle s (s.fail slot e)) := by
  have hreject : s.reject slot e = s.fail slot e := by
    rw [State.reject, if_neg (by omega), if_neg (by omega)]
  rw [exec_begun hb hc, hk, State.checked_fails hf, hreject]

/-! ### SA_INSTALL -/

/-- The premises on an SA_INSTALL that its type, source key and descriptor share (R335, R339, R340). -/
structure State.Installs (s : State) (slot : Nat) (t : Track) : Prop where
  begun : Begun s slot 0x800 0x800 t
  zero : t.entry.zeroFrom 45 55 = true
  owns : s.OwnsSa t
  typeLo : 1 ≤ t.entry.p8 44
  typeHi : t.entry.p8 44 ≤ 6
  isSlot : t.entry.pLE 40 4 < 4096
  free : s.sa t.entry.keySlot = none
  source : Passes (s.sourceKey t.func (t.entry.pLE 40 4) Usage.sa noDevice
    (fun k => if isMacsec (t.entry.p8 44) then within k 1 2 else k == 2))
  dma : t.dmaFail = none
  len : t.entry.msgLen = 64
  desc : descOk (t.entry.p8 44) (fit 64 t.input) = true
  kind : (s.slot (t.entry.pLE 40 4)).kind = saKeyKind (t.entry.p8 44) (fit 64 t.input)
  agrees : isMacsec (t.entry.p8 44) = true → ∀ x ∈ s.blockSas t.entry.keySlot, blockAgrees (t.entry.p8 44) (fit 64 t.input) x = true
  pins : bitOf t.entry.flags.toNat 3 = true → s.pinnedSas < 16384
  room : s.saRoom (if t.entry.p8 44 = 4 ∧ 128 < leAt (fit 64 t.input) 20 2 then 5 else 1) = true
  sound : s.slotBad (t.entry.pLE 40 4) = false

/-- An SA_INSTALL ratchets: it names a second slot, for the ratchet key (R336, R352). -/
abbrev Track.installRatchets (t : Track) : Bool := isMacsec (t.entry.p8 44) && bitOf (natAt (fit 64 t.input) 1) 5

/-- SA_INSTALL installs the SA with its key, and a ratcheting one with its ratchet key. -/
theorem exec_saInstall (h : s.Installs slot t)
    (hrk : t.installRatchets = true → Passes (s.sourceKey t.func (leAt (fit 64 t.input) 40 4) Usage.sa noDevice (· == 2)) ∧
      s.slotBad (leAt (fit 64 t.input) 40 4) = false) :
    exec (.saInstall slot) s = .next (settle s ((s.installSa t.entry.keySlot (newSa (t.entry.p8 44) t.func (bitOf t.entry.flags.toNat 3)
      (fit 64 t.input) (s.slot (t.entry.pLE 40 4)).content
      (if t.installRatchets then (s.slot (leAt (fit 64 t.input) 40 4)).content else []))).complete slot 0 0 [])) := by
  have hagrees : (!isMacsec (t.entry.p8 44) || (s.blockSas t.entry.keySlot).all (blockAgrees (t.entry.p8 44) (fit 64 t.input))) = true := by
    cases hm : isMacsec (t.entry.p8 44)
    · rfl
    · exact List.all_eq_true.2 (h.agrees hm)
  have hpins : (!bitOf t.entry.flags.toNat 3 || decide (s.pinnedSas < 16384)) = true := by
    cases hp : bitOf t.entry.flags.toNat 3
    · rfl
    · exact decide_eq_true (h.pins hp)
  have hsecond : Passes (if t.installRatchets then s.sourceKey t.func (leAt (fit 64 t.input) 40 4) Usage.sa noDevice (· == 2) else []) := by
    cases hr : t.installRatchets
    · exact .nil
    · exact (hrk hr).1
  have hsound : ∀ n ∈ t.entry.pLE 40 4 :: (if t.installRatchets then [leAt (fit 64 t.input) 40 4] else []), s.slotBad n = false := by
    cases hr : t.installRatchets
    · simpa using h.sound
    · simpa using ⟨h.sound, (hrk hr).2⟩
  refine (exec_checked h.begun rfl rfl <| .append (.append (.append (.append ?fields h.source) ?content) hsecond) ?block).trans ?_
  case fields =>
    exact .cons (chk_pass h.zero) <| .cons (State.saInRange_pass h.owns) <| .cons (chk_pass (within_eq_true h.typeLo h.typeHi)) <|
      .cons (chk_pass (decide_eq_true h.isSlot)) <| .cons (chk_pass (by rw [h.free]; rfl)) .nil
  case content =>
    exact .cons h.dma <| .cons (chk_pass (beq_iff_eq.2 h.len)) <| .cons (chk_pass h.desc) <| .cons (chk_pass (beq_iff_eq.2 h.kind)) .nil
  case block =>
    exact .cons (chk_pass hagrees) <| .cons (chk_pass hpins) <| .cons (chk_pass h.room) .nil
  rw [State.readSlots_allSound hsound]

/-! ### SA_PIN -/

theorem exec_saPin {x : Sa} (hb : Begun s slot 0x802 0x802 t) (hbit : t.entry.p8 40 < 2) (hz : t.entry.zeroFrom 41 55 = true)
    (hm : t.entry.msgLen = 0) (hw : s.OwnsSa t) (hx : s.sa t.entry.keySlot = some x)
    (hroom : bitOf (t.entry.p8 40) 0 = true → x.pinned = true ∨ s.pinnedSas < 16384) (hd : t.dmaFail = none) :
    exec (.saPin slot) s = .next (settle s
      ((s.setSa t.entry.keySlot (some { x with pinned := bitOf (t.entry.p8 40) 0 })).complete slot 0 0 [])) := by
  have hpins : (!bitOf (t.entry.p8 40) 0 || (match s.sa t.entry.keySlot with | some x => x.pinned | none => false) ||
      decide (s.pinnedSas < 16384)) = true := by
    simp only [hx]
    cases hp : bitOf (t.entry.p8 40) 0
    · rfl
    · rcases hroom hp with h | h <;> simp [h]
  have hpresent : s.saPresent t = none := State.saPresent_pass (by rw [hx]; rfl)
  have hexec := exec_checked (c := .saPin slot) hb rfl rfl <| .cons (chk_pass (flagAndZeros_pass hbit hz)) <|
    .cons (WorkEntry.noInput_pass hm) <| .cons (State.saInRange_pass hw) <| .cons hpresent <| .cons (chk_pass hpins) <| .cons hd .nil
  rwa [State.modSa_some hx] at hexec
end

/-- Settles O34: each command passes its checks in their order, and fails with the first that does not hold. -/
theorem saCommandsComplete : Obligations.SaCommandsComplete := by
  unfold Obligations.SaCommandsComplete
  intro s slot t e i src typ d within'
  refine ⟨?install, ?installRatcheting, ?outside, ?occupied, ?remove, ?removeEmpty, ?pin, ?unpin, ?query, ?queryEmpty⟩
  case install =>
    intro hb hz hw hlo hhi hn hfree hsource hd hl hdesc hkind hmac hpins hroom hg
    have hplain : t.installRatchets = false := Bool.and_eq_false_imp.2 fun hm => (hmac hm).1
    refine (exec_saInstall ⟨hb, hz, hw, hlo, hhi, hn, hfree, hsource, hd, hl, hdesc, hkind, fun hm => (hmac hm).2, hpins, hroom, hg⟩
      fun hr => Bool.noConfusion (hplain.symm.trans hr)).trans ?_
    rw [hplain]
    rfl
  case installRatcheting =>
    intro rk hb hz hw hlo hhi hn hfree hsource hd hl hdesc hkind hbit hrk hagrees hpins hroom hg hgrk
    have htyp : t.entry.p8 44 = 1 ∨ t.entry.p8 44 = 2 := show typ = 1 ∨ typ = 2 by omega
    have hm : isMacsec (t.entry.p8 44) = true := by rcases htyp with h | h <;> rw [h] <;> rfl
    have hratchets : t.installRatchets = true := Bool.and_eq_true_iff.2 ⟨hm, hbit⟩
    have hline : (if t.entry.p8 44 = 4 ∧ 128 < leAt (fit 64 t.input) 20 2 then 5 else 1) = 1 := if_neg fun h => by omega
    refine (exec_saInstall ⟨hb, hz, hw, hlo, Nat.le_trans hhi (by decide), hn, hfree, by rw [hm]; exact hsource, hd, hl, hdesc, hkind,
      fun _ => hagrees, hpins, by rw [hline]; exact hroom, hg⟩ fun _ => ⟨hrk, hgrk⟩).trans ?_
    rw [hratchets]
    rfl
  case outside =>
    intro hb hz hw
    exact exec_checked_fails hb rfl rfl (.cons (chk_pass hz) <| .head (State.saInRange_fail hw) (by decide)) (by decide)
  case occupied =>
    intro hb hz hw hlo hhi hn hsome
    have hnotFree : chk (s.sa i).isNone St.keyPolicy 0xB5 = some (0x16, 0xB5) := by rw [Option.isNone_eq_false_iff.2 hsome, chk_false]
    exact exec_checked_fails hb rfl rfl (.cons (chk_pass hz) <| .cons (State.saInRange_pass hw) <|
      .cons (chk_pass (within_eq_true hlo hhi)) <| .cons (chk_pass (decide_eq_true hn)) <| .head hnotFree (by decide)) (by decide)
  case remove =>
    intro hb hz hm hw hsome hd
    exact exec_checked hb rfl rfl <| .cons (chk_pass hz) <| .cons (WorkEntry.noInput_pass hm) <| .cons (State.saInRange_pass hw) <|
      .cons (State.saPresent_pass hsome) <| .cons hd .nil
  case removeEmpty =>
    intro hb hz hm hw hnone
    exact exec_checked_fails hb rfl rfl (.cons (chk_pass hz) <| .cons (WorkEntry.noInput_pass hm) <| .cons (State.saInRange_pass hw) <|
      .head (State.saPresent_fail hnone) (by decide)) (by decide)
  case pin =>
    intro x hb hpin hz hm hw hx hroom hd
    have hexec := exec_saPin hb (hpin ▸ by decide) hz hm hw hx (fun _ => hroom) hd
    rwa [show t.entry.p8 40 = 1 from hpin] at hexec
  case unpin =>
    intro x hb hpin hz hm hw hx hd
    have hexec := exec_saPin hb (hpin ▸ by decide) hz hm hw hx (fun h => by rw [show t.entry.p8 40 = 0 from hpin] at h; cases h) hd
    rwa [show t.entry.p8 40 = 0 from hpin] at hexec
  case query =>
    intro x hb hz hm hw hx hd ho
    refine (exec_checked hb rfl rfl <| .cons (chk_pass hz) <| .cons (WorkEntry.noInput_pass hm) <| .cons (State.saInRange_pass hw) <|
      .cons hd (outHolds_pass ho)).trans ?_
    rw [show s.sa t.entry.keySlot = some x from hx]
  case queryEmpty =>
    intro hb hz hm hw hnone hd ho
    refine (exec_checked hb rfl rfl <| .cons (chk_pass hz) <| .cons (WorkEntry.noInput_pass hm) <| .cons (State.saInRange_pass hw) <|
      .cons hd (outHolds_pass ho)).trans ?_
    rw [show s.sa t.entry.keySlot = none from hnone]

end Sys2Proof.Machine
end

section
/-!
PROOF. The classifier commands (R321, R322, R331, R332), and what the table reads after a store.
-/
namespace Sys2Proof.Machine
open Sys2Proof

theorem State.clsEntry_setCls {s : State} (h : Sparse.wf (fun _ => zeros 80) s.line.cls = true) (i j : Nat) (x : Bytes) :
    (s.setCls i x).clsEntry j = if j = i then x else s.clsEntry j := Sparse.get_set h

/-- Settles O35: each command passes its checks in their order. -/
theorem classifierCommandsComplete : Obligations.ClassifierCommandsComplete := by
  unfold Obligations.ClassifierCommandsComplete
  intro s slot t e first count item
  refine ⟨?write, ?read, ?clear, ?info, fun i j x h => State.clsEntry_setCls h i j x⟩
  case write =>
    intro n hb hz hn hpos hlen hfit hd hok
    have hcount : t.entry.msgLen / 80 = n := by rw [show t.entry.msgLen = 80 * n from hlen, Nat.mul_div_cancel_left _ (by decide)]
    have hwhole : (decide (0 < e.msgLen) && e.msgLen % 80 == 0) = true := by
      rw [hlen, Nat.mul_mod_right, decide_eq_true (by omega)]
      rfl
    have hitems : ((List.range n).all fun i => clsEntryOk (item i)) = true := List.all_eq_true.2 fun i hi => hok i (List.mem_range.1 hi)
    rw [← hcount] at hfit hitems ⊢
    exact exec_checked hb rfl rfl <| .cons (chk_pass hz) <| .cons (WorkEntry.noKey_pass hn) <| .cons (chk_pass hwhole) <|
      .cons (chk_pass (decide_eq_true hfit)) <| .cons hd <| .cons (chk_pass hitems) .nil
  case read =>
    intro hb hz hn hm hlo hhi hfit hd ho
    have hrange : (within count 1 256 && decide (first + count ≤ 16384)) = true := by rw [within_eq_true hlo hhi, decide_eq_true hfit]; rfl
    exact exec_checked hb rfl rfl <| .cons (chk_pass hz) <| .cons (WorkEntry.noKey_pass hn) <| .cons (WorkEntry.noInput_pass hm) <|
      .cons (chk_pass hrange) <| .cons hd (outHolds_pass ho)
  case clear =>
    intro hb hz hn hm hlo hfit hd
    have hrange : (within count 1 16384 && decide (first + count ≤ 16384)) = true := by
      rw [within_eq_true hlo (by omega), decide_eq_true hfit]; rfl
    exact exec_checked hb rfl rfl <| .cons (chk_pass hz) <| .cons (WorkEntry.noKey_pass hn) <| .cons (WorkEntry.noInput_pass hm) <|
      .cons (chk_pass hrange) <| .cons hd .nil
  case info =>
    intro hb hz hn hm hd ho
    exact exec_checked hb rfl rfl <| .cons (chk_pass hz) <| .cons (WorkEntry.noKey_pass hn) <| .cons (WorkEntry.noInput_pass hm) <|
      .cons hd (outHolds_pass ho)

end Sys2Proof.Machine
end

section
/-!
PROOF. Lines of HBM and the patrol scrubber (R474 to R481).
-/
namespace Sys2Proof.Machine
open Sys2Proof

/-! ### The verdict on a read (R478) -/

theorem readVerdict_some (n sev : Nat) : readVerdict (some n) sev =
    if n = 0 then (if sev = 1 ∨ sev = 2 then .inner else .clean) else if n ≤ 2 ∨ (n ≤ 4 ∧ sev ≠ 3) then .outer else .uncorrectable := rfl

theorem readVerdict_outer (n sev : Nat) : readVerdict (some n) sev = .outer ↔ 1 ≤ n ∧ (n ≤ 2 ∨ (n ≤ 4 ∧ sev ≠ 3)) := by
  rw [readVerdict_some]
  split
  · split <;> simp only [reduceCtorEq, false_iff] <;> omega
  · split <;> simp only [reduceCtorEq, false_iff, true_iff] <;> omega

theorem readVerdict_uncorrectable (n sev : Nat) : readVerdict (some n) sev = .uncorrectable ↔ 2 < n ∧ (4 < n ∨ sev = 3) := by
  rw [readVerdict_some]
  split
  · split <;> simp only [reduceCtorEq, false_iff] <;> omega
  · split <;> simp only [reduceCtorEq, false_iff, true_iff] <;> omega

theorem readVerdict_inner (n sev : Nat) : readVerdict (some n) sev = .inner ↔ n = 0 ∧ (sev = 1 ∨ sev = 2) := by
  rw [readVerdict_some]
  split
  · split <;> simp only [reduceCtorEq, false_iff, true_iff] <;> omega
  · split <;> simp only [reduceCtorEq, false_iff] <;> omega

/-! ### Partitions and lines (R474 to R477) -/

section
variable {s : State} {pa : Nat} {b : Bytes}

/-- The sums of a list of three from its start on. -/
theorem sum_map_take_three (f : Nat → Nat) (x y z : Nat) : (([x, y, z].take 1).map f).sum = f x ∧
    (([x, y, z].take 2).map f).sum = f x + f y ∧ (([x, y, z].take 3).map f).sum = f x + f y + f z := by
  simp [Nat.add_assoc]

/-- The partitions lie one behind the other (R475). -/
theorem State.partStart_succ (s : State) : s.partStart 1 = s.partBytes Reg.memPartSa ∧
    s.partStart 2 = s.partBytes Reg.memPartSa + s.partBytes Reg.memPartJrn ∧
    s.partStart 3 = s.partBytes Reg.memPartSa + s.partBytes Reg.memPartJrn + s.partBytes Reg.memPartSpill := by
  simp only [State.partStart]
  exact sum_map_take_three s.partBytes _ _ _

theorem State.partOf_eq (s : State) (pa : Nat) : s.partOf pa =
    if pa < s.partStart 1 then 0 else if pa < s.partStart 2 then 1 else if pa < s.partStart 3 then 2 else 3 := by
  obtain ⟨h1, h2, h3⟩ := s.partStart_succ
  rw [h1, h2, h3]
  rfl

theorem State.partOf_jrn : s.partOf pa = 1 ↔ s.partStart 1 ≤ pa ∧ pa < s.partStart 2 := by
  rw [State.partOf_eq]
  generalize s.partStart 1 = a, s.partStart 2 = b, s.partStart 3 = c
  split_ifs <;> simp only [Nat.reduceEqDiff, false_iff, true_iff] <;> omega

theorem State.partOf_spill (s : State) (pa : Nat) : s.partOf pa = 2 ↔ s.partStart 2 ≤ pa ∧ pa < s.partStart 3 := by
  obtain ⟨h1, h2, -⟩ := s.partStart_succ
  have hle : s.partStart 1 ≤ s.partStart 2 := by rw [h1, h2]; exact Nat.le_add_right _ _
  rw [State.partOf_eq]
  generalize s.partStart 1 = a, s.partStart 2 = b, s.partStart 3 = c at hle ⊢
  split_ifs <;> simp only [Nat.reduceEqDiff, false_iff, true_iff] <;> omega

theorem State.encrypted_eq_false (h : s.partOf pa = 1) : s.encrypted pa = false := by rw [State.encrypted, h]; rfl

theorem State.encrypted_eq_true (h : s.partOf pa ≠ 1) : s.encrypted pa = true := bne_iff_ne.2 h

theorem fit_self {n : Nat} (h : b.length = n) : fit n b = b := by
  rw [fit, ← h, List.take_left]

theorem State.storedLine_storeLine (hs : Canonical s) (b : Bytes) : (s.storeLine pa b).storedLine pa = b := by
  exact (Sparse.get_set hs.lines).trans (if_pos rfl)

theorem State.putLine_plain (h : s.partOf pa = 1) (hb : b.length = 64) : s.putLine pa b = s.storeLine pa b := by
  rw [State.putLine, State.encrypted_eq_false h, if_neg Bool.noConfusion, fit_self hb]

theorem State.putLine_sealed {k : Bytes} (h : s.partOf pa ≠ 1) (hk : s.mem.key = some k) (hb : b.length = 64) :
    s.putLine pa b = s.storeLine pa (sealLine k pa b) := by
  rw [State.putLine, State.encrypted_eq_true h, if_pos rfl, hk, fit_self hb]

theorem State.putLine_keyless (h : s.partOf pa ≠ 1) (hk : s.mem.key = none) : s.putLine pa b = s := by
  rw [State.putLine, State.encrypted_eq_true h, if_pos rfl, hk]

theorem State.getLine_plain (h : s.partOf pa = 1) : s.getLine pa = s.storedLine pa := by
  rw [State.getLine, State.encrypted_eq_false h, if_neg Bool.noConfusion]

theorem State.getLine_sealed {k : Bytes} (h : s.partOf pa ≠ 1) (hk : s.mem.key = some k) : s.getLine pa = openLine k pa (s.storedLine pa) := by
  rw [State.getLine, State.encrypted_eq_true h, if_pos rfl, hk]

theorem State.getLine_keyless (h : s.partOf pa ≠ 1) (hk : s.mem.key = none) : s.getLine pa = zeros 64 := by
  rw [State.getLine, State.encrypted_eq_true h, if_pos rfl, hk]

/-- A write touches no other line. -/
theorem State.storedLine_putLine_other (s : State) (b : Bytes) {x : Nat} (h : x / 64 ≠ pa / 64) : (s.putLine pa b).storedLine x = s.storedLine x := by
  have hstored (c : Bytes) : (s.storeLine pa c).storedLine x = s.storedLine x := Sparse.get_set_ne h
  unfold State.putLine
  split
  · split
    · exact hstored _
    · rfl
  · exact hstored _
end

/-! ### The patrol scrubber (R478, R480, R483) -/

section
variable {s : State} (hr : s.scrubActive = true) (flips : Bytes) (sev : Nat)
include hr

theorem exec_patrolScrub_next (h : s.mem.scrubPos + 1 < hbmLines) : exec (.patrolScrub flips sev) s =
    .next (settle s ((s.scrubLine s.mem.scrubPos flips sev).modMem fun m => { m with scrubPos := s.mem.scrubPos + 1 })) := by
  show execPatrolScrub flips sev s = _
  simp only [execPatrolScrub, hr, if_true, if_pos h]
  rfl

theorem exec_patrolScrub_pass (h : hbmLines ≤ s.mem.scrubPos + 1) : exec (.patrolScrub flips sev) s =
    .next (settle s (((s.scrubLine s.mem.scrubPos flips sev).modMem fun m => { m with scrubPos := 0 }).modReg Reg.memScrubPasses (· + 1))) := by
  show execPatrolScrub flips sev s = _
  simp only [execPatrolScrub, hr, if_true, if_neg (Nat.not_lt.2 h)]
  rfl
end

section
variable {s : State} {n sev : Nat} {flips : Bytes}

theorem State.scrubLine_clean (h : readVerdict ((rsDecode (stackWord (s.storedLine (64 * n)) flips)).map (·.2)) sev = .clean) :
    s.scrubLine n flips sev = s := by
  simp only [State.scrubLine, h]

theorem State.scrubLine_inner (h : readVerdict ((rsDecode (stackWord (s.storedLine (64 * n)) flips)).map (·.2)) sev = .inner) :
    s.scrubLine n flips sev = s.count Reg.memCeInner := by
  simp only [State.scrubLine, h]

theorem State.scrubLine_outer {r : Bytes × Nat} (hd : rsDecode (stackWord (s.storedLine (64 * n)) flips) = some r)
    (h : readVerdict ((rsDecode (stackWord (s.storedLine (64 * n)) flips)).map (·.2)) sev = .outer) :
    s.scrubLine n flips sev = (s.count Reg.memCeOuter).storeLine (64 * n) r.1 := by
  simp only [State.scrubLine, h]
  simp only [hd]
end

end Sys2Proof.Machine

namespace Sys2Proof
open Machine

/-- Settles O57: where a PA lies, what a line holds after a write, and what the scrubber makes of each verdict. -/
theorem hbmLines : Obligations.HbmLines := by
  unfold Obligations.HbmLines
  refine ⟨fun _ => ⟨rfl, rfl⟩, fun n sev => ⟨rfl, readVerdict_outer n sev, readVerdict_uncorrectable n sev, readVerdict_inner n sev⟩,
    fun s pa b hs hb => ⟨State.partOf_jrn, State.partOf_spill s pa, fun h => ⟨?_, State.getLine_plain h⟩,
      fun k h hk => ⟨?_, State.getLine_sealed h hk⟩,
      fun h hk => ⟨State.putLine_keyless h hk, State.getLine_keyless h hk⟩, fun _ => State.storedLine_putLine_other s b⟩, fun s => ⟨?_, ?_⟩⟩
  · rw [State.putLine_plain h hb, State.storedLine_storeLine hs]
  · rw [State.putLine_sealed h hk hb, State.storedLine_storeLine hs]
    rfl
  · intro hr flips sev n d verdict
    refine ⟨fun h hn => ?_, fun r hd h hn => ?_, fun h hn => ?_, fun h hn => ?_⟩
    · rw [exec_patrolScrub_next hr flips sev hn, State.scrubLine_clean h]
      exact congrArg Host.Outcome.next (settle_of_sameSignal rfl rfl)
    · rw [exec_patrolScrub_next hr flips sev hn, State.scrubLine_outer hd h]
    · rw [exec_patrolScrub_next hr flips sev hn, State.scrubLine_inner h]
    · rw [exec_patrolScrub_pass hr flips sev hn, State.scrubLine_clean h]
  · intro i temp x hx
    refine ⟨_, rfl, ?_⟩
    rw [settle_mem]
    exact (List.getElem?_modify_eq _ _ _).trans (by rw [hx]; rfl)

end Sys2Proof
end

section
/-!
PROOF. What it touches when an operation leaves its engine: the engine's next work, fences and tests, and the entries that thereby end.
-/
namespace Sys2Proof.Machine
open Sys2Proof

/-- `t` is `s` but for registers, output, functions, channels, vectors, queues, tracker, Comb and key store: all that an engine's release can
touch. -/
def FreesEngine (s t : State) : Prop := t = { s with
  regs := t.regs, out := t.out, funcs := t.funcs, chans := t.chans, vectors := t.vectors, queues := t.queues, tracker := t.tracker
  comb := t.comb, kst := t.kst }

theorem FreesEngine.refl (s : State) : FreesEngine s s := rfl

theorem FreesEngine.trans {s t u : State} (h1 : FreesEngine s t) (h2 : FreesEngine t u) : FreesEngine s u := by
  unfold FreesEngine at *; rw [h2, h1]

theorem FreesEngine.after {s t u : State} (h2 : FreesEngine t u) (h1 : FreesEngine s t) : FreesEngine s u := h1.trans h2

theorem FreesEngine.foldl {α : Type} {f : State → α → State} (h : ∀ s a, FreesEngine s (f s a)) (l : List α) (s : State) :
    FreesEngine s (l.foldl f s) := by
  induction l generalizing s with
  | nil => exact .refl s
  | cons a l ih => exact (h s a).trans (ih _)

theorem Finishes.freesEngine {s t : State} (h : Finishes s t) : FreesEngine s t := by
  rw [Finishes] at h
  rw [h]
  rfl

section
variable (s : State)

theorem State.complete_frees (slot status ext : Nat) (out : Bytes) : FreesEngine s (s.complete slot status ext out) :=
  (s.complete_finishes slot status ext out).freesEngine

theorem State.unclaim_frees (n : Nat) : FreesEngine s (s.unclaim n) := .foldl (f := fun s i => s.setSlot (n + i) _) (fun _ _ => rfl) _ s

theorem State.releaseDest_frees (d : Option Nat) : FreesEngine s (s.releaseDest d) := by
  cases d with
  | none => exact .refl s
  | some n => exact s.unclaim_frees n

theorem State.sweepTree_frees (o : CombOp) : FreesEngine s (s.sweepTree o) := by
  unfold State.sweepTree; split <;> rfl

theorem State.endWaiting_frees (o : CombOp) (status ext : Nat) : FreesEngine s (s.endWaiting o status ext) := by
  unfold State.endWaiting
  split
  · exact .trans (t := s.dropOp o.src) rfl ((State.releaseDest_frees _ _).trans (State.complete_frees _ _ _ _ _))
  · exact .refl s

theorem State.dropHomeless_frees : FreesEngine s s.dropHomeless := .foldl (fun s o => s.endWaiting_frees o _ _) _ s

theorem State.endRun_frees (slot : Nat) : FreesEngine s (s.endRun slot) := by
  unfold State.endRun
  split
  · split
    · exact .trans (t := s.dropRun slot) rfl (State.complete_frees _ _ _ _ _)
    · exact .refl s
  · exact .refl s

theorem State.skipTest_frees (e : Nat) (r : TestReason) (gated : Bool) : FreesEngine s (s.skipTest e r gated) := by
  cases r with
  | unfence slot => cases gated <;> exact State.complete_frees _ _ _ _ _
  | selftestRun slot =>
    unfold State.skipTest
    dsimp only
    split
    · exact .trans (t := s.dropRun slot) rfl (State.complete_frees _ _ _ _ _)
    · exact (State.endRun_frees _ slot).after rfl
  | _ => exact .refl s

theorem startTests_frees (n : Nat) : FreesEngine s (startTests n s) := by
  induction n generalizing s with
  | zero => exact .refl s
  | succ n ih =>
    unfold startTests
    split
    · dsimp only
      split
      · split
        · exact ((State.skipTest_frees _ _ _ _).trans (ih _)).after rfl
        · split <;> rfl
      · exact (ih _).after rfl
    · exact .refl s

theorem State.cancelTest_frees (e : Nat) : FreesEngine s (s.cancelTest e) := by
  unfold State.cancelTest
  split
  · split
    · exact ((State.skipTest_frees _ _ _ _).trans (startTests_frees _ _)).after rfl
    · exact .refl s
  · exact .refl s

theorem State.fenceNow_frees (e : Nat) : FreesEngine s (s.fenceNow e) := by
  unfold State.fenceNow
  dsimp only
  refine .trans ?_ (State.cancelTest_frees _ e)
  refine .trans ?_ (.foldl (fun s w => s.complete_frees _ _ _ _) _ _)
  refine FreesEngine.trans (t := State.dropHomeless _) ?_ rfl
  refine (State.dropHomeless_frees _).after ?_
  split <;> rfl

theorem State.engineFree_frees (e : Nat) : FreesEngine s (s.engineFree e) := by
  unfold State.engineFree
  split
  · exact .refl s
  · split
    · exact .refl s
    · split
      · exact s.fenceNow_frees e
      · split
        · split <;> rfl
        · exact .refl s

theorem State.leaveEngine_frees (o : CombOp) : FreesEngine s (s.leaveEngine o) := by
  unfold State.leaveEngine
  split
  · exact .refl s
  · split
    · rfl
    · exact (State.engineFree_frees _ _).after rfl

theorem State.endOp_frees (o : CombOp) (status ext : Nat) : FreesEngine s (s.endOp o status ext) := by
  unfold State.endOp State.endOpBy
  extract_lets s1 s2
  have h1 : FreesEngine s s1 := .trans (t := s.dropOp o.src) rfl ((State.releaseDest_frees _ _).trans (State.sweepTree_frees _ _))
  have h2 : FreesEngine s s2 := by
    simp only [s2]
    split
    · exact h1.trans (State.leaveEngine_frees _ _)
    · exact h1
  split
  · exact h2.trans (State.complete_frees _ _ _ _ _)
  · exact h2

theorem State.dropOwn_frees (job : OwnJob) : FreesEngine s (s.dropOwn job) := by
  unfold State.dropOwn
  split
  · dsimp only
    split
    · exact (State.leaveEngine_frees _ _).after rfl
    · rfl
  · exact .refl s

theorem State.dropHandshake_frees (west : Bool) : FreesEngine s (s.dropHandshake west) := .foldl State.dropOwn_frees _ s
end

end Sys2Proof.Machine
end

section
/-!
PROOF. Aborts and the end of protected work touch no tamper state: TEM stands apart from what engines, units and entries hold.
-/
namespace Sys2Proof.Machine
open Sys2Proof

theorem foldl_tem {α : Type} {f : State → α → State} (h : ∀ s a, (f s a).tem = s.tem) (l : List α) (s : State) :
    (l.foldl f s).tem = s.tem := by
  induction l generalizing s with
  | nil => rfl
  | cons a l ih => rw [List.foldl_cons, ih, h]

section
variable (s : State)

/-! ### Parts that touch one unit -/

@[simp] theorem State.modDge_tem (f : Dge → Dge) : (s.modDge f).tem = s.tem := rfl
@[simp] theorem State.mrgUpdate_tem (m : Nat) (v : Bytes) : (s.mrgUpdate m v).tem = s.tem := rfl
@[simp] theorem State.cvuAbsorb_tem (n : Nat) (b : Bytes) : (s.cvuAbsorb n b).tem = s.tem := rfl
@[simp] theorem State.freeNat_tem : s.freeNat.2.tem = s.tem := rfl
@[simp] theorem State.modLink_tem (west : Bool) (f : TrkLink → TrkLink) : (s.modLink west f).tem = s.tem := rfl
@[simp] theorem State.abortRestore_tem (slot : Nat) : (s.abortRestore slot).tem = s.tem := rfl
theorem State.forgetTests_tem (slot : Nat) : (s.forgetTests slot).tem = s.tem := rfl
theorem State.forgetWaits_tem (slot : Nat) : (s.forgetWaits slot).tem = s.tem := rfl
theorem State.forgetRing_tem (slot : Nat) : (s.forgetRing slot).tem = s.tem := rfl
theorem State.forgetPower_tem (slot : Nat) : (s.forgetPower slot).tem = s.tem := rfl
theorem State.forgetDraws_tem (slot : Nat) : (s.forgetDraws slot).tem = s.tem := rfl
@[simp] theorem State.battLog_tem (src cls sample : Nat) (b : Bool) : (s.battLog src cls sample b).tem = s.tem := rfl

@[simp] theorem State.log_tem (e : LogEntry) : (s.log e).tem = s.tem := by
  unfold State.log State.logAt
  dsimp only
  split <;> rfl

@[simp] theorem State.unclaim_tem (n : Nat) : (s.unclaim n).tem = s.tem := by rw [s.unclaim_frees n]

@[simp] theorem State.releaseDest_tem (d : Option Nat) : (s.releaseDest d).tem = s.tem := by rw [s.releaseDest_frees d]

@[simp] theorem State.endOp_tem (o : CombOp) (status ext : Nat) : (s.endOp o status ext).tem = s.tem := by rw [s.endOp_frees o status ext]

/-! ### What the units hold for an entry -/

theorem State.forgetClaim_tem (slot : Nat) : (s.forgetClaim slot).tem = s.tem := by
  unfold State.forgetClaim; (repeat' split) <;> simp

@[simp] theorem State.dgeLeave_tem (slot : Nat) : (s.dgeLeave slot).tem = s.tem := by
  unfold State.dgeLeave
  dsimp only
  split
  · exact foldl_tem (fun s _ => s.mrgUpdate_tem _ _) _ _
  · rfl

@[simp] theorem State.cvuLeave_tem (n : Nat) : (s.cvuLeave n).tem = s.tem := by
  unfold State.cvuLeave State.cvuTake
  dsimp only
  (repeat' split) <;> rfl

theorem State.forgetDigest_tem (slot : Nat) : (s.forgetDigest slot).tem = s.tem := by
  unfold State.forgetDigest
  dsimp only
  (repeat' split) <;> simp

theorem State.forgetCalibration_tem (slot : Nat) : (s.forgetCalibration slot).tem = s.tem := by
  unfold State.forgetCalibration State.phwNextCalibration; (repeat' split) <;> rfl

theorem State.forgetCard_tem (slot : Nat) : (s.forgetCard slot).tem = s.tem := by
  unfold State.forgetCard; dsimp only; (repeat' split) <;> rfl

@[simp] theorem State.forgetUnit_tem (slot : Nat) : (s.forgetUnit slot).tem = s.tem := by
  simp only [State.forgetUnit, State.forgetDraws_tem, State.forgetPower_tem, State.forgetCard_tem, State.forgetRing_tem,
    State.forgetWaits_tem, State.forgetCalibration_tem, State.forgetDigest_tem, State.forgetTests_tem, State.forgetClaim_tem]

theorem State.abortEntry_tem (slot status ext : Nat) : (s.abortEntry slot status ext).tem = s.tem := by
  unfold State.abortEntry
  split
  · rfl
  · split
    · rfl
    · split
      · rfl
      · split <;> simp

@[simp] theorem State.abortWhere_tem (p : Track → Bool) (status ext : Nat) : (s.abortWhere p status ext).tem = s.tem :=
  foldl_tem (fun s slot => s.abortEntry_tem slot status ext) _ s

/-! ### The trunk, and what a response ends -/

@[simp] theorem State.trkSend_tem (west : Bool) (typ dst : Nat) (detour : Bool) (p : Bytes) :
    (s.trkSend west typ dst detour p).tem = s.tem := by
  rw [s.trkSend_onTrunk west typ dst detour p]

@[simp] theorem State.linkDown_tem (west : Bool) : (s.linkDown west).tem = s.tem := by
  rw [State.linkDown, State.dropHandshake_frees]
  rfl

theorem State.haltResponse_tem (leave : Bool) : (s.haltResponse leave).tem = s.tem := by
  unfold State.haltResponse State.sendLeave State.linksFall
  rw [State.abortWhere_tem]
  simp only [State.modLink_tem, State.linkDown_tem]
  cases leave <;> simp

theorem State.endProtected_tem : s.endProtected.tem = s.tem := by
  unfold State.endProtected
  dsimp only
  have hlast (r : State) : r.cardOff.dropCeremony.tem = r.tem := by unfold State.dropCeremony; split <;> rfl
  rw [hlast]
  split
  · refine (State.complete_tem _ _ _ _ _).trans ?_
    dsimp only
    split <;> simp
  · dsimp only
    split <;> simp

theorem State.zeroiseKeys_tem : s.zeroiseKeys.tem = s.tem := s.endProtected_tem
end

end Sys2Proof.Machine
end

section
/-!
PROOF. Tamper sources, alarms and the understorey (R436 to R457).
-/
namespace Sys2Proof.Machine
open Sys2Proof

/-! ### Qualifiers (R439, R440) -/

theorem countCeiling_pos {n c : Nat} (h : countCeiling n = some c) : 1 ≤ c := by
  unfold countCeiling at h
  split at h
  · exact absurd h (by simp)
  · cases h
    by_cases hn : n < 11
    · interval_cases n <;> decide
    · rw [List.getD_eq_default _ _ (by simpa using Nat.not_lt.1 hn)]
      decide

theorem Source.needed_bounds (x : Source) {n c : Nat} (h : countCeiling n = some c) : 1 ≤ x.needed n ∧ x.needed n ≤ c ∧
    (1 ≤ x.count → x.count ≤ c → x.needed n = x.count) := by
  have hc := countCeiling_pos h
  simp only [Source.needed, h, clamp]
  omega

theorem Source.tick_qualifies (x : Source) (n ev : Nat) (act : Bool) : (x.tick n ev act).2 = true ↔
    x.latched = false ∧ x.needed n ≤ ((ev :: x.history).take (x.span n)).sum := by
  unfold Source.tick
  dsimp only
  cases x.latched
  · rw [if_neg Bool.noConfusion]
    by_cases h : x.needed n ≤ ((ev :: x.history).take (x.span n)).sum <;> simp [h]
  · rw [if_pos rfl]
    split <;> simp

/-! ### Alarms (R443) -/

/-- An alarm raises the response to its class; what the response then does leaves it. -/
theorem State.alarm_resp (s : State) (src cls sample detail tag : Nat) :
    (s.alarm src cls sample detail tag).tem.resp = max s.tem.resp cls := by
  unfold State.alarm
  dsimp only
  have hlatch (r : State) (g : Nat) (b : Bool) : (r.latchEvidence g b).tem.resp = r.tem.resp := rfl
  have hraise (r : State) (k : Nat) (m : W32) : (r.raise k m).tem = r.tem := rfl
  (repeat' split) <;> simp only [State.zeroiseKeys_tem, State.haltResponse_tem, State.emit_tem, hlatch, hraise, State.battLog_tem,
    State.log_tem]

/-! ### Commands and registers -/

section
variable {s : State}

theorem exec_tamperTick_main (hm : s.mainPower = true) (hp : s.pwr.state < 4) (mesh : Bool) (light : List Nat) (vdd : Nat) (vf : Bool)
    (ck : Int) (cf : Bool) : exec (.tamperTick (.main mesh light vdd vf ck cf)) s = .next (settle s (s.mainTick mesh light vdd vf ck cf)) := by
  refine congrArg (answer s) (if_pos ?_)
  rw [hm, decide_eq_true hp]
  rfl

theorem exec_tamperTick_burst (hm : s.mainPower = true) (hp : s.pwr.state < 4) : exec (.tamperTick .burst) s = .next (settle s
    (({ s with tem := { s.tem with internal := 0 } } : State).tickMany 5 s.tem.internal)) := by
  refine congrArg (answer s) (if_pos ?_)
  rw [hm, decide_eq_true hp]
  rfl

/-- One tally bit is burnt and the latch falls (R449). -/
theorem exec_tallyBurnDone {g n k : Nat} (hl : s.ust.latch[g]? = some (n + 1)) (ht : s.tem.tallies[g]? = some k) (hk : k < 1024)
    (hm : s.mainPower = true) : exec (.tallyBurnDone g) s = .next (settle s { s with
      ust := { s.ust with latch := s.ust.latch.modify g (· - 1), log := inSlots (clearPending g s.ust.ordered) }
      tem := { s.tem with tallies := s.tem.tallies.modify g (· + 1) } }) := by
  refine congrArg (answer s) (if_neg ?_)
  rw [List.getD_eq_getElem?_getD, List.getD_eq_getElem?_getD, hl, ht, hm]
  simpa using hk

theorem exec_respClearDegrade {v : W32} (ho : s.regsOpen = true) (hb : s.blockDown Reg.temRespClear = false) :
    exec (.respClearDegrade v) s = .next (settle s (if flag v 0 = true ∧ s.tem.resp = 1 then { s with tem := { s.tem with resp := 0 } } else s)) :=
  congrArg (answer s) (State.regWrite_on ho hb)

theorem exec_temLock {v : W32} (ho : s.regsOpen = true) (hb : s.blockDown Reg.temLock = false) (hv : flag v 0 = true) :
    exec (.temLock v) s = .next { s with tem := { s.tem with locked := true } } := by
  refine (congrArg (answer s) ((State.regWrite_on ho hb).trans (if_pos hv))).trans ?_
  exact congrArg Host.Outcome.next (settle_of_sameSignal rfl rfl)

/-- While locked, settings and thresholds stay (R445). -/
theorem State.sources_locked (hl : s.tem.locked = true) (v : W32) : s.srcCfgWrite v = s ∧ s.hardWrite v = s ∧ s.baseLimWrite v = s ∧
    (s.marginWrite v).tem = s.tem := by
  have hbounds (f : Source → Int → Int → Source) : s.boundsWrite v f = s := if_pos (.inl hl)
  refine ⟨if_pos (.inl hl), hbounds _, hbounds _, ?_⟩
  have htem : (if s.selSource = 1 then s.modReg Reg.temThrMargin fun w => setField w 31 24 (field v 31 24) else s).tem = s.tem := by
    split <;> rfl
  simp only [State.marginWrite]
  rw [if_pos (.inl (by rw [htem]; exact hl))]
  exact htem

theorem exec_rtcSet {v : W32} (ho : s.regsOpen = true) (hb : s.blockDown Reg.ustRtcCtrl = false) (hv : flag v 0 = true) :
    let u := s.plainWrite Reg.ustRtcCtrl v
    exec (.rtcSet v) s = .next (settle s { u with ust := { u.ust with
      rtcSec := (u.reg Reg.ustRtcSetLo).toNat + 2 ^ 32 * field (u.reg Reg.ustRtcSetHi) 15 0, rtcSub := 0, rtcValid := true } }) :=
  congrArg (answer s) ((State.regWrite_on ho hb).trans (if_pos hv))

theorem exec_rtcSync (h : flag (s.reg Reg.ustRtcCtrl) 1 = true) (hq : s.qualityCode = 0) (hm : s.mainPower = true) :
    exec .rtcSync s = .next { s with ust := { s.ust with rtcSec := s.tod.sec, rtcSub := 0, rtcValid := true } } :=
  (congrArg (answer s) (if_pos ⟨h, hq, hm⟩)).trans (congrArg Host.Outcome.next (settle_of_sameSignal rfl rfl))

theorem exec_rtcSubRead (hp : s.lcs.phase ≠ .reset) (ht : s.lcs.state ≠ .terminated) (hb : s.blockDown Reg.ustRtcSub = false) :
    exec .rtcSubRead s = .next (({ s with ust := { s.ust with rtcLatch := s.ust.rtcSec } } : State).emit
      (.readData (BitVec.ofNat 32 s.ust.rtcSub))) :=
  (congrArg (answer s) (State.regRead_on hp ht hb)).trans (congrArg Host.Outcome.next (settle_of_sameSignal rfl rfl))

theorem exec_logData0Read (hp : s.lcs.phase ≠ .reset) (ht : s.lcs.state ≠ .terminated) (hb : s.blockDown Reg.ustLogData0 = false) :
    exec .logData0Read s = .next (({ s with ust := { s.ust with logLatch := s.selLog.drop 1 } } : State).emit
      (.readData (s.selLog.headD 0))) :=
  (congrArg (answer s) (State.regRead_on hp ht hb)).trans (congrArg Host.Outcome.next (settle_of_sameSignal rfl rfl))
end

/-- Settles O55: what qualifies a source, what an alarm does to the response, and the writes and reads of TEM and UST. -/
theorem tamperCommandsComplete : Obligations.TamperCommandsComplete := by
  unfold Obligations.TamperCommandsComplete
  refine ⟨fun x n c => x.needed_bounds, fun x n => ⟨Nat.le_max_right _ _, Nat.le_max_left _ _, Nat.le_max_right _ _⟩,
    Source.tick_qualifies, fun s src cls a b => s.alarm_resp src cls a b 0, fun s => ⟨fun _ _ _ _ _ _ => rfl,
    fun hm hp => ⟨exec_tamperTick_main hm hp, exec_tamperTick_burst hm hp⟩, fun g n k hl ht hk hm => ?_,
    fun v ho hb hv => ⟨fun hr => ?_, fun hr => ?_⟩,
    fun v => exec_temLock, fun v hl => State.sources_locked hl v, fun v ho hb hv hs => ?_, exec_rtcSync,
    fun hp ht hb hl => ⟨exec_rtcSubRead hp ht hb, exec_logData0Read hp ht hl⟩⟩⟩
  · refine ⟨_, exec_tallyBurnDone hl ht hk hm, ?_⟩
    rw [settle_ust, settle_tem]
    refine ⟨?_, ?_, fun h hne => ⟨?_, ?_⟩⟩ <;> dsimp only
    · rw [List.getElem?_modify_eq, hl]; rfl
    · rw [List.getElem?_modify_eq, ht]; rfl
    · exact List.getElem?_modify_ne _ _ (Ne.symm hne)
    · exact List.getElem?_modify_ne _ _ (Ne.symm hne)
  · refine ⟨_, exec_respClearDegrade ho hb, ?_⟩
    rw [settle_tem, if_pos ⟨hv, hr⟩]
  · rw [exec_respClearDegrade ho hb, if_neg fun h => hr h.2, settle_self]
  · refine ⟨_, exec_rtcSet ho hb hv, ?_⟩
    rw [settle_ust, State.reg_plainWrite_other hs v (by decide), State.reg_plainWrite_other hs v (by decide)]
    exact ⟨rfl, rfl, rfl⟩

end Sys2Proof.Machine
end

section
/-!
PROOF. What a cold reset keeps and loses (R451, R488, R492, R541).
-/
namespace Sys2Proof.Machine
open Sys2Proof

/-- A filter that a key passes keeps what the key holds. -/
theorem Sparse.get_filter_of {α : Type} {d : Nat → α} (m : Sparse α) {c : Nat → Bool} {k : Nat} (h : c k = true) :
    Sparse.get d (m.filter fun e => c e.1) k = Sparse.get d m k := by
  induction m with
  | nil => rfl
  | cons e m ih =>
    obtain ⟨j, v⟩ := e
    rw [List.filter_cons]
    by_cases hj : j = k
    · subst hj
      rw [if_pos h, Sparse.get, Sparse.get, if_pos rfl, if_pos rfl]
    · rw [Sparse.get, if_neg hj]
      split
      · rw [Sparse.get, if_neg hj, ih]
      · exact ih

/-- `u` is `s` after a cold reset for a cause: the Reset column outside UST, nothing held for any entry, and what OTP, the understorey and the
battery keep. The level of the pins, PWR.SUPPLY and what powers the understorey are left open. -/
structure ColdFrom (s : State) (cause : W32) (u : State) : Prop where
  phase : u.lcs.phase = .reset
  cause_ : u.reg Reg.pwrResetCause = cause
  pending : u.pending = s.pending
  lost : ∀ k, pageOf k ≠ 4 → k ≠ Reg.pwrResetCause → k ≠ Reg.pwrSupply → u.reg k = regReset k
  kept : ∀ k, pageOf k = 4 → u.reg k = s.reg k
  slots : u.kst.slots = []
  tracker : u.tracker = []
  queues : u.queues = []
  sas : u.line.sas = []
  otp : u.lcs.otp = s.lcs.otp
  log : u.ust.log = s.ust.log
  clock : u.ust.rtcSec = s.ust.rtcSec
  bvr : u.kst.bvr = s.kst.bvr
  anchor : u.evj.anchor = s.evj.anchor
  tallies : u.tem.tallies = s.tem.tallies

section
variable {s u : State} {cause : W32}

theorem State.cold_regs_wf (hs : Canonical s) (cause : W32) : Sparse.wf regReset (s.cold cause).regs = true :=
  Sparse.wf_set (Sparse.wf_filter hs.regs)

theorem State.cold_from (hs : Canonical s) (cause : W32) : ColdFrom s cause (s.cold cause) := by
  have hwf : Sparse.wf regReset (s.regs.filter fun r => pageOf r.1 == 4) = true := Sparse.wf_filter hs.regs
  have hreg (k : Nat) : (s.cold cause).reg k =
      if k = Reg.pwrResetCause then cause else Sparse.get regReset (s.regs.filter fun r => pageOf r.1 == 4) k := Sparse.get_set hwf
  constructor
  case cause_ => rw [hreg, if_pos rfl]
  case lost =>
    intro k hk hc _
    rw [hreg, if_neg hc]
    refine Sparse.get_of_unlisted fun e he hek => hk ?_
    rw [← hek]
    exact beq_iff_eq.1 (List.mem_filter.1 he).2
  case kept =>
    intro k hk
    rw [hreg, if_neg fun h => absurd (h ▸ hk) (by decide)]
    exact Sparse.get_filter_of (c := fun n => pageOf n == 4) s.regs (beq_iff_eq.2 hk)
  all_goals rfl

theorem ColdFrom.modPwr (h : ColdFrom s cause u) (f : Pwr → Pwr) : ColdFrom s cause (u.modPwr f) := by
  cases h
  constructor <;> assumption

theorem ColdFrom.onBattery (h : ColdFrom s cause u) (b : Bool) : ColdFrom s cause { u with ust := { u.ust with onBattery := b } } := by
  cases h
  constructor <;> assumption

theorem ColdFrom.supply (h : ColdFrom s cause u) (hu : Sparse.wf regReset u.regs = true) (v : W32) :
    ColdFrom s cause (u.setReg Reg.pwrSupply v) := by
  have hreg (k : Nat) : (u.setReg Reg.pwrSupply v).reg k = if k = Reg.pwrSupply then v else u.reg k := State.reg_setReg hu _ _ _
  obtain ⟨hphase, hcause, hpending, hlost, hkept, hrest⟩ := h
  constructor
  case cause_ => rw [hreg, if_neg (by decide), hcause]
  case lost =>
    intro k hk hc hn
    rw [hreg, if_neg hn, hlost k hk hc hn]
  case kept =>
    intro k hk
    rw [hreg, if_neg fun e => absurd (e ▸ hk) (by decide), hkept k hk]
  all_goals assumption

theorem ColdFrom.settle (h : ColdFrom s cause u) : ColdFrom s cause (Machine.settle s u) := by
  obtain ⟨hphase, hcause, hpending, hlost, hkept, hrest⟩ := h
  constructor
  case cause_ => rwa [State.reg, settle_regs]
  case lost => intro k; rw [State.reg, settle_regs]; exact hlost k
  case kept => intro k; rw [State.reg, settle_regs]; exact hkept k
  all_goals simpa

/-- A command that is a cold reset and then holds the device has the effects that the obligation lists. -/
theorem ColdFrom.answers {c : Instr} (hx : exec c s = .next (Machine.settle s u)) (h : ColdFrom s cause u) (hh : u.held = true)
    (hb : (c = .mainPowerLoss → u.ust.onBattery = true) ∧ (c ≠ .mainPowerLoss → u.ust.onBattery = s.ust.onBattery)) :
    ∃ u, exec c s = .next u ∧ u.lcs.phase = .reset ∧ u.reg Reg.pwrResetCause = cause ∧ u.pending = s.pending ∧
      (∀ k, pageOf k ≠ 4 → k ≠ Reg.pwrResetCause → k ≠ Reg.pwrSupply → u.reg k = regReset k) ∧
      (∀ k, pageOf k = 4 → u.reg k = s.reg k) ∧
      (∀ n, u.slot n = slotReset n) ∧ (∀ n, u.track n = none) ∧ (∀ f q, u.queue f q = {}) ∧ (∀ i, u.sa i = none) ∧
      u.lcs.otp = s.lcs.otp ∧ u.ust.log = s.ust.log ∧ u.ust.rtcSec = s.ust.rtcSec ∧ u.kst.bvr = s.kst.bvr ∧
      u.evj.anchor = s.evj.anchor ∧ u.tem.tallies = s.tem.tallies ∧
      (c = .mainPowerLoss → u.ust.onBattery = true) ∧ (c ≠ .mainPowerLoss → u.ust.onBattery = s.ust.onBattery) ∧ u.held = true := by
  obtain ⟨hphase, hcause, hpending, hlost, hkept, hslots, htracker, hqueues, hsas, hotp, hlog, hclock, hbvr, hanchor, htallies⟩ := h.settle
  refine ⟨_, hx, hphase, hcause, hpending, hlost, hkept, fun n => ?_, fun n => ?_, fun f q => ?_, fun i => ?_, hotp, hlog, hclock, hbvr,
    hanchor, htallies, ?_⟩
  · rw [State.slot, hslots]; rfl
  · rw [State.track, htracker]; rfl
  · rw [State.queue, hqueues]; rfl
  · rw [State.sa, hsas]; rfl
  · rw [State.held, settle_pwr, settle_ust]
    exact ⟨hb.1, hb.2, hh⟩
end

/-! ### The four commands -/

section
variable {s : State} (hp : s.lcs.phase ≠ .reset)
include hp

theorem exec_porstFall : exec .porstFall s = .next (settle s ((s.cold 2).modPwr fun p => { p with porstLow := true })) :=
  congrArg (fun t : State => answer s (t.modPwr fun p => { p with porstLow := true })) (if_neg hp)

theorem exec_testmodeAssert : exec .testmodeAssert s = .next (settle s ((s.cold 2).modPwr fun p => { p with testmode := true })) :=
  congrArg (fun t : State => answer s (t.modPwr fun p => { p with testmode := true })) (if_neg hp)

theorem exec_supplyMonitorReset {valid : W32} (hv : field valid 10 0 ≠ 0x7FF) : exec (.supplyMonitorReset valid) s =
    .next (settle s (((s.cold 4).modPwr fun p => { p with supplyHold := true }).setReg Reg.pwrSupply (valid &&& 0x7FF))) := by
  refine (congrArg (answer s) (if_neg hv)).trans ?_
  rw [State.coldReset, if_neg hp]
  rfl
end

theorem exec_mainPowerLoss {s : State} (hb : s.ust.onBattery = false) : exec .mainPowerLoss s =
    .next (settle s { (s.cold 1).modPwr fun p => { p with supplyHold := true } with ust := { s.ust with onBattery := true } }) :=
  congrArg (answer s) (if_neg (by simp [hb]))

/-- Settles O45: each of the four is a cold reset, and holds the device by its own pin, supply monitor or want of main power. -/
theorem coldResetKeeps : Obligations.ColdResetKeeps := by
  unfold Obligations.ColdResetKeeps
  rintro s c cause valid hs hp (⟨rfl, rfl⟩ | ⟨rfl, rfl⟩ | ⟨rfl, rfl, hv⟩ | ⟨rfl, rfl, hb⟩)
  · refine ((State.cold_from hs 2).modPwr _).answers (exec_porstFall hp) ?_ ⟨nofun, fun _ => rfl⟩
    rfl
  · refine ((State.cold_from hs 2).modPwr _).answers (exec_testmodeAssert hp) ?_ ⟨nofun, fun _ => rfl⟩
    simp [State.held, State.modPwr]
  · refine (((State.cold_from hs 4).modPwr _).supply (State.cold_regs_wf hs 4) _).answers (exec_supplyMonitorReset hp hv) ?_ ⟨nofun, fun _ => rfl⟩
    simp [State.held, State.modPwr, State.setReg]
  · refine (((State.cold_from hs 1).modPwr _).onBattery true).answers (exec_mainPowerLoss hb) ?_ ⟨fun _ => rfl, fun h => absurd rfl h⟩
    simp [State.held]

end Sys2Proof.Machine
end

section
/-!
PROOF. The adaptive loops and the calibrations (R510 to R520).
-/
namespace Sys2Proof.Machine
open Sys2Proof

/-! ### The voltage target (R510, R511) -/

section
variable (s : State) (slack : Int)

theorem State.avsStepMv_pos : 1 ≤ s.avsStepMv := Nat.le_max_left _ _

/-- A period asks for at most a step down, and two steps up on a droop boost. -/
theorem State.avsWanted_bounds : (s.avsMv : Int) ≤ s.avsWanted slack + s.avsStepMv ∧ s.avsWanted slack ≤ s.avsMv + 2 * s.avsStepMv ∧
    (s.adl.boosts ≤ s.boostLimit → s.avsWanted slack ≤ s.avsMv + s.avsStepMv) := by
  have hboost : s.boostDue = true → s.boostLimit < s.adl.boosts := of_decide_eq_true
  unfold State.avsWanted
  dsimp only
  split
  · next h => exact ⟨by omega, by omega, fun hle => absurd (hboost h) (Nat.not_lt.2 hle)⟩
  · split
    · omega
    · split <;> omega

theorem State.avsRise_le : s.avsRise ≤ 2 * s.avsStepMv := by
  unfold State.avsRise
  split <;> omega

variable {s} (hle : s.vddBounds.1 ≤ s.vddBounds.2)
include hle

theorem State.avsTarget_inside (hlo : s.vddBounds.1 ≤ s.avsMv) (hhi : s.avsMv ≤ s.vddBounds.2) :
    s.vddBounds.1 ≤ s.avsTarget slack ∧ s.avsTarget slack ≤ s.vddBounds.2 ∧ s.avsMv ≤ s.avsTarget slack + s.avsStepMv ∧
      s.avsTarget slack ≤ s.avsMv + 2 * s.avsStepMv ∧ (s.adl.boosts ≤ s.boostLimit → s.avsTarget slack ≤ s.avsMv + s.avsStepMv) := by
  obtain ⟨hdown, hup, hquiet⟩ := s.avsWanted_bounds slack
  unfold State.avsTarget
  dsimp only
  rw [if_neg (by omega), if_neg (by omega)]
  omega

theorem State.avsTarget_above (hhi : s.vddBounds.2 < s.avsMv) :
    s.avsTarget slack < s.avsMv ∧ s.avsMv ≤ s.avsTarget slack + s.avsStepMv := by
  have hstep := s.avsStepMv_pos
  have hdown := (s.avsWanted_bounds slack).1
  unfold State.avsTarget
  dsimp only
  rw [if_pos (by omega)]
  omega

theorem State.avsTarget_below (hlo : s.avsMv < s.vddBounds.1) :
    s.avsMv < s.avsTarget slack ∧ s.avsTarget slack ≤ s.avsMv + 2 * s.avsStepMv := by
  have hstep := s.avsStepMv_pos
  have hrise := s.avsRise_le
  have hpos : 1 ≤ s.avsRise := by unfold State.avsRise; split <;> omega
  have hup := (s.avsWanted_bounds slack).2.1
  unfold State.avsTarget
  dsimp only
  rw [if_neg (by omega), if_pos (by omega)]
  omega
end

/-! ### Receive equalisation (R516) -/

theorem Lane.step_ctle (x : Lane) (up : Bool) (hlo : x.ctleMin ≤ x.ctle) (hhi : x.ctle ≤ x.ctleMax) :
    x.ctleMin ≤ (x.step 0 up).ctle ∧ (x.step 0 up).ctle ≤ x.ctleMax ∧ (x.step 0 up).ctle ≤ x.ctle + 1 ∧ x.ctle ≤ (x.step 0 up).ctle + 1 := by
  simp only [Lane.step, if_true, if_neg (Nat.not_lt.2 hlo), if_neg (Nat.not_lt.2 hhi), clamp]
  cases up
  · simp only [Bool.false_eq_true, if_false]; omega
  · simp only [if_true]; omega

theorem Lane.adapt_cases (x : Lane) (m : Option (Nat × Bool)) : (x.freeze = true → x.adapt m = x) ∧
    (∀ k, x.freeze = false → x.stray = some k → x.adapt m = x.step k true) ∧
    (∀ p up, x.freeze = false → x.stray = none → m = some (p, up) → x.adapt m = x.step p up) := by
  refine ⟨fun h => if_pos h, fun k h hk => ?_, fun p up h hk hm => ?_⟩
  · simp only [Lane.adapt, h, hk, Bool.false_eq_true, if_false]
  · simp only [Lane.adapt, h, hk, hm, Bool.false_eq_true, if_false]

/-! ### The loop's period and the droop response (R511 to R515) -/

theorem field_ofNat_of_lt {n hi : Nat} (h : n < 2 ^ (hi + 1)) (h32 : hi < 32) : field (BitVec.ofNat 32 n) hi 0 = n := by
  have hpow : 2 ^ (hi + 1) ≤ 2 ^ 32 := Nat.pow_le_pow_right (by decide) h32
  rw [field, bitsOf, BitVec.toNat_ofNat, Nat.mod_eq_of_lt (h.trans_le hpow), Nat.pow_zero, Nat.div_one]
  exact Nat.mod_eq_of_lt h

/-- The target rests on the loop's registers and on the loops' state alone. -/
theorem State.avsTarget_congr {s t : State} (ha : t.adl = s.adl) (hr : ∀ k, k ≠ Reg.adlAvsMinSlack → k ≠ Reg.adlEvent → t.reg k = s.reg k)
    (slack : Int) : t.avsTarget slack = s.avsTarget slack := by
  have hcalib : t.avsCalibrating = s.avsCalibrating := by rw [State.avsCalibrating, State.avsCalibrating, ha]
  have hbounds : t.vddBounds = s.vddBounds := by rw [State.vddBounds, State.vddBounds, hr Reg.adlAvsBounds (by decide) (by decide)]
  have hmv : t.avsMv = s.avsMv := by rw [State.avsMv, State.avsMv, hr Reg.adlAvsVout (by decide) (by decide)]
  have hstep : t.avsStepMv = s.avsStepMv := by rw [State.avsStepMv, State.avsStepMv, hr Reg.adlAvsCtrl (by decide) (by decide)]
  have hboost : t.boostDue = s.boostDue := by
    rw [State.boostDue, State.boostDue, State.boostLimit, State.boostLimit, hr Reg.adlDroopCfg (by decide) (by decide), ha]
  simp only [State.avsTarget, State.avsWanted, State.avsRise, hbounds, hmv, hstep, hboost, hcalib, hr Reg.adlAvsSlack (by decide) (by decide)]

/-- What a period shows before it moves the voltage: the least slack, and the events of a boost and of the upper bound. -/
def State.avsSeen (s : State) (slack : Int) : State :=
  let boosted := s.boostDue && decide (s.avsMv < s.avsTarget slack)
  let up := decide ((s.avsMv : Int) < s.avsWanted slack)
  let s := s.setReg Reg.adlAvsMinSlack (BitVec.ofNat 32 (BitVec.ofInt 16 slack).toNat)
  let s := if boosted then s.raise Reg.adlEvent 4 else s
  if up && decide (s.avsMv = s.vddBounds.2) then s.raise Reg.adlEvent 2 else s

/-- Showing a period changes those two registers only. -/
theorem State.avsSeen_frame {s : State} (hs : Canonical s) (slack : Int) : (s.avsSeen slack) = { s with regs := (s.avsSeen slack).regs } ∧
    Sparse.wf regReset (s.avsSeen slack).regs = true ∧ ∀ k, k ≠ Reg.adlAvsMinSlack → k ≠ Reg.adlEvent → (s.avsSeen slack).reg k = s.reg k := by
  have hraise (b : Bool) (m : W32) {t : State} (h : t = { s with regs := t.regs } ∧ Sparse.wf regReset t.regs = true ∧
      ∀ k, k ≠ Reg.adlAvsMinSlack → k ≠ Reg.adlEvent → t.reg k = s.reg k) :
      let u := if b then t.raise Reg.adlEvent m else t
      u = { s with regs := u.regs } ∧ Sparse.wf regReset u.regs = true ∧
        ∀ k, k ≠ Reg.adlAvsMinSlack → k ≠ Reg.adlEvent → u.reg k = s.reg k := by
    obtain ⟨heq, hwf, hreg⟩ := h
    cases b
    · exact ⟨heq, hwf, hreg⟩
    · refine ⟨congrArg (fun x : State => x.raise Reg.adlEvent m) heq, Sparse.wf_set hwf, fun k h1 h2 => (Sparse.get_set_ne h2).trans (hreg k h1 h2)⟩
  exact hraise _ _ (hraise _ _ ⟨rfl, Sparse.wf_set hs.regs, fun k h1 _ => Sparse.get_set_ne h1⟩)

/-- A period whose write the regulator takes: the target stands in the register and goes out. -/
theorem exec_avsStep_answered {s : State} (hr : s.avsRuns = true) (hh : s.adl.hold = false) {slacks : Slacks} (h : 0 ≤ s.leastSlack slacks) :
    let slack := s.leastSlack slacks
    let v := ((s.avsSeen slack).modAdl fun a => { a with below := 0 }).setReg Reg.adlAvsVout (BitVec.ofNat 32 ((s.avsSeen slack).avsTarget slack))
    exec (.avsStep slacks true) s = .next (settle s ((v.modAdl fun a => { a with boosts := 0 }).emit (.avs v.avsMv))) := by
  have hbelow (t : State) : t.avsBelow (s.leastSlack slacks) = t.modAdl fun a => { a with below := 0 } :=
    if_neg fun h' => absurd h (Int.not_le.2 h'.1)
  show execAvsStep slacks true s = _
  simp only [execAvsStep, hr, hh, hbelow, Bool.true_eq_false, Bool.false_eq_true, if_false, if_true]
  rfl

theorem exec_avsStep_moves {s : State} (hs : Canonical s) (hr : s.avsRuns = true) (hh : s.adl.hold = false) {slacks : Slacks}
    (h : 0 ≤ s.leastSlack slacks) (ht : s.avsTarget (s.leastSlack slacks) < 2 ^ 10) :
    ∃ u, exec (.avsStep slacks true) s = .next u ∧ u.avsMv = s.avsTarget (s.leastSlack slacks) ∧ u.adl.boosts = 0 ∧
      ∃ rest, u.out = s.out ++ .avs (s.avsTarget (s.leastSlack slacks)) :: rest := by
  have hx := exec_avsStep_answered hr hh h
  extract_lets slack v at hx
  obtain ⟨heq, hwf, hreg⟩ := s.avsSeen_frame hs slack
  have hadl : (s.avsSeen slack).adl = s.adl := by rw [heq]
  have htarget : (s.avsSeen slack).avsTarget slack = s.avsTarget slack := State.avsTarget_congr hadl hreg slack
  have hmv : v.avsMv = s.avsTarget slack := by
    have hvout : v.reg Reg.adlAvsVout = BitVec.ofNat 32 (s.avsTarget slack) := by
      rw [← htarget]
      exact (State.reg_setReg (s := (s.avsSeen slack).modAdl _) hwf _ _ _).trans (if_pos rfl)
    rw [State.avsMv, hvout]
    exact field_ofNat_of_lt ht (by decide)
  have hout : v.out = s.out := by
    have hseen : (s.avsSeen slack).out = s.out := by rw [heq]
    exact hseen
  rw [hmv] at hx
  refine ⟨_, hx, ?_, ?_, ?_⟩
  · rw [State.avsMv, State.reg, settle_regs]
    exact hmv
  · rw [settle_adl]
    rfl
  · obtain ⟨rest, hrest⟩ := (settle_extends (s := s) (.refl ((v.modAdl fun a => { a with boosts := 0 }).emit (.avs (s.avsTarget slack))))).out
    refine ⟨rest, hrest.symm.trans ?_⟩
    rw [State.emit_out, State.modAdl, hout, List.append_assoc]
    rfl

theorem exec_avsStep_hold {s : State} (hr : s.avsRuns = true) (hh : s.adl.hold = true) (slacks : Slacks) (b : Bool) :
    exec (.avsStep slacks b) s = .next (settle s ((s.emit (.avs s.avsMv)).modAdl fun a => { a with hold := !b, boosts := 0 })) := by
  show execAvsStep slacks b s = _
  simp only [execAvsStep, hr, hh, Bool.true_eq_false, if_false, if_true]
  rfl

theorem exec_droopEpisodeBegin {s : State} (h : s.adl.stretched = false) (hp : s.lcs.phase ≠ .reset) : exec .droopEpisodeBegin s =
    .next (settle s ((s.modAdl fun a => { a with stretched := true, boosts := a.boosts + 1 }).count Reg.adlDroopCount)) :=
  congrArg (answer s) (if_neg (by simp [h, hp]))

theorem exec_serdesAdaptStep {s : State} {n : Nat} (ho : s.regsOpen = true) (hp : s.lanePowered n = true) (m : Option (Nat × Bool)) (eye : Nat) :
    exec (.serdesAdaptStep n m eye) s = .next (settle s ((s.modLane n fun x => x.adapt m).eyeMeasured n eye)) :=
  congrArg (answer s) (if_pos (by rw [ho, hp]; rfl))

/-! ### Calibrations (R518 to R520) -/

section
variable {s : State} {slot : Nat} {t : Track}

theorem calibFields_pass {zero : Bool} (hz : zero = true) (hm : t.entry.msgLen = 0) (hk : t.entry.keySlot = noSlot) : Passes (calibFields t zero) :=
  .cons (chk_pass hz) <| .cons (chk_pass (by simp [hm, hk])) .nil

theorem exec_avsCalibrate (hb : Begun s slot 0xD20 0xD20 t) (hz : t.entry.zeroFrom 40 55 = true) (hm : t.entry.msgLen = 0)
    (hk : t.entry.keySlot = noSlot) (hd : t.dmaFail = none) (ho : 8 ≤ t.entry.outCap) (hturn : s.calibTurn t = true) :
    exec (.avsCalibrate slot) s = .next (settle s ((s.busy slot).modAdl fun a => { a with calib := some { slot := slot, serdes := false } })) := by
  refine (exec_checked hb rfl rfl <| (calibFields_pass hz hm hk).append (.cons hd <| .cons (chk_pass (decide_eq_true ho)) .nil)).trans ?_
  rw [if_pos hturn]

theorem exec_serdesRecal (hb : Begun s slot 0xD21 0xD21 t) (hz : t.entry.zeroFrom 43 55 = true) (hm : t.entry.msgLen = 0)
    (hk : t.entry.keySlot = noSlot) (hmode : t.entry.p8 42 = 0) (hlanes : t.entry.p8 41 ≠ 0)
    (hmay : t.entry.p8 41 &&& s.targetLanes (t.entry.p8 40) = t.entry.p8 41) (hd : t.dmaFail = none) (ho : 16 ≤ t.entry.outCap)
    (hturn : s.calibTurn t = true) : exec (.serdesRecal slot) s = .next (settle s ((s.busy slot).modAdl fun a => { a with
      calib := some { slot := slot, serdes := true, target := t.entry.p8 40, lanes := t.entry.p8 41, restart := false } })) := by
  have hop : decide (t.entry.p8 42 ≤ 1) = true := decide_eq_true (by omega)
  have hnamed : (t.entry.p8 41 != 0 && t.entry.p8 41 &&& s.targetLanes (t.entry.p8 40) == t.entry.p8 41) = true := by
    simp [hlanes, hmay]
  refine (exec_checked hb rfl rfl <| (calibFields_pass hz hm hk).append (.cons (chk_pass hop) <| .cons (chk_pass hnamed) <| .cons hd <|
      .cons (chk_pass (decide_eq_true ho)) .nil)).trans ?_
  rw [if_pos hturn, hmode, if_neg (by decide)]
  rfl

theorem exec_avsCalibrationEnd {c : Calib} (hc : s.adl.calib = some c) (hs : c.serdes = false) (monitors : List Nat) (offsets : List Int) :
    exec (.avsCalibrationEnd monitors offsets) s = .next (settle s ((s.modAdl fun a => { a with
      calib := none, offsets := (monitors.zip offsets).foldl (fun m p => Sparse.set (fun _ => 0) m p.1 p.2) a.offsets }).complete c.slot 0 0
        (toLE 2 (monitors.zip offsets).length ++ toLE 2 (BitVec.ofInt 16 (s.adl.largestChange (monitors.zip offsets))).toNat ++ zeros 4))) := by
  show execAvsCalibrationEnd monitors offsets s = _
  simp only [execAvsCalibrationEnd, hc, hs, Bool.false_eq_true, if_false]
  rfl

theorem exec_serdesRecalEnd_none {c : Calib} (hc : s.adl.calib = some c) (hs : c.serdes = true) (hr : c.restart = false) :
    ∃ u, exec (.serdesRecalEnd []) s = .next u ∧ u.adl.calib = none ∧ u.adl.lanes = s.adl.lanes := by
  have hx : exec (.serdesRecalEnd []) s = .next (settle s ((s.modAdl fun a => { a with calib := none }).complete c.slot 0 0
      (((List.range 4).map fun l => toLE 2 (if c.target < 8 ∨ l < 2 then (s.adl.lanes.getD (laneBase c.target + l) {}).eye else 0)).flatten ++
        zeros 8))) := by
    show execSerdesRecalEnd [] s = _
    simp only [execSerdesRecalEnd, hc, hs, hr, Bool.true_eq_false, Bool.false_eq_true, false_and, or_self, if_false]
    rfl
  refine ⟨_, hx, ?_⟩
  rw [settle_adl, State.complete_adl]
  exact ⟨rfl, rfl⟩
end

/-- The change taken so far and the next: the larger, the first of equals. -/
def Adl.largerChange (a : Adl) (best : Int) (p : Nat × Int) : Int :=
  if best.natAbs < (p.2 - a.offset p.1).natAbs then p.2 - a.offset p.1 else best

/-- Of a start value and the changes of a list, the fold takes one, and none is larger. -/
theorem Adl.foldl_largerChange (a : Adl) (l : List (Nat × Int)) (best : Int) :
    (best.natAbs ≤ (l.foldl a.largerChange best).natAbs ∧
      ∀ p ∈ l, (p.2 - a.offset p.1).natAbs ≤ (l.foldl a.largerChange best).natAbs) ∧
    (l.foldl a.largerChange best = best ∨ ∃ p ∈ l, l.foldl a.largerChange best = p.2 - a.offset p.1) := by
  induction l generalizing best with
  | nil => exact ⟨⟨Nat.le_refl _, nofun⟩, .inl rfl⟩
  | cons p l ih =>
    obtain ⟨⟨hstart, hall⟩, hone⟩ := ih (a.largerChange best p)
    have hp : best.natAbs ≤ (a.largerChange best p).natAbs ∧ (p.2 - a.offset p.1).natAbs ≤ (a.largerChange best p).natAbs := by
      unfold Adl.largerChange; split <;> omega
    have hsame : a.largerChange best p = best ∨ a.largerChange best p = p.2 - a.offset p.1 := by
      unfold Adl.largerChange; split <;> simp
    rw [List.foldl_cons]
    refine ⟨⟨hp.1.trans hstart, List.forall_mem_cons.2 ⟨hp.2.trans hstart, hall⟩⟩, ?_⟩
    rcases hone with h | ⟨q, hq, h⟩
    · rcases hsame with h' | h'
      · exact .inl (h.trans h')
      · exact .inr ⟨p, List.mem_cons_self, h.trans h'⟩
    · exact .inr ⟨q, List.mem_cons_of_mem p hq, h⟩

/-- Settles O58: the next voltage target, a lane's step, and what the loops' events and calibrations do. -/
theorem loopCommandsComplete : Obligations.LoopCommandsComplete := by
  unfold Obligations.LoopCommandsComplete
  refine ⟨fun s hle slack => ⟨State.avsTarget_inside slack hle, State.avsTarget_above slack hle, State.avsTarget_below slack hle⟩,
    Lane.step_ctle, Lane.adapt_cases, fun s slot t => ⟨fun slacks hr hh hs h ht => exec_avsStep_moves hs hr hh h ht,
        fun slacks b hr hh => exec_avsStep_hold hr hh slacks b, exec_droopEpisodeBegin,
    congrArg Host.Outcome.next (settle_of_sameSignal rfl rfl), fun n m eye x ho hp _ => exec_serdesAdaptStep ho hp m eye,
    fun hb hz hm hk hd ho => exec_avsCalibrate hb hz hm hk hd ho, fun c monitors offsets hc hs => exec_avsCalibrationEnd hc hs monitors offsets,
    fun a l => ⟨(a.foldl_largerChange l 0).1.2, (a.foldl_largerChange l 0).2⟩,
        fun hb hz hm hk hmode hl hmay hd ho => exec_serdesRecal hb hz hm hk hmode hl hmay hd ho,
    fun c => exec_serdesRecalEnd_none⟩⟩

end Sys2Proof.Machine
end

section
/-!
PROOF. The custody card port: presence, received blocks, and the commands 0x0B00 to 0x0B22 (R458 to R472).
-/
namespace Sys2Proof.Machine
open Sys2Proof

/-! ### Events and registers -/

section
variable {s : State}

theorem exec_cardInsert (h : s.crd.present = false) (b : Bool) : exec (.cardInsert b) s =
    .next (settle s (({ s with crd := { s.crd with present := true, classB := b } } : State).raise Reg.crdEvent 1)) :=
  congrArg (answer s) (if_neg (by simp [h]))

theorem exec_cardRemove (h : s.crd.present = true) : exec .cardRemove s = .next (settle s ((((s.cardOff.modCrd fun c =>
    { c with present := false }).raise Reg.crdEvent 2).count Reg.crdRemovals).cardFail 0x29 0)) :=
  congrArg (answer s) (if_pos h)

/-- A block is taken by what the port waits for (R461). -/
theorem exec_t1BlockReceive (b : Bytes) (ok : Bool) :
    (s.crd.wait = .atr → exec (.t1BlockReceive b ok) s = .next (settle s (s.atrReceive b ok))) ∧
    (s.crd.wait = .pps → flag (s.reg Reg.crdCtrl) 0 = false → exec (.t1BlockReceive b ok) s = .next (settle s (s.ppsReceive b ok))) ∧
    ((s.crd.wait = .ifs ∨ s.crd.wait = .apdu) → flag (s.reg Reg.crdCtrl) 0 = false →
      exec (.t1BlockReceive b ok) s = .next (settle s (s.t1Receive b ok))) := by
  have hx : exec (.t1BlockReceive b ok) s = execT1BlockReceive b ok s := rfl
  refine ⟨fun h => ?_, fun h hm => ?_, fun h hm => ?_⟩
  · rw [hx]
    simp only [execT1BlockReceive, h]
    rfl
  · rw [hx]
    simp only [execT1BlockReceive, h, hm, Bool.false_eq_true, if_false]
    rfl
  · rw [hx]
    rcases h with h | h <;> simp only [execT1BlockReceive, h, hm, Bool.false_eq_true, if_false] <;> rfl

theorem exec_t1WaitTimeout {ms : Nat} (h : s.crd.wait = .apdu) (hms : max 1 (field (s.reg Reg.crdWtxLimit) 15 0) < s.crd.t1.waited + ms) :
    exec (.t1WaitTimeout ms) s = .next (settle s ((s.modT1 fun t => { t with waited := t.waited + ms }).cardBroken 0xF2)) := by
  have hx : exec (.t1WaitTimeout ms) s = execT1WaitTimeout ms s := rfl
  rw [hx]
  simp only [execT1WaitTimeout, h]
  exact congrArg (answer s) (if_pos hms)

theorem exec_atrWaitTimeout (h : s.crd.wait = .atr) : exec .atrWaitTimeout s = .next (settle s (s.cardBroken 0xF0)) :=
  congrArg (answer s) (if_pos h)

section
variable (hp : s.lcs.phase ≠ .reset) (ht : s.lcs.state ≠ .terminated) (hb : s.blockDown Reg.crdRxData = false)
include hp ht hb

theorem exec_crdRxDataRead_cons {b : Byte} {rest : Bytes} (h : s.crd.rx = b :: rest) : exec .crdRxDataRead s =
    .next (({ s with crd := { s.crd with rx := rest } } : State).emit (.readData (BitVec.ofNat 32 b.toNat))) := by
  refine (congrArg (answer s) (State.regRead_on hp ht hb)).trans ?_
  rw [h]
  exact congrArg Host.Outcome.next (settle_of_sameSignal rfl rfl)

theorem exec_crdRxDataRead_nil (h : s.crd.rx = []) : exec .crdRxDataRead s =
    .next (settle s ((s.raise Reg.crdRxStatus 1).emit (.readData 0))) := by
  refine (congrArg (answer s) (State.regRead_on hp ht hb)).trans ?_
  rw [h]
  rfl
end
end

/-! ### Commands (R464, R465, R467, R470, R471) -/

section
variable {s : State} {slot : Nat} {t : Track}

/-- A card command in its turn whose checks pass does what it is for. -/
theorem State.cardEntry_passes {op outLen : Nat} {zero params : WorkEntry → Bool} {more : List (Option (Nat × Nat))} {inOk : Nat → Bool}
    {needsCard : Bool} {k : Track → State} (hb : Begun s slot op op t) (hturn : s.cardTurn t = true) (hk : t.entry.keySlot = noSlot)
    (hd : t.dmaFail = none) (hz : zero t.entry = true) (hp : params t.entry = true) (hm : Passes more) (hin : inOk t.entry.msgLen = true)
    (ho : outLen ≤ t.entry.outCap) (hc : needsCard = true → s.crd.active = true) :
    s.cardEntry slot op zero params more inOk outLen needsCard k = k t := by
  have hcard : (!needsCard || s.crd.active) = true := by
    cases needsCard
    · rfl
    · exact hc rfl
  have hfields : Passes [chk (zero t.entry) St.badParam 0, t.entry.noKey, chk (params t.entry) St.badParam 0xF8] :=
    .cons (chk_pass hz) <| .cons (WorkEntry.noKey_pass hk) <| .cons (chk_pass hp) .nil
  rw [State.cardEntry, State.onEntry_begun hb, if_pos hturn]
  exact State.checked_passes <| (hfields.append hm).append <|
    .cons hd <| .cons (chk_pass hin) <| .cons (chk_pass (decide_eq_true ho)) <| .cons (chk_pass hcard) .nil

theorem State.cardEntry_waits {op outLen : Nat} {zero params : WorkEntry → Bool} {more : List (Option (Nat × Nat))} {inOk : Nat → Bool}
    {needsCard : Bool} {k : Track → State} (hb : Begun s slot op op t) (hturn : s.cardTurn t = false) :
    s.cardEntry slot op zero params more inOk outLen needsCard k = s := by
  rw [State.cardEntry, State.onEntry_begun hb, if_neg (by simp [hturn])]

/-- Without a session a sealed command draws 64 bytes and selects the application first (R465). -/
theorem State.sealedStart_select (h : s.crd.session = none) (hf : s.rng.fault = false) (hs : s.drbgServes 1 = true) : s.sealedStart slot =
    (((s.draw 1 64).2.cardStart slot).modCrd fun c => { c with nonce := (s.draw 1 64).1 }).sendApdu .select
      (apduBytes [0x00, 0xA4, 0x04, 0x00] custodyAid 0) := by
  rw [State.sealedStart, h, if_neg (by decide), State.entropyStep_serves hf hs]
  rfl

section
variable (hk : t.entry.keySlot = noSlot) (hd : t.dmaFail = none) (hturn : s.cardTurn t = true)
include hk hd hturn

theorem exec_cardActivate (hb : Begun s slot 0xB00 0xB00 t) (hz : t.entry.zeroFrom 40 55 = true) (hm : t.entry.msgLen = 0)
    (ho : 40 ≤ t.entry.outCap) : exec (.cardActivate slot) s = .next (settle s
      ((s.cardOff.cardStart slot).modCrd fun c => { c with wait := .atr, clkDiv := 50, rx := [], atr := [] })) :=
  congrArg (answer s) (State.cardEntry_passes hb hturn hk hd hz rfl .nil (beq_iff_eq.2 hm) ho nofun)

theorem exec_cardDeactivate (hb : Begun s slot 0xB01 0xB01 t) (hz : t.entry.zeroFrom 40 55 = true) (hm : t.entry.msgLen = 0) :
    exec (.cardDeactivate slot) s = .next (settle s (s.cardOff.complete slot 0 0 [])) :=
  congrArg (answer s) (State.cardEntry_passes hb hturn hk hd hz rfl .nil (beq_iff_eq.2 hm) (Nat.zero_le _) nofun)

variable (ha : s.crd.active = true)
include ha

theorem exec_cardApdu (hb : Begun s slot 0xB02 0xB02 t) (hz : t.entry.zeroFrom 40 55 = true) (h4 : 4 ≤ t.entry.msgLen)
    (hmax : t.entry.msgLen ≤ 4105) (ho : 2 ≤ t.entry.outCap) (hcla : natAt t.input 0 ≠ 0x84) (hblock : natAt t.input 3 ≠ 0) :
    exec (.cardApdu slot) s = .next (settle s ((s.cardStart slot).sendApdu .raw t.input)) := by
  refine congrArg (answer s) ((State.onEntry_begun hb).trans ?_)
  exact State.cardEntry_passes hb hturn hk hd hz (by simp [hcla, hblock]) .nil (by simp [within, h4, hmax]) ho fun _ => ha

theorem exec_sealedRead (hb : Begun s slot 0xB20 0xB20 t) (hz : t.entry.zeroFrom 41 55 = true) (hn : t.entry.p8 40 ≤ 15)
    (hm : t.entry.msgLen = 0) (ho : 260 ≤ t.entry.outCap) : exec (.sealedRead slot) s = .next (settle s (s.sealedStart slot)) :=
  congrArg (answer s) (State.cardEntry_passes hb hturn hk hd hz (decide_eq_true hn) .nil (beq_iff_eq.2 hm) ho fun _ => ha)

theorem exec_sealedWrite (hb : Begun s slot 0xB21 0xB21 t) (hz : t.entry.zeroFrom 41 55 = true) (h1 : 1 ≤ t.entry.p8 40)
    (hn : t.entry.p8 40 ≤ 15) (hm : t.entry.msgLen = 256) (ho : 4 ≤ t.entry.outCap) :
    exec (.sealedWrite slot) s = .next (settle s (s.sealedStart slot)) :=
  congrArg (answer s) (State.cardEntry_passes hb hturn hk hd hz (within_eq_true h1 hn) .nil (beq_iff_eq.2 hm) ho fun _ => ha)

theorem exec_sealedCounter (hb : Begun s slot 0xB22 0xB22 t) (hz : t.entry.zeroFrom 40 55 = true) (hm : t.entry.msgLen = 0)
    (ho : 4 ≤ t.entry.outCap) : exec (.sealedCounter slot) s = .next (settle s (s.sealedStart slot)) :=
  congrArg (answer s) (State.cardEntry_passes hb hturn hk hd hz rfl .nil (beq_iff_eq.2 hm) ho fun _ => ha)

/-- One card of an open return authorisation (R467). -/
theorem exec_ceremonyCard {x : Ceremony} (hb : Begun s slot 0xB11 0xB11 t) (hz : t.entry.zeroFrom 40 55 = true) (hm : t.entry.msgLen = 0)
    (ho : 16 ≤ t.entry.outCap) (hx : s.crd.cer = some x) (hkind : x.kind = 2) (hcards : x.cards.length < 8) :
    exec (.ceremonyCard slot) s = .next (settle s (s.sealedStart slot)) := by
  refine congrArg (answer s) (State.cardEntry_passes hb hturn hk hd hz rfl (.cons ?_ .nil) (beq_iff_eq.2 hm) ho fun _ => ha)
  rw [hx]
  exact chk_pass (by simp [hkind, hcards])

theorem exec_ceremonyBegin (hb : Begun s slot 0xB10 0xB10 t) (hz : t.entry.zeroFrom 43 55 = true) (hkind : t.entry.p8 40 = 2)
    (h2 : 2 ≤ t.entry.p8 41) (h8 : t.entry.p8 41 ≤ 8) (hn : t.entry.p8 42 = 0) (hm : t.entry.msgLen = 0) (hc : s.crd.cer = none)
    (hallowed : s.kindAllowed 2 = true) (hf : s.rng.fault = false) (hs : s.drbgServes 1 = true) :
    exec (.ceremonyBegin slot) s = .next (settle s ((((s.draw 1 32).2.setSlot 9
      (deviceSlot 9 ((s.draw 1 32).1.take 32) s.lcs.testRoot)).modCrd fun c => { c with
        cer := some { kind := 2, m := t.entry.p8 41, n := 0, coeffs := [] } }).complete slot 0 0 [])) := by
  refine congrArg (answer s) ((State.onEntry_begun hb).trans ?_)
  dsimp only
  rw [hkind, hn]
  have hopen : s.crd.cer.isNone = true := by rw [hc]; rfl
  refine Eq.trans (State.cardEntry_passes hb hturn hk hd hz ?_ ?_ (beq_iff_eq.2 hm) (Nat.zero_le _) fun _ => ha) ?_
  · rw [within_eq_true h2 h8]
    rfl
  · exact .cons (chk_pass hopen) <| .cons (chk_pass hallowed) .nil
  · exact State.entropyStep_serves hf hs

/-- An abandoned ceremony ends (R467). -/
theorem exec_ceremonyEnd {x : Ceremony} (hb : Begun s slot 0xB12 0xB12 t) (habandon : t.entry.p8 40 = 1) (hz : t.entry.zeroFrom 41 55 = true)
    (hm : t.entry.msgLen = 0) (hx : s.crd.cer = some x) : exec (.ceremonyEnd slot) s = .next (settle s (s.dropCeremony.complete slot 0 0 [])) := by
  refine congrArg (answer s) ((State.onEntry_begun hb).trans ?_)
  dsimp only
  rw [habandon, hx]
  refine Eq.trans (State.cardEntry_passes hb hturn hk hd ?_ rfl (.cons rfl .nil) (beq_iff_eq.2 hm) (Nat.zero_le _) fun _ => ha) ?_
  · rw [habandon, hz]
    rfl
  · exact if_pos (.inl (by decide))
end
end

/-- Settles O56: presence, blocks and waits, each command in its turn, and how a session opens. -/
theorem cardCommandsComplete : Obligations.CardCommandsComplete := by
  unfold Obligations.CardCommandsComplete
  refine fun s slot t => ⟨fun b h => exec_cardInsert h b, exec_cardRemove, exec_t1BlockReceive, fun ms => exec_t1WaitTimeout,
    exec_atrWaitTimeout, rfl,
    fun hp ht hb => ⟨fun b rest => exec_crdRxDataRead_cons hp ht hb, exec_crdRxDataRead_nil hp ht hb⟩,
    fun hk hd hturn => ⟨exec_cardActivate hk hd hturn,
      exec_cardDeactivate hk hd hturn, fun ha => ⟨exec_cardApdu hk hd hturn ha, exec_sealedRead hk hd hturn ha, exec_sealedWrite hk hd hturn ha,
        exec_sealedCounter hk hd hturn ha, fun x => exec_ceremonyCard hk hd hturn ha, exec_ceremonyBegin hk hd hturn ha,
        fun x => exec_ceremonyEnd hk hd hturn ha⟩⟩, fun hturn hb => ?_, State.sealedStart_select, fun h => if_pos h⟩
  exact (congrArg (answer s) (State.cardEntry_waits hb hturn)).trans (congrArg Host.Outcome.next (settle_self s))

end Sys2Proof.Machine
end

section
/-!
PROOF. The depth of the record ring (R402): a write of EXP_CTRL that leaves REC_EN at 1 restarts the ring and keeps the depth in force, which
is taken where the bit becomes 1.
-/
namespace Sys2Proof.Machine
open Sys2Proof

/-- The live device exporting records, at the depth 2^10 of its reset. -/
def exporting : State := { State.reset with lcs := { phase := .done, state := .owned }, regs := [(Reg.evjExpCtrl, 1)] }

theorem exporting_canonical : Canonical exporting := by
  constructor <;> decide +kernel

/-- With REC_EN at 1 already, a write of EXP_CTRL keeps the depth of the record ring. -/
theorem exec_expCtrlWrite_keepsDepth {s u : State} {v : W32} (ho : s.regsOpen = true) (hb : s.blockDown Reg.evjExpCtrl = false)
    (hold : flag (s.reg Reg.evjExpCtrl) 0 = true) (hx : exec (.expCtrlWrite v) s = .next u) : u.evj.recLog2 = s.evj.recLog2 := by
  have hplain : (s.plainWrite Reg.evjExpCtrl v).evj = s.evj := by
    unfold State.plainWrite
    split <;> rfl
  have hrun : exec (.expCtrlWrite v) s = execExpCtrlWrite v s := rfl
  rw [hrun, execExpCtrlWrite, State.regWrite_on ho hb] at hx
  simp only [hold, if_true] at hx
  rw [← Host.Outcome.next.inj hx, settle_evj]
  split <;> split <;> simp [State.modEvj, State.setReg, hplain]

/-- Refutes O52: REC_EN stands at 1 with the depth 2^10, and a write of EXP_CTRL with REC_EN = 1 and REC_LOG2 = 12 leaves the depth at 2^10,
where the statement has the depth written. -/
theorem not_journalCommandsComplete : ¬ Obligations.JournalCommandsComplete := by
  unfold Obligations.JournalCommandsComplete
  intro h
  obtain ⟨-, -, -, -, -, -, -, hctrl, -⟩ := h exporting 0 { func := 0, qid := 0, index := 0, entry := {} }
  have hopen : exporting.regsOpen = true := by decide
  have hon : exporting.blockDown Reg.evjExpCtrl = false := by decide
  obtain ⟨u, hx, -, -, hdepth, -⟩ := hctrl 0xC01 exporting_canonical hopen hon (by decide) (by decide)
  rw [exec_expCtrlWrite_keepsDepth hopen hon (by decide) hx] at hdepth
  exact absurd hdepth (by decide)

end Sys2Proof.Machine
end

section
/-!
PROOF. Trunk frames that arrive: which of them reach their TYPE's effect, and that effect (R408 to R431).
-/
namespace Sys2Proof.Machine
open Sys2Proof

section
variable {s t : State} {west : Bool} {frame : Bytes} {map : RingMap} {m : TrkMsg} {typ : Nat}

/-! ### Arrival (R408, R409) -/

/-- A frame that does not open counts. -/
theorem State.trkReceive_sealed {k : RingMap → TrkMsg → State → State} (ho : s.trk.on = true) (hu : (s.trkLink west).up = true)
    (hl : frame.length + 4 ≤ 9600) (hb : (s.trkNoted west frame).trkBody west frame = none) :
    s.trkReceive west frame typ k = (s.trkNoted west frame).count Reg.trkAuthDrop := by
  have hin : ¬ (s.trk.on = false ∨ (s.trkLink west).up = false ∨ 9600 < frame.length + 4) := by
    simp [ho, hu, hl]
  rw [State.trkReceive, if_neg hin]
  simp only [hb]

/-- A frame for this member that no drop reaches is given to its TYPE's effect. -/
theorem Arrives.receive {k : RingMap → TrkMsg → State → State} (h : Arrives s west frame typ map m t) :
    s.trkReceive west frame typ k = k map m t := by
  obtain ⟨ho, hu, hl, hmap, body, hbody, hm, hlen, hfixed, hversion, hether, hring, hlisted, htyp, hdst⟩ := h
  have hin : ¬ (s.trk.on = false ∨ (s.trkLink west).up = false ∨ 9600 < frame.length + 4) := by
    simp [ho, hu, hl]
  have hwhole : ¬ (body.length ≠ 18 + m.len ∨ trkLenOk m.typ m.payload = false) := by simp [hlen, hfixed]
  have hformat : ¬ ((!(m.typ == 1 || m.typ == 2) && decide (max 1 t.trk.committed < m.version) || beAt body 0 2 != 0x88B5) = true) := by
    rcases hversion with h | h | h
    · simp [h, hether]
    · simp [h, hether]
    · simp [Nat.not_lt.2 h, hether]
  have hknown : ¬ (m.ringId ≠ map.ringId ∨ trkTypes.contains m.typ = false) := by simp only [hring, hlisted]; simp
  have hhere : ¬ (m.dst ≠ map.ownPos ∧ m.dst ≠ 0xFF) := by omega
  rw [State.trkReceive, if_neg hin]
  simp only [hbody, ← hm]
  rw [if_neg hwhole, if_neg hformat]
  simp only [hmap]
  rw [if_neg hknown, if_neg (not_not.2 htyp), if_neg hhere]

/-- The command of an arriving frame does what its TYPE's effect does. -/
theorem Arrives.exec {c : Instr} {k : RingMap → TrkMsg → State → State} {u : State} (h : Arrives s west frame typ map m t)
    (hc : exec c s = answer s (s.trkReceive west frame typ k)) (hu : k map m t = u) : exec c s = .next (settle s u) := by
  rw [hc, h.receive, hu]
  rfl

/-! ### Keying (R413) -/

theorem exec_hello_good (h : Arrives s west frame 1 map m t) (hk : (t.trkLink west).keyed = false) (hc : helloCheck map west m = .good)
    (hp : map.ownPos < map.neighbour west) (hn : (t.trkLink west).handshake = false) (hb : t.slotBad 4 = false) (hj : t.jrnKey = true)
    (he : t.engineCheck 0x105 = none) :
    exec (.hello west frame) s = .next (settle s (((t.notePeer west m).modLink west fun l => { l with handshake := true }).startOwn
      (.helloKem (linkNo west)) 0x105 {} (slice m.payload 1968 1184) [] true)) := by
  have hread : (t.notePeer west m).readOwn 4 = t.notePeer west m := if_neg (by
    have : (t.notePeer west m).slotBad 4 = t.slotBad 4 := rfl
    simp [this, hb])
  have hmay : map.ownPos < map.neighbour west ∧ (t.trkLink west).handshake = false ∧ (t.notePeer west m).jrnKey = true ∧
      ((t.notePeer west m).engineCheck 0x105).isNone = true := ⟨hp, hn, hj, Option.isNone_iff_eq_none.2 he⟩
  refine h.exec rfl ?_
  simp only [hk, hc, hread, Bool.false_eq_true, if_false]
  exact if_pos hmay

theorem exec_hello_failed (h : Arrives s west frame 1 map m t) (hk : (t.trkLink west).keyed = false) (hc : helloCheck map west m = .failed) :
    exec (.hello west frame) s = .next (settle s (t.helloFails west m)) := by
  refine h.exec rfl ?_
  simp only [hk, hc, Bool.false_eq_true, if_false]

theorem exec_helloAck_good (h : Arrives s west frame 2 map m t) (hk : (t.trkLink west).keyed = false) (hseed : (t.trkLink west).helloSeed ≠ [])
    (hn : (t.trkLink west).handshake = false) (hp : map.neighbour west ≤ map.ownPos) (hc : helloCheck map west m = .good)
    (he : t.engineCheck 0x109 = none) :
    exec (.helloAck west frame) s = .next (settle s (((t.notePeer west m).modLink west fun l => { l with handshake := true }).startOwn
      (.ackOpen (linkNo west)) 0x109 { content := (t.trkLink west).helloSeed } (slice m.payload 1968 1088) [] false)) := by
  have hmay : ¬ ((t.trkLink west).keyed = true ∨ (t.trkLink west).helloSeed = [] ∨ (t.trkLink west).handshake = true ∨
      map.ownPos < map.neighbour west) := by
    simp [hk, hseed, hn, hp]
  refine h.exec rfl ?_
  dsimp only
  rw [if_neg hmay, hc, he]
  rfl

theorem State.ackOpened_keys {ss : Bytes} (hm : t.trk.map = some map) (hu : (t.trkLink west).up = true) (hn : (t.trkLink west).handshake = true)
    (hk : (t.trkLink west).keyed = false) :
    t.ackOpened west ss = (t.modLink west fun l => { l with linkKey := linkKeyOf map west ss }).keyLink west := by
  simp only [State.ackOpened, hm, hu, hn, hk, Bool.not_false, Bool.and_self, if_true]

/-! ### Heartbeats, mirroring and probes (R415, R418, R420, R422) -/

theorem State.trkLink_modLink (f : TrkLink → TrkLink) : (t.modLink west f).trkLink west = f (t.trkLink west) := by
  cases west <;> rfl

theorem State.trkLink_modLink_other (f : TrkLink → TrkLink) : (t.modLink west f).trkLink (!west) = t.trkLink !west := by
  cases west <;> rfl

theorem State.trkLink_settle : (settle s t).trkLink west = t.trkLink west := by
  rw [State.trkLink, settle_trk]
  rfl

theorem exec_heartbeat (h : Arrives s west frame 0x10 map m t) : ∃ u, exec (.heartbeat west frame) s = .next u ∧
    (u.trkLink west).hbTx = m.payload.take 12 ∧ (u.trkLink west).probe = none ∧ u.trkLink (!west) = t.trkLink !west := by
  refine ⟨_, h.exec rfl rfl, ?_⟩
  rw [State.trkLink_settle, State.trkLink_settle, State.trkLink_modLink, State.trkLink_modLink_other]
  exact ⟨rfl, rfl, rfl⟩

theorem exec_mirror_clean (h : Arrives s west frame 0x20 map m t) (hto : t.trk.takeover = none)
    (hp : t.trk.partner.serial = map.serial m.src) :
    exec (.mirror west ⟨frame, .clean⟩) s = .next (settle s ((t.modTrk fun x => { x with
      partner := (parseRecords m.payload.length m.payload).foldl Partner.take t.trk.partner }).trkSend west 0x21
        (if m.dst = 0xFF then 0xFF else m.src) (bitOf m.flags 0) (toLE 4 m.lseq))) := by
  refine h.exec rfl ?_
  change (if t.trk.takeover.isSome then t else t.modTrk fun x => { x with
    partner := (parseRecords m.payload.length m.payload).foldl Partner.take
      (if t.trk.partner.serial = map.serial m.src then t.trk.partner else { serial := map.serial m.src }) }).trkSend west 0x21 _ _ _ = _
  rw [hto, if_pos hp]
  rfl

/-- The member probed is in service for having been reached, and answers. -/
theorem exec_probe (h : Arrives s west frame 0x22 map m t) : exec (.probe west frame) s = .next (settle s ((t.modTrk fun x =>
    { x with reached := x.reached.filter (· != map.ownPos) ++ [map.ownPos] }).trkSend west 0x23 m.src (bitOf m.flags 0) m.payload)) :=
  h.exec rfl rfl

/-- A reply to the probe of the west link keeps the neighbour in service (R422). -/
theorem exec_probeReply (h : Arrives s west frame 0x23 map m t) (hp : (t.trkLink true).probe = some (leAt m.payload 16 8))
    (hs : beAt m.payload 8 8 = map.serial (map.neighbour true)) :
    exec (.probeReply west frame) s = .next (settle s ((((t.modLink true fun l => { l.unkeyed with probe := none, hbTx := [], hbRx := [] }).modTrk
      fun x => { x with reached := x.reached.filter (· != map.neighbour true) ++ [map.neighbour true],
                        lostPos := x.lostPos.filter (· != map.neighbour true) }).raise Reg.trkEvent 4).retarget t.target)) := by
  refine h.exec rfl ?_
  simp only [List.find?_cons, hp, hs, beq_self_eq_true, Bool.and_self, if_true]

/-! ### Countersignatures and epochs (R399, R427, R428) -/

theorem exec_csigReq (h : Arrives s west frame 0x40 map m t) (hb : t.slotBad 4 = false) (hj : t.jrnKey = true) : exec (.csigReq west frame) s =
    .next (settle s (t.startSign (.csig (linkNo west) (m.payload.take 32)) "GY-CSIG" m.payload)) := by
  have hread : t.readOwn 4 = t := if_neg (by simp [hb])
  refine h.exec rfl ?_
  dsimp only
  rw [hread, if_pos hj]

theorem exec_csigResp {c : CpEntry} (h : Arrives s west frame 0x41 map m t)
    (hc : (t.evj.cps.find? fun c => c.stage == .committed && c.digest == m.payload.take 32 && (c.csig west).status == 3) = some c) :
    exec (.csigResp west frame) s = .next (settle s ((t.freeNat.2.modCp c.num fun c => c.setCsig west
      { serial := beAt m.payload 32 8, status := 1, test := t.freeNat.1 % 2 == 1, sig := m.payload.drop 40 }).serveReaders c.num)) := by
  refine h.exec rfl ?_
  simp only [hc]

theorem natAt_drop (b : Bytes) (n i : Nat) : natAt (b.drop n) i = natAt b (n + i) := by
  simp [natAt, byteAt]

theorem exec_epochPrepare_own (h : Arrives s west frame 0x30 map m t) (ho : m.src = map.ownPos) : exec (.epochPrepare west frame) s =
    .next (settle s (t.armReturned false (natAt m.payload 0) (leAt m.payload 8 8) (natAt m.payload 24))) := by
  refine h.exec rfl ?_
  dsimp only
  rw [if_pos ho, natAt_drop]

/-- A VERSION_COMMIT that this member has prepared already goes on with the lower of its TARGET and this member's. -/
theorem exec_epochPrepare_known (h : Arrives s west frame 0x30 map m t) (ho : m.src ≠ map.ownPos) (hk : natAt m.payload 0 = 2)
    (hn : leAt m.payload 8 8 ≤ t.trk.epochNums.getD 2 0) : exec (.epochPrepare west frame) s =
      .next (settle s (t.passOn west m fun _ => m.payload.take 24 ++ [BitVec.ofNat 8 (min 2 (natAt m.payload 24))])) := by
  refine h.exec rfl ?_
  dsimp only
  rw [if_neg ho, hk, if_neg (by decide), if_neg (by decide), decide_eq_false (Nat.not_lt.2 hn), natAt_drop]
  rfl

theorem exec_epochCommit_own (h : Arrives s west frame 0x31 map m t) (ho : m.src = map.ownPos) : exec (.epochCommit west frame) s =
    .next (settle s (t.armReturned true (natAt m.payload 0) (leAt m.payload 8 8) t.trk.epochTarget)) :=
  h.exec rfl (if_pos ho)

theorem exec_epochCommit_other (h : Arrives s west frame 0x31 map m t) (ho : m.src ≠ map.ownPos)
    (hn : t.trk.epochNums.getD (natAt m.payload 0) 0 = leAt m.payload 8 8) : exec (.epochCommit west frame) s =
      .next (settle s ((t.commitEpoch (natAt m.payload 0)).passOn west m fun _ => m.payload)) := by
  refine h.exec rfl ?_
  dsimp only
  rw [if_neg ho, if_pos hn]
end

/-- Settles O53: a frame that does not open counts, and one that arrives has its TYPE's effect. -/
theorem trunkFramesTakeEffect : Obligations.TrunkFramesTakeEffect := by
  unfold Obligations.TrunkFramesTakeEffect
  exact fun s t west frame map m => ⟨fun ho hu hl hb => ⟨congrArg (answer s) (State.trkReceive_sealed ho hu hl hb),
      fun r => congrArg (answer s) (State.trkReceive_sealed ho hu hl hb)⟩,
    exec_hello_good, exec_hello_failed, exec_helloAck_good, fun ss => State.ackOpened_keys, exec_heartbeat, exec_mirror_clean,
        fun h => h.exec rfl rfl,
    exec_probe, fun h hp hs _ => exec_probeReply h hp hs, fun h => h.exec rfl rfl,
    fun h => h.exec rfl rfl,
    exec_csigReq, fun c => exec_csigResp,
    exec_epochPrepare_own, exec_epochPrepare_known, exec_epochCommit_own, exec_epochCommit_other⟩

end Sys2Proof.Machine
end

section
/-!
PROOF. What a takeover leaves standing while SAs are installed, messages sent and epochs begun (R423, R427).
-/
namespace Sys2Proof.Machine
open Sys2Proof

/-- The takeover under way or done, and the map that waits for its end. -/
def State.handover (s : State) : Option (Nat × List Nat) × Bool × Option (RingMap × Nat) := (s.trk.takeover, s.trk.tookOver, s.trk.mapWait)

theorem foldl_handover {α : Type} {f : State → α → State} (h : ∀ s a, (f s a).handover = s.handover) (l : List α) (s : State) :
    (l.foldl f s).handover = s.handover := by
  induction l generalizing s with
  | nil => rfl
  | cons a l ih => rw [List.foldl_cons, ih, h]

theorem State.handover_of_trk {s t : State} (h : t.trk = s.trk) : t.handover = s.handover := by rw [State.handover, h, State.handover]

section
variable (s : State)

/-! ### Messages -/

theorem State.modLink_handover (west : Bool) (f : TrkLink → TrkLink) : (s.modLink west f).handover = s.handover := by cases west <;> rfl

theorem State.emit_handover (m : OutMsg) : (s.emit m).handover = s.handover := rfl

theorem State.process_trk (n k : Nat) : ∀ (ps : List Nat) (s : State), (s.process n k ps).trk = s.trk := by
  induction k with
  | zero => exact fun _ _ => rfl
  | succ k ih => exact fun ps s => (ih _ _).trans rfl

theorem State.trkFrame_handover (west hello : Bool) (body : Bytes) : (s.trkFrame west hello body).handover = s.handover := by
  unfold State.trkFrame
  dsimp only
  split
  · rfl
  · have hpass : (s.cipherPass false ([0x88, 0xB5] ++ body).length).trk = s.trk := State.process_trk _ _ _ s
    rw [State.emit_handover, State.modLink_handover]
    exact State.handover_of_trk hpass

theorem State.trkSend_handover (west : Bool) (typ dst : Nat) (detour : Bool) (payload : Bytes) :
    (s.trkSend west typ dst detour payload).handover = s.handover := by
  unfold State.trkSend
  split
  · rfl
  · dsimp only
    split
    · rfl
    · rw [State.trkFrame_handover]
      split
      · exact s.modLink_handover _ _
      · rfl

theorem State.mirror_handover (r : TrkRecord) : (s.mirror r).handover = s.handover := by
  unfold State.mirror State.mirrorAll
  split
  · rfl
  · split <;> rfl
  · dsimp only
    split
    · split <;> rfl
    · exact (s.trkSend_handover _ _ _ _ _)

/-! ### An SA that is taken over -/

theorem State.log_trk (e : LogEntry) : (s.log e).trk = s.trk := by
  unfold State.log State.logAt
  dsimp only
  split <;> rfl

theorem State.modSa_trk (i : Nat) (f : Sa → Sa) : (s.modSa i f).trk = s.trk := by
  unfold State.modSa; split <;> rfl

theorem State.putLine_handover (pa : Nat) (b : Bytes) : (s.putLine pa b).handover = s.handover := by
  unfold State.putLine; (repeat' split) <;> rfl

theorem State.putLines_handover (pa n : Nat) (b : Bytes) : (s.putLines pa n b).handover = s.handover :=
  foldl_handover (fun s _ => s.putLine_handover _ _) _ s

theorem State.storeSa_handover (i : Nat) (x : Sa) : (s.storeSa i x).handover = s.handover := by
  unfold State.storeSa
  extract_lets ls s1
  exact (foldl_handover (fun s _ => s.putLines_handover _ _ _) _ s1).trans rfl

theorem State.touchSa_trk (i : Nat) : (s.touchSa i).trk = s.trk := by
  unfold State.touchSa; split <;> rfl

theorem State.mirrorSa_handover (i : Nat) : (s.mirrorSa i).handover = s.handover := by
  unfold State.mirrorSa
  split
  · split
    · exact s.mirror_handover _
    · rfl
  · rfl

theorem State.announcePn_handover (i : Nat) (b : Block) : (s.announcePn i b).handover = s.handover := by
  unfold State.announcePn
  split
  · rfl
  · exact s.mirror_handover _

theorem State.reservePn_handover (i : Nat) : (s.reservePn i).handover = s.handover := by
  unfold State.reservePn
  split
  · dsimp only
    split
    · exact State.announcePn_handover _ _ _
    · split
      · exact State.announcePn_handover _ _ _
      · rfl
  · rfl

theorem State.beginRatchet_trk (i : Nat) : (s.beginRatchet i).trk = s.trk := by
  unfold State.beginRatchet
  split
  · exact (State.log_trk _ _).trans (s.modSa_trk _ _)
  · exact s.modSa_trk _ _

theorem State.installSa_handover (i : Nat) (x : Sa) : (s.installSa i x).handover = s.handover := by
  unfold State.installSa
  extract_lets empty s1 s2 s3
  have h1 : s1.handover = s.handover :=
    (State.mirrorSa_handover _ i).trans ((State.handover_of_trk (State.touchSa_trk _ i)).trans (s.storeSa_handover i x))
  have h2 : s2.handover = s1.handover := by
    simp only [s2]
    split
    · unfold State.setTxAn; split <;> rfl
    · rfl
  have h3 : s3.handover = s2.handover := by
    simp only [s3]
    split
    · exact s2.reservePn_handover i
    · rfl
  refine Eq.trans ?_ (h3.trans (h2.trans h1))
  split
  · exact State.handover_of_trk (s3.beginRatchet_trk i)
  · rfl

theorem State.takeSa_handover (p : Partner) (bad : List Nat) (r : TrkRecord) : (s.takeSa p bad r).handover = s.handover := by
  unfold State.takeSa
  split
  · dsimp only
    split
    · rfl
    · exact s.installSa_handover _ _
  · rfl

/-! ### An epoch that the keeper begins -/

theorem State.giveSeed_trk (c : Nat) (seed : Bytes) : (s.giveSeed c seed).trk = s.trk := by
  unfold State.giveSeed; dsimp only; split <;> rfl

theorem State.giveBlock_trk (q : Requester) (block : Bytes) : (s.giveBlock q block).trk = s.trk := by
  cases q with
  | inst i => unfold State.giveBlock State.reseed; dsimp only; split <;> rfl
  | chan c => unfold State.giveBlock; dsimp only; split <;> simp [State.giveSeed_trk]

theorem allocate_trk (n : Nat) : (allocate n s).trk = s.trk := by
  induction n generalizing s with
  | zero => rfl
  | succ n ih =>
    unfold allocate
    split
    · exact (ih _).trans (State.giveBlock_trk _ _ _)
    · rfl

theorem State.askReseed_trk (i : Nat) : (s.askReseed i).trk = s.trk := by
  unfold State.askReseed State.allocateAll
  dsimp only
  split
  · split
    · exact allocate_trk _ _
    · rfl
  · rfl

theorem State.draw_trk (i n : Nat) : (s.draw i n).2.trk = s.trk := by
  unfold State.draw
  dsimp only
  split
  · exact State.askReseed_trk _ i
  · rfl

theorem State.sendPass_handover (west : Bool) (e : Epoch) : (s.sendPass west e).handover = s.handover := by
  unfold State.sendPass
  split <;> exact s.trkSend_handover _ _ _ _ _

theorem State.startPass_handover (e : Epoch) : (s.startPass e).handover = s.handover := by
  unfold State.startPass
  exact (foldl_handover (fun s w => s.sendPass_handover w _) _ _).trans rfl

theorem State.nextRingKey_handover (key : Bytes) : (s.nextRingKey key).handover = s.handover := by
  unfold State.nextRingKey
  dsimp only
  rw [State.modLink_handover, State.modLink_handover]
  rfl

theorem State.startEpoch_handover (kind target : Nat) (slot : Option Nat) : (s.startEpoch kind target slot).handover = s.handover := by
  unfold State.startEpoch
  split
  · rfl
  · by_cases hk : kind = 0
    · have hdrawn : ((s.draw 1 32).2.nextRingKey (s.draw 1 32).1).handover = s.handover :=
        (State.nextRingKey_handover _ _).trans (State.handover_of_trk (s.draw_trk 1 32))
      simp only [hk, if_true, State.startPass_handover]
      generalize (s.draw 1 32).2.nextRingKey (s.draw 1 32).1 = r at hdrawn ⊢
      exact hdrawn
    · simp only [hk, if_false, State.startPass_handover]
      rfl

theorem State.keeperAct_handover : s.keeperAct.handover = s.handover := by
  unfold State.keeperAct
  (repeat' split)
  · rfl
  · exact s.startEpoch_handover _ _ _
  · rfl
  · exact s.startEpoch_handover _ _ _
end

end Sys2Proof.Machine
end

section
/-!
PROOF. Ring events and commands (R407, R410 to R434).
-/
namespace Sys2Proof.Machine
open Sys2Proof

/-! ### Writes of TRK.CTRL (R407) -/

section
variable (s : State)

theorem State.plainWrite_trk (k : Nat) (v : W32) : (s.plainWrite k v).trk = s.trk := by
  unfold State.plainWrite; split <;> rfl

theorem State.linkDown_trk (west : Bool) :
    (s.linkDown west).trk = (s.modLink west fun l => { l.unkeyed with up := false, helloSeed := [], handshake := false }).trk := by
  rw [State.linkDown, State.dropHandshake_frees]

/-- After both links have fallen neither is up or keyed. -/
theorem State.linksFall_down (west : Bool) : (s.linksFall.trkLink west).up = false ∧ (s.linksFall.trkLink west).keyed = false := by
  have hw := (s.linkDown false).linkDown_trk true
  have he := s.linkDown_trk false
  unfold State.linksFall
  cases west
  · simp [State.trkLink, State.modLink, State.modTrk, hw, he, TrkLink.unkeyed]
  · simp [State.trkLink, State.modLink, State.modTrk, hw, TrkLink.unkeyed]

variable {s}

/-- A write with EN = 1 and MODE = 1 that leaves SOLO: the links fall where the mode changes. -/
theorem State.trkCtrlWrite_enabled {v : W32} (he : flag v 0 = true) (hm : field v 2 1 = 1) (hs : flag v 3 = s.solo) :
    s.trkCtrlWrite v = ((if (s.plainWrite Reg.trkCtrl v).trk.on = false ∨ (s.plainWrite Reg.trkCtrl v).trk.mode ≠ 1
      then (s.plainWrite Reg.trkCtrl v).linksFall else s.plainWrite Reg.trkCtrl v).modTrk fun t => { t with on := true, mode := 1 }) := by
  have hsolo : ¬ ((flag v 3 && !s.solo) = true) := by rw [hs]; cases s.solo <;> decide
  simp only [State.trkCtrlWrite, he, hm, if_neg hsolo]
  rfl

theorem exec_trkEnable {v : W32} (ho : s.regsOpen = true) (hb : s.blockDown Reg.trkCtrl = false) :
    exec (.trkEnable v) s = .next (settle s (s.trkCtrlWrite (setBits v 1))) :=
  congrArg (answer s) (State.regWrite_on ho hb)

theorem exec_soloWrite {v : W32} (ho : s.regsOpen = true) (hb : s.blockDown Reg.trkCtrl = false) :
    exec (.soloWrite v) s = .next (settle s (s.trkCtrlWrite (setBits v 8))) :=
  congrArg (answer s) (State.regWrite_on ho hb)

theorem exec_trkEnable_mode {v : W32} (west : Bool) (ho : s.regsOpen = true) (hb : s.blockDown Reg.trkCtrl = false) (hm : field v 2 1 = 1)
    (hs : flag v 3 = s.solo) : ∃ u, exec (.trkEnable v) s = .next u ∧ u.trk.on = true ∧ u.trk.mode = 1 ∧
      ((s.trk.on = true ∧ s.trk.mode = 1) → u.trk = s.trk) ∧
      ((s.trk.on = false ∨ s.trk.mode ≠ 1) → (u.trkLink west).up = false ∧ (u.trkLink west).keyed = false) := by
  have hen : flag (setBits v 1) 0 = true := by rw [flag_setBits, show flag 1 0 = true by decide, Bool.or_true]
  have hmode : field (setBits v 1) 2 1 = 1 := (field_setBits v (by decide)).trans hm
  have hsolo : flag (setBits v 1) 3 = s.solo := by rw [flag_setBits, show flag 1 3 = false by decide, Bool.or_false, hs]
  have hset (r : State) : (r.modTrk fun t => { t with on := true, mode := 1 }).trk = { r.trk with on := true, mode := 1 } := rfl
  have hlink (r : State) : (r.modTrk fun t => { t with on := true, mode := 1 }).trkLink west = r.trkLink west := rfl
  refine ⟨_, exec_trkEnable ho hb, ?_⟩
  rw [State.trkLink_settle, settle_trk, State.trkCtrlWrite_enabled hen hmode hsolo, State.plainWrite_trk, hset, hlink]
  refine ⟨rfl, rfl, fun ⟨hon, hone⟩ => ?_, fun h => ?_⟩
  · rw [if_neg (by simp [hon, hone]), State.plainWrite_trk, ← hon, ← hone]
  · rw [if_pos h]
    exact State.linksFall_down _ west
end

/-! ### HELLO, heartbeats and probes (R413, R415, R422) -/

section
variable {s : State} {west : Bool} {map : RingMap}

theorem exec_helloSend (hm : s.trk.map = some map) (hu : (s.trkLink west).up = true) (hk : (s.trkLink west).keyed = false)
    (hb : s.slotBad 4 = false) (hj : s.jrnKey = true) (he : s.engineCheck 0x115 = none) (hr : s.helloRuns west = false) :
    ((s.trkLink west).helloSeed = [] → s.engineCheck 0x101 = none →
      exec (.helloSend west) s = .next (settle s (s.startOwn (.helloKey (linkNo west)) 0x101 {} [] [] true))) ∧
    ((s.trkLink west).helloSeed ≠ [] → exec (.helloSend west) s = .next (settle s
      (s.startSign (.helloSign (linkNo west)) "GY-TRK" (s.helloBody map west)))) := by
  have hread : s.readOwn 4 = s := if_neg (by simp [hb])
  have hx : exec (.helloSend west) s = execHelloSend west s := rfl
  have hmay : ¬ ((s.trkLink west).up = false ∨ (s.trkLink west).keyed = true ∨ s.jrnKey = false ∨ (s.engineCheck 0x115).isSome = true ∨
      s.helloRuns west = true) := by
    simp [hu, hk, hj, he, hr]
  refine ⟨fun hseed hkey => ?_, fun hseed => ?_⟩
  · rw [hx]
    simp only [execHelloSend, hm, hread]
    rw [if_neg hmay, if_neg (not_not.2 hseed), hkey]
    rfl
  · rw [hx]
    simp only [execHelloSend, hm, hread]
    rw [if_neg hmay, if_pos hseed]
    rfl

theorem State.helloKeyed_signs {seed : Bytes} (hm : s.trk.map = some map) (hu : (s.trkLink west).up = true) (hk : (s.trkLink west).keyed = false)
    (hj : s.jrnKey = true) : s.helloKeyed west seed = (s.modLink west fun l => { l with helloSeed := seed }).startSign
      (.helloSign (linkNo west)) "GY-TRK" ((s.modLink west fun l => { l with helloSeed := seed }).helloBody map west) := by
  simp only [State.helloKeyed, hm, hu, hk, hj, Bool.not_false, Bool.and_self, if_true]

theorem State.helloReady_out {msg sig : Bytes} (hu : (s.trkLink west).up = true) (hk : (s.trkLink west).keyed = false) :
    (s.helloReady west msg sig).out =
      s.out ++ [.trunk west ([0x02, 0x47, 0x59, 0x54, 0x52, 0x4B] ++ s.trunkSa ++ [0x88, 0xB5] ++ (msg ++ sig))] := by
  simp only [State.helloReady, hu, hk, Bool.not_false, Bool.and_self, if_true, State.trkFrame, State.emit_out, List.append_assoc]
  rfl

theorem exec_heartbeatSend (hk : (s.trkLink west).keyed = true) : exec (.heartbeatSend west) s = .next (settle s (s.trkSend west 0x10 0xFF false
    ((s.egressStamp (trunkPort west)).full s.qualityCode ++ fit 12 (s.trkLink west).hbTx ++ fit 12 (s.trkLink west).hbRx))) :=
  congrArg (answer s) (if_pos hk)

theorem exec_heartbeatSilence (hm : s.trk.map = some map) (hh : (s.trkLink west).hbTx ≠ []) (hl : (s.trkLink west).lost = false)
    (hp : (s.trkLink west).probe = none) : exec (.heartbeatSilence west) s = .next (settle s ((s.freeNat.2.modLink west fun l =>
      { l with probe := some (s.freeNat.1 % 2 ^ 64) }).trkSend (!west) 0x22 (map.neighbour west) true
        (s.serialBytes ++ toBE 8 (map.serial (map.neighbour west)) ++ toLE 8 (s.freeNat.1 % 2 ^ 64)))) := by
  have hx : exec (.heartbeatSilence west) s = execHeartbeatSilence west s := rfl
  have hmay : ¬ ((s.trkLink west).hbTx = [] ∨ (s.trkLink west).lost = true ∨ (s.trkLink west).probe.isSome = true) := by simp [hh, hl, hp]
  rw [hx]
  simp only [execHeartbeatSilence, hm]
  rw [if_neg hmay]
  rfl

theorem exec_probeTimeout (hp : (s.trkLink west).probe.isSome = true) : exec (.probeTimeout west) s = .next (settle s (s.loseNeighbour west)) :=
  congrArg (answer s) (if_pos hp)

/-! ### Mirroring and the takeover (R418, R419, R423 to R425) -/

/-- A MIRROR message goes out again, one try more, while it has fewer than three. -/
theorem exec_mirrorAckTimeout {m : MirrorMsg} {p : Nat} (hm : (s.trk.pending.find? fun m => !m.acked) = some m) (ht : s.target = some p) :
    (m.tries < 3 → exec .mirrorAckTimeout s = .next (settle s (((s.modTrk fun t => { t with
      pending := t.pending.map fun x => if x.lseq = m.lseq then { x with tries := x.tries + 1 } else x }).count Reg.trkMirrorRetx).resendMirror m))) ∧
    (3 ≤ m.tries → exec .mirrorAckTimeout s = .next (settle s (s.loseTarget p))) := by
  have hx : exec .mirrorAckTimeout s = execMirrorAckTimeout s := rfl
  refine ⟨fun h => ?_, fun h => ?_⟩
  · rw [hx]
    simp only [execMirrorAckTimeout, hm, ht, if_pos h]
    rfl
  · rw [hx]
    simp only [execMirrorAckTimeout, hm, ht, if_neg (Nat.not_lt.2 h)]
    rfl

theorem exec_rxStateSend (h : 2 ≤ s.trk.committed) : exec .rxStateSend s = .next (settle s (s.mirrorMany s.rxStates)) :=
  congrArg (answer s) (if_pos h)

/-- A takeover ends, and with no map waiting for its end the keeper then does what is due. -/
theorem exec_takeoverDone_ends {serial : Nat} {l : List Nat} (ht : s.trk.takeover = some (serial, l)) (hm : s.trk.map = some map)
    (hw : s.trk.mapWait = none) : ∃ w : State, exec (.takeoverDone [] .clean) s = .next (settle s w.keeperAct) ∧ w.handover = (none, true, none) := by
  have hrun : exec (.takeoverDone [] .clean) s = execTakeoverDone [] .clean s := rfl
  rw [hrun, execTakeoverDone]
  simp -zeta only [ht, hm]
  extract_lets p s1 before s2 s3 s4 s5
  have h2 : s2.handover = s.handover := by
    simp only [s2]
    split
    · exact (foldl_handover (fun s r => s.takeSa_handover p [] r) _ s1).trans rfl
    · exact (foldl_handover (f := fun s _ => s.count Reg.trkTakeoverSkipped) (fun _ _ => rfl) p.sas s1).trans rfl
  have h3 : s3.handover = (none, true, none) := by
    have hwait : s2.trk.mapWait = none := (congrArg (fun x => x.2.2) h2).trans hw
    show (none, true, s2.trk.mapWait) = _
    rw [hwait]
  have h5 : s5.handover = (none, true, none) :=
    ((State.handover_of_trk (State.log_trk s4 _)).trans (s3.trkSend_handover _ _ _ _ _)).trans h3
  have hwait : s5.trk.mapWait = none := congrArg (fun x => x.2.2) h5
  refine ⟨s5, ?_, h5⟩
  rw [hwait]
  rfl

theorem exec_takeoverDone {serial : Nat} {l : List Nat} (ht : s.trk.takeover = some (serial, l)) (hm : s.trk.map = some map)
    (hw : s.trk.mapWait = none) : ∃ u, exec (.takeoverDone [] .clean) s = .next u ∧ u.trk.takeover = none ∧ u.trk.tookOver = true := by
  obtain ⟨w, hx, hw⟩ := exec_takeoverDone_ends ht hm hw
  have hkept : w.keeperAct.handover = (none, true, none) := w.keeperAct_handover.trans hw
  refine ⟨_, hx, ?_⟩
  rw [settle_trk]
  exact ⟨congrArg (·.1) hkept, congrArg (·.2.1) hkept⟩

/-! ### Epochs (R414, R427, R429) -/

theorem exec_epochPassTimeout {x : Epoch} (hx : s.trk.epoch = some x) (hf : x.failed = false) :
    (x.resent = true → exec .epochPassTimeout s = .next (settle s (s.failEpoch x))) ∧
    (x.resent = false → exec .epochPassTimeout s = .next (settle s (s.startPass { x with resent := true }))) := by
  have hrun : exec .epochPassTimeout s = execEpochPassTimeout s := rfl
  refine ⟨fun h => ?_, fun h => ?_⟩ <;> rw [hrun] <;>
    simp only [execEpochPassTimeout, hx, hf, h, Bool.false_eq_true, if_false, if_true] <;> rfl

theorem exec_epochPassTimeout_none (hx : s.trk.epoch = none) (hv : (s.slot 7).valid = true) :
    exec .epochPassTimeout s = .next (settle s s.dropNextKey) := by
  have hrun : exec .epochPassTimeout s = execEpochPassTimeout s := rfl
  rw [hrun]
  simp only [execEpochPassTimeout, hx, hv, if_true]
  rfl

theorem exec_epochRetry_failed {x : Epoch} (hx : s.trk.epoch = some x) (hf : x.failed = true) :
    exec .epochRetry s = .next (settle s (s.startPass x)) := by
  have hrun : exec .epochRetry s = execEpochRetry s := rfl
  rw [hrun]
  simp only [execEpochRetry, hx, hf, if_true]
  rfl

theorem exec_epochRetry_none (hx : s.trk.epoch = none) : exec .epochRetry s = .next (settle s s.keeperAct) := by
  have hrun : exec .epochRetry s = execEpochRetry s := rfl
  rw [hrun]
  simp only [execEpochRetry, hx]
  rfl
end

/-! ### Commands (R410, R412, R433, R434) -/

section
variable {s : State} {slot : Nat} {t : Track}

theorem ringFields_pass {zero : Bool} (hz : zero = true) (hk : t.entry.keySlot = noSlot) : Passes (ringFields t zero) :=
  .cons (chk_pass hz) <| .cons (WorkEntry.noKey_pass hk) .nil

theorem exec_ringMapSet {m : RingMap} (hb : Begun s slot 0xA00 0xA00 t) (hz : t.entry.zeroFrom 40 55 = true) (hk : t.entry.keySlot = noSlot)
    (hd : t.dmaFail = none) (hm : s.readMap t.input = some m) (ht : s.trk.takeover = none) :
    exec (.ringMapSet slot) s = .next (settle s ((s.applyMap m).complete slot 0 0 [])) := by
  have hmap : (s.readMap t.input).isSome = true := by rw [hm]; rfl
  refine (exec_checked hb rfl rfl <| (ringFields_pass hz hk).append (.cons hd <| .cons (chk_pass hmap) .nil)).trans ?_
  simp only [hm, ht, Option.isSome_none, Bool.false_eq_true, if_false]

theorem exec_ringStatus (hb : Begun s slot 0xA02 0xA02 t) (hz : t.entry.zeroFrom 40 55 = true) (hk : t.entry.keySlot = noSlot)
    (hm : t.entry.msgLen = 0) (hd : t.dmaFail = none) (ho : 64 ≤ t.entry.outCap) :
    exec (.ringStatus slot) s = .next (settle s (s.complete slot 0 0 s.ringStatus)) :=
  exec_checked hb rfl rfl <| (ringFields_pass hz hk).append
    (.cons (WorkEntry.noInput_pass hm) <| .cons hd <| .cons (chk_pass (decide_eq_true ho)) .nil)

theorem exec_ringEpoch (hb : Begun s slot 0xA03 0xA03 t) (hz : t.entry.zeroFrom 42 55 = true) (hkind : t.entry.p8 40 < 2) (hp : t.entry.p8 41 = 0)
    (hk : t.entry.keySlot = noSlot) (hm : t.entry.msgLen = 0) (hmap : s.trk.map.isSome = true) (hkeeper : s.isKeeper = true)
    (hc : t.entry.p8 40 = 1 → 2 ≤ s.trk.committed) (hd : t.dmaFail = none) (ho : 16 ≤ t.entry.outCap) :
    exec (.ringEpoch slot) s = .next (settle s (((s.busy slot).modTrk fun x => { x with waiting := x.waiting ++ [slot] }).nextEpoch)) := by
  have hzero : (t.entry.zeroFrom 42 55 && (t.entry.p8 40 == 2 || t.entry.p8 41 == 0)) = true := by simp [hz, hp]
  have hversion : (t.entry.p8 40 != 1 || decide (2 ≤ s.trk.committed)) = true := by
    by_cases h : t.entry.p8 40 = 1
    · simp [hc h]
    · simp [h]
  have hother : (t.entry.p8 40 != 2 || decide (t.entry.p8 41 ≤ s.leastCap)) = true := by simp [Nat.ne_of_lt hkind]
  exact exec_checked hb rfl rfl <| (ringFields_pass hzero hk).append <|
    .cons (WorkEntry.noInput_pass hm) <| .cons (chk_pass hmap) <| .cons (chk_pass hkeeper) <| .cons (chk_pass (decide_eq_true hkind.le)) <|
    .cons (chk_pass hversion) <| .cons (chk_pass hother) <| .cons hd <| .cons (chk_pass (decide_eq_true ho)) .nil
end

/-! #### RING_MAP_CLEAR (R412) -/

theorem foldl_trk {α : Type} {f : State → α → State} (h : ∀ s a, (f s a).trk = s.trk) (l : List α) (s : State) : (l.foldl f s).trk = s.trk := by
  induction l generalizing s with
  | nil => rfl
  | cons a l ih => rw [List.foldl_cons, ih, h]

theorem State.confirmLms_trk (s : State) (n : Nat) : (s.confirmLms n).trk = s.trk := by
  unfold State.confirmLms; dsimp only; (repeat' split) <;> rfl

theorem State.ackLms_trk (s : State) (id : Bytes) (first : Nat) : (s.ackLms id first).trk = s.trk := by
  refine foldl_trk (fun s n => ?_) _ s
  dsimp only
  split
  · split
    · split
      · exact (State.confirmLms_trk _ _).trans rfl
      · rfl
    · rfl
  · rfl

theorem State.confirmRecord_trk (s : State) (r : TrkRecord) : (s.confirmRecord r).trk = s.trk := by
  cases r with
  | pnBlock sa start stop => exact (State.modSa_trk _ _ _).trans (s.modSa_trk _ _)
  | lmsBlock id start stop => exact s.ackLms_trk id start
  | _ => rfl

theorem State.mapWait_of_handover {s t : State} (h : t.handover = s.handover) : t.trk.mapWait = s.trk.mapWait := congrArg (fun x => x.2.2) h

theorem slotReset_tree (n : Nat) : (slotReset n).tree = none := by
  unfold slotReset; split <;> rfl

section
variable {s : State} {m : Nat}

/-- An empty slot has no tree, so a block that is confirmed is another slot's. -/
theorem State.confirmLms_empty (n : Nat) (h : s.slot m = slotReset m) : (s.confirmLms n).slot m = slotReset m := by
  unfold State.confirmLms
  dsimp only
  split
  · next d hd =>
    have hn : m ≠ n := by
      rintro rfl
      rw [h, slotReset_tree] at hd
      exact absurd hd (by simp)
    (repeat' split)
    · exact (Sparse.get_set_ne hn).trans h
    · exact h
    · exact h
  · exact h

theorem foldl_empty {α : Type} {f : State → α → State} (hf : ∀ s a, s.slot m = slotReset m → (f s a).slot m = slotReset m) (l : List α)
    (h : s.slot m = slotReset m) : (l.foldl f s).slot m = slotReset m := by
  induction l generalizing s with
  | nil => exact h
  | cons a l ih => exact ih (hf s a h)

theorem State.ackLms_empty (id : Bytes) (first : Nat) (h : s.slot m = slotReset m) : (s.ackLms id first).slot m = slotReset m := by
  refine foldl_empty (fun s n h => ?_) _ h
  dsimp only
  split
  · next d hd =>
    have hn : m ≠ n := by
      rintro rfl
      rw [h, slotReset_tree] at hd
      exact absurd hd (by simp)
    (repeat' split)
    · exact State.confirmLms_empty n ((Sparse.get_set_ne hn).trans h)
    · exact h
    · exact h
  · exact h

theorem State.modSa_slot (i n : Nat) (f : Sa → Sa) : (s.modSa i f).slot n = s.slot n := by
  unfold State.modSa; split <;> rfl

theorem State.confirmRecord_empty (r : TrkRecord) (h : s.slot m = slotReset m) : (s.confirmRecord r).slot m = slotReset m := by
  cases r with
  | pnBlock sa start stop => exact (State.modSa_slot _ _ _).trans ((State.modSa_slot _ _ _).trans h)
  | lmsBlock id start stop => exact State.ackLms_empty id start h
  | _ => exact h

theorem State.confirmAll_empty (h : s.slot m = slotReset m) : s.confirmAll.slot m = slotReset m :=
  foldl_empty (fun _ r h => State.confirmRecord_empty r h) _ h

theorem State.confirmAll_trk (s : State) : s.confirmAll.trk = { s.trk with pending := [], syncing := false } :=
  foldl_trk State.confirmRecord_trk _ _

theorem foldl_fail_trk (l : List Nat) (e : Nat × Nat) (s : State) : (l.foldl (fun s n => s.fail n e) s).trk = s.trk :=
  foldl_trk (fun s n => s.fail_trk n e) l s

theorem foldl_fail_kst (l : List Nat) (e : Nat × Nat) (s : State) : (l.foldl (fun s n => s.fail n e) s).kst = s.kst := by
  induction l generalizing s with
  | nil => rfl
  | cons n l ih => rw [List.foldl_cons, ih, State.fail_kst]

theorem State.emptySlot_slot_other (s : State) {n i : Nat} (h : i ≠ n) : (s.emptySlot n).slot i = s.slot i := Sparse.get_set_ne h

/-- What RING_MAP_CLEAR discards; a map that waits goes on waiting. -/
theorem State.clearMap_discards (hs : Canonical s) : s.clearMap.trk.map = none ∧ s.clearMap.trk.partner = {} ∧ s.clearMap.trk.epoch = none ∧
    s.clearMap.trk.mapWait = s.trk.mapWait ∧ s.clearMap.slot 6 = slotReset 6 ∧ s.clearMap.slot 7 = slotReset 7 := by
  unfold State.clearMap
  extract_lets s1 forget s2 e wait s3 s4 s5
  have hwait : s2.trk.mapWait = s.trk.mapWait := by
    have h2 : s2.trk = ((s1.modLink false forget).modLink true forget).trk := by
      simp only [s2]
      rw [State.dropHandshake_frees, State.dropHandshake_frees]
    have h1 : s1.handover = s.handover := (State.trkSend_handover _ _ _ _ _ _).trans (s.trkSend_handover _ _ _ _ _)
    have hlinks (r : State) : ((r.modLink false forget).modLink true forget).trk.mapWait = r.trk.mapWait := rfl
    exact (congrArg Trk.mapWait h2).trans ((hlinks s1).trans (State.mapWait_of_handover h1))
  have hwf : Sparse.wf slotReset s2.kst.slots = true := by
    have h2 : Extends s s2 := State.dropHandshake_extends (State.dropHandshake_extends (State.modLink_extends (State.modLink_extends
      (State.sendLeave_extends (.refl s) 2) false forget) true forget) false) true
    exact (h2.canonical hs).slots
  clear_value s2
  have hwf3 : Sparse.wf slotReset s3.kst.slots = true := hwf
  have hempty6 : ((s3.emptySlot 6).emptySlot 7).slot 6 = slotReset 6 :=
    (State.emptySlot_slot_other _ (by decide)).trans ((State.slot_setSlot hwf3 6 6 _).trans (if_pos rfl))
  have hwf6 : Sparse.wf slotReset (s3.emptySlot 6).kst.slots = true :=
    Sparse.wf_set (k := 6) (v := slotReset 6) hwf3
  have hempty7 : ((s3.emptySlot 6).emptySlot 7).slot 7 = slotReset 7 :=
    (State.slot_setSlot hwf6 7 7 _).trans (if_pos rfl)
  have h6 : s4.slot 6 = slotReset 6 := State.confirmAll_empty hempty6
  have h7 : s4.slot 7 = slotReset 7 := State.confirmAll_empty hempty7
  have h4 : s4.trk = { s3.trk with pending := [], syncing := false } := State.confirmAll_trk _
  clear_value s4 e
  have h5 : s5.trk = s4.trk ∧ s5.kst = s4.kst := by
    simp only [s5]
    split
    · split
      · rw [State.fail_trk, State.fail_kst]
        exact ⟨rfl, rfl⟩
      · exact ⟨rfl, rfl⟩
    · exact ⟨rfl, rfl⟩
  simp only [State.slot, foldl_fail_kst, foldl_fail_trk, h5.1, h5.2, h4]
  exact ⟨rfl, rfl, rfl, hwait, h6, h7⟩
end

theorem exec_ringMapClear {s : State} {slot : Nat} {t : Track} (hs : Canonical s) (hb : Begun s slot 0xA01 0xA01 t)
    (hz : t.entry.zeroFrom 40 55 = true) (hk : t.entry.keySlot = noSlot) (hm : t.entry.msgLen = 0) (hd : t.dmaFail = none)
    (hw : s.trk.mapWait = none) :
    ∃ u, exec (.ringMapClear slot) s = .next u ∧ u.trk.map = none ∧ u.slot 6 = slotReset 6 ∧ u.slot 7 = slotReset 7 ∧
        u.trk.partner = {} ∧ u.trk.epoch = none := by
  obtain ⟨hmap, hpartner, hepoch, hwait, h6, h7⟩ := State.clearMap_discards hs
  have hx : exec (.ringMapClear slot) s = .next (settle s (s.clearMap.complete slot 0 0 [])) := by
    refine (exec_checked hb rfl rfl <| (ringFields_pass hz hk).append (.cons (WorkEntry.noInput_pass hm) <| .cons hd .nil)).trans ?_
    simp only [State.complete_trk, hwait, hw]
  refine ⟨_, hx, ?_⟩
  simp only [State.slot, settle_trk, settle_kst, State.complete_trk, State.complete_kst]
  exact ⟨hmap, h6, h7, hpartner, hepoch⟩

/-- Settles O54: the ring's events and commands, each by what it does from the state it finds. -/
theorem ringCommandsComplete : Obligations.RingCommandsComplete := by
  unfold Obligations.RingCommandsComplete
  exact fun s slot t west => ⟨fun v ho hb => ⟨exec_trkEnable ho hb, exec_soloWrite ho hb⟩,
      fun v _ ho hb hm hs => exec_trkEnable_mode west ho hb hm hs,
    fun map => exec_helloSend, fun map seed => State.helloKeyed_signs, fun msg sig => State.helloReady_out, exec_heartbeatSend,
    fun map => exec_heartbeatSilence, exec_probeTimeout, fun m p => exec_mirrorAckTimeout, exec_rxStateSend, fun serial l map => exec_takeoverDone,
    fun x => exec_epochPassTimeout, exec_epochPassTimeout_none, fun x => exec_epochRetry_failed, exec_epochRetry_none,
    congrArg Host.Outcome.next (settle_of_sameSignal rfl rfl), fun m => exec_ringMapSet, exec_ringMapClear, exec_ringStatus, exec_ringEpoch⟩

end Sys2Proof.Machine
end

section
/-!
PROOF. A step with a command at the front of the queue (R93).
-/
namespace Sys2Proof.Machine
open Sys2Proof

/-- Settles O1: a step takes the front command from the queue. -/
theorem stepRunsFrontCommand : Obligations.StepRunsFrontCommand := by
  unfold Obligations.StepRunsFrontCommand
  intro s c rest h
  rw [step, h]

end Sys2Proof.Machine
end
